-- ==== Sys2Proof/Word.lean ====
section
/-! DEFINITION. Words of the BX960 model: the plain types that registers, records and maps are made of (R5: bit 0 is
the least significant bit). Nothing here is specific to one block. -/

namespace Sys2Proof

/-- One byte. -/
abbrev Byte := BitVec 8
/-- A half word. -/
abbrev W16 := BitVec 16
/-- A 32-bit register or word. -/
abbrev W32 := BitVec 32
/-- A 64-bit word. -/
abbrev W64 := BitVec 64

/-- A sparse map: keys strictly rising, no entry equal to the value an unlisted key reads as
(Machine/Maps.lean keeps that form). -/
abbrev FMap (α : Type) := List (Nat × α)

/-- A numbered assay tile, T000 to T191. -/
abbrev Tile := Fin 192
/-- A context of a tile, C00 to C47. -/
abbrev Ctx := Fin 48
/-- A stream, S00 to S63. -/
abbrev Stream := Fin 64
/-- A function (tenant), F00 to F63. -/
abbrev Fn := Fin 64
/-- An Ethernet port, 0 to 3. -/
abbrev Port := Fin 4
/-- A fault source, FS000 to FS255. -/
abbrev Src := Fin 256

end Sys2Proof
end

