-- ==== Sys2Proof/Data.lean ====
section
/-! DEFINITION. The data that commands carry and flash holds: firmware images, physical test outcomes, supply rails,
requests. What the spec gives no byte encoding for is held as fields (log entry 7). -/

namespace Sys2Proof

/-- The supply rails of R623. -/
inductive Rail where
  | vddCore | vddSram | vddAo | vddPhy085 | vddPhy12 | vddio | vddio33
  deriving DecidableEq, Repr

/-- A rail's place in the 7-bit sets of State (in the order of R623's table). -/
def Rail.num : Rail → Nat
  | .vddCore => 0 | .vddSram => 1 | .vddAo => 2 | .vddPhy085 => 3 | .vddPhy12 => 4 | .vddio => 5 | .vddio33 => 6

/-- The two paths of the reeve's command interface (R486). -/
inductive ReqPath where
  | ring | mailbox
  deriving DecidableEq, Repr

/-- Who makes a register access: the initiators of R513 that reach registers. -/
inductive Initiator where
  | host (fn : Fn) | porter | debug
  deriving DecidableEq, Repr

/-- The initiator number of R513. -/
def Initiator.num : Initiator → Nat
  | .host f => f.val
  | .porter => 0x40
  | .debug => 0x42

/-- The initiator class of R383: host, porter, debug. -/
def Initiator.cls : Initiator → Nat
  | .host _ => 0
  | .porter => 1
  | .debug => 2

/-- What the parts of the device answer to their tests: the outcomes of the start-up and run-time tests of R462,
R483, R440, R620 and R636. The spec gives the tests' consequences; whether a part is sound is the part's own. -/
structure Phys where
  /-- Patterns 0 to 5 pass on the primary voter. -/
  voterP : BitVec 6
  /-- Patterns 0 to 5 pass on the shadow voter. -/
  voterS : BitVec 6
  /-- Cores A, B, C pass their self-test. -/
  cores : BitVec 3
  /-- Ledger banks pass their start-up test. -/
  banks : BitVec 16
  /-- The AO oscillator agrees with the crystal (R620). -/
  aoOk : Bool
  /-- Flash density read from SFDP: 0 none, 1 to 3 (ST_STAT.DENSITY, R636). -/
  density : BitVec 2
  /-- The flash erases and programs without error. -/
  flashOk : Bool
  deriving DecidableEq, Repr

/-- The outcomes of sound parts. -/
def Phys.sound : Phys :=
  { voterP := 0x3F, voterS := 0x3F, cores := 7, banks := 0xFFFF, aoOk := true, density := 3, flashOk := true }

/-- A firmware image of R640 with its interface block of R484: header fields and the outcomes of its checks
(whether the key hash and signature verify and the body matches its hash is given with the image, log entry 7). -/
structure FwImage where
  /-- MAGIC, FORMAT and KIND correct (R641). -/
  formOk : Bool
  /-- KIND: 1 reeve, 2 porter. -/
  kind : BitVec 8
  slot : BitVec 2
  bodyLen : Nat
  svn : Nat
  /-- The key in SIG hashes to the fused hash of SLOT. -/
  keyOk : Bool
  /-- The signature verifies. -/
  sigOk : Bool
  /-- BODYHASH matches the body. -/
  digestOk : Bool
  /-- SHA-384 of the stored image. -/
  hash : BitVec 384
  ifvMajor : BitVec 16
  ifvMinor : BitVec 16
  build : W32
  planLo : W32
  planHi : W32
  abiLo : BitVec 16
  abiHi : BitVec 16
  /-- Tested pairs: partner BUILD low and high bounds. -/
  pairs : List (Nat × Nat)
  deriving DecidableEq, Repr

/-- A firmware image's interface version as ID_FWREEVE and ID_FWPORTER show it. -/
def FwImage.ifv (i : FwImage) : W32 := i.ifvMajor ++ i.ifvMinor

/-- The stored length of a firmware image (R640). -/
def FwImage.len (i : FwImage) : Nat := 320 + i.bodyLen

/-- What a read of an ECC-protected word finds. -/
inductive EccOut where
  | ok | corr | unc
  deriving DecidableEq, Repr

/-- A mover's read of host memory that may time out (R356): a digest step, a command descriptor, a ply of a command, a ply of
a load from the host copy. -/
inductive DmaRead where
  | digest (f : Fn) (i : Fin 256)
  | command (f : Fn) (ring : Fin 1024)
  | ply
  | load
  deriving DecidableEq, Repr

/-- The PLLs and clocks of R619 that a monitor watches. -/
inductive Pll where
  | ao | reeve | mesh | array | porter | pcie | eth (p : Port) | dphy (p : Fin 2) | time | xspi
  deriving DecidableEq, Repr

/-- A register address: an offset in the BAR0 page of a function (R364), or in the BAR2 space of F00 (R365). -/
inductive RegAddr where
  | page (f : Fn) (off : BitVec 16)
  | dev (off : BitVec 24)
  deriving DecidableEq, Repr

end Sys2Proof
end

