-- ==== Sys2Proof/Plan.lean ====
section
/-! DEFINITION. Plan images (R282 to R296): what a section table and the sections of an image hold, as data. Where the
spec gives a section no byte encoding its content is held as fields, and the outcome of a cryptographic check of a
section is held with the section (log entry 7). -/

namespace Sys2Proof

/-- An exact number m x 2^e: ranges, tolerances, coefficients. -/
structure Dy where
  m : Int
  e : Int
  deriving DecidableEq, Repr

/-- A context's entry for one plan slot (R245). -/
inductive SlotEntry where
  | none | cont | start (pc : Nat)
  deriving DecidableEq, Repr

/-- A context's line of the context table (R245). -/
structure PCtx where
  /-- Entry per plan slot; NONE where nothing is listed. -/
  entries : FMap SlotEntry
  /-- Base and limit of the windows of A0 to A3 (R159). -/
  windows : List (Nat × Nat)
  twins : W32
  stages : BitVec 2
  counters : W64
  deriving DecidableEq, Repr

/-- A receive ring (R170): base address and length in 64 B words. -/
structure Ring where
  base : Nat
  len : Nat
  deriving DecidableEq, Repr

/-- A result that the slot schedule has a context post in a slot (R197). -/
structure Owed where
  ctx : Nat
  slot : Nat
  stream : Nat
  kind : Nat
  layer : Nat
  deriving DecidableEq, Repr

/-- A logical tile: its home, code bank count, wheel, contexts, receive rings by arrival counter and owed results. -/
structure PTile where
  home : Nat
  reserve : Bool
  kc : Nat
  wheel : List Nat
  ctxs : FMap PCtx
  rings : FMap Ring
  owed : List Owed
  /-- Planned cycles per slot (R196). -/
  cycles : List Nat
  deriving DecidableEq, Repr

/-- An end of a route: a logical tile or a ledger column port. -/
inductive RouteEnd where
  | tile (l : Nat) | port (col : Nat)
  deriving DecidableEq, Repr

/-- A primary route (R168 to R170): permitted injection phases, routers passed and their waits, one list per phase. -/
structure PRoute where
  num : Nat
  src : RouteEnd
  dst : RouteEnd
  /-- Arrival counter at a destination tile. -/
  counter : Nat
  /-- Ends at a ledger column port's result queue. -/
  resultQueue : Bool
  phases : List Nat
  path : List Nat
  waits : List (List Nat)
  latest : Nat
  deriving DecidableEq, Repr

/-- One assayed layer of a stream with its declared arithmetic (R115, R125). Format codes are those of R100. -/
structure PLayer where
  layer : Nat
  /-- 0 row sums, 1 output elements. -/
  kind : Nat
  maxM : Nat
  cfmt : Nat
  sfmt : Nat
  body : Nat
  nT : Nat
  nW : Nat
  nD : Nat
  xfmt : Nat
  afmt : Nat
  k : Nat
  /-- 0 ANY, 1 PAIRWISE, 2 EXACT. -/
  aorder : Nat
  /-- Row sums over OUT rather than ACC. -/
  srcOut : Bool
  yfmt : Nat
  n : Nat
  rorder : Nat
  anchor : Int
  dmax : Nat
  tol : Nat
  /-- Stored G and E in MAG form (R217). -/
  gM : Nat
  gE : Int
  eM : Nat
  eE : Int
  deriving DecidableEq, Repr

/-- A canary pattern (R134, R341): the bytes of each region, and the expected value and tolerance of each position. -/
structure PPattern where
  bytes : List (List Byte)
  expect : List (Dy × Dy)
  deriving DecidableEq, Repr

/-- A cross-stream relation (R136): terms (stream, component, coefficient), offset and tolerance. -/
structure PRel where
  terms : List (Nat × Nat × Dy)
  b : Dy
  t : Dy
  deriving DecidableEq, Repr

/-- An envelope of one component (R136): range and rate limit per millisecond. -/
structure PEnv where
  lo : Dy
  hi : Dy
  rate : Dy
  deriving DecidableEq, Repr

/-- A golden frame (R343): its bytes and the expected result and tolerance per component. -/
structure PGolden where
  bytes : List Byte
  expect : List (Dy × Dy)
  deriving DecidableEq, Repr

/-- A stream of the STREAMS, ASSAYS and VRULES sections. Times are AO cycles. -/
structure PStream where
  num : Nat
  fn : Nat
  src : Nat
  /-- Binding key: BSF (UDP port, SOURCE, STREAM); CSI-2 (virtual channel, data type, 0) (R321). -/
  key : Nat × Nat × Nat
  lines : Nat
  /-- CSI-2: active lines La; BSF: unused. -/
  active : Nat
  lbytes : Nat
  blank : List Nat
  slots : List (Nat × Nat)
  mirror : Bool
  banks : W16
  window : Nat
  stale : Nat
  seq : Bool
  period : Nat
  a : Nat
  d : Nat
  f : Nat
  k : Nat
  residency : Nat
  ftti : Nat
  p0 : Bool
  /-- The P0 stream's plan-stated compute time C (R94). -/
  c : Nat
  dual : Bool
  fbDigest : W64
  wReject : Nat
  wDoubt : Nat
  wAbsent : Nat
  wAccept : Nat
  tWatch : Nat
  tDemote : Nat
  requal : Nat
  initTrusted : Bool
  reReveal : Bool
  revealDeadline : Nat
  regions : List (Nat × Nat)
  patterns : List PPattern
  canaryFmt : Nat
  /-- Formats of the result's components (R89). -/
  rfmts : List Nat
  /-- Assays run: bit 0 row-checksum, 1 re-execution, 2 canary, 3 envelope, 4 known-answer, 5 digest. -/
  runs : BitVec 6
  /-- Assays marked required, same bits (R50). -/
  required : BitVec 6
  layers : List PLayer
  env : List PEnv
  rels : List PRel
  golden : List PGolden
  kaInterval : Nat
  digestInterval : Nat
  /-- Physical-independent list of logical tiles that its assays and fall-back model are mapped to. -/
  tiles : List Nat
  /-- The repeat check's planned time (R81 step 5). -/
  repeatTime : Nat
  deriving DecidableEq, Repr

/-- A weight region of a tenant (R141). -/
structure PRegion where
  fn : Nat
  index : Nat
  len : Nat
  digest : W64
  step : Nat
  deriving DecidableEq, Repr

/-- A quad's line of the power schedule for one slot (R614, R632): 0 ON, 1 CLOCK_GATED, 2 OFF; grant; host-less mask. -/
structure PQuad where
  state : Nat
  grant : Nat
  hostless : Bool
  deriving DecidableEq, Repr

/-- A slot (R296): start offset, quads listed, whether digest steps are scheduled. -/
structure PSlot where
  start : Nat
  quads : FMap PQuad
  digest : Bool
  deriving DecidableEq, Repr

/-- A section table entry (R284) with the outcomes of its checks and, for tile sections, its bytes. -/
structure PSec where
  kind : Nat
  index : Nat
  enc : Bool
  host : Bool
  offset : Nat
  len : Nat
  plen : Nat
  target : Nat
  /-- Reserved bits and bytes of the entry are 0. -/
  zeros : Bool
  tagOk : Bool
  digestOk : Bool
  crc : W64
  bytes : List Byte
  deriving DecidableEq, Repr

/-- A plan image. -/
structure PlanImage where
  magic : W32
  format : Nat
  hlen : Nat
  planId : W64
  ifvMajor : Nat
  ifvMinor : Nat
  ntiles : Nat
  nstreams : Nat
  nslots : Nat
  hper : Nat
  flagP0 : Bool
  imglen : Nat
  resbytes : Nat
  /-- Bytes marked 0 in the header are 0 (R283). -/
  hdrZeros : Bool
  /-- SHA-384 of the signer's public key (R291). -/
  keyHash : BitVec 384
  sigOk : Bool
  sigZeros : Bool
  /-- SHA-384 of the stored image. -/
  hash : BitVec 384
  secs : List PSec
  tiles : List PTile
  routes : List PRoute
  holes : List Nat
  /-- The remap phase sets (R176). -/
  phi : List (List Nat)
  /-- Ledger phases assigned to column ports or the edge crossbar, by bank (R173). -/
  ledgerPhases : List (List Nat)
  streams : List PStream
  regions : List PRegion
  slots : List PSlot
  retention : Nat
  /-- Declared evidence rate in bytes per second (R41) and host-link traffic each way in bytes per second (R42). -/
  evRate : Nat
  hostIn : Nat
  hostOut : Nat
  /-- BSC gate cycle in ns (R23, R95); 0: the default of 31.25 us. -/
  gateCycle : Nat
  bsfPort : Nat
  /-- Droop thresholds of the POWER section are in range. -/
  droopMv : Nat
  deriving DecidableEq, Repr

end Sys2Proof
end

