-- ==== Sys2Proof/Syntax.lean ====
section
/-! DEFINITION. The commands of the BX960 block: one constructor per row of spec/opcode_table.json, with the operands
a command of that row carries from outside (registers it names, values it writes, the records, packets and images it
brings, and the outcomes of physical tests). -/

namespace Sys2Proof

/-- The commands and events of the BX960, row by row of the opcode table. -/
inductive Instr where
  -- Power, reset and Ethernet links
  /-- PORST_N_ASSERT (R697): A PORST_N low level of 1 us or more is recognised as a power-on reset; outputs go low and the device enters COLD. -/
  | porstNAssert (ns : Nat)
  /-- PORST_N_RELEASE (R630): Release of PORST_N with rails in range starts the AO island, samples the straps and runs the cold start sequence through BOOT. -/
  | porstNRelease (split bench : BitVec 8) (phys : Phys)
  /-- SUPPLY_RESET (R623): A rail beyond its reset band for 2 us takes the device to COLD. -/
  | supplyReset (rail : Rail)
  /-- SUPPLY_RESTORED (R626): Once every rail has been in range for 1 ms with PORST_N released, the straps are resampled and the device enters BOOT. -/
  | supplyRestored (split bench : BitVec 8) (phys : Phys)
  /-- SUPPLY_WARNING (R623): A rail beyond its warning band for 10 us raises SUPPLY_WARN, or SIO_SUPPLY for VDDIO33. -/
  | supplyWarning (rail : Rail)
  /-- UPDATE_REBOOT (R650): 10 ms after a firmware activation's completion leaves the pins, a chip reset with cause CHIP_UPDATE takes place. -/
  | updateReboot
  /-- DEGRADED_LIMIT (R33): Expiry of the degraded-operation count on the AO count moves the device to SAFE_HOLD. -/
  | degradedLimit
  /-- ETH_LINK_DOWN (R32): Loss of link on an Ethernet port raises ETH_LINKn and, for a port carrying a replicated BSC connection, a degrading condition. -/
  | ethLinkDown (p : Port)
  /-- ETH_LINK_UP (R32): An Ethernet port links up again and starts its 1 s stability period. -/
  | ethLinkUp (p : Port)
  /-- ETH_PORT_STABLE (R32): After 1 s up without ETH_ECCn and with a passed buffer-checker rotation, the port's degrading condition clears. -/
  | ethPortStable (p : Port)
  -- Verdict and hold timers
  /-- RESULT_AGE_LIMIT (R573): A stream's result age limit A is reached; without a counted result the frame's verdict is formed ABSENT and AGE_MON is raised. -/
  | resultAgeLimit (n : Stream)
  /-- VERDICT_DEADLINE (R47): The verdict deadline D of a frame is reached and its verdict is formed on the evidence present. -/
  | verdictDeadline (n : Stream)
  /-- P0_COMPUTE_CUT (R96): The end of the P0 stream's compute time C forms its verdict DOUBT with reason PLAN_OVERRUN or LATE. -/
  | p0ComputeCut
  /-- RETENTION_END (R709): The plan's evidence retention ends for a REJECT, closing an open procedure UNRESOLVED and releasing its buffers. -/
  | retentionEnd (n : Stream)
  /-- FB_STALE (R62): The published fall-back value becomes older than F and the stream is HELD with reason FB_STALE. -/
  | fbStale (n : Stream)
  /-- HOLD_RECORD (R73): At each point of a stream's frame grid inside a switch blackout, a HOLD record is written. -/
  | holdRecord (n : Stream)
  -- Evidence, reveals, known answers and digests
  /-- COMMIT (R110): A COMMIT record completes in the evidence staging region and is checked, and its reveal is queued. -/
  | commit (f : Fn)
  /-- SAMPLE (R109): A SAMPLE record answering a reveal completes, is checked and is delivered to the tiles. -/
  | sample (f : Fn)
  /-- CANARY (R135): A CANARY record completes and is checked against the stream's canary positions. -/
  | canary (f : Fn)
  /-- RESULT (R111): A RESULT record completes and is counted, or discarded as late or differing. -/
  | result (f : Fn)
  /-- REVEAL_ISSUE (R117): A queued reveal leaves the host-link pins to the stream's registered reveal slot. -/
  | revealIssue
  /-- REVEAL_DEADLINE (R119): The reveal deadline passes without the final SAMPLE part, and the layer's assay does not report. -/
  | revealDeadline (n : Stream) (re : Bool)
  /-- KNOWN_ANSWER_INTERVAL_END (R343): A known-answer interval ends: unfilled golden positions are forwarded, a coverage lapse is judged and new positions are drawn. -/
  | knownAnswerIntervalEnd (n : Stream) (descs : List (Option (BitVec 256)))
  /-- GOLDEN_COPY (R352): A golden-frame copy request is granted buffers and the frame is copied from safety SRAM. -/
  | goldenCopy (n : Stream)
  /-- DIGEST_STEP (R142): At a scheduled slot a DMA mover reads the next step of a weight region. -/
  | digestStep (f : Fn) (region : Fin 256)
  /-- DIGEST_STEP_DONE (R143): A digest step read completes, is folded into the running CRC-64 or retried, and a region end is compared. -/
  | digestStepDone (f : Fn) (region : Fin 256) (data : List Byte) (err : Bool)
  /-- DIGEST_INTERVAL_END (R708): A digest interval ends without a complete pass and a coverage lapse holds. -/
  | digestIntervalEnd (n : Stream)
  -- Assay result records
  /-- ROW_CHECKSUM (R276): A ROW_CHECKSUM assay result record reaches the verdict engine and is checked and counted for its frame. -/
  | rowChecksum
  /-- REEXEC (R276): A REEXEC assay result record reaches the verdict engine. -/
  | reexec
  /-- CANARY_OUTCOME (R276): A CANARY assay result record reaches the verdict engine. -/
  | canaryOutcome
  /-- FALLBACK (R58): A FALLBACK record completes or discards a fall-back run and updates the published value and its age. -/
  | fallback
  /-- REPEAT (R82): A disagreement repeat-check result record arrives. -/
  | repeatRec
  /-- FRESH (R82): A disagreement fresh-check result record arrives. -/
  | freshRec
  -- Tile and mesh events
  /-- SLOT_STROBE (R164): A slot strobe reaches every tile: contexts resume at their slot entries, overruns are found, power grants are set and buffers are returned. -/
  | slotStrobe
  /-- RESIDENT_STEP (R181): In each reserved cycle C47 executes one resident self-test step, including scrub reads. -/
  | residentStep (t : Tile) (sigOk : Bool) (ecc : List EccOut) (at_ : Nat)
  /-- MESH_DELIVERY (R168): A flit is committed at its destination receive ring and raises the route's arrival counter. -/
  | meshDelivery (route : BitVec 12) (data : BitVec 512) (coll : Bool) (link : Option (Fin 768))
  /-- AWAIT_RESUME (R251): An arrival counter reaches the awaited count and the context resumes in its next owned slot. -/
  | awaitResume (t : Tile) (c : Ctx)
  /-- DEEP_TEST_START (R186): The next QUARANTINED or SPARE tile enters DEEP_TEST. -/
  | deepTestStart
  /-- DEEP_TEST_END (R188): A deep test completes and the tile becomes SPARE, FAILED or FAILED_ROUTER. -/
  | deepTestEnd (pass routerOk : Bool) (at_ : Nat)
  /-- TILE_HEALTH_WRITE (R660): The reeve writes the tile health record to flash within 1 s of a health change. -/
  | tileHealthWrite
  /-- DROOP_EVENT (R195): A droop detector fires and stretches the array, mesh and column-port clocks. -/
  | droopEvent (q : Fin 48) (n : Fin 8)
  /-- ILLEGAL_WORD (R279): A word failing decode at issue halts the context and quarantines the tile with cause ILLEGAL. -/
  | illegalWord (t : Tile) (c : Ctx) (w : W64)
  -- Tile instructions
  /-- NOP (R248): Tile instruction that does nothing. -/
  | nop (t : Tile) (c : Ctx)
  /-- BR (R248): Tile instruction that branches unconditionally. -/
  | br (t : Tile) (c : Ctx) (target : W16)
  /-- BC (R248): Tile instruction that branches if COND holds. -/
  | bc (t : Tile) (c : Ctx) (cond : Fin 16) (target : W16)
  /-- LOOP (R250): Tile instruction that decrements a count and branches while it is not zero. -/
  | loop (t : Tile) (c : Ctx) (a : Fin 16) (target : W16)
  /-- SLOTEND (R248): Tile instruction that puts the context into WAITSLOT. -/
  | slotend (t : Tile) (c : Ctx)
  /-- AWAIT (R251): Tile instruction that waits for an arrival counter to reach a count. -/
  | await (t : Tile) (c : Ctx) (a : Fin 16) (k : Byte)
  /-- FCLR (R248): Tile instruction that clears selected sticky flags. -/
  | fclr (t : Tile) (c : Ctx) (k : Byte)
  /-- FRD (R248): Tile instruction that reads the sticky flags into a register. -/
  | frd (t : Tile) (c : Ctx) (d : Fin 16)
  /-- ADD_W (R252): Wrapping signed add. -/
  | addW (t : Tile) (c : Ctx) (d a b : Fin 16)
  /-- ADD_S (R252): Saturating signed add. -/
  | addS (t : Tile) (c : Ctx) (d a b : Fin 16)
  /-- SUB_W (R252): Wrapping signed subtract. -/
  | subW (t : Tile) (c : Ctx) (d a b : Fin 16)
  /-- SUB_S (R252): Saturating signed subtract. -/
  | subS (t : Tile) (c : Ctx) (d a b : Fin 16)
  /-- NEG_W (R252): Wrapping negate. -/
  | negW (t : Tile) (c : Ctx) (d a : Fin 16)
  /-- NEG_S (R252): Saturating negate. -/
  | negS (t : Tile) (c : Ctx) (d a : Fin 16)
  /-- ABS_W (R252): Wrapping absolute value. -/
  | absW (t : Tile) (c : Ctx) (d a : Fin 16)
  /-- ABS_S (R252): Saturating absolute value. -/
  | absS (t : Tile) (c : Ctx) (d a : Fin 16)
  /-- MUL_W (R252): Wrapping low-word multiply. -/
  | mulW (t : Tile) (c : Ctx) (d a b : Fin 16)
  /-- MUL_S (R252): Saturating low-word multiply. -/
  | mulS (t : Tile) (c : Ctx) (d a b : Fin 16)
  /-- MULH (R252): Signed high-word multiply. -/
  | mulh (t : Tile) (c : Ctx) (d a b : Fin 16)
  /-- MULHU (R252): Unsigned high-word multiply. -/
  | mulhu (t : Tile) (c : Ctx) (d a b : Fin 16)
  /-- DIV_W (R229): Wrapping signed divide. -/
  | divW (t : Tile) (c : Ctx) (d a b : Fin 16)
  /-- DIV_S (R229): Saturating signed divide. -/
  | divS (t : Tile) (c : Ctx) (d a b : Fin 16)
  /-- REM (R253): Signed remainder. -/
  | rem (t : Tile) (c : Ctx) (d a b : Fin 16)
  /-- DIVU (R230): Unsigned divide. -/
  | divu (t : Tile) (c : Ctx) (d a b : Fin 16)
  /-- REMU (R230): Unsigned remainder. -/
  | remu (t : Tile) (c : Ctx) (d a b : Fin 16)
  /-- AND (R252): Bitwise and. -/
  | and (t : Tile) (c : Ctx) (d a b : Fin 16)
  /-- OR (R252): Bitwise or. -/
  | or (t : Tile) (c : Ctx) (d a b : Fin 16)
  /-- XOR (R252): Bitwise exclusive or. -/
  | xor (t : Tile) (c : Ctx) (d a b : Fin 16)
  /-- ANDN (R252): A and not B. -/
  | andn (t : Tile) (c : Ctx) (d a b : Fin 16)
  /-- SHL_W (R231): Wrapping left shift by a register count. -/
  | shlW (t : Tile) (c : Ctx) (d a b : Fin 16)
  /-- SHL_S (R231): Saturating left shift by a register count. -/
  | shlS (t : Tile) (c : Ctx) (d a b : Fin 16)
  /-- SHR (R231): Logical right shift by a register count. -/
  | shr (t : Tile) (c : Ctx) (d a b : Fin 16)
  /-- SAR (R231): Arithmetic right shift by a register count. -/
  | sar (t : Tile) (c : Ctx) (d a b : Fin 16)
  /-- CMP (R253): Sets condition codes from A minus B. -/
  | cmp (t : Tile) (c : Ctx) (a b : Fin 16)
  /-- MIN (R252): Signed minimum. -/
  | min (t : Tile) (c : Ctx) (d a b : Fin 16)
  /-- MAX (R252): Signed maximum. -/
  | max (t : Tile) (c : Ctx) (d a b : Fin 16)
  /-- MINU (R252): Unsigned minimum. -/
  | minu (t : Tile) (c : Ctx) (d a b : Fin 16)
  /-- MAXU (R252): Unsigned maximum. -/
  | maxu (t : Tile) (c : Ctx) (d a b : Fin 16)
  /-- CLZ (R252): Count of leading zeros. -/
  | clz (t : Tile) (c : Ctx) (d a : Fin 16)
  /-- POPC (R252): Count of set bits. -/
  | popc (t : Tile) (c : Ctx) (d a : Fin 16)
  /-- ADDI_W (R252): Wrapping add of an immediate. -/
  | addiW (t : Tile) (c : Ctx) (d a : Fin 16) (imm : W32)
  /-- ADDI_S (R252): Saturating add of an immediate. -/
  | addiS (t : Tile) (c : Ctx) (d a : Fin 16) (imm : W32)
  /-- SUBI_W (R252): Wrapping subtract of an immediate. -/
  | subiW (t : Tile) (c : Ctx) (d a : Fin 16) (imm : W32)
  /-- SUBI_S (R252): Saturating subtract of an immediate. -/
  | subiS (t : Tile) (c : Ctx) (d a : Fin 16) (imm : W32)
  /-- MULI_W (R252): Wrapping multiply by an immediate. -/
  | muliW (t : Tile) (c : Ctx) (d a : Fin 16) (imm : W32)
  /-- MULI_S (R252): Saturating multiply by an immediate. -/
  | muliS (t : Tile) (c : Ctx) (d a : Fin 16) (imm : W32)
  /-- ANDI (R252): Bitwise and with an immediate. -/
  | andi (t : Tile) (c : Ctx) (d a : Fin 16) (imm : W32)
  /-- ORI (R252): Bitwise or with an immediate. -/
  | ori (t : Tile) (c : Ctx) (d a : Fin 16) (imm : W32)
  /-- XORI (R252): Bitwise exclusive or with an immediate. -/
  | xori (t : Tile) (c : Ctx) (d a : Fin 16) (imm : W32)
  /-- SHLI_W (R231): Wrapping left shift by an immediate. -/
  | shliW (t : Tile) (c : Ctx) (d a : Fin 16) (imm : Byte)
  /-- SHLI_S (R231): Saturating left shift by an immediate. -/
  | shliS (t : Tile) (c : Ctx) (d a : Fin 16) (imm : Byte)
  /-- SHRI (R231): Logical right shift by an immediate. -/
  | shri (t : Tile) (c : Ctx) (d a : Fin 16) (imm : Byte)
  /-- SARI (R231): Arithmetic right shift by an immediate. -/
  | sari (t : Tile) (c : Ctx) (d a : Fin 16) (imm : Byte)
  /-- CMPI (R253): Sets condition codes from A minus an immediate. -/
  | cmpi (t : Tile) (c : Ctx) (a : Fin 16) (imm : W32)
  /-- MOVI (R252): Loads an immediate into a register. -/
  | movi (t : Tile) (c : Ctx) (d : Fin 16) (imm : W32)
  /-- SEL (R252): Selects A or B by a condition. -/
  | sel (t : Tile) (c : Ctx) (d a b cond : Fin 16)
  /-- MOV (R255): Copies a scalar register. -/
  | mov (t : Tile) (c : Ctx) (d a : Fin 16)
  /-- MOVA (R255): Copies a scalar register into an address register. -/
  | mova (t : Tile) (c : Ctx) (d : Fin 4) (a : Fin 16)
  /-- MOVS (R255): Copies an address register into a scalar register. -/
  | movs (t : Tile) (c : Ctx) (d : Fin 16) (a : Fin 4)
  /-- LDAI (R255): Loads an immediate into an address register. -/
  | ldai (t : Tile) (c : Ctx) (d : Fin 4) (imm : W32)
  /-- ADDA (R255): Adds a scalar register to an address register. -/
  | adda (t : Tile) (c : Ctx) (d : Fin 4) (a : Fin 16)
  /-- ADDAI (R255): Adds an immediate to an address register. -/
  | addai (t : Tile) (c : Ctx) (d : Fin 4) (imm : W32)
  /-- CTXID (R255): Reads the logical tile, context and current slot. -/
  | ctxid (t : Tile) (c : Ctx) (d : Fin 16)
  /-- LD_W (R256): Loads 4 bytes from tile SRAM. -/
  | ldW (t : Tile) (c : Ctx) (d bank : Fin 16) (ar : Fin 4) (disp : W16) (ecc : EccOut)
  /-- LD_H (R256): Loads a sign-extended half word. -/
  | ldH (t : Tile) (c : Ctx) (d bank : Fin 16) (ar : Fin 4) (disp : W16) (ecc : EccOut)
  /-- LD_HU (R256): Loads a zero-extended half word. -/
  | ldHu (t : Tile) (c : Ctx) (d bank : Fin 16) (ar : Fin 4) (disp : W16) (ecc : EccOut)
  /-- LD_B (R256): Loads a sign-extended byte. -/
  | ldB (t : Tile) (c : Ctx) (d bank : Fin 16) (ar : Fin 4) (disp : W16) (ecc : EccOut)
  /-- LD_BU (R256): Loads a zero-extended byte. -/
  | ldBu (t : Tile) (c : Ctx) (d bank : Fin 16) (ar : Fin 4) (disp : W16) (ecc : EccOut)
  /-- ST_W (R258): Stores 4 bytes by merge read and commit at t + 4. -/
  | stW (t : Tile) (c : Ctx) (d bank : Fin 16) (ar : Fin 4) (disp : W16) (ecc : EccOut)
  /-- ST_H (R258): Stores a half word. -/
  | stH (t : Tile) (c : Ctx) (d bank : Fin 16) (ar : Fin 4) (disp : W16) (ecc : EccOut)
  /-- ST_B (R258): Stores a byte. -/
  | stB (t : Tile) (c : Ctx) (d bank : Fin 16) (ar : Fin 4) (disp : W16) (ecc : EccOut)
  /-- STLD (R260): Loads stage rows from consecutive banks. -/
  | stld (t : Tile) (c : Ctx) (stg : Fin 2) (row : Fin 8) (cnt : Fin 4) (bank : Fin 16) (ar : Fin 4) (disp : W16) (hit : Fin 4) (ecc : EccOut)
  /-- LOP_I8 (R262): INT8 lane operation into eight twins. -/
  | lopI8 (t : Tile) (c : Ctx) (tw : Fin 32) (stg : Fin 2) (neg : Bool) (fa fb bank : Fin 16) (ar : Fin 4) (sigma : BitVec 11) (eoff rsel : Fin 8) (disp : W16) (ecc : EccOut) (res : Bool)
  /-- LOP_F8 (R262): FP8 lane operation into four twins. -/
  | lopF8 (t : Tile) (c : Ctx) (tw : Fin 32) (stg : Fin 2) (neg : Bool) (fa fb bank : Fin 16) (ar : Fin 4) (sigma : BitVec 11) (eoff rsel : Fin 8) (disp : W16) (ecc : EccOut) (res : Bool)
  /-- LOP_F16 (R262): FP16 or BF16 lane operation into four twins. -/
  | lopF16 (t : Tile) (c : Ctx) (tw : Fin 32) (stg : Fin 2) (neg : Bool) (fa fb bank : Fin 16) (ar : Fin 4) (sigma : BitVec 11) (eoff rsel : Fin 8) (disp : W16) (ecc : EccOut) (res : Bool)
  /-- LOP_F32 (R262): FP32 lane operation into one twin. -/
  | lopF32 (t : Tile) (c : Ctx) (tw : Fin 32) (stg : Fin 2) (neg : Bool) (fa fb bank : Fin 16) (ar : Fin 4) (sigma : BitVec 11) (eoff rsel : Fin 8) (disp : W16) (ecc : EccOut) (res : Bool)
  /-- LOP_CX64 (R262): Dot product with 64-bit c-pairs into one twin and its magnitude. -/
  | lopCx64 (t : Tile) (c : Ctx) (tw : Fin 32) (stg : Fin 2) (neg : Bool) (fa fb bank : Fin 16) (ar : Fin 4) (sigma : BitVec 11) (eoff rsel : Fin 8) (disp : W16) (ecc : EccOut) (res : Bool)
  /-- LOP_CX128 (R262): Dot product with 128-bit c-pairs into one twin and its magnitude. -/
  | lopCx128 (t : Tile) (c : Ctx) (tw : Fin 32) (stg : Fin 2) (neg : Bool) (fa fb bank : Fin 16) (ar : Fin 4) (sigma : BitVec 11) (eoff rsel : Fin 8) (disp : W16) (ecc : EccOut) (res : Bool)
  /-- VADD (R263): Value contribution of one element to a twin. -/
  | vadd (t : Tile) (c : Ctx) (tw : Fin 32) (neg : Bool) (fa : Fin 16) (eidx : Fin 64) (bank : Fin 16) (ar : Fin 4) (sigma : BitVec 11) (disp : W16) (ecc : EccOut) (res : Bool)
  /-- VADDC (R263): Value contribution of a c-pair's C to a twin. -/
  | vaddc (t : Tile) (c : Ctx) (tw : Fin 32) (neg : Bool) (eidx : Fin 64) (bank : Fin 16) (ar : Fin 4) (sigma : BitVec 11) (disp : W16) (ecc : EccOut) (res : Bool)
  /-- VADDC128 (R263): Value contribution of a wide c-pair's C to a twin. -/
  | vaddc128 (t : Tile) (c : Ctx) (tw : Fin 32) (neg : Bool) (eidx : Fin 64) (bank : Fin 16) (ar : Fin 4) (sigma : BitVec 11) (disp : W16) (ecc : EccOut) (res : Bool)
  /-- VADDS (R263): Value contribution of a scalar register to a twin. -/
  | vadds (t : Tile) (c : Ctx) (tw : Fin 32) (neg : Bool) (src : Fin 16) (sigma : BitVec 11) (res : Bool)
  /-- TCLR (R264): Clears a twin with a new anchor. -/
  | tclr (t : Tile) (c : Ctx) (tw : Fin 32) (anchor : BitVec 11)
  /-- TSTORE (R264): Stores the twin image to SRAM. -/
  | tstore (t : Tile) (c : Ctx) (tw : Fin 32) (bank : Fin 16) (ar : Fin 4) (disp : BitVec 10)
  /-- TJUDGE (R218): Judges a row-checksum twin against its bound. -/
  | tjudge (t : Tile) (c : Ctx) (tw : Fin 32) (d bank : Fin 16) (ar : Fin 4) (disp : BitVec 10) (ecc : EccOut)
  /-- TJUDGEY (R222): Judges a re-executed element against the principal's value. -/
  | tjudgey (t : Tile) (c : Ctx) (tw : Fin 32) (d bank1 : Fin 16) (ar1 : Fin 4) (bank2 : Fin 16) (ar2 : Fin 4) (disp1 disp2 : BitVec 10) (hit : Bool) (ecc : EccOut)
  /-- TCVT (R264): Converts a twin to a narrower format. -/
  | tcvt (t : Tile) (c : Ctx) (tw : Fin 32) (d sel : Fin 16)
  /-- TINFO (R264): Reads a selected twin field. -/
  | tinfo (t : Tile) (c : Ctx) (tw : Fin 32) (d sel : Fin 16)
  /-- SEND (R270): Injects a 64-byte word as a flit of a route. -/
  | send (t : Tile) (c : Ctx) (bank : Fin 16) (ar : Fin 4) (route : BitVec 12) (disp : W16) (ecc : EccOut)
  /-- RPOST (R274): Completes and posts an assay result record toward the verdict engine. -/
  | rpost (t : Tile) (c : Ctx) (bank : Fin 16) (ar : Fin 4) (route : BitVec 12) (disp : W16) (ecc : EccOut)
  /-- ARRD (R270): Reads an arrival counter. -/
  | arrd (t : Tile) (c : Ctx) (d : Fin 16) (k : Byte)
  /-- RXPTR (R270): Reads a receive ring write pointer. -/
  | rxptr (t : Tile) (c : Ctx) (d : Fin 16) (k : Byte)
  -- Plan loads and switches
  /-- PLAN_LOAD_PLY (R304): A ply of at most 20 us of a plan load completes, advancing its phase, refusing or arming it. -/
  | planLoadPly (n : Nat) (src build back : Bool)
  /-- PLAN_FIRST_BOUNDARY (R307): The first boundary after VERIFY starts a first-loaded plan in RUN or DEGRADED. -/
  | planFirstBoundary
  /-- PLAN_SWITCH_BOUNDARY (R314): At boundary B of an armed switch the blackout starts and placement of the new plan begins. -/
  | planSwitchBoundary
  /-- PLAN_SWITCH_PLACED (R314): Placement and read-back of the new plan complete and the next AO cycle is boundary B prime. -/
  | planSwitchPlaced (at_ : Nat) (good : Bool)
  /-- PLAN_SWITCH_TIMEOUT (R316): At B + 2 ms without completed placement, the switch fails and a first load from flash starts. -/
  | planSwitchTimeout
  -- Stream gate
  /-- BSF_PACKET (R325): A BSF packet arrives and is matched, checked, admitted, written or discarded. -/
  | bsfPacket (e : Fin 2) (dport : W16) (data : List Byte) (formOk sumOk : Bool) (descs : List (Option (BitVec 256))) (at_ : Nat)
  /-- CSI_FRAME_START (R329): A CSI-2 Frame Start opens and admits a frame. -/
  | csiFrameStart (port : Fin 2) (vc : Fin 16) (num : W16) (descs : List (Option (BitVec 256))) (at_ : Nat)
  /-- CSI_LONG_PACKET (R327): A CSI-2 long packet is stored as one line. -/
  | csiLongPacket (port : Fin 2) (vc : Fin 16) (dt : BitVec 6) (data : List Byte) (crcOk : Bool)
  /-- CSI_FRAME_END (R335): A CSI-2 Frame End closes the open frame. -/
  | csiFrameEnd (port : Fin 2) (vc : Fin 16) (descs : List (Option (BitVec 256))) (at_ : Nat)
  /-- CSI_ECC_ERROR (R328): A header ECC error is corrected or taints every open frame of the port. -/
  | csiEccError (port : Fin 2) (corrected : Bool)
  /-- PHY_ERROR (R328): A D-PHY start-of-transmission or synchronisation error taints every open frame of the port. -/
  | phyError (port : Fin 2)
  /-- INGRESS_WINDOW_END (R335): A frame's ingress window W runs out and the frame closes. -/
  | ingressWindowEnd (n : Stream) (descs : List (Option (BitVec 256)))
  /-- CREDIT_EARN (R330): A stream earns one admission credit per frame period. -/
  | creditEarn (n : Stream)
  /-- FORWARD_DONE (R406): The last data write of a forward ends and the descriptor is written back, the tally incremented and the vector signalled. -/
  | forwardDone (n : Stream) (err : Bool) (written : Nat)
  -- Host link and functions
  /-- LINK_DOWN (R385): DL_Down acts as a hot reset of every function. -/
  | linkDown (at_ : Nat)
  /-- HOST_LINK_POWER_OFF (R386): After 10 ms without link the host link domains are switched off. -/
  | hostLinkPowerOff
  /-- PERST_N_RELEASE (R387): Release of PERST_N powers the host link domains and starts link training. -/
  | perstNRelease (at_ : Nat)
  /-- LINK_UP (R387): The host link trains and configuration requests are answered. -/
  | linkUp (speed : BitVec 3) (width : BitVec 5) (at_ : Nat)
  /-- CONFIG_REQUEST (R387): A configuration request is served or answered with Configuration Request Retry Status. -/
  | configRequest (f : Fn) (vfs : Option (Bool × Fin 64)) (fmask : Option Bool)
  /-- FUNCTION_LEVEL_RESET (R361): An FLR resets one function's rings, commands, mailboxes, lanes and cursor. -/
  | functionLevelReset (f : Fn)
  /-- VF_DISABLE (R362): Clearing VF Enable or lowering NumVFs acts as an FLR of each removed function. -/
  | vfDisable (en : Bool) (n : Fin 64)
  /-- FN_DRV_WRITE (R359): A driver announces its ABI and the porter sets ABI_OK or ABI_BAD. -/
  | fnDrvWrite (f : Fn) (v : W32)
  /-- APERTURE_ACCESS (R367): An access to the ledger aperture is served by region rules. -/
  | apertureAccess (off : BitVec 23) (data : Option (List (Option Byte))) (len : Fin 513) (unc : Bool)
  /-- DMA_READ_TIMEOUT (R356): A mover read not completed in 10 ms is handled as an error completion. -/
  | dmaReadTimeout (r : DmaRead)
  /-- MSIX_UNMASK (R374): Unmasking a vector with its pending bit set signals it once. -/
  | msixUnmask (f : Fn) (v : Fin 32)
  /-- VECTOR_MODERATION_END (R402): The moderation interval of a ring ends and pending events give one signal. -/
  | vectorModerationEnd (f : Fn) (ring : Fin 1024)
  -- Register accesses
  /-- REGISTER_WRITE (R8): A write to a register field without a row of its own acts by its access code. -/
  | registerWrite (who : Initiator) (p : RegAddr) (len : Fin 65) (v : W64) (bad : Bool)
  /-- W1C_WRITE (R8): Writing ones to a W1C event latch clears those bits. -/
  | w1cWrite (who : Initiator) (p : RegAddr) (v : W32)
  /-- SNAPSHOT (R383): Writing SNAP captures a block's multi-field registers in one cycle. -/
  | snapshot (who : Initiator) (p : RegAddr) (v : W32)
  /-- LOW_WORD_READ (R383): Reading the low word of a 64-bit register latches its high word for the initiator class. -/
  | lowWordRead (who : Initiator) (p : RegAddr)
  /-- DX_WRITE (R381): The first write of a DX pair opens the pair. -/
  | dxWrite (who : Initiator) (v : W32)
  /-- DX_COMPLEMENT (R381): The complement write of a DX pair makes the value take effect. -/
  | dxComplement (who : Initiator) (v : W32)
  /-- DX_PAIR_TIMEOUT (R381): A DX pair not completed within 4 us is discarded with a MINOR fault. -/
  | dxPairTimeout
  /-- MAXIMUM_READ (R705): A read of a clear-on-read maximum returns it and clears it. -/
  | maximumRead (who : Initiator) (p : RegAddr)
  /-- MAXIMUM_WRITE (R705): A write to a clear-on-read maximum sets it to 0. -/
  | maximumWrite (who : Initiator) (p : RegAddr) (v : W32)
  /-- VRW_POP (R92): Writing VRW_POP advances the function's verdict read cursor. -/
  | vrwPop (f : Fn) (v : W32)
  /-- VRW_LOST_READ (R93): Reading VRW_LOST returns the lost-record count and clears it. -/
  | vrwLostRead (f : Fn)
  /-- TW_OVR_READ (R197): Reading TW_OVR returns the tile's overrun count and clears it. -/
  | twOvrRead (who : Initiator) (t : Tile)
  -- Rings, commands and tallies
  /-- RD_PI_WRITE (R395): A producer doorbell write advances PI or is discarded with BADPI. -/
  | rdPiWrite (f : Fn) (r : Fin 1024) (v : W32)
  /-- RD_CI_WRITE (R395): A consumer doorbell write advances CI or is discarded with BADCI. -/
  | rdCiWrite (f : Fn) (r : Fin 1024) (v : W32)
  /-- COMMAND_FETCH (R422): The ring core fetches a descriptor, allocates a tag and checks it. -/
  | commandFetch (f : Fn) (ring : Fin 1024) (desc : BitVec 512) (err : Bool)
  /-- COMPLETION_COMMIT (R419): A command's completion is committed to a free CPL slot and its record written. -/
  | completionCommit (tag : Fin 512) (err : Bool)
  /-- PLY (R424): A ply of a DMA_OUT, UPD_DOWNLOAD or UPD_VERIFY ends on the ply core. -/
  | ply (n : Nat) (err flash : Bool) (unc : Option Nat) (fw : Option FwImage) (pl : Option PlanImage)
  /-- CMD_NOP (R412): Command that does nothing and completes OK. -/
  | cmdNop (tag : Fin 512)
  /-- ABORT (R427): Command that aborts the command holding a tag. -/
  | abort (tag : Fin 512)
  /-- RING_CONFIG (R398): Command that sets a ring's state record. -/
  | ringConfig (tag : Fin 512)
  /-- REVEAL_SET (R415): Command that registers a stream's reveal area. -/
  | revealSet (tag : Fin 512)
  /-- DIGEST_SET (R417): Command that registers a weight region's principal address. -/
  | digestSet (tag : Fin 512)
  /-- TALLY_WAIT (R434): Command that waits until a tally reaches or can give a count. -/
  | tallyWait (tag : Fin 512)
  /-- DMA_OUT (R425): Command that copies ledger bytes to host memory in plies. -/
  | dmaOut (tag : Fin 512)
  /-- PLAN_LOAD (R426): Command that starts a first load or a switch load. -/
  | planLoad (tag : Fin 512) (host : Option PlanImage)
  /-- UPD_DOWNLOAD (R648): Command that writes an image into the inactive flash bank. -/
  | updDownload (tag : Fin 512)
  /-- UPD_VERIFY (R649): Command that verifies the inactive bank's image. -/
  | updVerify (tag : Fin 512)
  /-- UPD_ACTIVATE (R650): Command that makes the verified bank in force on TRIAL. -/
  | updActivate (tag : Fin 512)
  /-- UPD_CONFIRM (R651): Command that confirms a TRIAL bank and raises the SVN fuse. -/
  | updConfirm (tag : Fin 512)
  /-- SAFE (R414): Command whose descriptor the porter passes whole to the reeve request ring. -/
  | safe (tag : Fin 512) (flip : BitVec 512)
  /-- SAFE_ANSWER (R492): The porter takes a reeve answer record and completes the SAFE command. -/
  | safeAnswer (corrupt : Bool)
  /-- TY_ADD (R433): A write adds a value to a tally. -/
  | tyAdd (f : Fn) (t : Fin 1024) (v : W32)
  /-- TY_TAKE (R433): A read takes one from a non-zero tally and returns the old value. -/
  | tyTake (f : Fn) (t : Fin 1024)
  /-- TY_SET (R433): A write sets a tally and tests its waits. -/
  | tySet (f : Fn) (t : Fin 1024) (v : W32)
  /-- TALLY_WAIT_TIMEOUT (R436): A wait's timeout passes and it completes with TIMEOUT. -/
  | tallyWaitTimeout (tag : Fin 512)
  -- Mailboxes
  /-- MAILBOX_SEND (R446): A write of MB_OUT_HDR sends the outbox message. -/
  | mailboxSend (f : Fn) (ch : Fin 2) (v : W32)
  /-- MAILBOX_TAKE (R449): A read of MB_IN_TAKE returns the inbox header and empties the box. -/
  | mailboxTake (f : Fn) (ch : Fin 2)
  /-- OUTBOX_POLL (R455): The first read of a FULL outbox's status starts the side's polling. -/
  | outboxPoll (f : Fn) (ch : Fin 2)
  /-- MAILBOX_TIMEOUT (R452): A message not taken within MB_TMO is withdrawn. -/
  | mailboxTimeout (f : Fn) (ch : Fin 2) (far : Bool)
  /-- CROSSING (R455): Both outboxes FULL and polled for MB_XTIME set CROSS on both sides. -/
  | crossing (f : Fn) (ch : Fin 2)
  /-- DOORBELL (R453): Porter-channel message that rings doorbell bits only. -/
  | doorbell (f : Fn) (far : Option W32)
  /-- RING_BOOT (R399): Porter-channel message that configures rings 0 and 1. -/
  | ringBoot (f : Fn)
  /-- PORTER_PING (R453): Porter-channel message answered ECHO with its body. -/
  | porterPing (f : Fn)
  /-- PORTER_ANSWER_SEND (R451): The porter sends its STATUS or ECHO answer once the function's inbox is free. -/
  | porterAnswerSend (f : Fn)
  /-- REEVE_DOORBELL (R499): Reeve-channel message that rings doorbell bits only. -/
  | reeveDoorbell (far : Option W32)
  /-- REEVE_PING (R499): Reeve-channel message answered ECHO with its body. -/
  | reevePing
  /-- SAFE_REQ (R499): Reeve-channel message that carries a request, answered SAFE_ANS or NAK. -/
  | safeReq
  -- Reeve complex
  /-- VOTE_MISMATCH (R467): A vote with a majority releases the majority value and starts the recovery sequence. -/
  | voteMismatch (minority : Option (Fin 3))
  /-- RECOVERY_RESUME (R467): The cores complete their self-test and resume in stagger from the captured state. -/
  | recoveryResume (pass : BitVec 3) (us : BitVec 7)
  /-- RECOVERY_TIMEOUT (R467): A recovery pause not resumed by m + 100 us moves the device to SAFE_HOLD. -/
  | recoveryTimeout
  /-- VOTER_DISAGREEMENT (R461): Primary and shadow voter differ and a voter test follows. -/
  | voterDisagreement (prim shad : BitVec 6)
  /-- AGREEMENT_ROUND (R474): Every 16 reeve cycles the 64 inputs are sampled, voted and adopted. -/
  | agreementRound (a b c : W64) (fb : BitVec 20) (at_ : Nat)
  /-- HOURLY_CORE_SELFTEST (R706): A retired core runs its hourly self-test. -/
  | hourlyCoreSelftest (core : Fin 3) (pass : Bool)
  -- Reeve commands
  /-- ECHO (R494): Reeve command that returns ARG1. -/
  | echo (p : ReqPath)
  /-- PRIV_CHALLENGE (R494): Reeve command that returns a fresh nonce. -/
  | privChallenge (p : ReqPath)
  /-- PRIV_ACQUIRE (R496): Reeve command that grants safety privilege for a correct token. -/
  | privAcquire (p : ReqPath)
  /-- PRIV_RELEASE (R498): Reeve command that ends safety privilege. -/
  | privRelease (p : ReqPath)
  /-- STREAM_HOLD (R69): Reeve command that sets hold reason COMMAND on a stream. -/
  | streamHold (p : ReqPath)
  /-- STREAM_RELEASE (R69): Reeve command that clears hold reason COMMAND. -/
  | streamRelease (p : ReqPath)
  /-- TILE_QUARANTINE (R494): Reeve command that quarantines a tile with cause COMMAND. -/
  | tileQuarantine (p : ReqPath)
  /-- TILE_CLEAR (R189): Reeve command that clears a tile's quarantine count and health entry. -/
  | tileClear (p : ReqPath)
  /-- SAFE_HOLD_REQ (R494): Reeve command that raises the commanded-hold source. -/
  | safeHoldReq (p : ReqPath)
  /-- VOTER_TEST (R464): Reeve command that runs a run-time voter test. -/
  | voterTest (p : ReqPath)
  /-- CFG_READ (R547): Reeve command that returns 8 bytes of the active safety configuration. -/
  | cfgRead (p : ReqPath)
  /-- CFG_BEGIN (R547): Reeve command that opens configuration staging. -/
  | cfgBegin (p : ReqPath)
  /-- CFG_WRITE (R547): Reeve command that writes 24 bytes into staging. -/
  | cfgWrite (p : ReqPath)
  /-- CFG_COMMIT (R548): Reeve command that checks, writes and takes a staged configuration into use. -/
  | cfgCommit (p : ReqPath)
  /-- CFG_ABORT (R547): Reeve command that closes staging. -/
  | cfgAbort (p : ReqPath)
  /-- PWD_NEWSALT (R547): Reeve command that draws a pending salt. -/
  | pwdNewsalt (p : ReqPath)
  /-- PWD_SET (R552): Reeve command that replaces the password salt and hash. -/
  | pwdSet (p : ReqPath)
  /-- OUT_RESTART (R537): Reeve command that restarts CMD-mode channels. -/
  | outRestart (p : ReqPath)
  /-- BRAKE_TEST (R544): Reeve command that starts a brake test on a hold channel. -/
  | brakeTest (p : ReqPath)
  /-- LOG_READ (R547): Reeve command that returns 8 bytes of a change-log entry. -/
  | logRead (p : ReqPath)
  /-- HWD_ARM (R572): Reeve command that arms the host watchdog. -/
  | hwdArm (p : ReqPath)
  /-- HWD_DISARM (R572): Reeve command that disarms the host watchdog. -/
  | hwdDisarm (p : ReqPath)
  /-- TASK_SET (R572): Reeve command that sets a task monitor. -/
  | taskSet (p : ReqPath)
  /-- FAULT_CLEAR (R523): Reeve command that returns a LATCHED source to CLEAR. -/
  | faultClear (p : ReqPath)
  /-- FAULT_INJECT (R514): Reeve command that arms a check-bit injection. -/
  | faultInject (p : ReqPath)
  /-- FAULT_RAISE (R523): Reeve command that raises a fault source for one AO cycle. -/
  | faultRaise (p : ReqPath)
  /-- CAP_REARM (R523): Reeve command that re-arms first-error captures. -/
  | capRearm (p : ReqPath)
  -- Privilege timers
  /-- PRIV_LEASE_EXPIRY (R498): The safety privilege lease expires. -/
  | privLeaseExpiry
  /-- PRIV_LOCKOUT_END (R497): The 300 s privilege lockout ends and the refusal count resets. -/
  | privLockoutEnd
  -- Fault collector
  /-- SOURCE_RAISE (R506): A fault source leaves CLEAR and its reactions are carried out. -/
  | sourceRaise (n : Src) (level : Bool) (addr : W32) (init : Byte) (acc : BitVec 2) (unit : W16)
  /-- SOURCE_DEASSERT (R507): An ACTIVE source's line deasserts and it enters QUIET or LATCHED. -/
  | sourceDeassert (n : Src)
  /-- QUIET_PERIOD_END (R507): A source's quiet period ends and it recovers to CLEAR or latches. -/
  | quietPeriodEnd (n : Src)
  /-- ERR_P_MINIMUM_END (R510): The 10 us minimum high time of ERR_P ends, letting it fall on AUTO or a pending release. -/
  | errPMinimumEnd
  /-- ERR_P_LOW_END (R510): The 10 us low time after ERR_P falls ends and a pending raise asserts it. -/
  | errPLowEnd
  /-- ERR_P_RELEASE (R511): Writing FC_ERRP.RELEASE releases ERR_P. -/
  | errPRelease (who : Initiator) (v : W32)
  /-- INJECTION_ARM (R515): A write of FC_INJ arms an injection for the next write of a checker. -/
  | injectionArm (who : Initiator) (v : W32)
  /-- COLLECTOR_ROTATION (R521): Every 16 AO cycles a test pulse checks one source latch on the shadow path. -/
  | collectorRotation (pass : Bool)
  /-- CHECKER_ROTATION (R521): A SINGLE injection tests the next ECC or parity checker in turn. -/
  | checkerRotation (pass silent : Bool)
  /-- MEMORY_SCRUB (R521): The ledger and safety SRAM scrubs advance to their next words. -/
  | memoryScrub (ledger sram : EccOut)
  -- Safety I/O and brake tests
  /-- DISCREPANCY_TIMEOUT (R530): A pair's equal pattern outlasts T_disc and the pair becomes DISCREPANT. -/
  | discrepancyTimeout (p : Fin 16)
  /-- RELEASE_FILTER_END (R530): A RELEASE pattern has lasted f and the pair reaches RELEASE. -/
  | releaseFilterEnd (p : Fin 16)
  /-- TEST_PULSE (R539): An energised channel's pin is pulsed low and read back. -/
  | testPulse (ch : Fin 10) (pinB ok : Bool)
  /-- FEEDBACK_TIMEOUT (R541): A feedback pin has not followed its commanded level within T_fb. -/
  | feedbackTimeout (ch : Fin 10)
  /-- BRAKE_APPLY_END (R544): After T_apply the feedback is checked and BTQn driven high. -/
  | brakeApplyEnd (h : Fin 2)
  /-- BRAKE_TORQUE_END (R544): After T_torque BTQn falls and the test passes or fails. -/
  | brakeTorqueEnd (h : Fin 2)
  /-- BRAKE_REENERGISE (R544): 100 ms after a passed test the hold channel is energised without restart. -/
  | brakeReenergise (h : Fin 2)
  /-- BRAKE_TEST_DUE (R546): I_bt after the last passed test, a brake test falls due. -/
  | brakeTestDue (h : Fin 2)
  /-- BRAKE_TEST_OVERDUE (R546): A due test not passed within G_bt fails as OVERDUE. -/
  | brakeTestOverdue (h : Fin 2)
  -- Bolrax Safe Channel
  /-- BSC_PDU_TRANSMIT (R559): A queued BSC PDU is sent when its gate opens on each port of its connection. -/
  | bscPduTransmit (c : Fin 16)
  /-- BSC_REFRESH (R559): P passes with no PDU on a produced connection and a STATE or SAFE_STATE PDU is queued. -/
  | bscRefresh (c : Fin 16)
  /-- BSC_QUEUE_TIMEOUT (R560): A PDU not queued on any port within P is dropped and BSC_PRODUCER raised. -/
  | bscQueueTimeout (c : Fin 16)
  /-- BSC_PDU_RECEIVE (R561): A received BSC PDU is checked and its permits accepted or discarded. -/
  | bscPduReceive (port : Port) (con : Fin 8) (rtag : Option W16) (pdu : List Byte)
  /-- BSC_CONSUMER_TIMEOUT (R563): No accepted PDU within TEXP moves a consumed connection to TIMEOUT. -/
  | bscConsumerTimeout (c : Fin 8)
  /-- ARP_REQUEST (R554): An ARP request for a BSC address is answered. -/
  | arpRequest (port : Port) (ip : W32)
  -- Watchdogs, monitors and check-value engines
  /-- REEVE_WDOG_SERVICE (R566): A voted reeve write serves the reeve watchdog. -/
  | reeveWdogService (token : W32) (at_ : Nat)
  /-- HOST_WDOG_SERVICE (R571): A DX pair to SV_HWD_TOKEN serves the host watchdog or is discarded. -/
  | hostWdogService (who : Initiator) (token : W32)
  /-- WATCHDOG_CLOSE (R567): t_close passes without an accepted service and the watchdog is violated. -/
  | watchdogClose (host : Bool)
  /-- TASK_LATE (R576): A task monitor reaches hi without its event and counts LATE. -/
  | taskLate (m : Fin 16)
  /-- CV_CFG_WRITE (R580): Selecting an algorithm resets the engine's running value and count. -/
  | cvCfgWrite (who : Initiator) (e : Fin 8) (v : W32)
  /-- CV_INIT (R580): CV_CMD.INIT resets the running value and count. -/
  | cvInit (who : Initiator) (e : Fin 8) (v : W32)
  /-- CV_CMP (R583): CV_CMD.CMP compares the result with CV_EXP. -/
  | cvCmp (who : Initiator) (e : Fin 8) (v : W32)
  /-- CV_RUN_WRITE (R581): A write of CV_RUN sets the running value. -/
  | cvRunWrite (who : Initiator) (e : Fin 8) (hi : Bool) (v : W32)
  /-- CV_DIN_WRITE (R582): A data-in write feeds its bytes into the engine or locked pair. -/
  | cvDinWrite (who : Initiator) (e : Fin 8) (r : Fin 4) (v : W32)
  /-- CV_PAIRCTL_WRITE (R584): A write of CV_PAIRCTL sets a free pair to LOCK or SPLIT. -/
  | cvPairctlWrite (who : Initiator) (k : Fin 4) (v : W32)
  -- Time, triggers and captures
  /-- PTP_SYNC (R593): An accepted Sync updates the servo and synchronisation state, and may step device time. -/
  | ptpSync (port : Port) (offset : Int) (at_ : Nat)
  /-- PTP_MESSAGE (R590): Another PTP or gPTP message is stamped and handled by its port. -/
  | ptpMessage (port : Port) (announce : Bool) (role : Option (Fin 6)) (gm : W64) (reply : Bool) (at_ : Nat)
  /-- SYNC_LOSS_TIMEOUT (R593): No Sync accepted for 4 intervals moves the time unit to HOLDOVER. -/
  | syncLossTimeout
  /-- TX_TIMESTAMP_WRITEBACK (R592): A port writes back the timestamp of a transmitted frame. -/
  | txTimestampWriteback (port : Port) (ptp : Bool) (at_ : Nat)
  /-- TIME_CROSS_CHECK (R595): Device time is compared with the AO count over each interval. -/
  | timeCrossCheck (elapsed : Nat)
  /-- TIME_LOAD (R596): TM_CTL.LOAD steps device time to TM_SET. -/
  | timeLoad (who : Initiator) (v : W32)
  /-- TIME_SOURCE_SELECT (R593): A write of TM_CFG.SRC selects the disciplining source. -/
  | timeSourceSelect (who : Initiator) (v : W32)
  /-- TRIGGER_ARM (R597): A write of a trigger's MODE arms it from the next AO cycle. -/
  | triggerArm (who : Initiator) (n : Fin 16) (v : W32)
  /-- TRIGGER_EDGE (R599): A scheduled trigger edge is emitted. -/
  | triggerEdge (n : Fin 16)
  /-- TRIGGER_PULSE_END (R601): A trigger pulse ends after WIDTH. -/
  | triggerPulseEnd (n : Fin 16)
  /-- CAPTURE_EDGE (R602): A selected edge on a capture input is stamped and held pending. -/
  | captureEdge (n : Fin 16) (rise : Bool) (at_ : Nat)
  /-- CAPTURE_POP (R604): A read of TM_CAP_n pops the oldest capture record. -/
  | capturePop (who : Initiator) (n : Fin 16)
  -- Power, clocks and temperature
  /-- DOMAIN_WAKE (R608): A power domain completes its wake and is ON. -/
  | domainWake (d : Fin 96)
  /-- PLL_MONITOR_FAULT (R620): A PLL loses lock or counts outside its band and its monitor source is raised. -/
  | pllMonitorFault (pll : Pll)
  /-- ARRAY_RELOCK (R621): An array and mesh PLL relock attempt ends. -/
  | arrayRelock (ok : Bool)
  /-- PLL_RELOCK (R622): A porter or interface PLL is relocked once per 10 ms. -/
  | pllRelock (pll : Pll) (ok : Bool)
  /-- TEMPERATURE_READ (R625): The junction sensors are read every 100 us and compared with the thresholds. -/
  | temperatureRead (r : List Int)
  /-- HOSTLESS_ENTRY (R632): At the boundary after the host link is switched off the device enters host-less operation. -/
  | hostlessEntry
  /-- HOSTLESS_EXIT (R633): At the boundary after PERST_N release the device leaves host-less operation. -/
  | hostlessExit
  /-- PM_CAP_REQUEST (R615): A write of PM_REQ.CAP sets the host power cap from the next strobe. -/
  | pmCapRequest (who : Initiator) (v : W32)
  /-- CV_PAIR_REQUEST (R608): A write of PM_REQ.CV2 or CV3 requests a check-value pair on or off. -/
  | cvPairRequest (who : Initiator) (v : W32)
  -- Key vault
  /-- ATTESTATION_REQUEST (R664): A write of KV_ATTN_HI requests a signed attestation. -/
  | attestationRequest (who : Initiator) (hi : W32)
  /-- ATTESTATION_DONE (R664): The vault writes the attestation signature into KV_ATTS. -/
  | attestationDone
  /-- DRBG_RESEED (R663): The DRBG is reseeded from the entropy source every 1 s. -/
  | drbgReseed (ok : Bool)
  /-- TAMPER_ASSERT (R665): A tamper sensor asserts and acts by its policy. -/
  | tamperAssert (n : Fin 4)
  -- JTAG and debug
  /-- EXTEST (R672): JTAG instruction that drives pins from the boundary scan register. -/
  | extest (data : BitVec 64)
  /-- IDCODE (R670): JTAG instruction that selects the identity register. -/
  | idcode
  /-- SAMPLE_PRELOAD (R670): JTAG instruction that samples and preloads the boundary scan register. -/
  | samplePreload (data : BitVec 64)
  /-- CLAMP (R672): JTAG instruction that holds pins from preloaded data with bypass selected. -/
  | clamp
  /-- HIGHZ (R672): JTAG instruction that releases output pins. -/
  | highz
  /-- BYPASS (R670): JTAG instruction that selects the bypass register. -/
  | bypass
  /-- DBGLINK (R671): JTAG instruction that selects the debug link register. -/
  | dbglink
  /-- DBGLINK_READ (R671): A debug link READ request reads through a debug window. -/
  | dbglinkRead (win rsv : BitVec 3) (addr : W32)
  /-- DBGLINK_WRITE (R671): A debug link WRITE request writes through a debug window. -/
  | dbglinkWrite (win rsv : BitVec 3) (addr data : W32)
  /-- DBGLINK_STATUS (R671): A debug link STATUS request captures the last result again. -/
  | dbglinkStatus
  /-- DEBUG_SESSION_END (R673): A TAP reset or 10 ms without TCK ends the debug session. -/
  | debugSessionEnd (tapReset : Bool)
  /-- DEBUG_CHALLENGE (R674): Writing DB_CHAL.NEW draws a new debug nonce. -/
  | debugChallenge (who : Initiator) (v : W32)
  /-- DEBUG_AUTH (R674): The final DB_AUTH write submits a token and authenticates or counts a failure. -/
  | debugAuth (who : Initiator) (word : Fin 8) (v : W32)
  /-- DEBUG_AUTH_LOCKOUT_END (R674): The 300 s DB_AUTH lockout ends. -/
  | debugAuthLockoutEnd
  /-- TEST_UNLOCK (R676): A write of DB_CTL.TUNLOCK enters or leaves test-unlock mode. -/
  | testUnlock (who : Initiator) (v : W32)
  /-- REEVE_HALT (R678): DB_REEVE.HALT requests a lockstep halt of the reeve. -/
  | reeveHalt (who : Initiator) (v : W32)
  /-- HALT_AT_BOUNDARY (R679): A pending halt takes effect at the first free instruction boundary. -/
  | haltAtBoundary
  /-- HALT_DEFERRAL_EXPIRY (R679): A halt deferred 256 reeve cycles is dropped or becomes a forced halt. -/
  | haltDeferralExpiry
  /-- REEVE_RESUME (R677): DB_REEVE.RESUME resumes a lockstep halt. -/
  | reeveResume (who : Initiator) (v : W32)
  /-- REEVE_STEP (R677): DB_REEVE.STEP executes one instruction on all three cores. -/
  | reeveStep (who : Initiator) (v : W32)
  /-- FORCED_HALT (R681): DB_REEVE.FHALT halts core A at once and breaks lockstep. -/
  | forcedHalt (who : Initiator) (v : W32)
  -- Further events
  /-- PERST_N_ASSERT (R626): The PERST_N pin is asserted, resetting the host link and every function, setting ID_LINKEVT.PERST and arming the re-power of the host link domains at its later release. -/
  | perstNAssert (at_ : Nat)
  /-- ANNOUNCE_RECEIPT_TIMEOUT (R590): A PTP port's announce receipt timeout of 3 announce intervals expires, the port leaves SLAVE and the time unit may enter HOLDOVER. -/
  | announceReceiptTimeout (port : Port)
  /-- EVIDENCE_WRITE (R368): A posted write to an evidence lane opens, extends, skips or discards a record by the lane procedure, checking HCRC and length at 32 bytes and discarding on poison, ECRC or out-of-order offset. -/
  | evidenceWrite (f : Fn) (lane : Fin 4) (off : BitVec 20) (data : List Byte) (bad : Bool) (at_ : Nat)
  /-- FUNCTION_LEVEL_RESET_COMPLETE (R361): A Function Level Reset in progress returns, clearing FN_STAT.FLR_BUSY and letting the function be served again. -/
  | functionLevelResetComplete (f : Fn)
  /-- REGISTER_READ_ACCESS_ERROR (R377): A register read of an unmapped offset, a wrong size or alignment, or a power-gated or unclocked domain returns 0 or 0xBAD0_00nn, sets ID_ACCERR, ID_ACCADDR and ID_ACCCNT and raises REG_ACCESS. -/
  | registerReadAccessError (who : Initiator) (p : RegAddr) (len : Fin 65)
  /-- RESERVED_MAILBOX_MESSAGE (R453): The porter or the reeve takes a message of a reserved type and answers STATUS BAD_OPCODE or NAK CODE. -/
  | reservedMailboxMessage (f : Fn) (ch : Fin 2)
  /-- LISTENER_ELIMINATION_RESET (R554): The 802.1CB listener elimination reset time of 100 ms runs out on a consumed connection and its recovery history is reset. -/
  | listenerEliminationReset (c : Fin 8)
  deriving DecidableEq, Repr

end Sys2Proof
end

