-- ==== Sys2Proof/Machine/Maps.lean ====
section
/-! DEFINITION. Sparse maps in one canonical form, bit fields of words, saturating counts and byte lists: the small
operations that every later file uses. -/

namespace Sys2Proof.Machine
open Sys2Proof

/-- What key `k` of the map reads as; `d` where the map lists nothing. -/
def mget {α : Type} (d : α) : FMap α → Nat → α
  | [], _ => d
  | (k', v) :: t, k => if k' = k then v else mget d t k

/-- The map without key `k`. -/
def mdel {α : Type} : FMap α → Nat → FMap α
  | [], _ => []
  | (k', v') :: t, k => if k' = k then mdel t k else (k', v') :: mdel t k

/-- `(k, v)` put before the first larger key. -/
def mins {α : Type} : FMap α → Nat → α → FMap α
  | [], k, v => [(k, v)]
  | (k', v') :: t, k, v => if k < k' then (k, v) :: (k', v') :: t else (k', v') :: mins t k v

/-- The map with key `k` set to `v`; an entry equal to `d` is not kept. -/
def mput {α : Type} [DecidableEq α] (d : α) (m : FMap α) (k : Nat) (v : α) : FMap α :=
  if v = d then mdel m k else mins (mdel m k) k v

/-- The map with key `k` changed by `f`. -/
def mupd {α : Type} [DecidableEq α] (d : α) (m : FMap α) (k : Nat) (f : α → α) : FMap α :=
  mput d m k (f (mget d m k))

/-- Every value changed by `f`, which sees its key. -/
def mmapK {α : Type} [DecidableEq α] (d : α) (f : Nat → α → α) : FMap α → FMap α
  | [] => []
  | (k, v) :: t => mput d (mmapK d f t) k (f k v)

/-- Every value changed by `f`. -/
def mmap {α : Type} [DecidableEq α] (d : α) (f : α → α) (m : FMap α) : FMap α := mmapK d (fun _ => f) m

/-- Every key of the map lies above `k`. -/
def mabove {α : Type} (k : Nat) : FMap α → Bool
  | [] => true
  | (k', _) :: t => decide (k < k') && mabove k t

/-- The canonical form: keys strictly rising and no entry equal to `d`. -/
def mwf {α : Type} [DecidableEq α] (d : α) : FMap α → Bool
  | [] => true
  | (k, v) :: t => decide (v ≠ d) && mabove k t && mwf d t

/-- Bits [hi:lo] of a 32-bit word as a number. -/
def bitsOf (w : W32) (hi lo : Nat) : Nat := (w.toNat >>> lo) % 2 ^ (hi + 1 - lo)

/-- The word with bits [hi:lo] replaced by `v`. -/
def setBits (w : W32) (hi lo v : Nat) : W32 :=
  let m := (2 ^ (hi + 1 - lo) - 1) <<< lo
  BitVec.ofNat 32 ((w.toNat &&& (0xFFFFFFFF ^^^ m)) ||| (((v % 2 ^ (hi + 1 - lo)) <<< lo)))

/-- One bit of a word. -/
def bitAt (w : W32) (i : Nat) : Bool := w.toNat.testBit i

/-- A Bool as the number 0 or 1. -/
def b2n (b : Bool) : Nat := if b then 1 else 0

/-- `n + k`, saturating at `mx`. -/
def satAdd (mx n k : Nat) : Nat := if n + k > mx then mx else n + k

/-- The list with its element at `i` replaced (unchanged where `i` lies beyond its end). -/
def lset {α : Type} : List α → Nat → α → List α
  | [], _, _ => []
  | _ :: t, 0, v => v :: t
  | h :: t, i + 1, v => h :: lset t i v

/-- The element at `i`, or `d`. -/
def lget {α : Type} (d : α) : List α → Nat → α
  | [], _ => d
  | h :: _, 0 => h
  | _ :: t, i + 1 => lget d t i

/-- The `n` low bytes of a number, lowest first (little-endian, R6). -/
def leBytes : Nat → Nat → List Byte
  | 0, _ => []
  | n + 1, v => BitVec.ofNat 8 v :: leBytes n (v / 256)

/-- The number that bytes spell, lowest first (little-endian, R6). -/
def leNat : List Byte → Nat
  | [] => 0
  | b :: t => b.toNat + 256 * leNat t

/-- The number that bytes spell, highest first (big-endian, R7). -/
def beNat (l : List Byte) : Nat := leNat l.reverse

/-- The `n` low bytes of a number, highest first (big-endian, R7). -/
def beBytes (n v : Nat) : List Byte := (leBytes n v).reverse

/-- The first `n` bytes of a list, zeros beyond its end. -/
def firstBytes : Nat → List Byte → List Byte
  | 0, _ => []
  | n + 1, [] => 0 :: firstBytes n []
  | n + 1, b :: t => b :: firstBytes n t

/-- Bytes [off, off + n) of a list, zeros beyond its end. -/
def slice (off n : Nat) (l : List Byte) : List Byte := firstBytes n (l.drop off)

/-- A little-endian field of a byte record. -/
def leField (l : List Byte) (off n : Nat) : Nat := leNat (slice off n l)

/-- Signed value of the low `n` bits of `v`. -/
def sext (n v : Nat) : Int :=
  let m := v % 2 ^ n
  if m < 2 ^ (n - 1) then (m : Int) else (m : Int) - (2 ^ n : Nat)

/-- The low `n` bits of an integer, as a number. -/
def lowBits (n : Nat) (i : Int) : Nat := (i % (2 ^ n : Nat)).toNat

/-- Round a quotient up. -/
def ceilDiv (a b : Nat) : Nat := if b = 0 then 0 else (a + b - 1) / b

/-- The numbers 0 to n - 1, rising. -/
def upTo (n : Nat) : List Nat := List.range n

/-- Apply `f` for each element, in order. -/
def forAll {α σ : Type} (l : List α) (f : α → σ → σ) (s : σ) : σ := l.foldl (fun s a => f a s) s

end Sys2Proof.Machine
end

