-- ==== Sys2Proof/Machine/Crc.lean ====
section
/-! DEFINITION. The cyclic redundancy codes of the manual, bit by bit: CRC-32 of R527, CRC-32C of R86, the BSC CRC of
R556, CRC-64 of R101, CRC-16 and CRC-8. Each is one step function folded over bytes. -/

namespace Sys2Proof.Machine
open Sys2Proof

/-- One step of a non-reflected CRC of `w` bits: the next message bit `b` enters at the top. -/
def crcBit (w poly r : Nat) (b : Bool) : Nat :=
  let top := r.testBit (w - 1)
  let r' := (r <<< 1) % 2 ^ w
  if top != b then r' ^^^ poly else r'

/-- One byte, most significant bit first. -/
def crcByte (w poly r : Nat) (x : Byte) : Nat :=
  [7, 6, 5, 4, 3, 2, 1, 0].foldl (fun r i => crcBit w poly r (x.toNat.testBit i)) r

/-- One byte, least significant bit first (reflected input). -/
def crcByteR (w poly r : Nat) (x : Byte) : Nat :=
  [0, 1, 2, 3, 4, 5, 6, 7].foldl (fun r i => crcBit w poly r (x.toNat.testBit i)) r

/-- The `w` bits of `r` in the opposite order. -/
def reflect (w r : Nat) : Nat :=
  (List.range w).foldl (fun a i => if r.testBit i then a ||| 2 ^ (w - 1 - i) else a) 0

/-- The register after a message, reflected input where `refl`. -/
def crcRun (w poly : Nat) (refl : Bool) (init : Nat) (msg : List Byte) : Nat :=
  msg.foldl (if refl then crcByteR w poly else crcByte w poly) init

/-- The code of a message. -/
def crc (w poly init : Nat) (refl : Bool) (xorOut : Nat) (msg : List Byte) : Nat :=
  let r := crcRun w poly refl init msg
  (if refl then reflect w r else r) ^^^ xorOut

/-- CRC-32 with the parameters of R527. -/
def crc32 (msg : List Byte) : Nat := crc 32 0x04C11DB7 0xFFFFFFFF true 0xFFFFFFFF msg

/-- CRC-32C with the parameters of R86. -/
def crc32c (msg : List Byte) : Nat := crc 32 0x1EDC6F41 0xFFFFFFFF true 0xFFFFFFFF msg

/-- CRC-16 with the parameters of R275. -/
def crc16 (msg : List Byte) : Nat := crc 16 0x1021 0xFFFF false 0 msg

/-- CRC-64 with the parameters of R101. -/
def crc64 (msg : List Byte) : Nat := crc 64 0x42F0E1EBA9EA3693 0xFFFFFFFFFFFFFFFF true 0xFFFFFFFFFFFFFFFF msg

/-- The BSC CRC of R556. -/
def crcBsc (msg : List Byte) : Nat := crc 32 0x741B8CD7 0xFFFFFFFF false 0xFFFFFFFF msg

end Sys2Proof.Machine
end

