-- ==== Sys2Proof/Config.lean ====
section
/-! DEFINITION. Config: what the spec fixes as constants of the device, and the FREE VALUES: values the spec leaves
open, each an opaque constant with no body, so that no proof can rest on a number (log entries 3 and 4). -/

namespace Sys2Proof.Config
open Sys2Proof

/-- AO cycles in one microsecond (R22: the AO island runs at 50 MHz, 20 ns a cycle). -/
def aoPerUs : Nat := 50
/-- AO cycles in one millisecond. -/
def aoPerMs : Nat := 50000
/-- AO cycles in one second. -/
def aoPerS : Nat := 50000000
/-- AO cycles in one hour. -/
def aoPerH : Nat := 3600 * aoPerS

/-- A free value of `w` bits: the n-th draw (random draws of R663, contents the spec does not give). The counter that
picks the draw is State.freeCtr; nothing constrains the value. -/
opaque freeBits (w n : Nat) : BitVec w
/-- Fixed by manufacture and given no value by the spec: the UID of R661. -/
opaque uid : BitVec 128
/-- Fixed by manufacture and given no value by the spec: the revocation fuses of R661 (bit n: slot n revoked). -/
opaque revoked : BitVec 4
/-- The plan key that the vault unwraps under R662 is not readable anywhere; the spec gives no value for it. -/
opaque planKey : BitVec 256
/-- Whether the wrapped plan key of a body unwraps under the device's import key (R662). -/
opaque unwrapOk : List (BitVec 8) → Bool
/-- Contents of a register or memory the spec names and gives no value (public keys, signatures), by address. -/
opaque fixedByte (addr : Nat) : BitVec 8
/-- Which porter cores a debugger's write into window 2 leaves halted, by address and data, where it bears on halting: the spec
gives the porter cores' debug registers no addresses (R674, R681). -/
opaque porterHaltReq : W32 → W32 → Option (BitVec 2)

end Sys2Proof.Config
end

