-- ==== Sys2Proof/Machine/RegTable.lean ====
section
/-! DEFINITION. The register tables of the manual, one row per 32-bit word: where the registers of a kind lie, how
many there are, which bits each access code covers (R8) and the Reset column (R13; a value the table gives as Load,
Fixed, Strap or by name reads 0 here and is computed where the register is read). -/

namespace Sys2Proof.Machine
open Sys2Proof

/-- A row: offset of the first register, stride, count, the masks of the access codes RW, W1C, WO, RS, DX and XP,
and the reset value. -/
structure RegRow where
  off : Nat
  stride : Nat
  n : Nat
  rw : Nat
  w1c : Nat
  wo : Nat
  rs : Nat
  dx : Nat
  xp : Nat
  rst : Nat
  deriving DecidableEq, Repr

/-- The ID_ registers. -/
def regsId : List RegRow := [
  ⟨0x0, 0, 1, 0x0, 0x0, 0x0, 0x0, 0x0, 0x0, 0x9601f5d⟩,  -- ID_DEV
  ⟨0x4, 0, 1, 0x0, 0x0, 0x0, 0x0, 0x0, 0xffff0000, 0xc000⟩,  -- ID_PART
  ⟨0x8, 0, 1, 0x0, 0x0, 0x0, 0x0, 0x0, 0x0, 0x0⟩,  -- ID_FWREEVE
  ⟨0xc, 0, 1, 0x0, 0x0, 0x0, 0x0, 0x0, 0x0, 0x0⟩,  -- ID_FWPORTER
  ⟨0x10, 0, 1, 0x0, 0x0, 0x0, 0x0, 0x0, 0xfffffffe, 0x0⟩,  -- ID_PAIR
  ⟨0x14, 0, 1, 0x0, 0x0, 0x0, 0x0, 0x0, 0xffff0000, 0x8000⟩,  -- ID_LINK
  ⟨0x18, 0, 1, 0x1, 0x0, 0x0, 0x0, 0x0, 0xfffffffe, 0x0⟩,  -- ID_LPAGE
  ⟨0x20, 0, 1, 0x0, 0x7f00, 0x0, 0x0, 0x0, 0xffff8000, 0xff⟩,  -- ID_ACCERR
  ⟨0x24, 0, 1, 0x0, 0x0, 0x0, 0x0, 0x0, 0x0, 0x0⟩,  -- ID_ACCADDR
  ⟨0x28, 0, 1, 0x0, 0x0, 0x0, 0x0, 0x0, 0x0, 0x0⟩,  -- ID_ACCCNT
  ⟨0x2c, 0, 1, 0x0, 0x0, 0x0, 0x0, 0x0, 0x0, 0x0⟩,  -- ID_ACCCNT word 1
  ⟨0x30, 0, 1, 0x0, 0x3f, 0x0, 0x0, 0x0, 0xffffffc0, 0x0⟩,  -- ID_LINKEVT
  ⟨0x34, 0, 1, 0x0, 0x0, 0x0, 0x0, 0x0, 0x0, 0x0⟩,  -- ID_LINKCNT
  ⟨0x40, 0, 1, 0x0, 0x0, 0x0, 0x0, 0x0, 0xfc00fc00, 0x200⟩,  -- ID_TAGAUD
  ⟨0x44, 0, 1, 0x0, 0x0, 0x0, 0x0, 0x0, 0xfffffc00, 0x0⟩,  -- ID_TAGAUD word 1
  ⟨0x100, 4, 64, 0x0, 0x0, 0x0, 0x0, 0x0, 0xfffff000, 0x0⟩  -- ID_TAGFN_f
  ]

/-- The FC_ registers. -/
def regsFc : List RegRow := [
  ⟨0x0, 0, 1, 0x2, 0x0, 0x1, 0x0, 0x0, 0xfffffffc, 0x0⟩,  -- FC_CTL
  ⟨0x4, 0, 1, 0x0, 0x0, 0x0, 0x0, 0x0, 0xffc00000, 0x4⟩,  -- FC_STAT
  ⟨0x8, 0, 1, 0x0, 0x1f, 0x0, 0x0, 0x0, 0xffffffe0, 0x0⟩,  -- FC_EVT
  ⟨0xc, 0, 1, 0x2, 0x0, 0x1, 0x0, 0x0, 0xfffffffc, 0x0⟩,  -- FC_ERRP
  ⟨0x10, 0, 1, 0x0, 0x0, 0x0, 0x0, 0x0, 0xffffffff, 0x0⟩,  -- FC_INJ
  ⟨0x18, 0, 1, 0x0, 0x0, 0x0, 0x0, 0x0, 0xfffc0000, 0x0⟩,  -- FC_TRIPLAST
  ⟨0x1c, 0, 1, 0x0, 0x0, 0x0, 0x0, 0x0, 0x0, 0x0⟩,  -- FC_TRIPLAST word 1
  ⟨0x20, 0, 1, 0x0, 0x0, 0x0, 0xfff, 0x0, 0xfffff000, 0x0⟩,  -- FC_TRIPMAX
  ⟨0x40, 4, 8, 0x0, 0x0, 0x0, 0x0, 0x0, 0x0, 0x0⟩,  -- FC_STATUS0–FC_STATUS7
  ⟨0x60, 4, 8, 0x0, 0x0, 0x0, 0x0, 0x0, 0x0, 0x0⟩,  -- FC_LATCH0–FC_LATCH7
  ⟨0x80, 0, 1, 0x0, 0x0, 0x0, 0x0, 0x0, 0x0, 0x0⟩,  -- FC_NINFO
  ⟨0x84, 0, 1, 0x0, 0x0, 0x0, 0x0, 0x0, 0x0, 0x0⟩,  -- FC_NINFO word 1
  ⟨0x88, 0, 1, 0x0, 0x0, 0x0, 0x0, 0x0, 0x0, 0x0⟩,  -- FC_NMINOR
  ⟨0x8c, 0, 1, 0x0, 0x0, 0x0, 0x0, 0x0, 0x0, 0x0⟩,  -- FC_NMINOR word 1
  ⟨0x90, 0, 1, 0x0, 0x0, 0x0, 0x0, 0x0, 0x0, 0x0⟩,  -- FC_NMAJOR
  ⟨0x94, 0, 1, 0x0, 0x0, 0x0, 0x0, 0x0, 0x0, 0x0⟩,  -- FC_NMAJOR word 1
  ⟨0x98, 0, 1, 0x0, 0x0, 0x0, 0x0, 0x0, 0x0, 0x0⟩,  -- FC_NCRIT
  ⟨0x9c, 0, 1, 0x0, 0x0, 0x0, 0x0, 0x0, 0x0, 0x0⟩,  -- FC_NCRIT word 1
  ⟨0x100, 32, 8, 0x0, 0x100, 0x0, 0x0, 0x0, 0xf800, 0x600⟩,  -- FC_CAPg
  ⟨0x104, 32, 8, 0x0, 0x0, 0x0, 0x0, 0x0, 0x0, 0x0⟩,  -- FC_CAPg word 1
  ⟨0x108, 32, 8, 0x0, 0x0, 0x0, 0x0, 0x0, 0xff000000, 0xffffff⟩,  -- FC_CAPg word 2
  ⟨0x10c, 32, 8, 0x0, 0x0, 0x0, 0x0, 0x0, 0xffffffff, 0x0⟩,  -- FC_CAPg word 3
  ⟨0x110, 32, 8, 0x0, 0x0, 0x0, 0x0, 0x0, 0x0, 0x0⟩,  -- FC_CAPg word 4
  ⟨0x114, 32, 8, 0x0, 0x0, 0x0, 0x0, 0x0, 0x0, 0x0⟩,  -- FC_CAPg word 5
  ⟨0x118, 32, 8, 0x0, 0x0, 0x0, 0x0, 0x0, 0xffffffff, 0x0⟩,  -- FC_CAPg word 6
  ⟨0x11c, 32, 8, 0x0, 0x0, 0x0, 0x0, 0x0, 0xffffffff, 0x0⟩,  -- FC_CAPg word 7
  ⟨0x1000, 16, 256, 0x0, 0x0, 0x0, 0x0, 0x0, 0xfc00e000, 0x0⟩,  -- FC_SCFG_n
  ⟨0x1004, 16, 256, 0x0, 0x0, 0x0, 0x0, 0x0, 0xff000000, 0x0⟩,  -- FC_SCFG_n word 1
  ⟨0x1008, 16, 256, 0x0, 0x0, 0x0, 0x0, 0x0, 0xfffe0000, 0x0⟩,  -- FC_SCFG_n word 2
  ⟨0x100c, 16, 256, 0x0, 0x0, 0x0, 0x0, 0x0, 0xffffffff, 0x0⟩,  -- FC_SCFG_n word 3
  ⟨0x2000, 8, 256, 0x0, 0x0, 0x0, 0x0, 0x0, 0xfc, 0x0⟩,  -- FC_SST_n
  ⟨0x2004, 8, 256, 0x0, 0x0, 0x0, 0x0, 0x0, 0x0, 0x0⟩  -- FC_SST_n word 1
  ]

/-- The RV_ registers. -/
def regsRv : List RegRow := [
  ⟨0x0, 0, 1, 0x2, 0x0, 0x1, 0x0, 0x0, 0xfffffffc, 0x0⟩,  -- RV_CTL
  ⟨0x4, 0, 1, 0x0, 0x0, 0x0, 0x0, 0x0, 0xffffe000, 0x1⟩,  -- RV_STAT
  ⟨0x8, 0, 1, 0x0, 0x0, 0x0, 0x0, 0x0, 0xffff8000, 0x0⟩,  -- RV_CORES
  ⟨0xc, 0, 1, 0x0, 0xff, 0x0, 0x0, 0x0, 0xffffff00, 0x0⟩,  -- RV_EVT
  ⟨0x10, 0, 1, 0x0, 0x0, 0x0, 0x0, 0x0, 0xff0080c0, 0x0⟩,  -- RV_VTEST
  ⟨0x18, 0, 1, 0x0, 0x0, 0x0, 0x0, 0x0, 0x0, 0x0⟩,  -- RV_MISCNT
  ⟨0x1c, 0, 1, 0x0, 0x0, 0x0, 0x0, 0x0, 0x0, 0x0⟩,  -- RV_MISCNT word 1
  ⟨0x20, 0, 1, 0x0, 0x0, 0x0, 0x0, 0x0, 0xf0000000, 0x0⟩,  -- RV_TRANS
  ⟨0x24, 0, 1, 0x0, 0x0, 0x0, 0x0, 0x0, 0xffffffe0, 0x3⟩,  -- RV_LASTMIS
  ⟨0x28, 0, 1, 0x0, 0x0, 0x0, 0x0, 0x0, 0x0, 0x0⟩,  -- RV_LASTMIS word 1
  ⟨0x30, 0, 1, 0x0, 0x0, 0x0, 0x0, 0x0, 0x0, 0x0⟩,  -- RV_DIV
  ⟨0x34, 0, 1, 0x0, 0x0, 0x0, 0x0, 0x0, 0xffffff00, 0xc0⟩,  -- RV_DIVLAST
  ⟨0x38, 0, 1, 0x0, 0x0, 0x0, 0x0, 0x0, 0x0, 0x0⟩,  -- RV_BUILD_R
  ⟨0x3c, 0, 1, 0x0, 0x0, 0x0, 0x0, 0x0, 0x0, 0x0⟩,  -- RV_BUILD_P
  ⟨0x40, 0, 1, 0x0, 0x0, 0x0, 0x0, 0x0, 0xfffffff8, 0x0⟩,  -- RV_PAIRSRC
  ⟨0x48, 0, 1, 0x0, 0x0, 0x0, 0x0, 0x0, 0x0, 0x0⟩,  -- RV_SSEQ
  ⟨0x4c, 0, 1, 0x0, 0x0, 0x0, 0x0, 0x0, 0xffe0, 0x0⟩,  -- RV_PRIV
  ⟨0x50, 0, 1, 0x0, 0x0, 0x0, 0x0, 0x0, 0x0, 0x0⟩,  -- RV_CMDCNT
  ⟨0x54, 0, 1, 0x0, 0x0, 0x0, 0x0, 0x0, 0xfe000000, 0x0⟩,  -- RV_LASTREF
  ⟨0x58, 0, 1, 0x0, 0x0, 0x0, 0x7f, 0x0, 0xffffff80, 0x0⟩  -- RV_PAUSEMAX
  ]

/-- The SV_ registers. -/
def regsSv : List RegRow := [
  ⟨0x0, 0, 1, 0x2, 0x0, 0x1, 0x0, 0x0, 0xfffffffc, 0x0⟩,  -- SV_CTL
  ⟨0x4, 0, 1, 0x0, 0x0, 0x0, 0x0, 0x0, 0xfff00000, 0x0⟩,  -- SV_STAT
  ⟨0x8, 0, 1, 0x0, 0x7f, 0x0, 0x0, 0x0, 0xffffff80, 0x0⟩,  -- SV_EVT
  ⟨0x10, 0, 1, 0x0, 0x0, 0x0, 0xfffc000, 0x0, 0xf0000000, 0x0⟩,  -- SV_RWD
  ⟨0x20, 0, 1, 0x0, 0x0, 0x0, 0x0, 0x0, 0x0, 0x0⟩,  -- SV_HWD_CHAL
  ⟨0x24, 0, 1, 0x0, 0x0, 0x0, 0x0, 0xffffffff, 0x0, 0x0⟩,  -- SV_HWD_TOKEN
  ⟨0x28, 0, 1, 0x0, 0x0, 0x0, 0x0, 0x0, 0x0, 0x0⟩,  -- SV_HWD_CFG
  ⟨0x2c, 0, 1, 0x0, 0x0, 0x0, 0x0, 0x0, 0xffff0000, 0x0⟩,  -- SV_HWD_TIME
  ⟨0x30, 0, 1, 0x0, 0x0, 0x0, 0x0, 0x0, 0x0, 0x0⟩,  -- SV_HWD_CNT
  ⟨0x100, 4, 64, 0x0, 0x0, 0x0, 0x0, 0x0, 0x0, 0x0⟩,  -- SV_AGE_s
  ⟨0x200, 4, 64, 0x0, 0x0, 0x0, 0xffffffff, 0x0, 0x0, 0x0⟩,  -- SV_LAT_s
  ⟨0x300, 16, 16, 0x0, 0x0, 0x0, 0x0, 0x0, 0xfffffe00, 0x0⟩,  -- SV_TASK_m
  ⟨0x304, 16, 16, 0x0, 0x0, 0x0, 0x0, 0x0, 0x0, 0x0⟩,  -- SV_TASK_m word 1
  ⟨0x308, 16, 16, 0x0, 0x0, 0x0, 0x0, 0x0, 0x0, 0x0⟩,  -- SV_TASK_m word 2
  ⟨0x30c, 16, 16, 0x0, 0x0, 0x0, 0x0, 0x0, 0x0, 0x0⟩  -- SV_TASK_m word 3
  ]

/-- The CV_ registers. -/
def regsCv : List RegRow := [
  ⟨0x10, 4, 4, 0x1, 0x0, 0x0, 0x0, 0x0, 0xfffffffc, 0x0⟩,  -- CV_PAIRCTL_k
  ⟨0x100, 64, 8, 0x7, 0x0, 0x0, 0x0, 0x0, 0xfffffff8, 0x3⟩,  -- CV_CFG
  ⟨0x108, 64, 8, 0xffffffff, 0x0, 0x0, 0x0, 0x0, 0x0, 0x0⟩,  -- CV_RUN
  ⟨0x10c, 64, 8, 0xffffffff, 0x0, 0x0, 0x0, 0x0, 0x0, 0x0⟩,  -- CV_RUN word 1
  ⟨0x110, 64, 8, 0x0, 0x0, 0x0, 0x0, 0x0, 0x0, 0x0⟩,  -- CV_RES
  ⟨0x114, 64, 8, 0x0, 0x0, 0x0, 0x0, 0x0, 0x0, 0x0⟩,  -- CV_RES word 1
  ⟨0x118, 64, 8, 0xffffffff, 0x0, 0x0, 0x0, 0x0, 0x0, 0x0⟩,  -- CV_EXP
  ⟨0x11c, 64, 8, 0xffffffff, 0x0, 0x0, 0x0, 0x0, 0x0, 0x0⟩,  -- CV_EXP word 1
  ⟨0x120, 64, 8, 0x0, 0x0, 0xffffffff, 0x0, 0x0, 0x0, 0x0⟩,  -- CV_DIN
  ⟨0x124, 64, 8, 0x0, 0x0, 0xffffffff, 0x0, 0x0, 0x0, 0x0⟩,  -- CV_DINH
  ⟨0x12c, 64, 8, 0x0, 0x0, 0x3, 0x0, 0x0, 0xfffffffc, 0x0⟩,  -- CV_CMD
  ⟨0x130, 64, 8, 0x0, 0x3, 0x0, 0x0, 0x0, 0xfffffffc, 0x0⟩,  -- CV_ST
  ⟨0x134, 64, 8, 0x0, 0x0, 0x0, 0x0, 0x0, 0x0, 0x0⟩,  -- CV_CNT
  ⟨0x138, 64, 8, 0x0, 0x0, 0xffffffff, 0x0, 0x0, 0x0, 0x0⟩,  -- CV_DIN2
  ⟨0x13c, 64, 8, 0x0, 0x0, 0xffffffff, 0x0, 0x0, 0x0, 0x0⟩  -- CV_DIN1
  ]

/-- The TM_ registers. -/
def regsTm : List RegRow := [
  ⟨0x0, 0, 1, 0x2, 0x0, 0x5, 0x0, 0x0, 0xfffffff8, 0x0⟩,  -- TM_CTL
  ⟨0x4, 0, 1, 0x0, 0x0, 0x0, 0x0, 0x0, 0xffc00000, 0x38⟩,  -- TM_STAT
  ⟨0x8, 0, 1, 0x0, 0xff, 0x0, 0x0, 0x0, 0xffffff00, 0x0⟩,  -- TM_EVT
  ⟨0xc, 0, 1, 0x7ffffff, 0x0, 0x0, 0x0, 0x0, 0xf8000000, 0x2020201⟩,  -- TM_CFG
  ⟨0x10, 4, 4, 0x3f, 0x0, 0x0, 0x0, 0x0, 0xfffffe00, 0x1⟩,  -- TM_PORT_p
  ⟨0x20, 0, 1, 0xffffffff, 0x0, 0x0, 0x0, 0x0, 0x0, 0x6403e8⟩,  -- TM_THR
  ⟨0x30, 0, 1, 0x0, 0x0, 0x0, 0x0, 0x0, 0xc0000000, 0x0⟩,  -- TM_NOW
  ⟨0x34, 0, 1, 0x0, 0x0, 0x0, 0x0, 0x0, 0xffff0000, 0x0⟩,  -- TM_NOW word 1
  ⟨0x38, 0, 1, 0x0, 0x0, 0x0, 0x0, 0x0, 0x0, 0x0⟩,  -- TM_NOW word 2
  ⟨0x3c, 0, 1, 0x0, 0x0, 0x0, 0x0, 0x0, 0x0, 0x0⟩,  -- TM_NOW word 3
  ⟨0x40, 0, 1, 0x0, 0x0, 0x0, 0x0, 0x0, 0x0, 0x0⟩,  -- TM_NOW word 4
  ⟨0x44, 0, 1, 0x0, 0x0, 0x0, 0x0, 0x0, 0x0, 0x0⟩,  -- TM_NOW word 5
  ⟨0x50, 0, 1, 0x3fffffff, 0x0, 0x0, 0x0, 0x0, 0xc0000000, 0x0⟩,  -- TM_SET
  ⟨0x54, 0, 1, 0xffffffff, 0x0, 0x0, 0x0, 0x0, 0x0, 0x0⟩,  -- TM_SET word 1
  ⟨0x58, 0, 1, 0xffffffff, 0x0, 0x0, 0x0, 0x0, 0x0, 0x0⟩,  -- TM_SET word 2
  ⟨0x60, 0, 1, 0x0, 0x0, 0x0, 0x0, 0x0, 0x0, 0x0⟩,  -- TM_OFFSET
  ⟨0x64, 0, 1, 0x0, 0x0, 0x0, 0x0, 0x0, 0x0, 0x0⟩,  -- TM_RATE
  ⟨0x68, 0, 1, 0x0, 0x0, 0x0, 0x0, 0x0, 0x0, 0x0⟩,  -- TM_GM
  ⟨0x6c, 0, 1, 0x0, 0x0, 0x0, 0x0, 0x0, 0x0, 0x0⟩,  -- TM_GM word 1
  ⟨0x80, 16, 4, 0x0, 0x0, 0x0, 0x0, 0x0, 0xc0000000, 0x0⟩,  -- TM_TXTS_p
  ⟨0x84, 16, 4, 0x0, 0x0, 0x0, 0x0, 0x0, 0x0, 0x0⟩,  -- TM_TXTS_p word 1
  ⟨0x88, 16, 4, 0x0, 0x0, 0x0, 0x0, 0x0, 0x0, 0x0⟩,  -- TM_TXTS_p word 2
  ⟨0x8c, 16, 4, 0x0, 0x0, 0x0, 0x0, 0x0, 0x0, 0x0⟩,  -- TM_TXTS_p word 3
  ⟨0x200, 32, 16, 0x1ff, 0x0, 0x0, 0x0, 0x0, 0xfffffe00, 0x0⟩,  -- TM_TRIG_n
  ⟨0x204, 32, 16, 0xfffff, 0x0, 0x0, 0x0, 0x0, 0x0, 0x14⟩,  -- TM_TRIG_n word 1
  ⟨0x208, 32, 16, 0xffffffff, 0x0, 0x0, 0x0, 0x0, 0x0, 0x0⟩,  -- TM_TRIG_n word 2
  ⟨0x20c, 32, 16, 0xffffffff, 0x0, 0x0, 0x0, 0x0, 0x0, 0x0⟩,  -- TM_TRIG_n word 3
  ⟨0x210, 32, 16, 0xffffffff, 0x0, 0x0, 0x0, 0x0, 0x0, 0x0⟩,  -- TM_TRIG_n word 4
  ⟨0x214, 32, 16, 0xffffffff, 0x0, 0x0, 0x0, 0x0, 0x0, 0xf4240⟩,  -- TM_TRIG_n word 5
  ⟨0x218, 32, 16, 0x0, 0x0, 0x0, 0x0, 0x0, 0x0, 0x0⟩,  -- TM_TRIG_n word 6
  ⟨0x21c, 32, 16, 0x0, 0x0, 0x0, 0x0, 0x0, 0xffffffff, 0x0⟩,  -- TM_TRIG_n word 7
  ⟨0x400, 32, 16, 0x3, 0x0, 0x0, 0x0, 0x0, 0xfffffffc, 0x0⟩,  -- TM_CAP_n
  ⟨0x404, 32, 16, 0x0, 0x0, 0x0, 0x0, 0x0, 0xe0, 0x0⟩,  -- TM_CAP_n word 1
  ⟨0x408, 32, 16, 0x0, 0x0, 0x0, 0xffffffff, 0x0, 0x0, 0x0⟩,  -- TM_CAP_n word 2
  ⟨0x40c, 32, 16, 0x0, 0x0, 0x0, 0x0, 0x0, 0x0, 0x0⟩,  -- TM_CAP_n word 3
  ⟨0x410, 32, 16, 0x0, 0x0, 0x0, 0x0, 0x0, 0x0, 0x0⟩,  -- TM_CAP_n word 4
  ⟨0x414, 32, 16, 0x0, 0x0, 0x0, 0x0, 0x0, 0x0, 0x0⟩,  -- TM_CAP_n word 5
  ⟨0x418, 32, 16, 0x0, 0x0, 0x0, 0x0, 0x0, 0xfffffffe, 0x0⟩,  -- TM_CAP_n word 6
  ⟨0x41c, 32, 16, 0x0, 0x0, 0x0, 0x0, 0x0, 0xffffffff, 0x0⟩  -- TM_CAP_n word 7
  ]

/-- The PM_ registers. -/
def regsPm : List RegRow := [
  ⟨0x0, 0, 1, 0x2, 0x0, 0x1, 0x0, 0x0, 0xfffffffc, 0x0⟩,  -- PM_CTL
  ⟨0x4, 0, 1, 0x0, 0x0, 0x0, 0x0, 0x0, 0xfffe0000, 0x0⟩,  -- PM_STAT
  ⟨0x8, 0, 1, 0x0, 0x3f, 0x0, 0x0, 0x0, 0xffffffc0, 0x0⟩,  -- PM_EVT
  ⟨0xc, 0, 1, 0xfff, 0x0, 0x0, 0x0, 0x0, 0xfffff000, 0x0⟩,  -- PM_REQ
  ⟨0x10, 4, 6, 0x0, 0x0, 0x0, 0x0, 0x0, 0x0, 0xaaaaaaaa⟩,  -- PM_DOM0–PM_DOM5
  ⟨0x30, 0, 1, 0x0, 0x0, 0x0, 0x0, 0x0, 0xffffc000, 0x0⟩,  -- PM_PLL
  ⟨0x38, 0, 1, 0x0, 0x0, 0x0, 0x0, 0x0, 0xc0000000, 0x0⟩,  -- PM_TOK
  ⟨0x3c, 0, 1, 0x0, 0x0, 0x0, 0x0, 0x0, 0xfff00000, 0x0⟩,  -- PM_TOK word 1
  ⟨0x40, 0, 1, 0x0, 0x0, 0x0, 0x0, 0x0, 0x0, 0x0⟩,  -- PM_THROT
  ⟨0x44, 0, 1, 0x0, 0x0, 0x0, 0x0, 0x0, 0x0, 0x0⟩,  -- PM_THROT word 1
  ⟨0x48, 0, 1, 0x0, 0x0, 0x0, 0x0, 0x0, 0x0, 0x0⟩,  -- PM_DROOP
  ⟨0x4c, 0, 1, 0x0, 0x0, 0x0, 0x0, 0x0, 0x0, 0x0⟩,  -- PM_DROOP word 1
  ⟨0x50, 0, 1, 0x0, 0x0, 0x0, 0xffff, 0x0, 0xffc00000, 0x0⟩,  -- PM_DROOPMAX
  ⟨0x54, 0, 1, 0x0, 0x0, 0x0, 0x0, 0x0, 0xffe00000, 0x0⟩,  -- PM_TEMP
  ⟨0x58, 0, 1, 0x0, 0x0, 0x0, 0x0, 0x0, 0xf800, 0x7f8⟩,  -- PM_RST
  ⟨0x60, 0, 1, 0x0, 0x0, 0x0, 0x0, 0x0, 0x0, 0x0⟩,  -- PM_AO
  ⟨0x64, 0, 1, 0x0, 0x0, 0x0, 0x0, 0x0, 0x0, 0x0⟩  -- PM_AO word 1
  ]

/-- The SIO_ registers. -/
def regsSio : List RegRow := [
  ⟨0x0, 0, 1, 0x2, 0x0, 0x1, 0x0, 0x0, 0xfffffffc, 0x0⟩,  -- SIO_CTL
  ⟨0x4, 0, 1, 0x0, 0x0, 0x0, 0x0, 0x0, 0xfffffff0, 0x0⟩,  -- SIO_STAT
  ⟨0x8, 0, 1, 0x0, 0xff, 0x0, 0x0, 0x0, 0xffffff00, 0x0⟩,  -- SIO_EVT
  ⟨0x10, 0, 1, 0x0, 0x0, 0x0, 0x0, 0x0, 0x0, 0x0⟩,  -- SIO_PIN
  ⟨0x14, 0, 1, 0x0, 0x0, 0x0, 0x0, 0x0, 0x0, 0x0⟩,  -- SIO_PAIR0
  ⟨0x18, 0, 1, 0x0, 0x0, 0x0, 0x0, 0x0, 0x0, 0x0⟩,  -- SIO_PAIR1
  ⟨0x20, 0, 1, 0x0, 0x0, 0x0, 0x0, 0x0, 0xffffff00, 0x0⟩,  -- SIO_OUT0
  ⟨0x24, 0, 1, 0x0, 0x0, 0x0, 0x0, 0x0, 0xffffff00, 0x0⟩,  -- SIO_OUT1
  ⟨0x30, 0, 1, 0x0, 0x0, 0x0, 0x0, 0x0, 0x0, 0x0⟩,  -- SIO_CFGCRC
  ⟨0x34, 0, 1, 0x0, 0x0, 0x0, 0x0, 0x0, 0x0, 0x0⟩,  -- SIO_CFGSEQ
  ⟨0x38, 0, 1, 0x0, 0x0, 0x0, 0x0, 0x0, 0x0, 0x0⟩,  -- SIO_LOGSEQ
  ⟨0x40, 16, 2, 0x0, 0x0, 0x0, 0x0, 0x0, 0xfffffff0, 0x0⟩,  -- SIO_BT_n
  ⟨0x44, 16, 2, 0x0, 0x0, 0x0, 0x0, 0x0, 0x0, 0xffffffff⟩,  -- SIO_BT_n word 1
  ⟨0x60, 4, 4, 0x0, 0x0, 0x0, 0x0, 0x0, 0x0, 0x0⟩,  -- SIO_SALT0–SIO_SALT3
  ⟨0x70, 4, 4, 0x0, 0x0, 0x0, 0x0, 0x0, 0x0, 0x0⟩  -- SIO_NSALT0–SIO_NSALT3
  ]

/-- The SL_ registers. -/
def regsSl : List RegRow := [
  ⟨0x0, 0, 1, 0x2, 0x0, 0x1, 0x0, 0x0, 0xfffffffc, 0x0⟩,  -- SL_CTL
  ⟨0x4, 0, 1, 0x0, 0x0, 0x0, 0x0, 0x0, 0xffffe000, 0x0⟩,  -- SL_STAT
  ⟨0x8, 0, 1, 0x0, 0xf, 0x0, 0x0, 0x0, 0xfffffff0, 0x0⟩,  -- SL_EVT
  ⟨0x10, 0, 1, 0x0, 0x0, 0x0, 0x0, 0x0, 0x0, 0x0⟩,  -- SL_TX
  ⟨0x14, 0, 1, 0x0, 0x0, 0x0, 0x0, 0x0, 0x0, 0x0⟩,  -- SL_TX word 1
  ⟨0x100, 16, 16, 0x0, 0x0, 0x0, 0x0, 0x0, 0xffffffc0, 0x0⟩,  -- SL_PCON_c
  ⟨0x104, 16, 16, 0x0, 0x0, 0x0, 0x0, 0x0, 0x0, 0x0⟩,  -- SL_PCON_c word 1
  ⟨0x108, 16, 16, 0x0, 0x0, 0x0, 0x0, 0x0, 0x0, 0x0⟩,  -- SL_PCON_c word 2
  ⟨0x10c, 16, 16, 0x0, 0x0, 0x0, 0x0, 0x0, 0xffffffff, 0x0⟩,  -- SL_PCON_c word 3
  ⟨0x200, 16, 8, 0x0, 0x0, 0x0, 0x0, 0x0, 0xfffc, 0x0⟩,  -- SL_CCON_c
  ⟨0x204, 16, 8, 0x0, 0x0, 0x0, 0x0, 0x0, 0x0, 0x0⟩,  -- SL_CCON_c word 1
  ⟨0x208, 16, 8, 0x0, 0x0, 0x0, 0x0, 0x0, 0x0, 0x0⟩,  -- SL_CCON_c word 2
  ⟨0x20c, 16, 8, 0x0, 0x0, 0x0, 0x0, 0x0, 0x0, 0x0⟩  -- SL_CCON_c word 3
  ]

/-- The SG_ registers. -/
def regsSg : List RegRow := [
  ⟨0x0, 0, 1, 0x2, 0x0, 0x1, 0x0, 0x0, 0xfffffffc, 0x0⟩,  -- SG_CTL
  ⟨0x4, 0, 1, 0x0, 0x0, 0x0, 0x0, 0x0, 0xfffff000, 0x0⟩,  -- SG_STAT
  ⟨0x8, 0, 1, 0x0, 0x1ff, 0x0, 0x0, 0x0, 0xfffffe00, 0x0⟩,  -- SG_EVT
  ⟨0x10, 0, 1, 0x0, 0x0, 0x0, 0x0, 0x0, 0x0, 0x0⟩,  -- SG_NOBUF_I
  ⟨0x14, 0, 1, 0x0, 0x0, 0x0, 0x0, 0x0, 0x0, 0x0⟩,  -- SG_NOBUF_A
  ⟨0x18, 0, 1, 0x0, 0x0, 0x0, 0x0, 0x0, 0x0, 0x0⟩,  -- SG_NOBUF_H
  ⟨0x1c, 0, 1, 0x0, 0x0, 0x0, 0x0, 0x0, 0x0, 0x0⟩,  -- SG_BLKDROP
  ⟨0x20, 0, 1, 0x0, 0x0, 0x0, 0x0, 0x0, 0xf000f000, 0x800⟩,  -- SG_AUD
  ⟨0x24, 0, 1, 0x0, 0x0, 0x0, 0x0, 0x0, 0xf000f000, 0x0⟩,  -- SG_AUD word 1
  ⟨0x28, 0, 1, 0x0, 0x0, 0x0, 0x0, 0x0, 0xf000f000, 0x0⟩,  -- SG_AUD word 2
  ⟨0x2c, 0, 1, 0x0, 0x0, 0x0, 0x0, 0x0, 0xfffff000, 0x0⟩,  -- SG_AUD word 3
  ⟨0x100, 32, 4, 0x0, 0x0, 0x0, 0x0, 0x0, 0x0, 0x0⟩,  -- SG_PKT_n
  ⟨0x104, 32, 4, 0x0, 0x0, 0x0, 0x0, 0x0, 0x0, 0x0⟩,  -- SG_PKT_n word 1
  ⟨0x108, 32, 4, 0x0, 0x0, 0x0, 0x0, 0x0, 0x0, 0x0⟩,  -- SG_DISC_n
  ⟨0x10c, 32, 4, 0x0, 0x0, 0x0, 0x0, 0x0, 0x0, 0x0⟩,  -- SG_UNB_n
  ⟨0x110, 32, 4, 0x0, 0x0, 0x0, 0x0, 0x0, 0x0, 0x0⟩,  -- SG_ORPH_n
  ⟨0x114, 32, 4, 0x0, 0x0, 0x0, 0x0, 0x0, 0x0, 0x0⟩,  -- SG_CORR_n
  ⟨0x118, 32, 4, 0x0, 0x0, 0x0, 0x0, 0x0, 0x0, 0x0⟩,  -- SG_PHY_n
  ⟨0x400, 4, 64, 0x0, 0x0, 0x0, 0x0, 0x0, 0xffe00000, 0x0⟩,  -- SG_SINFO_s
  ⟨0x600, 8, 64, 0x0, 0x0, 0x0, 0x0, 0x0, 0x0, 0x0⟩,  -- SG_SFRAME_s
  ⟨0x604, 8, 64, 0x0, 0x0, 0x0, 0x0, 0x0, 0x0, 0x0⟩,  -- SG_SFRAME_s word 1
  ⟨0x1000, 32, 64, 0x0, 0x0, 0x0, 0x0, 0x0, 0x0, 0x0⟩,  -- SG_ADM_s
  ⟨0x1004, 32, 64, 0x0, 0x0, 0x0, 0x0, 0x0, 0x0, 0x0⟩,  -- SG_ADM_s word 1
  ⟨0x1008, 32, 64, 0x0, 0x0, 0x0, 0x0, 0x0, 0x0, 0x0⟩,  -- SG_TNT_s
  ⟨0x100c, 32, 64, 0x0, 0x0, 0x0, 0x0, 0x0, 0x0, 0x0⟩,  -- SG_DROP_s
  ⟨0x1010, 32, 64, 0x0, 0x0, 0x0, 0x0, 0x0, 0x0, 0x0⟩,  -- SG_GAP_s
  ⟨0x1014, 32, 64, 0x0, 0x0, 0x0, 0x0, 0x0, 0x0, 0x0⟩,  -- SG_NODESC_s
  ⟨0x1018, 32, 64, 0x0, 0x0, 0x0, 0x0, 0x0, 0x0, 0x0⟩,  -- SG_LREC_s
  ⟨0x101c, 32, 64, 0x0, 0x0, 0x0, 0x0, 0x0, 0x0, 0x0⟩  -- SG_FWDERR_s
  ]

/-- The VD_ registers. -/
def regsVd : List RegRow := [
  ⟨0x0, 0, 1, 0x2, 0x0, 0x1, 0x0, 0x0, 0xfffffffc, 0x0⟩,  -- VD_CTL
  ⟨0x4, 0, 1, 0x0, 0x0, 0x0, 0x0, 0x0, 0xffffc000, 0x1⟩,  -- VD_STAT
  ⟨0x8, 0, 1, 0x0, 0x1ff, 0x0, 0x0, 0x0, 0xfffffe00, 0x0⟩,  -- VD_EVT
  ⟨0x10, 0, 1, 0x0, 0x0, 0x0, 0x0, 0x0, 0x0, 0x0⟩,  -- VD_JSEQ
  ⟨0x14, 0, 1, 0x0, 0x0, 0x0, 0x0, 0x0, 0x0, 0x0⟩,  -- VD_JSEQ word 1
  ⟨0x18, 0, 1, 0x0, 0x0, 0x0, 0x0, 0x0, 0xffffc000, 0x0⟩,  -- VD_JIDX
  ⟨0x20, 0, 1, 0x0, 0x0, 0x0, 0x0, 0x0, 0x0, 0x0⟩,  -- VD_NACC
  ⟨0x24, 0, 1, 0x0, 0x0, 0x0, 0x0, 0x0, 0x0, 0x0⟩,  -- VD_NACC word 1
  ⟨0x28, 0, 1, 0x0, 0x0, 0x0, 0x0, 0x0, 0x0, 0x0⟩,  -- VD_NDBT
  ⟨0x2c, 0, 1, 0x0, 0x0, 0x0, 0x0, 0x0, 0x0, 0x0⟩,  -- VD_NDBT word 1
  ⟨0x30, 0, 1, 0x0, 0x0, 0x0, 0x0, 0x0, 0x0, 0x0⟩,  -- VD_NREJ
  ⟨0x34, 0, 1, 0x0, 0x0, 0x0, 0x0, 0x0, 0x0, 0x0⟩,  -- VD_NREJ word 1
  ⟨0x38, 0, 1, 0x0, 0x0, 0x0, 0x0, 0x0, 0x0, 0x0⟩,  -- VD_NABS
  ⟨0x3c, 0, 1, 0x0, 0x0, 0x0, 0x0, 0x0, 0x0, 0x0⟩,  -- VD_NABS word 1
  ⟨0x40, 0, 1, 0x0, 0x0, 0x0, 0x0, 0x0, 0x0, 0x0⟩,  -- VD_NCOR
  ⟨0x44, 0, 1, 0x0, 0x0, 0x0, 0x0, 0x0, 0x0, 0x0⟩,  -- VD_NCOR word 1
  ⟨0x48, 0, 1, 0x0, 0x0, 0x0, 0x0, 0x0, 0x0, 0x0⟩,  -- VD_NLATE
  ⟨0x4c, 0, 1, 0x0, 0x0, 0x0, 0x0, 0x0, 0x0, 0x0⟩,  -- VD_NLATE word 1
  ⟨0x50, 0, 1, 0x0, 0x0, 0x0, 0xffffffff, 0x0, 0x0, 0x0⟩,  -- VD_P0MAX
  ⟨0x60, 4, 4, 0x0, 0x0, 0x0, 0x0, 0x0, 0x0, 0x0⟩,  -- VD_SST0–VD_SST3
  ⟨0x100, 4, 64, 0x0, 0x0, 0x0, 0x0, 0x0, 0xe0000000, 0x0⟩,  -- VD_PIPS
  ⟨0x200, 4, 64, 0x0, 0x0, 0x0, 0x0, 0x0, 0xfffffe00, 0x0⟩,  -- VD_SINFO
  ⟨0x300, 8, 4, 0x0, 0x0, 0x0, 0x0, 0x0, 0xfff00000, 0xff000⟩,  -- VD_DIS0–VD_DIS3
  ⟨0x304, 8, 4, 0x0, 0x0, 0x0, 0x0, 0x0, 0x0, 0x0⟩  -- VD_DIS0–VD_DIS3 word 1
  ]

/-- The PL_ registers. -/
def regsPl : List RegRow := [
  ⟨0x0, 0, 1, 0x2, 0x0, 0x1, 0x0, 0x0, 0xfffffffc, 0x0⟩,  -- PL_CTL
  ⟨0x4, 0, 1, 0x0, 0x0, 0x0, 0x0, 0x0, 0xff00fe00, 0x0⟩,  -- PL_STAT
  ⟨0x8, 0, 1, 0x0, 0x3f, 0x0, 0x0, 0x0, 0xffffffc0, 0x0⟩,  -- PL_EVT
  ⟨0x10, 0, 1, 0x0, 0x0, 0x0, 0x0, 0x0, 0x0, 0x0⟩,  -- PL_RUNID
  ⟨0x14, 0, 1, 0x0, 0x0, 0x0, 0x0, 0x0, 0x0, 0x0⟩,  -- PL_RUNID word 1
  ⟨0x18, 0, 1, 0x0, 0x0, 0x0, 0x0, 0x0, 0x0, 0x0⟩,  -- PL_STGID
  ⟨0x1c, 0, 1, 0x0, 0x0, 0x0, 0x0, 0x0, 0x0, 0x0⟩,  -- PL_STGID word 1
  ⟨0x20, 0, 1, 0x0, 0x0, 0x0, 0x0, 0x0, 0x0, 0x0⟩,  -- PL_IFV
  ⟨0x24, 0, 1, 0x0, 0x0, 0x0, 0x0, 0x0, 0x0, 0x0⟩,  -- PL_RRANGE
  ⟨0x28, 0, 1, 0x0, 0x0, 0x0, 0x0, 0x0, 0x0, 0x0⟩,  -- PL_RRANGE word 1
  ⟨0x2c, 0, 1, 0x0, 0x0, 0x0, 0x0, 0x0, 0x0, 0x0⟩,  -- PL_PRANGE
  ⟨0x30, 0, 1, 0x0, 0x0, 0x0, 0x0, 0x0, 0x0, 0x0⟩,  -- PL_PRANGE word 1
  ⟨0x34, 0, 1, 0x0, 0x0, 0x0, 0x0, 0x0, 0xffe00000, 0x0⟩,  -- PL_PROG
  ⟨0x38, 0, 1, 0x0, 0x0, 0x0, 0x0, 0x0, 0xfffff800, 0x7ff⟩,  -- PL_RDETAIL
  ⟨0x3c, 0, 1, 0x0, 0x0, 0x0, 0x0, 0x0, 0x0, 0x0⟩,  -- PL_RDETAIL word 1
  ⟨0x40, 0, 1, 0x0, 0x0, 0x0, 0x0, 0x0, 0xfff00000, 0x0⟩,  -- PL_TPLACE
  ⟨0x44, 0, 1, 0x0, 0x0, 0x0, 0x0, 0x0, 0xffff0000, 0x0⟩,  -- PL_BLKLAST
  ⟨0x48, 0, 1, 0x0, 0x0, 0x0, 0xffff, 0x0, 0xffff0000, 0x0⟩,  -- PL_BLKMAX
  ⟨0x4c, 0, 1, 0x0, 0x0, 0x0, 0x0, 0x0, 0xc0000000, 0x0⟩,  -- PL_HPER
  ⟨0x50, 0, 1, 0x0, 0x0, 0x0, 0x0, 0x0, 0x80800000, 0x0⟩  -- PL_NT
  ]

/-- The ST_ registers. -/
def regsSt : List RegRow := [
  ⟨0x0, 0, 1, 0x2, 0x0, 0x1, 0x0, 0x0, 0xfffffffc, 0x0⟩,  -- ST_CTL
  ⟨0x4, 0, 1, 0x0, 0x0, 0x0, 0x0, 0x0, 0xffffff00, 0x0⟩,  -- ST_STAT
  ⟨0x8, 0, 1, 0x0, 0x7f, 0x0, 0x0, 0x0, 0xffffff80, 0x0⟩,  -- ST_EVT
  ⟨0x10, 0, 1, 0x0, 0x0, 0x0, 0x0, 0x0, 0x0, 0x0⟩,  -- ST_SEQ
  ⟨0x20, 4, 3, 0x0, 0x0, 0x0, 0x0, 0x0, 0xffff00f0, 0x0⟩,  -- ST_IMG_k
  ⟨0x30, 0, 1, 0x0, 0x0, 0x0, 0x0, 0x0, 0xffffff80, 0x0⟩,  -- ST_MARKS
  ⟨0x34, 0, 1, 0x0, 0x0, 0x0, 0x0, 0x0, 0xffff0000, 0x0⟩,  -- ST_PLANBANK
  ⟨0x38, 0, 1, 0x0, 0x0, 0x0, 0x0, 0x0, 0xfff08080, 0x0⟩,  -- ST_FUSE
  ⟨0x3c, 0, 1, 0x0, 0x0, 0x0, 0x0, 0x0, 0x0, 0x0⟩,  -- ST_LASTERR
  ⟨0x40, 0, 1, 0x0, 0x0, 0x0, 0x0, 0x0, 0xffff0000, 0x0⟩  -- ST_PROG
  ]

/-- The KV_ registers. -/
def regsKv : List RegRow := [
  ⟨0x0, 0, 1, 0x2, 0x0, 0x1, 0x0, 0x0, 0xfffffffc, 0x0⟩,  -- KV_CTL
  ⟨0x4, 0, 1, 0x0, 0x0, 0x0, 0x0, 0x0, 0xffffff00, 0x0⟩,  -- KV_STAT
  ⟨0x8, 0, 1, 0x0, 0x1f, 0x0, 0x0, 0x0, 0xffffffe0, 0x0⟩,  -- KV_EVT
  ⟨0xc, 0, 1, 0x0, 0x0, 0x0, 0x0, 0x0, 0xfffff000, 0x0⟩,  -- KV_TAMPER
  ⟨0x10, 0, 1, 0x0, 0x0, 0x0, 0x0, 0x0, 0x0, 0x0⟩,  -- KV_TCNT
  ⟨0x18, 0, 1, 0x0, 0x0, 0x0, 0x0, 0x0, 0x0, 0x0⟩,  -- KV_UID
  ⟨0x1c, 0, 1, 0x0, 0x0, 0x0, 0x0, 0x0, 0x0, 0x0⟩,  -- KV_UID word 1
  ⟨0x20, 0, 1, 0x0, 0x0, 0x0, 0x0, 0x0, 0x0, 0x0⟩,  -- KV_UID word 2
  ⟨0x24, 0, 1, 0x0, 0x0, 0x0, 0x0, 0x0, 0x0, 0x0⟩,  -- KV_UID word 3
  ⟨0x30, 0, 1, 0xffffffff, 0x0, 0x0, 0x0, 0x0, 0x0, 0x0⟩,  -- KV_ATTN
  ⟨0x34, 0, 1, 0xffffffff, 0x0, 0x0, 0x0, 0x0, 0x0, 0x0⟩,  -- KV_ATTN word 1
  ⟨0x38, 0, 1, 0x0, 0x0, 0x0, 0x0, 0x0, 0x0, 0x0⟩,  -- KV_ATTAO
  ⟨0x3c, 0, 1, 0x0, 0x0, 0x0, 0x0, 0x0, 0x0, 0x0⟩,  -- KV_ATTAO word 1
  ⟨0x100, 4, 24, 0x0, 0x0, 0x0, 0x0, 0x0, 0x0, 0x0⟩,  -- KV_IDPUB
  ⟨0x180, 4, 24, 0x0, 0x0, 0x0, 0x0, 0x0, 0x0, 0x0⟩,  -- KV_IMPPUB
  ⟨0x200, 4, 24, 0x0, 0x0, 0x0, 0x0, 0x0, 0x0, 0x0⟩  -- KV_ATTS
  ]

/-- The DB_ registers. -/
def regsDb : List RegRow := [
  ⟨0x0, 0, 1, 0x3, 0x0, 0x0, 0x0, 0x0, 0xfffffffc, 0x0⟩,  -- DB_CTL
  ⟨0x4, 0, 1, 0x0, 0x0, 0x0, 0x0, 0x0, 0xffffffc0, 0x0⟩,  -- DB_STAT
  ⟨0x8, 0, 1, 0x0, 0xf, 0x0, 0x0, 0x0, 0xfffffff0, 0x0⟩,  -- DB_EVT
  ⟨0x10, 0, 1, 0x0, 0x0, 0x0, 0x0, 0x0, 0x0, 0x0⟩,  -- DB_CHAL
  ⟨0x14, 0, 1, 0x0, 0x0, 0x0, 0x0, 0x0, 0x0, 0x0⟩,  -- DB_CHAL word 1
  ⟨0x18, 0, 1, 0x0, 0x0, 0x1, 0x0, 0x0, 0xfffffffe, 0x0⟩,  -- DB_CHAL word 2
  ⟨0x20, 0, 1, 0x0, 0x0, 0xffffffff, 0x0, 0x0, 0x0, 0x0⟩,  -- DB_AUTH
  ⟨0x24, 0, 1, 0x0, 0x0, 0xffffffff, 0x0, 0x0, 0x0, 0x0⟩,  -- DB_AUTH word 1
  ⟨0x28, 0, 1, 0x0, 0x0, 0xffffffff, 0x0, 0x0, 0x0, 0x0⟩,  -- DB_AUTH word 2
  ⟨0x2c, 0, 1, 0x0, 0x0, 0xffffffff, 0x0, 0x0, 0x0, 0x0⟩,  -- DB_AUTH word 3
  ⟨0x30, 0, 1, 0x0, 0x0, 0xffffffff, 0x0, 0x0, 0x0, 0x0⟩,  -- DB_AUTH word 4
  ⟨0x34, 0, 1, 0x0, 0x0, 0xffffffff, 0x0, 0x0, 0x0, 0x0⟩,  -- DB_AUTH word 5
  ⟨0x38, 0, 1, 0x0, 0x0, 0xffffffff, 0x0, 0x0, 0x0, 0x0⟩,  -- DB_AUTH word 6
  ⟨0x3c, 0, 1, 0x0, 0x0, 0xffffffff, 0x0, 0x0, 0x0, 0x0⟩,  -- DB_AUTH word 7
  ⟨0x40, 0, 1, 0x8, 0x0, 0x17, 0x0, 0x0, 0xffffff80, 0x0⟩,  -- DB_REEVE
  ⟨0x80, 0, 1, 0x3fffff, 0x0, 0x0, 0x0, 0x0, 0xffc00000, 0x0⟩,  -- DB_TR_CFG
  ⟨0x84, 0, 1, 0x0, 0x0, 0x0, 0x0, 0x0, 0x0, 0x0⟩,  -- DB_TR_STAT
  ⟨0x1000, 16, 256, 0x0, 0x0, 0x0, 0x0, 0x0, 0x0, 0x0⟩,  -- DB_TR_BUF
  ⟨0x1004, 16, 256, 0x0, 0x0, 0x0, 0x0, 0x0, 0x0, 0x0⟩,  -- DB_TR_BUF word 1
  ⟨0x1008, 16, 256, 0x0, 0x0, 0x0, 0x0, 0x0, 0x0, 0x0⟩,  -- DB_TR_BUF word 2
  ⟨0x100c, 16, 256, 0x0, 0x0, 0x0, 0x0, 0x0, 0x0, 0x0⟩  -- DB_TR_BUF word 3
  ]

/-- The TW_ registers. -/
def regsTw : List RegRow := [
  ⟨0x0, 0, 1, 0x0, 0x0, 0x0, 0x0, 0x0, 0xfc000000, 0x0⟩,  -- TW_ID
  ⟨0x4, 0, 1, 0x0, 0x0, 0x0, 0x0, 0x0, 0xf0000008, 0xfff0⟩,  -- TW_ROLE
  ⟨0x8, 0, 1, 0x2, 0x0, 0x1, 0x0, 0x0, 0xfffffffc, 0x0⟩,  -- TW_CTL
  ⟨0xc, 0, 1, 0x0, 0x0, 0x0, 0x0, 0x0, 0xffff0000, 0x2⟩,  -- TW_STAT
  ⟨0x10, 0, 1, 0x0, 0x3ff, 0x0, 0x0, 0x0, 0xfffffc00, 0x0⟩,  -- TW_EVT
  ⟨0x18, 0, 1, 0x0, 0x0, 0x0, 0x0, 0x0, 0x0, 0x0⟩,  -- TW_ECCC
  ⟨0x1c, 0, 1, 0x0, 0x0, 0x0, 0x0, 0x0, 0x0, 0x0⟩,  -- TW_ECCC word 1
  ⟨0x20, 0, 1, 0x0, 0x0, 0x0, 0x0, 0x0, 0x0, 0x0⟩,  -- TW_STPASS
  ⟨0x24, 0, 1, 0x0, 0x0, 0x0, 0x0, 0x0, 0x0, 0x0⟩,  -- TW_STPASS word 1
  ⟨0x28, 0, 1, 0x0, 0x0, 0x0, 0x0, 0x0, 0x0, 0x0⟩,  -- TW_STLAST
  ⟨0x2c, 0, 1, 0x0, 0x0, 0x0, 0x0, 0x0, 0x0, 0x0⟩,  -- TW_STLAST word 1
  ⟨0x30, 0, 1, 0x0, 0x0, 0x0, 0x0, 0x0, 0xffffe000, 0x0⟩,  -- TW_SCRUB
  ⟨0x40, 0, 1, 0x0, 0x0, 0x0, 0x0, 0x0, 0x0, 0x0⟩,  -- TW_RUN
  ⟨0x44, 0, 1, 0x0, 0x0, 0x0, 0x0, 0x0, 0xffff0000, 0x0⟩,  -- TW_RUN word 1
  ⟨0x48, 0, 1, 0x0, 0x0, 0x0, 0x0, 0x0, 0x0, 0x0⟩,  -- TW_HALT
  ⟨0x4c, 0, 1, 0x0, 0x0, 0x0, 0x0, 0x0, 0xffff0000, 0x0⟩,  -- TW_HALT word 1
  ⟨0x50, 0, 1, 0x0, 0x0, 0x0, 0xffff, 0x0, 0xf0000000, 0x0⟩,  -- TW_OVR
  ⟨0x60, 0, 1, 0x0, 0x0, 0x0, 0x0, 0x0, 0x0, 0x0⟩,  -- TW_ILLW
  ⟨0x64, 0, 1, 0x0, 0x0, 0x0, 0x0, 0x0, 0x0, 0x0⟩,  -- TW_ILLW word 1
  ⟨0x68, 0, 1, 0x0, 0x0, 0x0, 0x0, 0x0, 0xf8000000, 0x0⟩,  -- TW_ILLI
  ⟨0x100, 8, 48, 0x0, 0x0, 0x0, 0x0, 0x0, 0xf80000, 0x0⟩,  -- TW_CTX_n
  ⟨0x104, 8, 48, 0x0, 0x0, 0x0, 0x0, 0x0, 0xfffff000, 0x0⟩,  -- TW_CTX_n word 1
  ⟨0x400, 4, 12, 0x0, 0x0, 0x0, 0x0, 0x0, 0x0, 0xffffffff⟩  -- TW_WHEEL0–TW_WHEEL11
  ]

/-- The BAR0 function page: FN_, mailbox, doorbell, ring doorbell and tally registers. -/
def regsFn : List RegRow := [
  ⟨0x0, 0, 1, 0x0, 0x0, 0x0, 0x0, 0x0, 0xffffff80, 0x0⟩,  -- FN_ID
  ⟨0x4, 0, 1, 0x0, 0x0, 0x0, 0x0, 0x0, 0xfffe0000, 0x1⟩,  -- FN_STAT
  ⟨0x8, 0, 1, 0x0, 0x0, 0x0, 0x0, 0x0, 0x0, 0x0⟩,  -- FN_ABI
  ⟨0xc, 0, 1, 0xffffffff, 0x0, 0x0, 0x0, 0x0, 0x0, 0x0⟩,  -- FN_DRV
  ⟨0x10, 0, 1, 0x0, 0xf, 0x0, 0x0, 0x0, 0xfffffff0, 0x0⟩,  -- FN_EVT
  ⟨0x18, 0, 1, 0x0, 0x0, 0x0, 0x0, 0x0, 0x0, 0x0⟩,  -- FN_EVOK
  ⟨0x1c, 0, 1, 0x0, 0x0, 0x0, 0x0, 0x0, 0x0, 0x0⟩,  -- FN_EVOK word 1
  ⟨0x20, 0, 1, 0x0, 0x0, 0x0, 0x0, 0x0, 0x0, 0x0⟩,  -- FN_EVHCRC
  ⟨0x24, 0, 1, 0x0, 0x0, 0x0, 0x0, 0x0, 0x0, 0x0⟩,  -- FN_EVSEQ
  ⟨0x28, 0, 1, 0x0, 0x0, 0x0, 0x0, 0x0, 0x0, 0x0⟩,  -- FN_EVFULL
  ⟨0x2c, 0, 1, 0x0, 0x0, 0x0, 0x0, 0x0, 0x0, 0x0⟩,  -- FN_EVPOIS
  ⟨0x30, 0, 1, 0x0, 0x0, 0x0, 0x0, 0x0, 0xffffff00, 0x0⟩,  -- FN_LANE
  ⟨0x1000, 4, 16, 0xffffffff, 0x0, 0x0, 0x0, 0x0, 0x0, 0x0⟩,  -- MB_OUT_DATA0–MB_OUT_DATA15
  ⟨0x1040, 0, 1, 0x7fffff00, 0x0, 0x0, 0x0, 0x0, 0x800000ff, 0x0⟩,  -- MB_OUT_DB
  ⟨0x1044, 0, 1, 0x0, 0x0, 0xffffffff, 0x0, 0x0, 0x0, 0x0⟩,  -- MB_OUT_HDR
  ⟨0x1048, 0, 1, 0x0, 0x16, 0x0, 0x0, 0x0, 0xffff00e0, 0x0⟩,  -- MB_OUT_STAT
  ⟨0x1080, 4, 16, 0x0, 0x0, 0x0, 0x0, 0x0, 0x0, 0x0⟩,  -- MB_IN_DATA0–MB_IN_DATA15
  ⟨0x10c0, 0, 1, 0x0, 0x0, 0x0, 0x0, 0x0, 0x0, 0x0⟩,  -- MB_IN_HDR
  ⟨0x10c4, 0, 1, 0x0, 0x0, 0x0, 0xffffffff, 0x0, 0x0, 0x0⟩,  -- MB_IN_TAKE
  ⟨0x10c8, 0, 1, 0x0, 0x2, 0x0, 0x0, 0x0, 0xfffffffc, 0x0⟩,  -- MB_IN_STAT
  ⟨0x10d0, 0, 1, 0x3ff, 0x0, 0x0, 0x0, 0x0, 0xfffffc00, 0xa⟩,  -- MB_TMO
  ⟨0x10d4, 0, 1, 0x3ff, 0x0, 0x0, 0x0, 0x0, 0xfffffc00, 0x32⟩,  -- MB_XTIME
  ⟨0x10d8, 0, 1, 0x0, 0x0, 0x0, 0x0, 0x0, 0x0, 0x0⟩,  -- MB_CNT
  ⟨0x1800, 4, 16, 0xffffffff, 0x0, 0x0, 0x0, 0x0, 0x0, 0x0⟩,  -- MB_OUT_DATA0–MB_OUT_DATA15
  ⟨0x1840, 0, 1, 0x7fffff00, 0x0, 0x0, 0x0, 0x0, 0x800000ff, 0x0⟩,  -- MB_OUT_DB
  ⟨0x1844, 0, 1, 0x0, 0x0, 0xffffffff, 0x0, 0x0, 0x0, 0x0⟩,  -- MB_OUT_HDR
  ⟨0x1848, 0, 1, 0x0, 0x16, 0x0, 0x0, 0x0, 0xffff00e0, 0x0⟩,  -- MB_OUT_STAT
  ⟨0x1880, 4, 16, 0x0, 0x0, 0x0, 0x0, 0x0, 0x0, 0x0⟩,  -- MB_IN_DATA0–MB_IN_DATA15
  ⟨0x18c0, 0, 1, 0x0, 0x0, 0x0, 0x0, 0x0, 0x0, 0x0⟩,  -- MB_IN_HDR
  ⟨0x18c4, 0, 1, 0x0, 0x0, 0x0, 0xffffffff, 0x0, 0x0, 0x0⟩,  -- MB_IN_TAKE
  ⟨0x18c8, 0, 1, 0x0, 0x2, 0x0, 0x0, 0x0, 0xfffffffc, 0x0⟩,  -- MB_IN_STAT
  ⟨0x18d0, 0, 1, 0x3ff, 0x0, 0x0, 0x0, 0x0, 0xfffffc00, 0xa⟩,  -- MB_TMO
  ⟨0x18d4, 0, 1, 0x3ff, 0x0, 0x0, 0x0, 0x0, 0xfffffc00, 0x32⟩,  -- MB_XTIME
  ⟨0x18d8, 0, 1, 0x0, 0x0, 0x0, 0x0, 0x0, 0x0, 0x0⟩,  -- MB_CNT
  ⟨0x2000, 0, 1, 0x0, 0xffffffff, 0x0, 0x0, 0x0, 0x0, 0x0⟩,  -- DB_STAT
  ⟨0x2004, 0, 1, 0xffffffff, 0x0, 0x0, 0x0, 0x0, 0x0, 0x800000ff⟩,  -- DB_EN
  ⟨0x3000, 16, 32, 0xfffffffc, 0x0, 0x0, 0x0, 0x0, 0x0, 0x0⟩,  -- MSI-X table
  ⟨0x3004, 16, 32, 0xffffffff, 0x0, 0x0, 0x0, 0x0, 0x0, 0x0⟩,  -- MSI-X table word 1
  ⟨0x3008, 16, 32, 0xffffffff, 0x0, 0x0, 0x0, 0x0, 0x0, 0x0⟩,  -- MSI-X table word 2
  ⟨0x300c, 16, 32, 0x1, 0x0, 0x0, 0x0, 0x0, 0x0, 0x1⟩,  -- MSI-X table word 3: vector control
  ⟨0x3800, 4, 2, 0x0, 0x0, 0x0, 0x0, 0x0, 0x0, 0x0⟩,  -- MSI-X pending bit array
  ⟨0x4000, 16, 1024, 0x0, 0x0, 0xffffffff, 0x0, 0x0, 0x0, 0x0⟩,  -- RD_PI
  ⟨0x4004, 16, 1024, 0x0, 0x0, 0xffffffff, 0x0, 0x0, 0x0, 0x0⟩,  -- RD_CI
  ⟨0x4008, 16, 1024, 0x0, 0x0, 0x0, 0x0, 0x0, 0xffc00000, 0x0⟩,  -- RD_STAT
  ⟨0x400c, 16, 1024, 0x0, 0x0, 0x0, 0x0, 0x0, 0x0, 0x0⟩,  -- RD_IDX
  ⟨0x8000, 16, 1024, 0x0, 0x0, 0x0, 0x0, 0x0, 0x0, 0x0⟩,  -- TY_VAL
  ⟨0x8004, 16, 1024, 0x0, 0x0, 0xffffffff, 0x0, 0x0, 0x0, 0x0⟩,  -- TY_ADD
  ⟨0x8008, 16, 1024, 0x0, 0x0, 0x0, 0xffffffff, 0x0, 0x0, 0x0⟩,  -- TY_TAKE
  ⟨0x800c, 16, 1024, 0x0, 0x0, 0xffffffff, 0x0, 0x0, 0x0, 0x0⟩,  -- TY_SET
  ⟨0xc000, 4, 16, 0x0, 0x0, 0x0, 0x0, 0x0, 0x0, 0x0⟩,  -- VRW_REC
  ⟨0xc040, 0, 1, 0x0, 0x0, 0x1, 0x0, 0x0, 0x0, 0x0⟩,  -- VRW_POP
  ⟨0xc044, 0, 1, 0x0, 0x0, 0x0, 0x0, 0x0, 0x0, 0x0⟩,  -- VRW_PEND
  ⟨0xc048, 0, 1, 0x0, 0x0, 0x0, 0xffffffff, 0x0, 0x0, 0x0⟩  -- VRW_LOST
  ]

end Sys2Proof.Machine
end

