-- ==== Sys2Proof/Machine/Blocks.lean ====
section
/-! DEFINITION. The state of each block of the BX960 as plain data: one structure per block, each field citing the
rule that names it. State.lean puts them together. Registers that no rule gives a meaning beyond their value (event
latches, counts, last-event records, maxima) are held in the register file instead (State.regs), one home each. -/

namespace Sys2Proof.Machine
open Sys2Proof

/-! ## Device (R28 to R39) -/

/-- The device states of R28. -/
inductive DevState where
  | cold | boot | planLoad | run | degraded | safeHold | mismatchHold | alarm
  deriving DecidableEq, Repr

/-- The encoding of R28. -/
def DevState.code : DevState → Nat
  | .cold => 0 | .boot => 1 | .planLoad => 2 | .run => 3 | .degraded => 4 | .safeHold => 5 | .mismatchHold => 6
  | .alarm => 7

/-- The degrading conditions of R32, each standing or not. -/
structure Degr where
  primaryVoter : Bool
  coreFailed : Bool
  untestedPair : Bool
  tileNoSpare : Bool
  banks : BitVec 16
  ports : BitVec 4
  deriving DecidableEq, Repr

/-- No degrading condition stands. -/
def Degr.none : Degr :=
  { primaryVoter := false, coreFailed := false, untestedPair := false, tileNoSpare := false, banks := 0, ports := 0 }

/-- Some degrading condition stands. -/
def Degr.any (d : Degr) : Bool :=
  d.primaryVoter || d.coreFailed || d.untestedPair || d.tileNoSpare || d.banks != 0 || d.ports != 0

/-- The device: its state, straps, reset pins and supplies. -/
structure Dev where
  state : DevState
  /-- PLAN_LOAD is a plan switch blackout and not a first load (R28, R30). -/
  blackout : Bool
  /-- The source that moved the device to SAFE_HOLD (R557 CAUSE), where one did. -/
  holdSrc : Option Nat
  degr : Degr
  /-- AO count from which the degraded-operation count runs (R33 to R35). -/
  degrStart : Option Nat
  /-- MODE_SPLIT as sampled (R4, R688). -/
  split : Bool
  /-- BENCH as sampled (R688). -/
  bench : Bool
  /-- PORST_N is high (R628). -/
  porstN : Bool
  /-- PERST_N is high. -/
  perstN : Bool
  /-- Rails in their reset band (R623). -/
  railReset : BitVec 7
  /-- Rails beyond their warning band (R623). -/
  railWarn : BitVec 7
  /-- The device reached PLAN_LOAD, RUN or DEGRADED in this boot and neither MISMATCH_HOLD nor SAFE_HOLD (R651). -/
  bootHealthy : Bool
  /-- The porter runs: released from reset with a valid image (R485, R646). -/
  porterUp : Bool
  /-- Answers the porter holds until its inbox is free, oldest first: function and message (R451). -/
  porterQ : List (Nat × BitVec 512 × Nat × Nat)
  /-- A firmware activation awaits its reboot (R650). -/
  rebootDue : Bool
  /-- A chip reset requested and not yet carried out: the source of a reaction C, or none for an activation (R629). -/
  chipReq : Option (Option Nat)
  /-- AO count at which SAFE_HOLD or ALARM was entered (R36, R39). -/
  holdAt : Option Nat
  /-- What the device's parts answer to their tests. -/
  phys : Phys
  deriving DecidableEq, Repr

/-! ## Fault collector (R501 to R525) -/

/-- The source states of R507. -/
inductive SrcSt where
  | clear | active | quiet | latched
  deriving DecidableEq, Repr

/-- FC_SST_n.STATE. -/
def SrcSt.code : SrcSt → Nat
  | .clear => 0 | .active => 1 | .quiet => 2 | .latched => 3

/-- One fault source (R506, R507). -/
structure SrcState where
  st : SrcSt
  /-- Its line is asserted. -/
  asserted : Bool
  /-- Raises since reset, saturating at 65 535. -/
  occ : Nat
  /-- AO counts of its recoveries, newest first. -/
  recov : List Nat
  /-- AO count at which its quiet period began. -/
  quietAt : Nat
  /-- AO count of its last departure from CLEAR. -/
  depAo : Nat
  /-- The units raised since it last left CLEAR (R513 UNIT). -/
  units : List Nat
  deriving DecidableEq, Repr

/-- A source at reset: CLEAR. -/
def SrcState.reset : SrcState :=
  { st := .clear, asserted := false, occ := 0, recov := [], quietAt := 0, depAo := 0, units := [] }

/-- The collector. -/
structure Faults where
  src : FMap SrcState
  /-- ROM defaults in use (R503). -/
  defaults : Bool
  /-- ERR_P is driven high (R510). -/
  errP : Bool
  /-- AO count at which ERR_P's 10 us minimum ends. -/
  errPMin : Nat
  /-- AO count until which ERR_P stays low after a fall. -/
  errPLow : Nat
  /-- A RELEASE waits for the minimum's end (R511). -/
  errPRel : Bool
  /-- A raise waits for the end of the low time (R510). -/
  errPRaise : Bool
  /-- The injection armed: target, mode, unit (R514), and whether FC_INJ armed it. -/
  injTarget : BitVec 8
  injMode : BitVec 2
  injUnit : BitVec 16
  injReg : Bool
  /-- Next source latch of the collector rotation (R521). -/
  rotSrc : Nat
  /-- Next checker of the checker rotation (R521). -/
  rotChk : Nat
  /-- Scrub positions, in 64-bit words (R521). -/
  scrubLedger : Nat
  scrubSram : Nat
  deriving DecidableEq, Repr

/-! ## Reeve complex (R458 to R500) -/

/-- Complex modes (RV_STAT.MODE). -/
inductive CplxMode where
  | trio | pair | split
  deriving DecidableEq, Repr

/-- RV_STAT.MODE. -/
def CplxMode.code : CplxMode → Nat
  | .trio => 0 | .pair => 1 | .split => 2

/-- Core states (RV_CORES). -/
inductive CoreSt where
  | active | retiredSelftest | retiredTransient | retiredDiverge | independent | halted
  deriving DecidableEq, Repr

/-- RV_CORES.CORE_x. -/
def CoreSt.code : CoreSt → Nat
  | .active => 0 | .retiredSelftest => 1 | .retiredTransient => 2 | .retiredDiverge => 3 | .independent => 4
  | .halted => 5

/-- The reeve complex and its command interface. -/
structure Reeve where
  mode : CplxMode
  coreA : CoreSt
  coreB : CoreSt
  coreC : CoreSt
  /-- The shadow voter is in use (R463). -/
  onShadow : Bool
  shadowFail : Bool
  /-- A redundancy loss has occurred (R465). -/
  loss : Bool
  /-- A recovery pause stands since this AO count (R467), with its minority core 0 to 2. -/
  pause : Option (Nat × Nat)
  /-- The cores stay stopped until reset (R706). -/
  stopped : Bool
  /-- AO counts of each core's transients within 24 h (R469). -/
  transA : List Nat
  transB : List Nat
  transC : List Nat
  /-- The adopted vector of the agreed inputs (R474). -/
  adopted : W64
  /-- Inputs 50 and 51 as adopted at reset (R479). -/
  adoptedReset : BitVec 2
  /-- Consecutive diverging rounds, by 4 x input + core (R477). -/
  divRun : FMap Nat
  /-- The reeve runs at 50 MHz (R476). -/
  slow : Bool
  strapChg : Bool
  untested : Bool
  /-- Tested-pair source (RV_PAIRSRC.SRC). -/
  pairSrc : BitVec 2
  buildR : W32
  buildP : W32
  /-- Interface versions of the running images, as ID_FWREEVE and ID_FWPORTER show them. -/
  ifvR : W32
  ifvP : W32
  /-- The plan interface versions that the booted reeve and porter images accept, lowest and highest, and the porter's driver
  ABI majors (R484, R294, R359). -/
  rangeR : Nat × Nat
  rangeP : Nat × Nat
  abi : Nat × Nat
  /-- Safety sequence (R488). -/
  sseq : W32
  /-- The request ring 1008: waiting descriptors with the tag of their SAFE command (R486). -/
  reqRing : List (BitVec 512 × Nat)
  /-- The answer ring 1009: answers not yet taken by the porter, with the tag (R486, R491). -/
  ansRing : List (BitVec 256 × Nat)
  /-- A mailbox request waiting (R499), with its message SEQ. -/
  mbReq : Option (BitVec 512 × Nat)
  /-- Answers waiting until F00's reeve-channel inbox is free, oldest first: body, TYPE, LEN (R448). -/
  ansQ : List (BitVec 512 × Nat × Nat)
  /-- Requests taken from the request ring: its consumer index (R486, R491). -/
  ridx : Nat
  /-- The last challenge's nonce, its AO count, and whether it was issued while privilege was held (R496, R552). -/
  nonce : Option (W64 × Nat × Bool)
  privHeld : Bool
  leaseEnd : Nat
  /-- Consecutive AUTH refusals (R497). -/
  fails : Nat
  lockEnd : Option Nat
  deriving DecidableEq, Repr

/-! ## Safety I/O (R526 to R553) -/

/-- Pair states (SIO_PAIR). -/
inductive PairSt where
  | unused | release | demand | discrepant | testPending
  deriving DecidableEq, Repr

/-- SIO_PAIR.PAIR_k. -/
def PairSt.code : PairSt → Nat
  | .unused => 0 | .release => 1 | .demand => 2 | .discrepant => 3 | .testPending => 4

/-- The patterns of R528. -/
inductive Pattern where
  | release | demand | equal
  deriving DecidableEq, Repr

/-- An input pair (R530). Times are AO counts. -/
structure InPair where
  st : PairSt
  /-- The pattern adopted last, and the AO count since which it has lasted. -/
  pat : Pattern
  patAt : Nat
  /-- Since when the pattern has been other than RELEASE. -/
  nonRelAt : Nat
  /-- How long the DEMAND run before the present pattern lasted. -/
  demandRun : Nat
  /-- Since when the pair has been RELEASE (for restart mode INPUT, R537). -/
  relAt : Nat
  deriving DecidableEq, Repr

/-- A pair at reset: UNUSED. -/
def InPair.reset : InPair :=
  { st := .unused, pat := .equal, patAt := 0, nonRelAt := 0, demandRun := 0, relAt := 0 }

/-- The phases of a brake test (R544). -/
inductive BtPhase where
  | idle | apply | torque | wait
  deriving DecidableEq, Repr

/-- A channel: output pairs 0 to 7 and hold channels 8 and 9 (R535 to R546). -/
structure Chan where
  energised : Bool
  /-- AO count of its last commanded change (R541). -/
  cmdAt : Nat
  bt : BtPhase
  btStart : Nat
  /-- A brake test has failed or is overdue (R536). -/
  btBad : Bool
  btDue : Bool
  /-- AO count at which the next test falls due, where one is required (R546). -/
  btDueAt : Option Nat
  /-- AO count of the last passed test. -/
  btPassAt : Option Nat
  /-- 0 none, 1 passed, 2 failed, 3 overdue (SIO_BT_n.LAST). -/
  btLast : BitVec 2
  deriving DecidableEq, Repr

/-- A channel at reset: de-energised. -/
def Chan.reset : Chan :=
  { energised := false, cmdAt := 0, bt := .idle, btStart := 0, btBad := false, btDue := false,
    btDueAt := none, btPassAt := none, btLast := 0 }

/-- Safety I/O: pairs, channels, feedback, and the change of the configuration. -/
structure Sio where
  pairs : FMap InPair
  chans : FMap Chan
  /-- Levels of the feedback pins SF and HF: bit 2k pin A, bit 2k + 1 pin B of channel k. -/
  feedback : BitVec 20
  /-- Torque request pins BTQ0 and BTQ1. -/
  btq : BitVec 2
  /-- The active safety configuration body, where it differs from the factory body (R553, R657). -/
  body : FMap Byte
  bodyLen : Nat
  /-- Staging (R547): body and length. -/
  staging : Option (FMap Byte × Nat)
  /-- The pending salt (R547 PWD_NEWSALT). -/
  newSalt : Option (BitVec 128)
  cfgSeq : W32
  logSeq : W32
  cfgCrc : W32
  /-- A safety configuration has been taken into use since reset. -/
  inUse : Bool
  /-- Channels whose feedback stands other than commanded: 1 + the AO count since which it does (R541). -/
  fbWrong : FMap Nat
  deriving DecidableEq, Repr

/-! ## Bolrax Safe Channel (R554 to R563) -/

/-- A BSC PDU waiting on a produced connection: its bytes (R555) and the AO count of its queueing. -/
structure Pdu where
  bytes : List Byte
  queuedAt : Nat
  deriving DecidableEq, Repr

/-- A produced connection (R558 to R560). -/
structure PCon where
  /-- SEQ of the last PDU formed, and of the last one sent. -/
  seq : W32
  sentSeq : W32
  /-- PDUs formed since reset. -/
  sent : Nat
  /-- AO count of the last PDU. -/
  lastAt : Nat
  queue : List Pdu
  drop : Nat
  deriving DecidableEq, Repr

/-- A produced connection at reset. -/
def PCon.reset : PCon := { seq := 0, sentSeq := 0, sent := 0, lastAt := 0, queue := [], drop := 0 }

/-- Consumer states of R563. -/
inductive ConSt where
  | idle | run | timeout
  deriving DecidableEq, Repr

/-- SL_CCON_c.STATE. -/
def ConSt.code : ConSt → Nat
  | .idle => 0 | .run => 1 | .timeout => 2

/-- A consumed connection (R561 to R563). -/
structure CCon where
  st : ConSt
  last : W32
  permits : BitVec 16
  texp : Nat
  acceptAt : Nat
  /-- Consecutive discards for CRC or CID. -/
  badRun : Nat
  /-- PDUs accepted in TIMEOUT, each within TEXP of the one before. -/
  goodRun : Nat
  err : Nat
  dup : Nat
  tmo : Nat
  resync : Nat
  /-- 802.1CB vector recovery: highest sequence, history of 32, and the AO count of the last accepted frame (R554). -/
  rtagSeq : Option (BitVec 16)
  rtagHist : W32
  rtagAt : Nat
  deriving DecidableEq, Repr

/-- A consumed connection at reset: IDLE. -/
def CCon.reset : CCon :=
  { st := .idle, last := 0, permits := 0, texp := 0, acceptAt := 0, badRun := 0, goodRun := 0, err := 0, dup := 0,
    tmo := 0, resync := 0, rtagSeq := none, rtagHist := 0, rtagAt := 0 }

/-- The safety layer and the Ethernet ports' links. -/
structure Bsc where
  pcon : FMap PCon
  ccon : FMap CCon
  /-- Ports with link (R32). -/
  linkUp : BitVec 4
  /-- AO count since which each port has been up. -/
  upSince : FMap Nat
  /-- ETH_ECCn was raised since the port came up (R32). -/
  eccSeen : BitVec 4
  /-- The port's buffer checker passed its rotation since the port came up (R32, R521). -/
  chkPass : BitVec 4
  /-- The 802.1Qbv gate list is installed: cycle in ns and base second (R707). -/
  gate : Option (Nat × Nat)
  deriving DecidableEq, Repr

/-! ## Store and key vault (R636 to R669) -/

/-- An entry of a selector record (R642). -/
structure SelEntry where
  bank : Bool
  trial : Bool
  prev : Bool
  len : Nat
  hash : BitVec 384
  deriving DecidableEq, Repr

/-- A selector block: its record, where one is valid, and its boot marks (R642 to R644). -/
structure SelBlock where
  seq : W32
  reeve : SelEntry
  porter : SelEntry
  plan : SelEntry
  marks : Nat
  deriving DecidableEq, Repr

/-- A safety configuration record of R654 (valid, where listed). -/
structure CfgRec where
  seq : W32
  len : Nat
  logSeq : W32
  opid : W32
  time : W64
  oldCrc : W32
  kind : Byte
  body : FMap Byte
  deriving DecidableEq, Repr

/-- A change-log entry of R551. -/
structure LogEntry where
  seq : W32
  opid : W32
  time : W64
  oldCrc : W32
  newCrc : W32
  kind : Byte
  deriving DecidableEq, Repr

/-- A tile health record of R660: byte 0 and the quarantine count of each tile. -/
structure HealthRec where
  seq : W32
  health : FMap (Nat × Nat)
  deriving DecidableEq, Repr

/-- The key vault (R661 to R664). -/
structure Vault where
  idKey : Bool
  impKey : Bool
  /-- KV_STAT.PKEY: 0 none, 1 valid, 2 unwrap failed. -/
  pkey : BitVec 2
  /-- The session key (R122), where one has been drawn. -/
  session : Option (BitVec 256)
  erased : Bool
  entropyOk : Bool
  attBusy : Bool
  attDone : Bool
  /-- Assertions of each sensor since power-on, saturating (KV_TCNT). -/
  tcnt : FMap Nat
  /-- The tamper policies in force, 2 bits a sensor (R666). -/
  policy : Byte
  /-- The message of the attestation being signed (R664). -/
  attMsg : List Byte
  /-- Draws of the DRBG so far (R663). -/
  reseeds : Nat
  deriving DecidableEq, Repr

/-! ## Power manager (R607 to R635) -/

/-- Domain states (TW_STAT.PWR). -/
inductive DomSt where
  | on | gated | off
  deriving DecidableEq, Repr

/-- TW_STAT.PWR: 0b00 ON, 0b01 CLOCK_GATED, 0b10 OFF. -/
def DomSt.code : DomSt → Nat
  | .on => 0 | .gated => 1 | .off => 2

/-- The power manager. -/
structure Power where
  /-- Domains by number (R379, R608). -/
  dom : FMap DomSt
  /-- A wake in progress: AO count at which the domain is ON (R608). -/
  wake : FMap Nat
  /-- Domains their owners require (R608). -/
  req : FMap Bool
  hostless : Bool
  /-- Tokens granted to each quad in this slot (R614, R615). -/
  grant : FMap Nat
  /-- Energy accounts of the quads, in pJ x 10 (R616). -/
  account : FMap Nat
  /-- AO count up to which each quad's account has been credited. -/
  accAt : FMap Nat
  /-- Array cycles lost to droop and throttling in the present slot, and the quad that fired first (R617, PM_DROOPMAX). -/
  lostSlot : Nat
  lostQuad : Nat
  /-- Edges withheld in this slot. -/
  throttled : Bool
  /-- PLLs that have lost lock or count outside their band, by their bit of PM_PLL (R620). -/
  pllBad : W16
  deriving DecidableEq, Repr

/-! ## Verdict engine, per stream (R64 to R71) -/

/-- The underlying stream states (R68's table). -/
inductive Under where
  | trusted | watched | demoted
  deriving DecidableEq, Repr

/-- VD_SSTn code of an underlying state. -/
def Under.code : Under → Nat
  | .trusted => 0 | .watched => 1 | .demoted => 2

/-- A stream of the verdict engine. -/
structure StreamV where
  score : Nat
  run : Nat
  under : Under
  /-- Hold reasons standing (R69). -/
  hInput : Bool
  hCommand : Bool
  hStale : Bool
  hMismatch : Bool
  hSafe : Bool
  /-- The REJECT that moved the stream into DEMOTED (R76). -/
  demotedBy : Option Nat
  /-- A known-answer standing violation, and its lapse (R54, R708). -/
  kaBad : Bool
  kaLapse : Bool
  /-- Journal sequence at the last passing known-answer frame (R54). -/
  kaPassSeq : Nat
  /-- Weight regions with a mismatched digest (R54), and the lapse (R708). -/
  dgBad : List Nat
  dgLapse : Bool
  /-- Journal sequence at each region's last matching pass, by region. -/
  dgPassSeq : FMap Nat
  /-- Weight regions over which a whole pass has finished in the present digest interval. -/
  dgRegs : List Nat
  /-- A golden frame has passed in the present known-answer interval. -/
  kaPassed : Bool
  /-- The published fall-back value and the ingress AO stamp of its frame (R58). -/
  fb : Option (BitVec 96 × Nat)
  /-- The last value published under ACCEPT and its frame's ingress stamp (R137). -/
  lastAcc : Option (BitVec 96 × Nat)
  /-- The last admitted frame's number and first-byte AO stamp (R73, R88). -/
  lastFrame : Option (Nat × Nat)
  deriving DecidableEq, Repr

/-- A stream at reset: registers read 0 (VD_PIPS, VD_SINFO). -/
def StreamV.reset : StreamV :=
  { score := 0, run := 0, under := .trusted, hInput := false, hCommand := false, hStale := false, hMismatch := false,
    hSafe := false, demotedBy := none, kaBad := false, kaLapse := false, kaPassSeq := 0, dgBad := [],
    dgLapse := false, dgPassSeq := [], dgRegs := [], kaPassed := false, fb := none, lastAcc := none,
    lastFrame := none }

/-- A journal record (R86 to R91): every field of either layout; the tiles whose results a verdict was formed from,
with the AO count of each delivery, stand beside it (R78). -/
structure JRec where
  /-- 1 verdict, 2 correction, 3 HOLD, 4 disagreement close. -/
  type : Nat
  stream : Nat
  /-- The function whose stream it is (R91). -/
  fn : Nat
  code : Nat
  /-- Stream state after the update, HELD as 3. -/
  stateCode : Nat
  /-- Value source: false principal, true fall-back. -/
  src : Bool
  flags : Byte
  reason : Nat
  dstate : Nat
  hold : Nat
  pips : Nat
  seq : Nat
  frame : W32
  assays : W16
  plan : W16
  vtime : W64
  age : W32
  pval : BitVec 96
  fval : BitVec 96
  first : Nat
  last : Nat
  oldv : Nat
  kind : Nat
  tile : W16
  tiles : List (Nat × Nat)
  deriving DecidableEq, Repr

/-! ## Store (R636 to R660) -/

/-- The flash contents and the update stages. -/
structure Store where
  sel0 : Option SelBlock
  sel1 : Option SelBlock
  cfg0 : Option CfgRec
  cfg1 : Option CfgRec
  log : List LogEntry
  thr0 : Option HealthRec
  thr1 : Option HealthRec
  reeveA : Option FwImage
  reeveB : Option FwImage
  porterA : Option FwImage
  porterB : Option FwImage
  planA : Option PlanImage
  planB : Option PlanImage
  /-- The verified flags of the inactive banks: bit 0 reeve, 1 porter, 2 plan (R649). -/
  verified : BitVec 3
  /-- Length and SHA-384 recorded at the verify, by kind (R649). -/
  recorded : FMap (Nat × BitVec 384)
  /-- Update command in progress, by kind: the tag that runs it (R652 IN_PROGRESS). -/
  busy : FMap Nat
  /-- Anti-rollback fuse counts, reeve and porter (R661). -/
  svnR : Nat
  svnP : Nat
  /-- ST_STAT.DENSITY, NOSEL, THR_RESET. -/
  density : BitVec 2
  noSel : Bool
  thrReset : Bool
  /-- Boot marks are due a health write: the health record differs from flash (R660). -/
  thrDirty : Bool
  deriving DecidableEq, Repr

/-! ## Outputs -/

/-- What leaves the pins: the model's own record of outputs, newest first (log entry 8). -/
inductive OutEv where
  /-- An MSI-X vector of a function is signalled (R373). -/
  | msix (fn vec : Nat)
  /-- A write into host memory: function, address, bytes. -/
  | dma (fn : Nat) (addr : W64) (data : List Byte)
  /-- A BSC PDU on a port: connection, port, PDU bytes (R555). -/
  | bsc (con port : Nat) (data : List Byte)
  /-- An ARP reply on a port for an address (R554). -/
  | arp (port : Nat) (ip : W32)
  /-- A mailbox or register read's returned value. -/
  | readData (addr : Nat) (v : W32)
  /-- A read of the ledger aperture: ledger address, bytes, poisoned (R367). -/
  | ledgerData (addr : Nat) (data : List Byte) (poison : Bool)
  /-- A read of host memory by a mover: stream or region, address, length. -/
  | dmaRead (addr : W64) (len : Nat)
  /-- A PTP frame or other port transmission stamped (R592). -/
  | ptpTx (port : Nat) (sec ns : Nat)
  /-- A link-layer answer to a configuration request: true successful, false Retry Status (R387). -/
  | cfgAnswer (fn : Nat) (ok : Bool)
  /-- A debug link answer of 72 bits (R671). -/
  | debug (v : BitVec 72)
  deriving DecidableEq, Repr

/-! ## Host link (R355 to R388) -/

/-- Lane states (FN_LANE). -/
inductive LaneSt where
  | idle | opened | skip
  deriving DecidableEq, Repr

/-- An evidence lane (R368). -/
structure Lane where
  st : LaneSt
  /-- The bytes of the record in progress; its expected offset is their number. -/
  bytes : List Byte
  deriving DecidableEq, Repr

/-- A lane at reset. -/
def Lane.reset : Lane := { st := .idle, bytes := [] }

/-- An open DX pair (R381): offset, value, initiator number and class, AO count. -/
structure DxOpen where
  off : Nat
  val : W32
  who : Nat
  at_ : Nat
  deriving DecidableEq, Repr

/-- The host link and the register access state. -/
structure HostLink where
  dlUp : Bool
  speed : BitVec 3
  width : BitVec 5
  /-- Domains 0x45 and 0x46 are powered (ID_LINK.PWR, R386). -/
  powered : Bool
  /-- AO count of the last link-down, while the link is down (R386). -/
  downAt : Option Nat
  /-- The link went down since it last trained (ID_LINKEVT.LINKUP). -/
  wasDown : Bool
  /-- The porter serves configuration space (R387). -/
  serves : Bool
  vfEnable : Bool
  numVfs : Nat
  /-- Evidence lanes, by 4 x function + lane. -/
  lanes : FMap Lane
  /-- Per-vector mask bits, by 32 x function + vector (R373). -/
  vmask : FMap Bool
  /-- The Function Masks. -/
  fmask : FMap Bool
  /-- Pending bits (R374). -/
  vpend : FMap Bool
  /-- Function Level Resets in progress (FN_STAT.FLR_BUSY). -/
  flr : FMap Bool
  /-- High-word latches of R383, by class x 2^40 + address. -/
  latches : FMap (Option W32)
  /-- Open DX pairs, by block number. -/
  dx : FMap (Option DxOpen)
  /-- Register snapshots of the blocks whose VIEW is 1 (SNAP), by address. -/
  snap : FMap W32
  deriving DecidableEq, Repr

end Sys2Proof.Machine
end

