-- ==== Sys2Proof/Machine/Engines.lean ====
section
/-! DEFINITION. The state of the checked domain as plain data: assay tiles and mesh, frames and their evidence, the
disagreement procedures, the plan loader and the stream gate. -/

namespace Sys2Proof.Machine
open Sys2Proof

/-! ## Tiles (R148 to R198) -/

/-- Tile roles (TW_ROLE.ROLE). -/
inductive Role where
  | spare | plan | reserve | deepTest | quarantined | failed | failedRouter
  deriving DecidableEq, Repr

/-- TW_ROLE.ROLE. -/
def Role.code : Role → Nat
  | .spare => 0 | .plan => 1 | .reserve => 2 | .deepTest => 3 | .quarantined => 4 | .failed => 5 | .failedRouter => 6

/-- Context states (R162). -/
inductive CtxState where
  | idle | run | waitSlot | waitArr | halted
  deriving DecidableEq, Repr

/-- TW_CTX_n.STATE. -/
def CtxState.code : CtxState → Nat
  | .idle => 0 | .run => 1 | .waitSlot => 2 | .waitArr => 3 | .halted => 4

/-- A thread context: S0 to S15 under keys 0 to 15, A0 to A3 under 16 to 19 (R247). -/
structure CtxSt where
  st : CtxState
  /-- Halted by quarantine, until the next plan start (R162). -/
  haltQ : Bool
  pc : Nat
  regs : FMap W32
  z : Bool
  n : Bool
  c : Bool
  v : Bool
  /-- Sticky flags OV, SAT, DZ, CVT, SPILL, NAN, DUST, BND (R228). -/
  flags : Byte
  /-- The arrival counter and count awaited (R251). -/
  await : Option (Nat × W32)
  /-- Registers computed from poisoned data (R158, R171), by register key. -/
  poison : BitVec 20
  deriving DecidableEq, Repr

/-- A context at reset: IDLE. -/
def CtxSt.reset : CtxSt :=
  { st := .idle, haltQ := false, pc := 0, regs := [], z := false, n := false, c := false, v := false, flags := 0,
    await := none, poison := 0 }

/-- A twin accumulator (R205 to R215): the exact window, the magnitude accumulator and the flags. -/
structure Twin where
  value : Int
  anchor : Int
  magM : Nat
  magE : Int
  dust : Nat
  count : Nat
  spill : Bool
  nan : Bool
  poison : Bool
  deriving DecidableEq, Repr

/-- A twin cleared with anchor 0 (R247). -/
def Twin.reset : Twin :=
  { value := 0, anchor := 0, magM := 0, magE := 0, dust := 0, count := 0, spill := false, nan := false,
    poison := false }

/-- A tile. -/
structure TileSt where
  role : Role
  logical : Option Nat
  qcount : Nat
  qcause : Nat
  ctxs : FMap CtxSt
  twins : FMap Twin
  /-- Stage rows, by 8 x stage + row, as 64 B little-endian numbers. -/
  stages : FMap (BitVec 512)
  stagePoison : BitVec 16
  /-- SRAM by byte address 0 to 0x5_FFFF. -/
  sram : FMap Byte
  /-- 64-bit words marked poisoned, by word index. -/
  sramPoison : FMap Bool
  /-- 64-bit words stored with inverted check bits (R514): 1 one bit, 2 two bits or parity, by word index. -/
  plant : FMap Nat
  counters : FMap W32
  /-- Receive ring write pointers in words, by counter. -/
  wptr : FMap Nat
  /-- Next resident step (TW_STAT.ST_STEP), and whether a requested pass waits for or runs from step 0 (R184). -/
  stStep : Nat
  stReq : Bool
  /-- A resident pass is in progress (TW_STAT.ST_BUSY). -/
  stBusy : Bool
  /-- Next scrub word row (TW_SCRUB). -/
  scrub : Nat
  /-- AO count at the end of the last deep test; the tile entered the present one from QUARANTINED. -/
  dtLast : Nat
  dtFromQ : Bool
  /-- Assay results of the tile with a failed CRC in this hyperperiod (R190 RESULT_CRC). -/
  crcFails : Nat
  /-- Results posted in the present slot: context, stream, kind, layer (R197). -/
  posted : List (Nat × Nat × Nat × Nat)
  /-- A window violation marked these owed results of the slot INCONCLUSIVE: contexts (R159). -/
  boundsCtx : List Nat
  /-- AO count of the last passed resident pass since the plan started (R78). -/
  passAt : Option Nat
  deriving DecidableEq, Repr

/-- A tile at reset. -/
def TileSt.reset : TileSt :=
  { role := .spare, logical := none, qcount := 0, qcause := 0, ctxs := [], twins := [], stages := [], stagePoison := 0,
    sram := [], sramPoison := [], plant := [], counters := [], wptr := [], stStep := 0, stReq := false, stBusy := false, scrub := 0,
    dtLast := 0, dtFromQ := false, crcFails := 0, posted := [], boundsCtx := [], passAt := none }

/-- A flit on its way (R168). -/
structure Flit where
  route : Nat
  data : BitVec 512
  poison : Bool
  deriving DecidableEq, Repr

/-! ## Frames (R43 to R63, R325 to R353) -/

/-- The state of an admitted or golden frame. Outcome codes: 0 NOT_RUN, 1 PASS, 2 INCONCLUSIVE, 3 VIOLATED. -/
structure Frame where
  stream : Nat
  /-- Frame number of an admitted frame; for a golden one 8 x its extended forward number + the golden frame's index. -/
  num : Nat
  golden : Bool
  fwd : Option Nat
  /-- First-byte AO stamp, last-byte AO stamp and first-byte device time (seconds, ns) (R333). -/
  ingressAo : Nat
  closeAo : Nat
  devSec : Nat
  devNs : Nat
  isOpen : Bool
  /-- Lines written, by line. -/
  lines : FMap (List Byte)
  /-- Lines written of a CSI-2 frame so far, or the lines of BSF covered. -/
  nLines : Nat
  taints : List Nat
  tainted : Bool
  buffers : List Nat
  mirror : List Nat
  malformed : Bool
  bankFailed : Bool
  overrun : Bool
  result : Option (BitVec 96)
  resultAo : Nat
  row : Nat
  reexec : Nat
  canary : Nat
  env : Nat
  rows : Nat
  /-- The CANARY record received (R106). -/
  canaryRec : Option (List Byte)
  /-- The counted RESULT record (R107, R111); empty before it. -/
  resultRec : List Byte
  /-- Outputs of the two groups of a dual fall-back run, as they arrive (R61). -/
  fbA : Option (BitVec 96)
  fbB : Option (BitVec 96)
  /-- The verdict is formed: code and journal sequence number. -/
  formed : Option (Nat × Nat)
  /-- A late violation has been corrected (R53). -/
  lateDone : Bool
  /-- Tiles that delivered results for it, with the AO count (R78). -/
  tiles : List (Nat × Nat)
  /-- Tiles by assay kind of R276 that reported for it. -/
  ktiles : List (Nat × Nat)
  /-- The violated results: kind, tile, layer and the record's computed fields (R82). -/
  viol : List (Nat × Nat × Nat × List Byte)
  /-- AO count at which its evidence was delivered to the tiles (R96), the commit's AO (P0 interval) and principal
  response. -/
  deliveredAo : Option Nat
  /-- AO count at which the evidence retention ends for a REJECT (R709). -/
  keepUntil : Option Nat
  /-- A forward in progress: the ring, and the write-back address and bytes of the descriptor taken (R345, R403). -/
  dest : Option (Nat × Nat × List Byte)
  /-- Its last packet was accepted; CSI-2 lines received. -/
  gotLast : Bool
  /-- 0 free list, 1 ingress, 2 forward, 3 assay, 4 journal (R353). -/
  owner : Nat
  deriving DecidableEq, Repr

/-- A commit held in the ledger (R110 to R121). -/
structure Commit where
  stream : Nat
  fwd : Nat
  layer : Nat
  cmt : W64
  kind : Nat
  count : Nat
  fmt : Nat
  /-- The payload as committed. -/
  payload : List Byte
  /-- AO count of its completion. -/
  at_ : Nat
  /-- The drawn indices; none where COUNT = 0. -/
  idx : List Nat
  /-- 1 queued, 2 issued, 3 answered, 4 past its deadline, 5 no reveal (COUNT = 0), 6 no reveal could leave (R416). -/
  st : Nat
  issuedAo : Nat
  /-- Entries answered so far (R105). -/
  answered : Nat
  /-- The payloads of its SAMPLE records, in order (R104, R105). -/
  samples : List Byte
  /-- The layer's outcome from its result record: 0 none. -/
  outcome : Nat
  rows : Nat
  equivocated : Bool
  /-- The re-reveal of R121: its indices, state (0 none, 2 issued, 3 answered, 4 past) and answered count. -/
  reIdx : List Nat
  reSt : Nat
  reAo : Nat
  reAns : Nat
  deriving DecidableEq, Repr

/-- A reveal waiting to leave: the first 256 are the queue, the others wait for an entry (R117, R118). -/
structure Reveal where
  stream : Nat
  fwd : Nat
  layer : Nat
  round : Nat
  p0 : Bool
  /-- AO count of its request. -/
  at_ : Nat
  deriving DecidableEq, Repr

/-- A disagreement procedure slot (R79 to R83). -/
structure DisSlot where
  busy : Bool
  stream : Nat
  jseq : Nat
  fwd : Nat
  layer : Nat
  /-- Deciding assay: 0 row-checksum, 1 re-execution, 2 canary, 3 envelope. -/
  assay : Nat
  origTiles : List Nat
  /-- Original tiles whose requested pass is still to end. -/
  stLeft : List Nat
  failed : List Nat
  repeatDone : Bool
  repeatSame : Bool
  freshDone : Bool
  /-- The fresh check: 0 not applicable, 1 passed or inconclusive or not answered, 3 violated. -/
  fresh : Nat
  stDone : Bool
  /-- Original record compared by the repeat check (OUTCOME, ROWS, DUSTMAX, DATA of the result). -/
  orig : List Byte
  origTile : Nat
  deadline : Nat
  outcome : Nat
  tile : Nat
  deriving DecidableEq, Repr

/-- A slot at reset. -/
def DisSlot.reset : DisSlot :=
  { busy := false, stream := 0, jseq := 0, fwd := 0, layer := 0, assay := 0, origTiles := [], stLeft := [],
    failed := [], repeatDone := false, repeatSame := false, freshDone := false, fresh := 0, stDone := false, orig := [],
    origTile := 0xFFFF, deadline := 0, outcome := 0, tile := 0xFF }

/-- A known-answer, digest or forwarding state of a stream in the stream gate (R329 to R346). -/
structure GateS where
  credits : Nat
  creditAt : Nat
  /-- The reservation held: buffers, and the mirror's. -/
  resv : Option (List Nat × List Nat)
  /-- A reservation is wanted and was refused (R351). -/
  wantResv : Bool
  nextBank : Nat
  /-- Discarding until the next first packet (R331). -/
  discarding : Bool
  /-- Sender's frame number of the last admitted frame, where the sequence check has one (R337). -/
  prev : Option Nat
  nextNum : Nat
  fwdNext : Nat
  /-- Wraps of FWD (R123). -/
  fwdWraps : Nat
  ltaint : Nat
  ldrop : Nat
  /-- Known-answer interval: its number, AO start, positions forwarded in it, golden positions left, golden frames
  forwarded (R343, R344). -/
  kaNum : Nat
  kaStart : Nat
  kaPos : Nat
  kaGolden : List Nat
  kaNext : Nat
  /-- Golden frames copied and waiting: buffers of each. -/
  goldCopies : List (List Nat)
  deriving DecidableEq, Repr

/-- A stream's gate state at reset. -/
def GateS.reset : GateS :=
  { credits := 0, creditAt := 0, resv := none, wantResv := false, nextBank := 0, discarding := false, prev := none,
    nextNum := 0, fwdNext := 0, fwdWraps := 0, ltaint := 0, ldrop := 0, kaNum := 0, kaStart := 0, kaPos := 0,
    kaGolden := [], kaNext := 0, goldCopies := [] }

/-- The digest pass over a weight region (R142, R143). -/
structure DigestSt where
  /-- Bytes folded, running CRC, one retry taken, a step read in flight with its buffers. -/
  off : Nat
  crc : W64
  retried : Bool
  flying : Option (List Nat)
  deriving DecidableEq, Repr

/-- A region's pass at its start. -/
def DigestSt.reset : DigestSt :=
  { off := 0, crc := BitVec.ofNat 64 0xFFFFFFFFFFFFFFFF, retried := false, flying := none }

/-! ## Plan loader (R299 to R319) -/

/-- The phases of PL_STAT.PHASE. -/
inductive Phase where
  | idle | header | auth | scan | place | verify | armed | blackout
  deriving DecidableEq, Repr

/-- PL_STAT.PHASE. -/
def Phase.code : Phase → Nat
  | .idle => 0 | .header => 1 | .auth => 2 | .scan => 3 | .place => 4 | .verify => 5 | .armed => 6 | .blackout => 7

/-- The plan loader. -/
structure Loader where
  phase : Phase
  /-- 0 none, 1 flash, 2 host copy. -/
  src : Nat
  /-- Flash bank of the load: false A, true B. -/
  bank : Bool
  img : Option PlanImage
  first : Bool
  staged : Bool
  armed : Bool
  tag : Option Nat
  target : Nat
  armedAt : Nat
  /-- Sections scanned so far. -/
  nsec : Nat
  /-- Bytes processed (PL_PROG). -/
  bytes : Nat
  /-- Physical position of each logical tile, as placed. -/
  place : List Nat
  pwovr : Nat
  refuse : Nat
  secDetail : Nat
  /-- Boundary B of the switch in progress. -/
  b : Nat
  tplace : Nat
  /-- Bytes that the source of the load offers (R299 HEADER). -/
  cap : Nat
  deriving DecidableEq, Repr

/-- The loader at reset. -/
def Loader.reset : Loader :=
  { phase := .idle, src := 0, bank := false, img := none, first := true, staged := false, armed := false, tag := none,
    target := 0, armedAt := 0, nsec := 0, bytes := 0, place := [], pwovr := 0, refuse := 0, secDetail := 0x7FF, b := 0,
    tplace := 0, cap := 0 }

/-- The running plan: its image, placement, and place in its grid (R297). -/
structure Running where
  img : PlanImage
  /-- Physical position of each logical tile. -/
  place : List Nat
  /-- AO count of its first boundary. -/
  anchor : Nat
  /-- The present slot and hyperperiod, and the AO count of the slot's strobe. -/
  slot : Nat
  hyper : Nat
  strobeAt : Nat
  /-- The plan's first slot strobe has come. -/
  struck : Bool
  /-- The flash bank it was loaded from, where it was (R651). -/
  fromBank : Option Bool
  /-- Quads made ON by the loader: (slot, quad) (R612). -/
  forceOn : List (Nat × Nat)
  spares : Nat
  pwovr : Nat
  deriving DecidableEq, Repr
/-- The ledger's buffers: owner mark by buffer, where it is not free (R25, R353, R439), and the failed banks. -/
structure Ledger where
  used : FMap Bool
  failed : BitVec 16
  deriving DecidableEq, Repr

/-- Verdicts and evidence of the device. -/
structure Verd where
  frames : List Frame
  commits : List Commit
  reveals : List Reveal
  /-- Completed evidence records waiting to be checked: function, AO stamp of the last byte, record (R368). -/
  records : List (Nat × Nat × List Byte)
  /-- Assay result records on their way from the result queues, oldest first, with their poison mark (R274). -/
  results : List (BitVec 512 × Bool)
  /-- Quarantined tiles whose TILE_RANGE corrections are due, with the reference point of each (R78). -/
  rangeDue : List (Nat × Nat)
  /-- The journal, newest first, at most 16 384 records (R86, R87). -/
  journal : List JRec
  /-- Records written (the next journal sequence number). -/
  jseq : Nat
  dis : FMap DisSlot
  /-- Read cursors of the verdict read windows: next sequence number to read, and records lost (R91, R92). -/
  cursor : FMap Nat
  lost : FMap Nat
  digests : FMap DigestSt
  /-- Start of the present digest interval of each stream. -/
  dgStart : FMap Nat
  /-- Time of the last HOLD record of each stream in the blackout (R73). -/
  holdAt : FMap Nat
  deriving DecidableEq, Repr

/-- At reset. -/
def Verd.reset : Verd :=
  { frames := [], commits := [], reveals := [], records := [], results := [], rangeDue := [], journal := [], jseq := 0, dis := [], cursor := [],
    lost := [], digests := [], dgStart := [], holdAt := [] }

/-! ## Debug (R670 to R684) -/

/-- The debug access port and the tile trace. -/
structure Dbg where
  /-- The TAP instruction register (R670). -/
  ir : BitVec 6
  sessionOpen : Bool
  auth : Bool
  /-- The challenge drawn, with its AO count, not yet used (R674). -/
  nonce : Option (W64 × Nat)
  wrong : Nat
  lockEnd : Option Nat
  /-- The result of the last completed request (R671). -/
  result : BitVec 72
  haltPend : Bool
  haltAt : Nat
  halted : Bool
  forced : Bool
  /-- Recording has started (R682). -/
  traceOn : Bool
  /-- Records written since EN was set. -/
  traceN : Nat
  /-- What a debugger has written into halted cores and their memories, by window x 2^32 + address (R677). -/
  coreA : FMap (Option W32)
  /-- The token words written to DB_AUTH (R674). -/
  token : BitVec 256
  /-- The request that opened the session, waiting for domain 0x5A (R673). -/
  waiting : Option (BitVec 72)
  /-- Porter cores halted (R681). -/
  porterHalt : BitVec 2
  /-- AO count at which both porter cores ran again. -/
  porterRunAt : Nat
  /-- The boundary scan register's preloaded levels (R670, R672). -/
  bsr : BitVec 64
  deriving DecidableEq, Repr

/-- The port at reset: the instruction register holds IDCODE (log entry 13). -/
def Dbg.reset : Dbg :=
  { ir := 1, sessionOpen := false, auth := false, nonce := none, wrong := 0, lockEnd := none, result := 0,
    haltPend := false, haltAt := 0, halted := false, forced := false, traceOn := false, traceN := 0, coreA := [],
    token := 0, waiting := none, porterHalt := 0, porterRunAt := 0, bsr := 0 }

/-! ## Time unit (R587 to R606) -/

/-- Synchronisation states (TM_STAT.SYNC). -/
inductive SyncSt where
  | freerun | locking | locked | holdover
  deriving DecidableEq, Repr

/-- TM_STAT.SYNC. -/
def SyncSt.code : SyncSt → Nat
  | .freerun => 0 | .locking => 1 | .locked => 2 | .holdover => 3

/-- A capture record (R605). -/
structure CapRec where
  ns : Nat
  sec : Nat
  ao : Nat
  rise : Bool
  sync : Bool
  deriving DecidableEq, Repr

/-- A capture input: its queue, oldest first, the pending stamps with the rounds each has waited, and its counts. -/
structure Capture where
  queue : List CapRec
  pend : List (CapRec × Nat)
  ovf : Nat
  unconf : Nat
  deriving DecidableEq, Repr

/-- A capture input at reset. -/
def Capture.reset : Capture := { queue := [], pend := [], ovf := 0, unconf := 0 }

/-- A trigger output: edges and skips counted, the pulse in progress and its end in nanoseconds of the AO count, and the next
edge: of TIME and PPS modes in units of 2^-48 ns of device time; in SLOT mode, the AO count of the last edge or of the
arming. -/
structure Trigger where
  edges : Nat
  skip : Nat
  active : Bool
  pulseEnd : Nat
  next : Option Nat
  deriving DecidableEq, Repr

/-- A trigger at reset. -/
def Trigger.reset : Trigger := { edges := 0, skip := 0, active := false, pulseEnd := 0, next := none }

/-- The time unit. Device time at AO count `at_` is `base` in units of 2^-48 ns; it advances by 20 ns x (1 + RATE) an
AO cycle (R588; log entry 11). -/
structure TimeUnit where
  base : Nat
  at_ : Nat
  rate : Int
  sync : SyncSt
  slave : Option Nat
  /-- Consecutive Syncs within LOCK (LOCKING) or beyond it (LOCKED). -/
  good : Nat
  bad : Nat
  lastSync : Nat
  /-- How long each RATE was held since LOCKED was entered, newest first: AO cycles and RATE (R593). -/
  rates : List (Nat × Int)
  /-- AO count at which the present RATE was taken in LOCKED. -/
  lockedAt : Nat
  /-- Cross-check interval: AO count and device time at its start (R595). -/
  xStart : Nat
  xBase : Nat
  trigs : FMap Trigger
  caps : FMap Capture
  /-- AO count of the last Announce of the selected port. -/
  announceAt : Nat
  deriving DecidableEq, Repr

/-- The time unit at PORST_N (R596). -/
def TimeUnit.reset : TimeUnit :=
  { base := 0, at_ := 0, rate := 0, sync := .freerun, slave := none, good := 0, bad := 0, lastSync := 0, rates := [],
    lockedAt := 0, xStart := 0, xBase := 0, trigs := [], caps := [], announceAt := 0 }

end Sys2Proof.Machine
end

