-- ==== Sys2Proof/Machine/Queues.lean ====
section
/-! DEFINITION. The state of rings, commands, tallies and mailboxes (R389 to R457) and of the supervisors and check-value
engines (R565 to R586) as plain data. -/

namespace Sys2Proof.Machine
open Sys2Proof

/-! ## Rings and commands -/

/-- A ring's state record (R391) with the moderation of its vector (R402). -/
structure RingSt where
  base : W64
  size : Nat
  pi : W32
  ci : W32
  type : Nat
  vec : Nat
  bind : Nat
  mod : Nat
  err : Nat
  errCnt : Nat
  scrc : W16
  /-- AO count of the last signal. -/
  lastSig : Option Nat
  /-- Events wait for the end of the moderation interval. -/
  sigPend : Bool
  deriving DecidableEq, Repr

/-- A ring at reset: the ledger is zeroed (R630). -/
def RingSt.reset : RingSt :=
  { base := 0, size := 0, pi := 0, ci := 0, type := 0, vec := 0, bind := 0, mod := 0, err := 0, errCnt := 0, scrc := 0,
    lastSig := none, sigPend := false }

/-- The progress of a command (R411, R419, R424). -/
inductive CmdSt where
  /-- Fetched and checked; to be executed. -/
  | ready
  /-- Executing: in plies, waiting on a tally, a load, the reeve or an abort. -/
  | active
  /-- Finished with a status and DETAIL; its completion awaits a free slot. -/
  | done (status detail : Nat)
  deriving DecidableEq, Repr

/-- A command holding a tag (R420). -/
structure Tag where
  fn : Nat
  ring : Nat
  desc : List Byte
  st : CmdSt
  xfer : Nat
  info : Nat
  /-- Tags of the ABORTs that act on it: at its next ply boundary, or waiting for its completion to be committed (R428). -/
  abortBy : List Nat
  /-- Bytes that a command in plies has processed. -/
  moved : Nat
  /-- Timeout of a wait as an AO count (R436). -/
  due : Option Nat
  /-- Order of fetch, AO count of the fetch, and the CPL ring of the completion (R400, R420, R436). -/
  order : Nat
  fetchAo : Nat
  cpl : Nat
  /-- Order in which it finished (R423). -/
  fin : Nat
  deriving DecidableEq, Repr

/-- A wait in a tally's list (R434, R435). -/
structure Wait where
  tag : Nat
  tally : Nat
  take : Bool
  count : W32
  deriving DecidableEq, Repr

/-- A reveal registration (R415). -/
structure RevReg where
  addr : W64
  slots : Nat
  tally : Nat
  tly : Bool
  /-- Reveals written since the registration. -/
  k : Nat
  deriving DecidableEq, Repr

/-! ## Mailboxes -/

/-- A box (R444). -/
structure Box where
  full : Bool
  body : BitVec 512
  type : Nat
  len : Nat
  src : Nat
  seq : Nat
  bells : W32
  /-- AO count of the send. -/
  sentAt : Nat
  deriving DecidableEq, Repr

/-- An empty box. -/
def Box.reset : Box := { full := false, body := 0, type := 0, len := 0, src := 0, seq := 0, bells := 0, sentAt := 0 }

/-- A channel (R443): outbox, inbox, the counters SEQ of both directions, since when each side polls, and CROSS. -/
structure Chan2 where
  outb : Box
  inb : Box
  seqOut : Nat
  seqIn : Nat
  fnPoll : Option Nat
  farPoll : Option Nat
  cross : Bool
  deriving DecidableEq, Repr

/-- A channel at reset. -/
def Chan2.reset : Chan2 :=
  { outb := .reset, inb := .reset, seqOut := 0, seqIn := 0, fnPoll := none, farPoll := none, cross := false }

/-- Rings, commands, tallies, mailboxes. -/
structure Queues where
  /-- By global ring ID. -/
  rings : FMap RingSt
  tags : FMap (Option Tag)
  /-- Commands fetched so far. -/
  fetched : Nat
  /-- Commands finished so far. -/
  finished : Nat
  /-- Rings whose next fetch a FENCE or the tag limit held off (RD_STAT.PAUSED). -/
  paused : FMap Bool
  /-- The last tag the ply core served (R424). -/
  plyLast : Nat
  tallies : FMap W32
  tyOps : FMap Nat
  waits : List Wait
  /-- Reveal registrations, by 64 x function + stream; digest registrations, by 256 x function + region. -/
  revReg : FMap (Option RevReg)
  digReg : FMap W64
  /-- By 2 x function + channel: 0 porter, 1 reeve. -/
  boxes : FMap Chan2
  deriving DecidableEq, Repr

/-- At reset. -/
def Queues.reset : Queues :=
  { rings := [], tags := [], fetched := 0, finished := 0, paused := [], plyLast := 0, tallies := [], tyOps := [], waits := [], revReg := [],
    digReg := [], boxes := [] }

/-! ## Supervisors -/

/-- Watchdog states (SV_STAT). -/
inductive DogSt where
  | disarmed | first | run | violated
  deriving DecidableEq, Repr

/-- SV_STAT.RWD and SV_STAT.HWD. -/
def DogSt.code : DogSt → Nat
  | .disarmed => 0 | .first => 1 | .run => 2 | .violated => 3

/-- A challenge-response watchdog (R565 to R571). Windows in AO cycles. -/
structure Dog where
  st : DogSt
  chal : W32
  seed : BitVec 128
  prev : Nat
  tOpen : Nat
  tClose : Nat
  /-- Since when its count is held (R568). -/
  heldAt : Option Nat
  deriving DecidableEq, Repr

/-- A watchdog at reset. -/
def Dog.reset : Dog :=
  { st := .disarmed, chal := 0, seed := 0, prev := 0, tOpen := 0, tClose := 0, heldAt := none }

/-- A task monitor (R575, R576): what TASK_SET set, its counts, and the references still waiting: frame or forward number,
layer and round, AO count. -/
structure TaskMon where
  en : Bool
  stream : Nat
  chk : Nat
  lo : Nat
  hi : Nat
  early : Nat
  late : Nat
  refs : List (Nat × Nat × Nat)
  deriving DecidableEq, Repr

/-- A monitor at reset. -/
def TaskMon.reset : TaskMon :=
  { en := false, stream := 0, chk := 0, lo := 0, hi := 0, early := 0, late := 0, refs := [] }

/-- A check-value engine (R578 to R583). -/
structure CvEng where
  alg : Nat
  run : Nat
  /-- The low word of RUN written and not yet committed. -/
  runLo : W32
  cnt : Nat
  deriving DecidableEq, Repr

/-- An engine at reset: CRC32C. -/
def CvEng.reset : CvEng := { alg := 3, run := 0xFFFFFFFF, runLo := 0, cnt := 0 }

/-- The supervisors and engines. -/
structure Super where
  rwd : Dog
  hwd : Dog
  tasks : FMap TaskMon
  cv : FMap CvEng
  deriving DecidableEq, Repr

/-- At reset. -/
def Super.reset : Super := { rwd := .reset, hwd := .reset, tasks := [], cv := [] }

end Sys2Proof.Machine
end

