-- ==== Sys2Proof/Machine/State.lean ====
section
/-! DEFINITION. State: everything the spec gives the BX960, as plain data, with the queue of waiting commands; the
reasons a step can stop; and State.reset, the machine as it stands before PORST_N is released. -/

namespace Sys2Proof.Machine
open Sys2Proof

/-- The state of the block. -/
structure State where
  /-- The AO count (R22), from 0 at the release of PORST_N (R630). -/
  ao : Nat
  dev : Dev
  flt : Faults
  rv : Reeve
  sio : Sio
  bsc : Bsc
  store : Store
  kv : Vault
  pm : Power
  hl : HostLink
  q : Queues
  sv : Super
  streams : FMap StreamV
  vd : Verd
  ldg : Ledger
  gate : FMap GateS
  tiles : FMap TileSt
  /-- Flits on their way, oldest first (R168). -/
  flits : List Flit
  /-- Mesh links (tile x 4 + port) whose MESH_LINK fault has latched (R172). -/
  linkBad : List Nat
  ldr : Loader
  run : Option Running
  tm : TimeUnit
  dbg : Dbg
  /-- The register file: 32-bit registers by address, where they differ from the Reset column (R8 to R13). BAR2 of
  F00 by its offset; BAR0 of function f at 0x1_0000_0000 + 0x1_0000 f. -/
  regs : FMap W32
  /-- Registers whose value the spec leaves to a measurement or a draw, by address (log entry 3). -/
  fregs : FMap W32
  /-- What left the pins, newest first (log entry 8). -/
  out : List OutEv
  /-- The model's own counter that picks free values (log entry 3). -/
  freeCtr : Nat
  /-- Commands waiting, first in, first out. -/
  pending : List Instr
  deriving DecidableEq, Repr

/-- The factory safety configuration record (R553, R654): the body is the factory body. -/
def CfgRec.factory (seq : W32) : CfgRec :=
  { seq := seq, len := 8864, logSeq := 0, opid := 0, time := 0, oldCrc := 0, kind := 0, body := [] }

/-- A sound firmware image of kind `k` that lists BUILD 1 as its tested partner (log entry 2). -/
def shippedFw (k : BitVec 8) : FwImage :=
  { formOk := true, kind := k, slot := 0, bodyLen := 0x10000, svn := 0, keyOk := true, sigOk := true, digestOk := true,
    hash := 0, ifvMajor := 1, ifvMinor := 0, build := 1, planLo := 0x10000, planHi := 0x1FFFF, abiLo := 1, abiHi := 1,
    pairs := [(1, 1)] }

/-- The store before power is applied: the flash holds the factory safety configuration and a firmware pair in bank A,
and no selector record, plan, change log or tile health record (log entry 2). -/
def Store.reset : Store :=
  { sel0 := none, sel1 := none, cfg0 := some (.factory 1), cfg1 := some (.factory 0), log := [], thr0 := none,
    thr1 := none, reeveA := some (shippedFw 1), reeveB := none, porterA := some (shippedFw 2), porterB := none,
    planA := none, planB := none, verified := 0, recorded := [], busy := [], svnR := 0, svnP := 0, density := 0,
    noSel := false, thrReset := false, thrDirty := false }

/-- The device held in COLD by PORST_N, its rails in range (R28, R626; log entry 2). -/
def Dev.reset : Dev :=
  { state := .cold, blackout := false, holdSrc := none, degr := .none, degrStart := none, split := false, bench := false,
    porstN := false, perstN := false, railReset := 0, railWarn := 0, bootHealthy := false, porterUp := false,
    porterQ := [], rebootDue := false, chipReq := none, holdAt := none, phys := .sound }

/-- The collector at PORST_N: every source CLEAR, ROM defaults in force (R503). -/
def Faults.reset : Faults :=
  { src := [], defaults := true, errP := false, errPMin := 0, errPLow := 0, errPRel := false, errPRaise := false,
    injTarget := 0, injMode := 0, injUnit := 0, injReg := false, rotSrc := 0, rotChk := 0, scrubLedger := 0,
    scrubSram := 0 }

/-- The reeve complex held in reset. -/
def Reeve.reset : Reeve :=
  { mode := .trio, coreA := .active, coreB := .active, coreC := .active, onShadow := false, shadowFail := false,
    loss := false, pause := none, stopped := false, transA := [], transB := [], transC := [], adopted := 0,
    adoptedReset := 0, divRun := [], slow := false, strapChg := false, untested := false, pairSrc := 0, buildR := 0,
    buildP := 0, ifvR := 0, ifvP := 0, rangeR := (0, 0), rangeP := (0, 0), abi := (0, 0), sseq := 0, reqRing := [], ansRing := [], mbReq := none, ansQ := [], ridx := 0, nonce := none, privHeld := false, leaseEnd := 0,
    fails := 0, lockEnd := none }

/-- Safety I/O before a configuration is taken into use. -/
def Sio.reset : Sio :=
  { pairs := [], chans := [], feedback := 0, btq := 0, body := [], bodyLen := 0, staging := none, newSalt := none,
    cfgSeq := 0, logSeq := 0, cfgCrc := 0, inUse := false, fbWrong := [] }

/-- The safety layer and ports at reset. -/
def Bsc.reset : Bsc :=
  { pcon := [], ccon := [], linkUp := 0, upSince := [], eccSeen := 0, chkPass := 0, gate := none }

/-- The vault with no keys derived yet; the factory tamper policies (R665). -/
def Vault.reset : Vault :=
  { idKey := false, impKey := false, pkey := 0, session := none, erased := false, entropyOk := false, attBusy := false,
    attDone := false, tcnt := [], policy := 0x80, attMsg := [], reseeds := 0 }

/-- Every domain OFF. -/
def Power.reset : Power :=
  { dom := [], wake := [], req := [], hostless := false, grant := [], account := [], accAt := [], lostSlot := 0,
    lostQuad := 0, throttled := false, pllBad := 0 }

/-- The host link without link. -/
def HostLink.reset : HostLink :=
  { dlUp := false, speed := 0, width := 0, powered := false, downAt := none, wasDown := false,
    serves := false, vfEnable := false, numVfs := 0, lanes := [], vmask := [], fmask := [], vpend := [],
    flr := [], latches := [], dx := [], snap := [] }

/-- The machine before PORST_N is released: COLD, every register at its Reset column, nothing running (log entry 2). -/
def State.reset : State :=
  { ao := 0, dev := .reset, flt := .reset, rv := .reset, sio := .reset, bsc := .reset, store := .reset, kv := .reset,
    pm := .reset, hl := .reset, q := .reset, sv := .reset, streams := [], vd := .reset,
    ldg := { used := [], failed := 0 }, gate := [], tiles := [], flits := [], linkBad := [], ldr := .reset, run := none,
    tm := .reset, dbg := .reset, regs := [], fregs := [], out := [], freeCtr := 0, pending := [] }

/-- No command of this model ends in a fault: the BX960 answers every event in some stated way. -/
inductive Fault where
  deriving DecidableEq, Repr

/-- Why a command has no meaning here. -/
inductive Refusal where
  /-- Raised by an arm of exec whose command has no meaning yet. Safe: nothing is claimed of it. -/
  | notModelled (mnemonic : String)
  deriving DecidableEq, Repr

end Sys2Proof.Machine
end

