-- ==== Sys2Proof/Machine/Ops.lean ====
section
/-! DEFINITION. The named operations over the register file, the AO count, free values and interrupt vectors that every
family uses. -/

namespace Sys2Proof.Machine
open Sys2Proof

/-! ## Addresses (R363 to R365) -/

/-- Address of offset `off` in the BAR0 page of function `f`. -/
def fnAddr (f off : Nat) : Nat := 0x100000000 + 0x10000 * f + off
/-- Address of offset `off` in the window of tile `t` (R365). -/
def twAddr (t off : Nat) : Nat := 0x100000 + 0x4000 * t + off

/-- The table a register address falls in, and its offset there. -/
def regPlace (a : Nat) : List RegRow × Nat :=
  if a ≥ 0x100000000 then (regsFn, a % 0x10000)
  else if a ≥ 0x100000 then
    (if a < 0x400000 then (regsTw, a % 0x4000) else ([], a))
  else
    let o := a % 0x10000
    match a / 0x10000 with
    | 0 => (regsId, o) | 1 => (regsFc, o) | 2 => (regsRv, o) | 3 => (regsSv, o) | 4 => (regsCv, o) | 5 => (regsTm, o)
    | 6 => (regsPm, o) | 7 => (regsSio, o) | 8 => (regsSl, o) | 9 => (regsSg, o) | 10 => (regsVd, o)
    | 11 => (regsPl, o) | 12 => (regsSt, o) | 13 => (regsKv, o) | 14 => (regsDb, o) | _ => ([], o)

/-- The row holds a register at offset `o`. -/
def RegRow.covers (r : RegRow) (o : Nat) : Bool :=
  if r.n = 1 then o = r.off
  else decide (r.off ≤ o) && ((o - r.off) % r.stride = 0) && decide ((o - r.off) / r.stride < r.n)

/-- The row of a register address, where a register lies there. -/
def regRow (a : Nat) : Option RegRow :=
  let p := regPlace a
  p.1.find? (fun r => r.covers p.2)

/-- The Reset column of a register (R13). -/
def regReset (a : Nat) : W32 :=
  match regRow a with
  | some r => BitVec.ofNat 32 r.rst
  | none => 0

/-! ## The register file -/

/-- The stored value of a register. -/
def State.rget (s : State) (a : Nat) : W32 := mget (regReset a) s.regs a

/-- The register set to `v`. -/
def State.rset (a : Nat) (v : W32) (s : State) : State := { s with regs := mput (regReset a) s.regs a v }

/-- Bits [hi:lo] of a register set to `v`. -/
def State.rfield (a hi lo v : Nat) (s : State) : State := s.rset a (setBits (s.rget a) hi lo v)

/-- Event bit `b` of a register set (a hardware set, R8). -/
def State.revt (a b : Nat) (s : State) : State := s.rset a (s.rget a ||| BitVec.ofNat 32 (2 ^ b))

/-- Bits [hi:lo] of a register raised by `k`, saturating. -/
def State.rincSat (a hi lo k : Nat) (s : State) : State :=
  s.rfield a hi lo (satAdd (2 ^ (hi + 1 - lo) - 1) (bitsOf (s.rget a) hi lo) k)

/-- A 64-bit count in the words at `a` and `a + 4` raised by `k`. -/
def State.rinc64 (a k : Nat) (s : State) : State :=
  let v := ((s.rget a).toNat + 2 ^ 32 * (s.rget (a + 4)).toNat + k) % 2 ^ 64
  (s.rset a (BitVec.ofNat 32 v)).rset (a + 4) (BitVec.ofNat 32 (v / 2 ^ 32))

/-- A 64-bit register in two words set to `v`. -/
def State.rset64 (a v : Nat) (s : State) : State :=
  (s.rset a (BitVec.ofNat 32 v)).rset (a + 4) (BitVec.ofNat 32 (v / 2 ^ 32))

/-- A 64-bit register in two words. -/
def State.rget64 (s : State) (a : Nat) : Nat := (s.rget a).toNat + 2 ^ 32 * (s.rget (a + 4)).toNat

/-- A maximum in bits [hi:lo] raised to `v` where `v` is larger, saturating. -/
def State.rmax (a hi lo v : Nat) (s : State) : State :=
  let m := 2 ^ (hi + 1 - lo) - 1
  let v' := if v > m then m else v
  if v' > bitsOf (s.rget a) hi lo then s.rfield a hi lo v' else s

/-! ## Time and free values -/

/-- The AO count advanced to `t` (never back): the time that has passed when an event arrives (log entry 1). -/
def State.advance (t : Nat) (s : State) : State := { s with ao := if s.ao < t then t else s.ao }

/-- The next free value of `w` bits (log entry 3). -/
def State.fresh (w : Nat) (s : State) : BitVec w := Config.freeBits w s.freeCtr
/-- The counter moved past a free value that was used. -/
def State.tickFree (s : State) : State := { s with freeCtr := s.freeCtr + 1 }

/-- Register `a` takes a free value of at most `mx` (a measured interval, a draw). -/
def State.rsetFree (a mx : Nat) (s : State) : State :=
  { s with fregs := mput 0 s.fregs a (BitVec.ofNat 32 ((s.fresh 32).toNat % (mx + 1))), freeCtr := s.freeCtr + 1 }

/-- A maximum in register `a` raised to a free value of at most `mx` where that is larger. -/
def State.rmaxFree (a mx : Nat) (s : State) : State :=
  let v := (s.fresh 32).toNat % (mx + 1)
  let o := (mget 0 s.fregs a).toNat
  { s with fregs := mput 0 s.fregs a (BitVec.ofNat 32 (max v o)), freeCtr := s.freeCtr + 1 }

/-- An output recorded. -/
def State.emit (e : OutEv) (s : State) : State := { s with out := e :: s.out }

/-! ## Device time (R587, R588) -/

/-- Units of 2^-48 ns in one nanosecond. -/
def tmNs : Nat := 2 ^ 48
/-- Device time at AO count `a` in units of 2^-48 ns: 20 ns x (1 + RATE) an AO cycle. -/
def State.devAt (s : State) (a : Nat) : Nat :=
  (s.tm.base + (a - s.tm.at_) * ((20 * tmNs : Nat) + 20 * s.tm.rate * 65536).toNat)
/-- Device time now, in units of 2^-48 ns. -/
def State.devNow (s : State) : Nat := s.devAt s.ao
/-- Seconds and nanoseconds of a device time. -/
def secNs (t : Nat) : Nat × Nat := (t / (1000000000 * tmNs), t / tmNs % 1000000000)
/-- The 64-bit form of VTIME: low 34 bits of seconds, nanoseconds (R88, R587). -/
def vtimeOf (t : Nat) : W64 := BitVec.ofNat 64 ((secNs t).1 % 2 ^ 34 * 2 ^ 30 + (secNs t).2)

/-! ## Interrupt vectors (R373, R374) -/

/-- An MSI-X vector's event: signalled, or its pending bit set while it is masked (R374). -/
def State.msix (f v : Nat) (s : State) : State :=
  let k := 32 * f + v
  if mget true s.hl.vmask k || mget false s.hl.fmask f then
    { s with hl.vpend := mput false s.hl.vpend k true }
  else s.emit (.msix f v)

/-- A bit of a function's FN_EVT is set, which signals vector 2 (R373). -/
def State.fnEvt (f b : Nat) (s : State) : State := (s.revt (fnAddr f 0x10) b).msix f 2

/-- The functions enabled: F00 and the virtual functions (R362). -/
def State.fns (s : State) : List Nat := List.range (if s.hl.vfEnable then s.hl.numVfs + 1 else 1)

/-- A bit of FN_EVT set at every enabled function. -/
def State.fnEvtAll (b : Nat) (s : State) : State := forAll s.fns (fun f s => s.fnEvt f b) s

/-! ## Domains (R608) -/

/-- Domains set ON. -/
def State.domsOn (l : List Nat) (s : State) : State := forAll l (fun d s => { s with pm.dom := mput .off s.pm.dom d .on }) s

/-- The power state of a domain (R607). -/
def State.dom (s : State) (d : Nat) : DomSt := mget .off s.pm.dom d
/-- A domain's wake time from OFF in AO cycles (R608). -/
def wakeTime (d : Nat) : Nat :=
  if d < 0x40 then 1000
  else if d = 0x45 ∨ d = 0x46 then 2500
  else if 0x47 ≤ d ∧ d ≤ 0x4A then 10000
  else if 0x4B ≤ d ∧ d ≤ 0x4E then 1500
  else if d = 0x4F ∨ d = 0x55 ∨ d = 0x5A then 500
  else if 0x5B ≤ d ∧ d ≤ 0x5E then 1000
  else 250
/-- The AO count at which a wake wanted at `t` begins: no more than 4 begin in one microsecond (R609). -/
def wakeBegin (w : FMap Nat) : Nat → Nat → Nat
  | 0, t => t
  | n + 1, t =>
    if (w.filter (fun p => (p.2 - wakeTime p.1) / Config.aoPerUs = t / Config.aoPerUs)).length ≥ 4 then
      wakeBegin w n ((t / Config.aoPerUs + 1) * Config.aoPerUs)
    else t
/-- An owner requires domain `d` (R608): a gated domain is ungated, an OFF one begins its wake. -/
def State.wakeDom (d : Nat) (s : State) : State :=
  let s := { s with pm.req := mput false s.pm.req d true }
  match s.dom d with
  | .on => s
  | .gated => { s with pm.dom := mput .off s.pm.dom d .on }
  | .off =>
    if mget 0 s.pm.wake d ≠ 0 then s
    else { s with pm.wake := mput 0 s.pm.wake d (wakeBegin s.pm.wake 96 s.ao + wakeTime d) }
/-- The last owner of domain `d` releases it (R608): it goes OFF; a wake in progress completes first (R635). -/
def State.releaseDom (d : Nat) (s : State) : State :=
  { s with pm.req := mput false s.pm.req d false, pm.dom := mput .off s.pm.dom d .off }
/-- The quad of a tile, whose number is also its domain (R149, R608): quad rows of eight. -/
def quadOf (t : Nat) : Nat := t / 16 / 2 * 8 + t % 16 / 2
/-- The address lies in the tile windows (R365). -/
def inTileWindow (a : Nat) : Bool := decide (0x100000 ≤ a) && decide (a < 0x400000)
/-- The tile loses its contents with its power; its role, placement and history are held elsewhere. -/
def TileSt.unpowered (t : TileSt) : TileSt :=
  { TileSt.reset with role := t.role, logical := t.logical, qcount := t.qcount, qcause := t.qcause, dtLast := t.dtLast,
                      dtFromQ := t.dtFromQ }
/-- Quad `q` goes OFF (R151, R610): its tiles lose their contents, and their window registers stand at reset. -/
def State.quadOff (q : Nat) (s : State) : State :=
  let s := s.releaseDom q
  { s with tiles := mmapK .reset (fun t v => if quadOf t = q then v.unpowered else v) s.tiles,
           regs := s.regs.filter (fun p => !(inTileWindow p.1 && quadOf ((p.1 - 0x100000) / 0x4000) = q)) }
/-! ## Command tags (R420) -/

/-- The command that holds tag `t`. -/
def State.tag (s : State) (t : Nat) : Option Tag := mget none s.q.tags t
/-- Tag `t` set. -/
def State.setTag (t : Nat) (c : Option Tag) (s : State) : State := { s with q.tags := mput none s.q.tags t c }
/-- The command of tag `t` finishes: its completion awaits a slot (R419, R423). -/
def State.finishTag (t status detail : Nat) (s : State) : State :=
  match s.tag t with
  | some c => { s.setTag t (some { c with st := .done status detail, fin := s.q.finished, due := none }) with
      q.finished := s.q.finished + 1, q.waits := s.q.waits.filter (fun w => w.tag ≠ t) }
  | none => s

/-- The tag's INFO set (R418). -/
def State.tagInfo (t v : Nat) (s : State) : State :=
  match s.tag t with | some c => s.setTag t (some { c with info := v }) | none => s
/-! ## Plan stop -/

/-- A tile of a plan that stops, its contents cleared (R306). -/
def TileSt.cleared (t : TileSt) : TileSt :=
  match t.role, t.logical with
  | .plan, _ => { TileSt.reset with qcount := t.qcount, qcause := t.qcause, dtLast := t.dtLast }
  | .reserve, _ => { TileSt.reset with qcount := t.qcount, qcause := t.qcause, dtLast := t.dtLast }
  | r, some _ => { TileSt.reset with role := r, qcount := t.qcount, qcause := t.qcause, dtLast := t.dtLast, dtFromQ := t.dtFromQ }
  | _, none => t
/-- What a stream's gate holds for a plan given up (R353). -/
def GateS.stopped (g : GateS) : GateS :=
  { g with resv := none, wantResv := false, goldCopies := [], discarding := false, kaGolden := [] }
/-- The running plan stops: its tiles and routers are cleared, its frames, evidence and reservations are given up (R140,
R306, R353). -/
def State.stopPlan (s : State) : State :=
  { s with
    run := none, flits := [], tiles := mmap .reset TileSt.cleared s.tiles, gate := mmap .reset GateS.stopped s.gate,
    ldg.used := [], vd.frames := [], vd.commits := [], vd.reveals := [], vd.results := [], vd.rangeDue := [],
    vd.digests := [], vd.dgStart := [], vd.holdAt := [] }
/-- Every function learns that a plan started, switched or stopped (FN_EVT.PLAN). -/
def State.planEvt (s : State) : State := s.fnEvtAll 3

end Sys2Proof.Machine
end

