-- ==== Sys2Proof/Machine/SafetyCfg.lean ====
section
/-! DEFINITION. The safety configuration: the body's byte layout (R657, R658), the factory body (R553), the ROM defaults
of the fault sources (R501 to R503), CFGCRC (R527) and the parameters read from the active body. -/

namespace Sys2Proof.Machine
open Sys2Proof

/-! ## Fault sources: the ROM defaults (R501 to R503) -/

/-- Severities of FC_SCFG_n.SEV. -/
inductive Sev where
  | info | minor | major | critical
  deriving DecidableEq, Repr

/-- FC_SCFG_n.SEV. -/
def Sev.code : Sev → Nat
  | .info => 0 | .minor => 1 | .major => 2 | .critical => 3

/-- The severity a code names. -/
def Sev.ofCode (n : Nat) : Sev := match n % 4 with
  | 0 => .info | 1 => .minor | 2 => .major | _ => .critical

/-- A line of the source tables: first source, how many, class D, severity, reactions (bits I, N, E, B, C, T, H),
fixed (0 none, 1 Sev, 2 All). -/
structure SrcRow where
  first : Nat
  count : Nat
  clsD : Bool
  sev : Sev
  react : Nat
  fixed : Nat
  deriving DecidableEq, Repr

/-- Groups 0 to 2 of the source tables. -/
def srcRows0 : List SrcRow := [
  ⟨0, 1, false, .major, 0b0000110, 0⟩, ⟨1, 1, false, .major, 0b0000110, 0⟩, ⟨2, 1, false, .major, 0b0000101, 0⟩,
  ⟨3, 1, false, .major, 0b0000101, 0⟩, ⟨4, 1, false, .critical, 0b1000000, 2⟩, ⟨5, 1, false, .minor, 0b0000010, 0⟩,
  ⟨6, 1, false, .critical, 0b1000000, 2⟩, ⟨7, 1, false, .info, 0, 0⟩, ⟨8, 1, false, .critical, 0b1000000, 2⟩,
  ⟨9, 1, false, .minor, 0b0000001, 0⟩, ⟨10, 1, false, .minor, 0b0000001, 0⟩,
  ⟨11, 2, false, .critical, 0b1000000, 2⟩, ⟨13, 1, false, .major, 0b0000101, 0⟩,
  ⟨14, 3, false, .critical, 0b1000000, 2⟩,
  ⟨32, 16, false, .major, 0b0100100, 0⟩, ⟨48, 8, false, .critical, 0b0100100, 1⟩,
  ⟨56, 2, false, .critical, 0b0100100, 1⟩, ⟨58, 2, false, .major, 0b0100100, 0⟩,
  ⟨60, 1, false, .major, 0b0100100, 0⟩, ⟨61, 1, false, .major, 0b0000100, 0⟩,
  ⟨62, 1, false, .critical, 0b1000000, 2⟩, ⟨63, 1, false, .minor, 0b0000001, 0⟩,
  ⟨64, 1, false, .major, 0b0000101, 0⟩, ⟨65, 1, true, .info, 0, 0⟩, ⟨66, 1, true, .minor, 0b0000101, 0⟩,
  ⟨67, 1, true, .minor, 0b0000001, 0⟩, ⟨68, 1, false, .critical, 0b1000000, 2⟩,
  ⟨69, 1, false, .major, 0b0000100, 0⟩, ⟨70, 1, false, .critical, 0b1000000, 2⟩,
  ⟨71, 2, true, .major, 0b0000101, 0⟩, ⟨73, 1, true, .info, 0, 1⟩, ⟨74, 1, false, .major, 0b0000100, 0⟩,
  ⟨75, 1, false, .major, 0b0000101, 0⟩, ⟨76, 1, false, .critical, 0b1000000, 2⟩,
  ⟨77, 2, true, .minor, 0b0000001, 0⟩, ⟨79, 1, false, .minor, 0b0000001, 0⟩, ⟨80, 1, false, .major, 0b0000100, 0⟩]

/-- Groups 3 to 7 of the source tables. -/
def srcRows1 : List SrcRow := [
  ⟨96, 1, true, .info, 0, 0⟩, ⟨97, 2, true, .minor, 0b0000001, 0⟩, ⟨99, 2, true, .minor, 0b0000001, 1⟩,
  ⟨101, 5, true, .minor, 0b0000001, 0⟩, ⟨106, 1, true, .minor, 0b0000101, 0⟩,
  ⟨107, 1, false, .major, 0b0000101, 0⟩, ⟨108, 1, true, .major, 0b0000101, 0⟩, ⟨109, 1, true, .minor, 0b0000001, 0⟩,
  ⟨128, 1, true, .info, 0, 0⟩, ⟨129, 1, true, .major, 0b0000101, 0⟩, ⟨130, 1, false, .major, 0b0000101, 0⟩,
  ⟨131, 1, false, .major, 0b0000101, 1⟩, ⟨132, 1, false, .major, 0b0000100, 0⟩,
  ⟨133, 1, false, .critical, 0b1000000, 2⟩, ⟨134, 1, true, .minor, 0b0000101, 0⟩,
  ⟨135, 3, true, .minor, 0b0000001, 0⟩,
  ⟨160, 4, true, .minor, 0b0000101, 0⟩, ⟨164, 4, false, .major, 0b0000101, 0⟩, ⟨168, 4, true, .minor, 0b0000001, 0⟩,
  ⟨172, 1, true, .info, 0, 0⟩, ⟨173, 1, true, .major, 0b0000101, 0⟩, ⟨174, 1, false, .major, 0b0000100, 0⟩,
  ⟨192, 1, true, .minor, 0b0000001, 1⟩, ⟨193, 1, true, .major, 0b0000101, 1⟩, ⟨194, 1, true, .major, 0b0001101, 0⟩,
  ⟨195, 1, true, .major, 0b0001000, 0⟩, ⟨196, 1, true, .info, 0, 0⟩, ⟨197, 4, true, .minor, 0b0000001, 0⟩,
  ⟨201, 1, true, .info, 0, 0⟩,
  ⟨224, 1, false, .major, 0b0000101, 1⟩, ⟨225, 3, true, .minor, 0b0000001, 0⟩, ⟨228, 1, true, .major, 0b0000101, 0⟩,
  ⟨229, 1, false, .critical, 0b1000000, 2⟩, ⟨230, 1, false, .major, 0b0000101, 0⟩,
  ⟨231, 4, false, .critical, 0, 2⟩, ⟨235, 1, false, .critical, 0b1000000, 2⟩, ⟨236, 1, false, .info, 0b0000001, 0⟩,
  ⟨237, 1, false, .major, 0b0000101, 0⟩]

/-- The table line of a source; none where it is reserved (R501). -/
def srcRow (n : Nat) : Option SrcRow :=
  (srcRows0 ++ srcRows1).find? (fun r => decide (r.first ≤ n) && decide (n < r.first + r.count))

/-- The default trip mask of a source (R503). -/
def romTrip (n : Nat) : Nat :=
  if 48 ≤ n ∧ n < 56 then 2 ^ (n - 48)
  else if 56 ≤ n ∧ n < 58 then 2 ^ (8 + n - 56)
  else if 58 ≤ n ∧ n < 60 then 2 ^ (8 + n - 58)
  else 0

/-- A source's configuration entry (FC_SCFG_n). -/
structure SrcCfg where
  reserved : Bool
  clsD : Bool
  sev : Sev
  react : Nat
  auto : Bool
  fixed : Nat
  trip : Nat
  quietMs : Nat
  limit : Nat
  windowS : Nat
  deriving DecidableEq, Repr

/-- The ROM default entry (R501, R503, R507). -/
def romCfg (n : Nat) : SrcCfg :=
  match srcRow n with
  | none => { reserved := true, clsD := false, sev := .info, react := 0, auto := false, fixed := 0, trip := 0,
              quietMs := 0, limit := 0, windowS := 0 }
  | some r => { reserved := false, clsD := r.clsD, sev := r.sev, react := r.react, auto := r.sev != .critical,
                fixed := r.fixed, trip := romTrip n, quietMs := 10, limit := 8, windowS := 3600 }

/-- Words 0, 1 and 2 of FC_SCFG_n. -/
def SrcCfg.words (c : SrcCfg) : List Nat :=
  if c.reserved then [0, 0, 0]
  else [c.sev.code + 4 * b2n c.clsD + 8 * c.react + 1024 * b2n c.auto + 2048 * c.fixed + 65536 * c.trip,
        c.quietMs + 65536 * c.limit, c.windowS]

/-! ## The body (R657, R658) -/

/-- The body length of FORMAT 0x0001 (R657). -/
def cfgLen : Nat := 8864

/-- The byte of a little-endian number at place `i` of a field of `n` bytes at offset `o`, else nothing. -/
def byteAt (o n v i : Nat) : Option Nat := if o ≤ i ∧ i < o + n then some (v / 256 ^ (i - o) % 256) else none

/-- A byte of the factory body (R553): pairs UNUSED, channels not enabled, no BSC connections, every other item at its
default, FACTORY = 1. -/
def factoryNat (o : Nat) : Nat :=
  if o < 0x80 then
    match o with
    | 0 => 1 | 2 => 1 | 3 => 3 | 4 => 100 | 8 => 72 | 0xC => 0x58 | 0xD => 0x02 | 0xE => 100 | _ => 0
  else if o < 0x480 then
    match o % 64 with
    | 4 => 50 | 12 => 5 | 16 => 200 | _ => 0
  else if o < 0x980 then
    match (o - 0x480) % 128 with
    | 16 => 3 | 27 => 1 | 28 => 0xE8 | 29 => 0x03 | 32 => 50 | 40 => 50 | _ => 0
  else if o < 0x9C0 then
    match (o - 0x980) % 32 with
    | 4 => 0x2C | 5 => 0x01 | 8 => 0xE8 | 9 => 0x03 | 12 => 8 | 16 => 1 | _ => 0
  else if o = 0x9F0 then 2
  else if o < 0x1200 then 0
  else if o < 0x2200 then
    let k := o - 0x1200
    let w := lget 0 (romCfg (k / 16)).words (k % 16 / 4)
    w / 256 ^ (k % 4) % 256
  else 0

/-- A byte of a body held as its differences from the factory body. -/
def bodyByte (b : FMap Byte) (o : Nat) : Nat := (mget (BitVec.ofNat 8 (factoryNat o)) b o).toNat

/-- A body with one byte written. -/
def bodySet (b : FMap Byte) (o v : Nat) : FMap Byte :=
  mput (BitVec.ofNat 8 (factoryNat o)) b o (BitVec.ofNat 8 v)

/-- Bytes written from offset `o` on. -/
def bodyWrite : FMap Byte → Nat → List Byte → FMap Byte
  | b, _, [] => b
  | b, o, x :: t => bodyWrite (bodySet b o x.toNat) (o + 1) t

/-- A little-endian field of a body. -/
def bodyLE (b : FMap Byte) (o : Nat) : Nat → Nat
  | 0 => 0
  | n + 1 => bodyByte b o + 256 * bodyLE b (o + 1) n

/-- The bytes of a body. -/
def bodyBytes (b : FMap Byte) (o n : Nat) : List Byte := (List.range n).map (fun i => BitVec.ofNat 8 (bodyByte b (o + i)))

/-- CFGCRC of a body (R527): FACTORY, the salt and the hash taken as zero. -/
def cfgCrcOf (b : FMap Byte) : W32 :=
  let z (o : Nat) : Byte :=
    if o = 2 then BitVec.ofNat 8 (bodyByte b 2 / 2 * 2)
    else if 0x40 ≤ o ∧ o < 0x80 then 0
    else BitVec.ofNat 8 (bodyByte b o)
  BitVec.ofNat 32 (crc32 ((List.range cfgLen).map z))

/-! ## Parameters read from a body -/

/-- An input pair's parameters (R529); times in AO cycles. -/
structure PairCfg where
  mode : Nat
  pol : Bool
  disc : Nat
  blank : Nat
  filt : Nat
  topen : Nat
  holds : W64
  deriving DecidableEq, Repr

/-- Parameters of pair `n`. -/
def pairCfg (b : FMap Byte) (n : Nat) : PairCfg :=
  let o := 0x80 + 64 * n
  { mode := bodyByte b o, pol := bodyByte b (o + 1) = 1, disc := bodyLE b (o + 4) 4 * Config.aoPerMs,
    blank := bodyLE b (o + 8) 4 * Config.aoPerUs, filt := bodyLE b (o + 12) 4 * Config.aoPerMs,
    topen := bodyLE b (o + 16) 4 * Config.aoPerMs, holds := BitVec.ofNat 64 (bodyLE b (o + 24) 8) }

/-- A channel's map parameters (R535). Permit terms are (connection, permit bit); times in AO cycles, pulses in us. -/
structure ChanCfg where
  enable : Bool
  inputs : W16
  streams : W64
  states : BitVec 4
  permits : List (Nat × Nat)
  degOff : Bool
  /-- 0 AUTO, 1 CMD, 2 + k INPUT k. -/
  restart : Nat
  ptp : Nat
  wtp : Nat
  fbEn : Bool
  tfb : Nat
  deriving DecidableEq, Repr

/-- The permit terms of a channel entry at `o` (each 2 B: 0 or 1 + connection, then the permit bit; log entry 9). -/
def permitTerms (b : FMap Byte) (o : Nat) : List (Nat × Nat) :=
  (List.range 4).filterMap (fun i =>
    let c := bodyByte b (o + 2 * i)
    if c = 0 then none else some (c - 1, bodyByte b (o + 2 * i + 1)))

/-- Parameters of channel `k`. -/
def chanCfg (b : FMap Byte) (k : Nat) : ChanCfg :=
  let o := 0x480 + 128 * k
  { enable := bodyByte b o = 1, inputs := BitVec.ofNat 16 (bodyLE b (o + 2) 2),
    streams := BitVec.ofNat 64 (bodyLE b (o + 8) 8), states := BitVec.ofNat 4 (bodyByte b (o + 16)),
    permits := permitTerms b (o + 18), degOff := bodyByte b (o + 26) = 1, restart := bodyByte b (o + 27),
    ptp := bodyLE b (o + 28) 4, wtp := bodyLE b (o + 32) 4, fbEn := bodyByte b (o + 36) = 1,
    tfb := bodyLE b (o + 40) 4 * Config.aoPerMs }

/-- Brake-test parameters of hold channel `h` (R543), times in AO cycles. -/
structure BrakeCfg where
  standstill : Nat
  apply : Nat
  torque : Nat
  interval : Nat
  grace : Nat
  deriving DecidableEq, Repr

/-- Brake-test parameters of hold channel `h`. -/
def brakeCfg (b : FMap Byte) (h : Nat) : BrakeCfg :=
  let o := 0x980 + 32 * h
  { standstill := bodyByte b o, apply := bodyLE b (o + 4) 4 * Config.aoPerMs,
    torque := bodyLE b (o + 8) 4 * Config.aoPerMs, interval := bodyLE b (o + 12) 4 * Config.aoPerH,
    grace := bodyLE b (o + 16) 4 * Config.aoPerH }

/-- A produced connection (R558; entry layout log entry 9), times in AO cycles. -/
structure PConCfg where
  cid : W64
  vcid : W64
  ports : BitVec 4
  streams : W64
  period : Nat
  texpMs : Nat
  deriving DecidableEq, Repr

/-- Produced connection `c`. -/
def pconCfg (b : FMap Byte) (c : Nat) : PConCfg :=
  let o := 0xC00 + 64 * c
  { cid := BitVec.ofNat 64 (bodyLE b o 8), vcid := BitVec.ofNat 64 (bodyLE b (o + 8) 8),
    ports := BitVec.ofNat 4 (bodyByte b (o + 26)), streams := BitVec.ofNat 64 (bodyLE b (o + 32) 8),
    period := bodyLE b (o + 40) 4 * Config.aoPerMs, texpMs := bodyLE b (o + 44) 4 }

/-- A consumed connection (R561; entry layout log entry 9). -/
structure CConCfg where
  cid : W64
  vcid : W64
  ports : BitVec 4
  texpMax : Nat
  deriving DecidableEq, Repr

/-- Consumed connection `c`. -/
def cconCfg (b : FMap Byte) (c : Nat) : CConCfg :=
  let o := 0x1000 + 64 * c
  { cid := BitVec.ofNat 64 (bodyLE b o 8), vcid := BitVec.ofNat 64 (bodyLE b (o + 8) 8),
    ports := BitVec.ofNat 4 (bodyByte b (o + 20)), texpMax := bodyLE b (o + 24) 4 }

/-- A source's entry as a body holds it; class and FIXED are the table's (R502). -/
def bodySrc (b : FMap Byte) (n : Nat) : SrcCfg :=
  let o := 0x1200 + 16 * n
  let r := romCfg n
  let w := bodyLE b o 4
  if r.reserved then r
  else { r with sev := Sev.ofCode w, react := w / 8 % 128, auto := w / 1024 % 2 = 1, trip := w / 65536 % 1024,
                quietMs := bodyLE b (o + 4) 2, limit := bodyByte b (o + 6), windowS := bodyLE b (o + 8) 4 % 2 ^ 17 }

/-- The entry in force (R503): the ROM default until a safety configuration has been loaded. -/
def State.srcCfg (s : State) (n : Nat) : SrcCfg :=
  if s.flt.defaults then romCfg n else bodySrc s.sio.body n

/-- The degraded-operation limit in AO cycles; none when unlimited (R33). -/
def State.degLimit (s : State) : Option Nat :=
  match bodyLE s.sio.body 8 4 with
  | 0 => none
  | h => some (h * Config.aoPerH)

/-- The transient limit (R469). -/
def State.transLimit (s : State) : Nat := bodyByte s.sio.body 3
/-- Untested pairs are allowed (R485). -/
def State.allowUntested (s : State) : Bool := bodyByte s.sio.body 2 / 2 % 2 = 1
/-- The privilege lease in AO cycles (R496). -/
def State.lease (s : State) : Nat := bodyLE s.sio.body 0xC 2 * Config.aoPerS
/-- The temperature warning in degrees (R625). -/
def State.tempWarn (s : State) : Nat := bodyByte s.sio.body 0xE
/-- FACTORY (R553). -/
def State.factory (s : State) : Bool := bodyByte s.sio.body 2 % 2 = 1

/-! ## The checks of a body (R504, R522, R548) -/

/-- `lo ≤ v ≤ hi`. -/
def inR (lo hi v : Nat) : Bool := decide (lo ≤ v) && decide (v ≤ hi)
/-- SEQ a is newer than SEQ b (R643). -/
def seqNewer (a b : W32) : Bool := inR 1 (2 ^ 31 - 1) (a - b).toNat

/-- A source entry obeys R504 and its ranges. -/
def srcEntryOk (b : FMap Byte) (n : Nat) : Bool :=
  let o := 0x1200 + 16 * n
  let r := romCfg n
  let c := bodySrc b n
  if r.reserved then (List.range 12).all (fun i => bodyByte b (o + i) = 0)
  else
    (r.fixed != 2 || (c.sev == r.sev && c.react == r.react)) && (r.fixed != 1 || c.sev == r.sev)
    && (c.sev != .critical || (231 ≤ n && n ≤ 234) || c.react.testBit 5 || c.react.testBit 6)
    && !(c.react.testBit 6 && c.react.testBit 4) && !(c.react.testBit 3 && !c.clsD)
    && inR 1 60000 c.quietMs && inR 1 255 c.limit && inR 1 86400 c.windowS

/-- A pair entry's ranges (R529). -/
def pairEntryOk (b : FMap Byte) (n : Nat) : Bool :=
  let o := 0x80 + 64 * n
  inR 0 2 (bodyByte b o) && inR 0 1 (bodyByte b (o + 1)) && inR 1 1000 (bodyLE b (o + 4) 4)
  && inR 0 1000 (bodyLE b (o + 8) 4) && inR 0 100 (bodyLE b (o + 12) 4) && inR 50 5000 (bodyLE b (o + 16) 4)

/-- A channel entry's ranges (R535), and no map names a pair in UNUSED mode (R548). -/
def chanEntryOk (b : FMap Byte) (k : Nat) : Bool :=
  let o := 0x480 + 128 * k
  let c := chanCfg b k
  inR 0 1 (bodyByte b o) && inR 0 15 (bodyByte b (o + 16)) && inR 0 1 (bodyByte b (o + 26)) && inR 0 17 c.restart
  && (List.range 4).all (fun i => inR 0 8 (bodyByte b (o + 18 + 2 * i)) && inR 0 15 (bodyByte b (o + 19 + 2 * i)))
  && inR 250 1000 c.ptp && inR 20 200 c.wtp && decide (4 * c.wtp ≤ c.ptp) && inR 0 1 (bodyByte b (o + 36))
  && inR 1 (if k < 8 then 500 else 2000) (bodyLE b (o + 40) 4)
  && (List.range 16).all (fun p => !(c.inputs.toNat.testBit p) || bodyByte b (0x80 + 64 * p) != 0)
  && (c.restart < 2 || bodyByte b (0x80 + 64 * (c.restart - 2)) != 0)

/-- A brake-test entry's ranges (R543). A channel with a test interval names a used pair as its standstill pair. -/
def brakeEntryOk (b : FMap Byte) (h : Nat) : Bool :=
  let o := 0x980 + 32 * h
  inR 0 15 (bodyByte b o) && inR 100 2000 (bodyLE b (o + 4) 4) && inR 100 5000 (bodyLE b (o + 8) 4)
  && inR 0 720 (bodyLE b (o + 12) 4) && inR 0 24 (bodyLE b (o + 16) 4)

/-- Connections in use obey R558 and R561. -/
def connEntriesOk (b : FMap Byte) : Bool :=
  (List.range 16).all (fun c =>
    let p := pconCfg b c
    p.ports == 0 || (inR 1 1000 (bodyLE b (0xC00 + 64 * c + 40) 4) && decide (p.texpMs ≤ 65535)
      && decide (p.texpMs ≥ bodyLE b (0xC00 + 64 * c + 40) 4 + 1)))
  && (List.range 8).all (fun c => let p := cconCfg b c; p.ports == 0 || inR 1 65535 p.texpMax)

/-- Every check of R548 on a body's parameters. -/
def bodyOk (b : FMap Byte) : Bool :=
  decide (bodyLE b 0 2 = 1) && decide (bodyByte b 2 < 4) && inR 1 15 (bodyByte b 3) && inR 2 10000 (bodyLE b 4 4)
  && (bodyLE b 8 4 = 0 || inR 1 8760 (bodyLE b 8 4)) && inR 10 3600 (bodyLE b 0xC 2) && inR 85 105 (bodyByte b 0xE)
  && inR 0 8 (bodyByte b 0xF)
  && (List.range 16).all (pairEntryOk b) && (List.range 10).all (chanEntryOk b) && (List.range 2).all (brakeEntryOk b)
  && (List.range 4).all (fun n => inR 0 2 (bodyByte b (0x9C0 + 16 * n)))
  && connEntriesOk b && (List.range 256).all (srcEntryOk b)

end Sys2Proof.Machine
end

