-- ==== Sys2Proof/Machine/Raise.lean ====
section
/-! DEFINITION. Raising a fault source and its reactions (R505 to R513), the error pins (R509 to R511), the safe outputs'
conditions (R536 to R538) and the device's changes of state (R32 to R39): the operations every family shares. -/

namespace Sys2Proof.Machine
open Sys2Proof

/-! ## Sources -/

/-- The state of source `n`. -/
def State.src (s : State) (n : Nat) : SrcState := mget SrcState.reset s.flt.src n
/-- Source `n` set. -/
def State.setSrc (n : Nat) (v : SrcState) (s : State) : State :=
  { s with flt.src := mput SrcState.reset s.flt.src n v }
/-- Source `n` is other than CLEAR. -/
def State.notClear (s : State) (n : Nat) : Bool := (s.src n).st != .clear
/-- The sources other than CLEAR. -/
def State.standing (s : State) : List Nat := (s.flt.src.filter (fun p => p.2.st != .clear)).map Prod.fst
/-- The sources LATCHED. -/
def State.latchedSrcs (s : State) : List Nat := (s.flt.src.filter (fun p => p.2.st == .latched)).map Prod.fst

/-- Reaction bits of FC_SCFG_n.REACT (R505). -/
def SrcCfg.has (c : SrcCfg) (b : Nat) : Bool := c.react.testBit b

/-- ERR_S is driven low (R509). -/
def State.errSLow (s : State) : Bool :=
  s.dev.state == .cold || s.dev.state == .safeHold || s.dev.state == .alarm || s.flt.defaults
  || s.standing.any (fun n => let c := s.srcCfg n; !c.clsD && c.has 2)

/-- The outputs that trip masks of sources other than CLEAR name (R518). -/
def State.tripped (s : State) : Nat := s.standing.foldl (fun m n => m ||| (s.srcCfg n).trip) 0

/-! ## Streams and channels -/

/-- The stream's line in a plan image. -/
def planStream (i : PlanImage) (n : Nat) : Option PStream := i.streams.find? (fun p => p.num = n)
/-- The stream's line in the running plan. -/
def State.pstream (s : State) (n : Nat) : Option PStream := s.run.bind (fun r => planStream r.img n)
/-- Stream `n` is bound by the running plan. -/
def State.isBound (s : State) (n : Nat) : Bool := (s.pstream n).isSome
/-- The gate's state of stream `n`. -/
def State.gs (s : State) (n : Nat) : GateS := mget GateS.reset s.gate n
/-- The gate's state of stream `n` set. -/
def State.setGs (n : Nat) (g : GateS) (s : State) : State := { s with gate := mput GateS.reset s.gate n g }

/-- Stream `n` of the verdict engine. -/
def State.stream (s : State) (n : Nat) : StreamV := mget StreamV.reset s.streams n
/-- Stream `n` set. -/
def State.setStream (n : Nat) (v : StreamV) (s : State) : State :=
  { s with streams := mput StreamV.reset s.streams n v }

/-- A hold reason stands (R69). -/
def StreamV.held (v : StreamV) : Bool := v.hInput || v.hCommand || v.hStale || v.hMismatch || v.hSafe
/-- The lowest-numbered hold reason standing (R69). -/
def StreamV.holdCode (v : StreamV) : Nat :=
  if v.hInput then 1 else if v.hCommand then 2 else if v.hStale then 3 else if v.hMismatch then 4
  else if v.hSafe then 5 else 0
/-- The stream state, HELD as 3 (R68's table). -/
def StreamV.code (v : StreamV) : Nat := if v.held then 3 else v.under.code

/-- Pair `n`. -/
def State.pair (s : State) (n : Nat) : InPair := mget InPair.reset s.sio.pairs n
/-- Channel `k`. -/
def State.chan (s : State) (k : Nat) : Chan := mget Chan.reset s.sio.chans k
/-- Channel `k` set. -/
def State.setChan (k : Nat) (c : Chan) (s : State) : State := { s with sio.chans := mput Chan.reset s.sio.chans k c }
/-- Consumed connection `c`. -/
def State.ccon (s : State) (c : Nat) : CCon := mget CCon.reset s.bsc.ccon c

/-- The permit bits that count (R562, R563): zero while the connection is not in RUN. -/
def State.permits (s : State) (c : Nat) : W16 := if (s.ccon c).st == .run then (s.ccon c).permits else 0

/-- The conditions of R536 that are not about a stream state. -/
def State.condOther (s : State) (k : Nat) (c : ChanCfg) : Bool :=
  c.enable && !s.dev.split
  && (List.range 16).all (fun p => !(c.inputs.toNat.testBit p) || (s.pair p).st == .release)
  && c.permits.all (fun t => (s.permits t.1).toNat.testBit t.2)
  && !(s.tripped.testBit k) && (decide (k < 8) || !(s.chan k).btBad)

/-- The device states in which a channel may be energised (R536). -/
def State.condDev (s : State) (c : ChanCfg) : Bool :=
  match s.dev.state with
  | .run => true
  | .degraded => !c.degOff
  | .mismatchHold => true
  | _ => false

/-- The stream conditions of R536: every stream of the mask is bound by the running plan and in the state set. -/
def State.condStreams (s : State) (c : ChanCfg) : Bool :=
  (List.range 64).all (fun n => !(c.streams.toNat.testBit n) ||
    (s.isBound n && c.states.toNat.testBit (s.stream n).code))

/-- The conditions of channel `k` (R536). -/
def State.conds (s : State) (k : Nat) : Bool :=
  let c := chanCfg s.sio.body k
  s.condOther k c && s.condDev c && s.condStreams c

/-- A feedback pin of channel `k` stands other than commanded (R541). -/
def State.fbBad (s : State) (k : Nat) : Bool :=
  let e := (s.chan k).energised
  s.sio.feedback.toNat.testBit (2 * k) != e || s.sio.feedback.toNat.testBit (2 * k + 1) != e

/-- The watch of channel `k`'s feedback: it runs from when a pin began to stand other than commanded (R541). -/
def State.fbWatch (k : Nat) (s : State) : State :=
  let o := mget 0 s.sio.fbWrong k
  { s with sio.fbWrong := mput 0 s.sio.fbWrong k (if s.fbBad k then (if o = 0 then s.ao + 1 else o) else 0) }

/-- A channel's drive command changes: stamp, event latch SIO_EVT.OFF or ON (R537); its feedback is watched afresh. -/
def State.drive (k : Nat) (on : Bool) (s : State) : State :=
  let s := s.setChan k { s.chan k with energised := on, cmdAt := s.ao }
  (({ s with sio.fbWrong := mput 0 s.sio.fbWrong k 0 }).fbWatch k).revt 0x70008 (if on then 3 else 2)

/-- A brake test ended without a result: BTQ falls, the phase is idle (R546). -/
def State.btStop (k : Nat) (s : State) : State :=
  { (s.setChan k { s.chan k with bt := .idle }) with
    sio.btq := s.sio.btq &&& ~~~(BitVec.ofNat 2 (2 ^ (k - 8))) }

/-- Channel `k` evaluated (R537, R538): de-energised where its conditions do not hold, energised where they do and its
restart mode is AUTO. In a blackout it keeps its state unless a reason other than a stream state fails. -/
def State.evalChan (k : Nat) (s : State) : State :=
  let c := chanCfg s.sio.body k
  let ch := s.chan k
  if s.dev.state == .planLoad && s.dev.blackout then
    (if ch.energised && !s.condOther k c then s.drive k false else s)
  else if s.conds k then
    (if !ch.energised && c.restart = 0 && ch.bt == .idle then s.drive k true else s)
  else
    let s := if ch.energised then s.drive k false else s
    if ch.bt != .idle then s.btStop k else s

/-- Every channel evaluated. -/
def State.evalChans (s : State) : State := forAll (List.range 10) State.evalChan s

/-! ## Privilege (R498) -/

/-- Safety privilege ends (R498). -/
def State.endPriv (s : State) : State :=
  if s.rv.privHeld then ({ s with rv.privHeld := false }).revt 0x2000C 6 else s

/-! ## Device state (R28 to R39) -/

/-- Every function learns of a changed device state (FN_EVT.DSTATE). -/
def State.devTo (d : DevState) (s : State) : State :=
  if s.dev.state = d then s else ({ s with dev.state := d }).fnEvtAll 0

/-- Every stream takes a hold reason. -/
def State.holdAll (f : StreamV → StreamV) (s : State) : State :=
  forAll (List.range 64) (fun n s => s.setStream n (f (s.stream n))) s

/-- The device's states in which an event for SAFE_HOLD acts (R32); in COLD and ALARM it does not (R36). -/
def DevState.live : DevState → Bool
  | .boot | .planLoad | .run | .degraded | .mismatchHold => true
  | _ => false

/-! ## Domains without a plan (R589, R608) -/

/-- The time unit is required (R589). -/
def State.timeWanted (s : State) : Bool :=
  let on (a : Nat) : Bool := bitsOf (s.rget a) 1 0 != 0
  s.run.isSome || (List.range 4).any (fun p => on (0x50010 + 4 * p)) || (List.range 16).any (fun n => on (0x50200 + 32 * n))
  || (List.range 16).any (fun n => on (0x50400 + 32 * n))
/-- Ethernet port `p` is required (R608): by a BSC connection, a PTP port or a BSF source. -/
def State.ethWanted (s : State) (p : Nat) : Bool :=
  (List.range 16).any (fun c => (pconCfg s.sio.body c).ports.toNat.testBit p)
  || (List.range 8).any (fun c => (cconCfg s.sio.body c).ports.toNat.testBit p)
  || bitsOf (s.rget (0x50010 + 4 * p)) 1 0 != 0
  || (match s.run with | some r => r.img.streams.any (fun x => decide (2 ≤ x.src)) | none => false)
/-- Domain `d` woken where an owner requires it, and released where none does. -/
def State.ownDom (d : Nat) (want : Bool) (s : State) : State :=
  if want then s.wakeDom d
  else if s.dom d = .off && mget 0 s.pm.wake d = 0 then s else s.releaseDom d
/-- The time unit's and the Ethernet ports' domains as their owners require them (R589, R608). -/
def State.ownDoms (s : State) : State :=
  forAll (List.range 4) (fun p s => s.ownDom (0x47 + p) (s.ethWanted p)) (s.ownDom 0x4F s.timeWanted)
/-- No plan runs any more: what only a running plan requires is released (R608), and no tokens are granted (R614). -/
def State.planDomsOff (s : State) : State :=
  let s := forAll (List.range 48) (fun q s => if s.dom q = .off then s.releaseDom q else s.quadOff q) s
  let s := forAll [0x4B, 0x4C, 0x4D, 0x4E, 0x52] State.releaseDom s
  { (s.rset 0x60038 0).rset 0x6003C 0 with pm.grant := [], pm.throttled := false }.ownDoms

/-- A switch in its blackout is given up, as another device state is entered (R37, R319): placement stops, the tiles are
cleared, and its command completes with SWITCH_FAILED. -/
def State.abandonSwitch (s : State) : State :=
  if s.ldr.phase = .blackout then
    let s := match s.ldr.tag with | some t => s.finishTag t 13 0x14 | none => s
    { s with ldr := { s.ldr with phase := .idle, img := none, staged := false, armed := false, tag := none, refuse := 0x14 }
      }.stopPlan.planDomsOff.planEvt
  else s


/-- Entry into SAFE_HOLD (R32): the blackout ends (R37), every stream is HELD with reason SAFE_STATE, privilege ends,
the host watchdog is disarmed (R567),
a chip reset of the same cycle is not carried out (R36), every output is de-energised (R29). -/
def State.enterSafeHold (src : Option Nat) (s : State) : State :=
  if s.dev.state.live then
    let s := s.abandonSwitch
    let s := { s with dev.holdSrc := src, dev.blackout := false, dev.bootHealthy := false, dev.chipReq := none,
                      dev.holdAt := some s.ao, sv.hwd.st := .disarmed }
    (((s.devTo .safeHold).holdAll (fun v => { v with hSafe := true })).endPriv).evalChans
  else s

/-- Entry into ALARM (R32, R666), from any state except COLD. -/
def State.enterAlarm (s : State) : State :=
  match s.dev.state with
  | .cold | .alarm => s
  | _ =>
    let s := s.abandonSwitch
    let s := { s with dev.holdSrc := none, dev.blackout := false, dev.bootHealthy := false, dev.chipReq := none,
                      dev.holdAt := some s.ao, sv.hwd.st := .disarmed }
    (((s.devTo .alarm).holdAll (fun v => { v with hSafe := true })).endPriv).evalChans

/-- The degraded-operation count starts, where none runs (R33 to R35). -/
def State.startCount (s : State) : State :=
  match s.dev.degrStart with
  | some _ => s
  | none => { s with dev.degrStart := some s.ao }

/-- Entry into MISMATCH_HOLD (R31, R32): every stream HELD with reason MISMATCH, privilege ends, the blackout ends. -/
def State.enterMismatch (s : State) : State :=
  match s.dev.state with
  | .boot | .planLoad | .run | .degraded =>
    let s := s.abandonSwitch
    let s := { s with dev.blackout := false, dev.bootHealthy := false }
    let s := ((s.devTo .mismatchHold).holdAll (fun v => { v with hMismatch := true })).endPriv
    (if s.dev.degr.any then s.startCount else s).evalChans
  | _ => s

/-- A degrading condition arises (R32, R35, R38). -/
def State.degrade (f : Degr → Degr) (s : State) : State :=
  let s := { s with dev.degr := f s.dev.degr }
  match s.dev.state with
  | .run => ((s.devTo .degraded).startCount).evalChans
  | .mismatchHold => s.startCount
  | _ => s

/-- A degrading condition clears: with none left, DEGRADED returns to RUN and the count is reset (R32, R34). -/
def State.undegrade (f : Degr → Degr) (s : State) : State :=
  let s := { s with dev.degr := f s.dev.degr }
  match s.dev.state with
  | .degraded => if s.dev.degr.any then s else ({ s.devTo .run with dev.degrStart := none }).evalChans
  | _ => s

/-! ## Error pin ERR_P (R510, R511) -/

/-- A class D source with reaction E leaves CLEAR. -/
def State.errPRaise (s : State) : State :=
  if s.flt.errP then { s with flt.errPMin := s.ao + 500, flt.errPRel := false }
  else if s.ao < s.flt.errPLow then { s with flt.errPRaise := true }
  else { s with flt.errP := true, flt.errPMin := s.ao + 500, flt.errPRel := false }

/-- ERR_P falls, and stays low for 10 us. -/
def State.errPFall (s : State) : State :=
  { s with flt.errP := false, flt.errPRel := false, flt.errPLow := s.ao + 500 }

/-! ## Raising a source -/

/-- What a raise says of the failing access (R513). -/
structure Cap where
  addr : Nat
  init : Nat
  acc : Nat
  unit : Nat
  deriving DecidableEq, Repr

/-- No access, no initiator, no unit. -/
def Cap.none : Cap := { addr := 0, init := 0xFF, acc := 3, unit := 0xFFFF }
/-- Only a unit. -/
def Cap.ofUnit (u : Nat) : Cap := { Cap.none with unit := u }

/-- The group's first-error capture is filled, or its overflow counted (R512). -/
def State.capture (n : Nat) (c : Cap) (s : State) : State :=
  let a := 0x10100 + 32 * (n / 32)
  if bitAt (s.rget a) 8 then s.rincSat a 31 16 1
  else
    let s := s.rset a (BitVec.ofNat 32 (n + 256 + c.acc % 4 * 512))
    let s := s.rset (a + 4) (BitVec.ofNat 32 c.addr)
    let s := s.rset (a + 8) (BitVec.ofNat 32 (c.init % 256 + 256 * (c.unit % 65536)))
    s.rset64 (a + 16) s.ao

/-- A trip (R517): recorded in FC_TRIPLAST, FC_EVT.TRIP and FC_TRIPMAX; the channels are then evaluated. -/
def State.trip (n mask : Nat) (s : State) : State :=
  let s := (s.rset 0x10018 (BitVec.ofNat 32 (n + 256 * mask))).rset 0x1001C (BitVec.ofNat 32 s.ao)
  ((s.revt 0x10008 3).rmaxFree 0x10020 3000).evalChans

/-- The outputs a trip mask names, de-energised at once (R505 T). -/
def State.dropMask (mask : Nat) (s : State) : State :=
  forAll (List.range 10) (fun k s => if mask.testBit k && (s.chan k).energised then s.drive k false else s) s

/-- The block reset of reaction B (R505, R626): the block that the source names goes back to its reset state and
everything else is kept. The spec gives the blocks no inner state beyond what is here (log entry 10): the porter's waiting
answers; an ingress engine's hold of its open frames; an Ethernet port's buffer checks; the host link's evidence lanes;
the plan loader's load in progress where no plan start depends on it. -/
def State.blockReset (n : Nat) (s : State) : State :=
  if n = 71 ∨ n = 194 ∨ n = 195 then { s with dev.porterQ := [] }
  else if 160 ≤ n ∧ n < 164 then
    forAll (List.range 64) (fun k s =>
      match s.pstream k with
      | some p => if p.src = n - 160 then s.setGs k { s.gs k with discarding := true } else s
      | none => s) s
  else if 164 ≤ n ∧ n < 172 then
    let m := BitVec.ofNat 4 (2 ^ ((n - 164) % 4))
    { s with bsc.eccSeen := s.bsc.eccSeen &&& ~~~m, bsc.chkPass := s.bsc.chkPass &&& ~~~m }
  else if n = 197 ∨ n = 198 then { s with hl.lanes := [] }
  else if n = 225 then (if s.ldr.phase == .armed || s.ldr.phase == .blackout then s else { s with ldr.phase := .idle })
  else s

/-- The reactions of source `n`, which has just left CLEAR (R505, R506). Tamper sources follow their policy (R666). -/
def State.react (n : Nat) (s : State) : State :=
  let cfg := s.srcCfg n
  let s := s.rinc64 (0x10080 + 8 * cfg.sev.code) 1
  let tam := decide (231 ≤ n) && decide (n ≤ 234)
  let pol := s.kv.policy.toNat / 4 ^ (n - 231) % 4
  let r : Nat := if tam then (if pol = 0 then 0b101 else 0) else cfg.react
  let s := if r.testBit 0 then (s.revt 0x10008 0).msix 0 3 else s
  let s := if r.testBit 1 then { s with rv.slow := false } else s
  let s := if r.testBit 2 && cfg.clsD then s.errPRaise else s
  let s := if r.testBit 5 then (s.dropMask cfg.trip).trip n cfg.trip else s
  let s := if r.testBit 6 then (s.enterSafeHold (some n)).trip n 0x3FF else s
  let s := if tam && decide (pol ≠ 0) then s.enterAlarm.trip n 0x3FF else s
  let s := if r.testBit 3 then s.blockReset n else s
  if r.testBit 4 && decide (s.dev.holdAt ≠ some s.ao) && s.dev.state != .alarm
  then { s with dev.chipReq := some (some n) } else s

/-- A raise of source `n` (R506, R507, R512): a reserved source is never raised (R501), nothing is in COLD. `level`: the
line stays asserted. -/
def State.raiseWith (n : Nat) (level : Bool) (c : Cap) (s : State) : State :=
  if (romCfg n).reserved || s.dev.state == .cold then s
  else
    let o := s.src n
    let us := if o.st == .clear then [c.unit] else if o.units.contains c.unit then o.units else o.units ++ [c.unit]
    let v : SrcState := { o with occ := satAdd 65535 o.occ 1, asserted := o.asserted || level, units := us }
    let s := s.capture n c
    match o.st with
    | .clear =>
      let s := s.setSrc n { v with st := .active, depAo := s.ao }
      (s.react n).evalChans
    | .quiet => s.setSrc n { v with st := .active }
    | .active => s.setSrc n v
    | .latched => s.setSrc n v

/-- An event source raised for one AO cycle. -/
def State.raise (n : Nat) (s : State) : State := s.raiseWith n false Cap.none
/-- An event source raised with its unit. -/
def State.raiseU (n u : Nat) (s : State) : State := s.raiseWith n false (Cap.ofUnit u)
/-- A level source raised, where its line is not already asserted. -/
def State.raiseLevel (n u : Nat) (s : State) : State :=
  if (s.src n).asserted then s else s.raiseWith n true (Cap.ofUnit u)

/-- The line of a source deasserts: ACTIVE goes to LATCHED where the severity is CRITICAL or AUTO is 0, else to QUIET
(R507, R508). -/
def State.deassert (n : Nat) (s : State) : State :=
  let o := { s.src n with asserted := false }
  if o.st == .active then
    let c := s.srcCfg n
    if c.sev == .critical || !c.auto then (s.setSrc n { o with st := .latched }).revt 0x10008 1
    else s.setSrc n { o with st := .quiet, quietAt := s.ao }
  else s.setSrc n o

/-- A level source's line deasserted where it was asserted. -/
def State.lower (n : Nat) (s : State) : State := if (s.src n).asserted then s.deassert n else s

end Sys2Proof.Machine
end

