-- ==== Sys2Proof/Machine/Flags.lean ====
section
/-! DEFINITION. The scalar unit's arithmetic (R223 to R232): results, condition codes and the sticky flags they set. -/

namespace Sys2Proof.Machine
open Sys2Proof

/-- The result of a scalar operation with its codes C and V and the sticky flags it sets; Z and N follow from the result
(R226). -/
structure Alu where
  r : W32
  c : Bool
  v : Bool
  ov : Bool
  sat : Bool
  dz : Bool
  deriving DecidableEq, Repr

/-- A result with C = V = 0. -/
def Alu.plain (r : W32) : Alu := { r := r, c := false, v := false, ov := false, sat := false, dz := false }

/-- INT_MAX and INT_MIN. -/
def intMax : Int := 2147483647
/-- INT_MIN. -/
def intMin : Int := -2147483648

/-- An exact signed result kept in 32 bits by the W class (R224). -/
def aluW (i : Int) (c : Bool) : Alu :=
  let r := BitVec.ofInt 32 i
  let v := decide (r.toInt ≠ i)
  { r := r, c := c, v := v, ov := v, sat := false, dz := false }

/-- An exact signed result saturated by the S class (R225). -/
def aluS (i : Int) (c : Bool) : Alu :=
  if i > intMax then { r := BitVec.ofInt 32 intMax, c := c, v := true, ov := false, sat := true, dz := false }
  else if i < intMin then { r := BitVec.ofInt 32 intMin, c := c, v := true, ov := false, sat := true, dz := false }
  else { r := BitVec.ofInt 32 i, c := c, v := false, ov := false, sat := false, dz := false }

/-- An exact result under a class: false W, true S. -/
def aluOf (s : Bool) (i : Int) (c : Bool) : Alu := if s then aluS i c else aluW i c

/-- Addition: C is the carry out of bit 31 (R226). -/
def aluAdd (s : Bool) (a b : W32) : Alu := aluOf s (a.toInt + b.toInt) (decide (a.toNat + b.toNat ≥ 2 ^ 32))
/-- Subtraction: C is 1 when the unsigned minuend is less than the subtrahend (R226). -/
def aluSub (s : Bool) (a b : W32) : Alu := aluOf s (a.toInt - b.toInt) (decide (a.toNat < b.toNat))
/-- Negation (R252). -/
def aluNeg (s : Bool) (a : W32) : Alu := aluOf s (-a.toInt) false
/-- Absolute value (R252). -/
def aluAbs (s : Bool) (a : W32) : Alu := aluOf s a.toInt.natAbs false
/-- The low word of the product (R252). -/
def aluMul (s : Bool) (a b : W32) : Alu := aluOf s (a.toInt * b.toInt) false
/-- The high word of the signed product (R252). -/
def aluMulh (a b : W32) : Alu := .plain (BitVec.ofInt 32 (a.toInt * b.toInt / 2 ^ 32))
/-- The high word of the unsigned product (R252). -/
def aluMulhu (a b : W32) : Alu := .plain (BitVec.ofNat 32 (a.toNat * b.toNat / 2 ^ 32))

/-- Signed division (R229). -/
def aluDiv (s : Bool) (a b : W32) : Alu :=
  if b = 0 then { Alu.plain (BitVec.ofInt 32 (if a.toInt ≥ 0 then intMax else intMin)) with dz := true }
  else aluOf s (a.toInt.tdiv b.toInt) false

/-- Signed remainder (R229, R253). -/
def aluRem (a b : W32) : Alu :=
  if b = 0 then { Alu.plain a with dz := true } else .plain (BitVec.ofInt 32 (a.toInt.tmod b.toInt))

/-- Unsigned quotient (R230). -/
def aluDivu (a b : W32) : Alu :=
  if b = 0 then { Alu.plain 0xFFFFFFFF with dz := true } else .plain (BitVec.ofNat 32 (a.toNat / b.toNat))
/-- Unsigned remainder (R230). -/
def aluRemu (a b : W32) : Alu :=
  if b = 0 then { Alu.plain a with dz := true } else .plain (BitVec.ofNat 32 (a.toNat % b.toNat))

/-- The shift count: bits [7:0] of the count operand (R231). -/
def shiftCount (b : W32) : Nat := b.toNat % 256

/-- Left shift (R231). -/
def aluShl (s : Bool) (a : W32) (c : Nat) : Alu :=
  let i := a.toInt * (2 ^ c : Nat)
  if s then aluS i false
  else
    let r : W32 := if c ≥ 32 then 0 else BitVec.ofInt 32 i
    let v := decide (r.toInt ≠ i)
    { r := r, c := false, v := v, ov := v, sat := false, dz := false }
/-- Logical right shift (R231). -/
def aluShr (a : W32) (c : Nat) : Alu := .plain (if c ≥ 32 then 0 else BitVec.ofNat 32 (a.toNat / 2 ^ c))
/-- Arithmetic right shift (R231). -/
def aluSar (a : W32) (c : Nat) : Alu :=
  .plain (if c ≥ 32 then (if a.toInt < 0 then 0xFFFFFFFF else 0) else BitVec.ofInt 32 (a.toInt / (2 ^ c : Nat)))

/-- Signed and unsigned minimum and maximum (R252). -/
def aluMin (a b : W32) : Alu := .plain (if a.toInt ≤ b.toInt then a else b)
/-- Signed maximum. -/
def aluMax (a b : W32) : Alu := .plain (if a.toInt ≤ b.toInt then b else a)
/-- Unsigned minimum. -/
def aluMinu (a b : W32) : Alu := .plain (if a.toNat ≤ b.toNat then a else b)
/-- Unsigned maximum. -/
def aluMaxu (a b : W32) : Alu := .plain (if a.toNat ≤ b.toNat then b else a)
/-- Leading zeros, 0 to 32 (R252). -/
def aluClz (a : W32) : Alu := .plain (BitVec.ofNat 32 (if a = 0 then 32 else 31 - a.toNat.log2))
/-- Set bits, 0 to 32 (R252). -/
def aluPopc (a : W32) : Alu := .plain (BitVec.ofNat 32 ((List.range 32).filter (fun i => a.toNat.testBit i)).length)

/-- The condition COND holds (R249); 0xF is refused before it is asked. -/
def condHolds (z n c v : Bool) (k : Nat) : Bool := match k with
  | 0 => z | 1 => !z | 2 => n != v | 3 => n == v | 4 => !z && n == v | 5 => z || n != v | 6 => c | 7 => !c
  | 8 => !c && !z | 9 => c || z | 10 => n | 11 => !n | 12 => v | 13 => !v | _ => true

/-- The places of the sticky flags (R228). -/
def stOV : Nat := 0
/-- SAT. -/
def stSAT : Nat := 1
/-- DZ. -/
def stDZ : Nat := 2
/-- CVT. -/
def stCVT : Nat := 3
/-- SPILL. -/
def stSPILL : Nat := 4
/-- NAN. -/
def stNAN : Nat := 5
/-- DUST. -/
def stDUST : Nat := 6
/-- BND. -/
def stBND : Nat := 7

/-- A sticky flag set where the event occurred (R227). -/
def CtxSt.stick (x : CtxSt) (b : Nat) (on : Bool) : CtxSt :=
  if on then { x with flags := x.flags ||| BitVec.ofNat 8 (2 ^ b) } else x

/-- The condition codes overwritten by a result (R226). -/
def CtxSt.codes (x : CtxSt) (a : Alu) : CtxSt := { x with z := a.r = 0, n := a.r.msb, c := a.c, v := a.v }

/-- The sticky flags a scalar result sets (R224, R225, R229). -/
def CtxSt.sticky (x : CtxSt) (a : Alu) : CtxSt := ((x.stick stOV a.ov).stick stSAT a.sat).stick stDZ a.dz

end Sys2Proof.Machine
end

