-- ==== Sys2Proof/Machine/Aes.lean ====
section
/-! DEFINITION. AES-256 (FIPS 197), which R123 names for the sampling keystream: the block cipher on numbers, and the
keystream's counter block and words. -/

namespace Sys2Proof.Machine
open Sys2Proof

/-- Row 0 of the AES substitution box. -/
def sbox0 : List Nat := [0x63, 0x7c, 0x77, 0x7b, 0xf2, 0x6b, 0x6f, 0xc5, 0x30, 0x1, 0x67, 0x2b, 0xfe, 0xd7, 0xab, 0x76]
/-- Row 1 of the AES substitution box. -/
def sbox1 : List Nat := [0xca, 0x82, 0xc9, 0x7d, 0xfa, 0x59, 0x47, 0xf0, 0xad, 0xd4, 0xa2, 0xaf, 0x9c, 0xa4, 0x72, 0xc0]
/-- Row 2 of the AES substitution box. -/
def sbox2 : List Nat := [0xb7, 0xfd, 0x93, 0x26, 0x36, 0x3f, 0xf7, 0xcc, 0x34, 0xa5, 0xe5, 0xf1, 0x71, 0xd8, 0x31, 0x15]
/-- Row 3 of the AES substitution box. -/
def sbox3 : List Nat := [0x4, 0xc7, 0x23, 0xc3, 0x18, 0x96, 0x5, 0x9a, 0x7, 0x12, 0x80, 0xe2, 0xeb, 0x27, 0xb2, 0x75]
/-- Row 4 of the AES substitution box. -/
def sbox4 : List Nat := [0x9, 0x83, 0x2c, 0x1a, 0x1b, 0x6e, 0x5a, 0xa0, 0x52, 0x3b, 0xd6, 0xb3, 0x29, 0xe3, 0x2f, 0x84]
/-- Row 5 of the AES substitution box. -/
def sbox5 : List Nat := [0x53, 0xd1, 0x0, 0xed, 0x20, 0xfc, 0xb1, 0x5b, 0x6a, 0xcb, 0xbe, 0x39, 0x4a, 0x4c, 0x58, 0xcf]
/-- Row 6 of the AES substitution box. -/
def sbox6 : List Nat := [0xd0, 0xef, 0xaa, 0xfb, 0x43, 0x4d, 0x33, 0x85, 0x45, 0xf9, 0x2, 0x7f, 0x50, 0x3c, 0x9f, 0xa8]
/-- Row 7 of the AES substitution box. -/
def sbox7 : List Nat := [0x51, 0xa3, 0x40, 0x8f, 0x92, 0x9d, 0x38, 0xf5, 0xbc, 0xb6, 0xda, 0x21, 0x10, 0xff, 0xf3, 0xd2]
/-- Row 8 of the AES substitution box. -/
def sbox8 : List Nat := [0xcd, 0xc, 0x13, 0xec, 0x5f, 0x97, 0x44, 0x17, 0xc4, 0xa7, 0x7e, 0x3d, 0x64, 0x5d, 0x19, 0x73]
/-- Row 9 of the AES substitution box. -/
def sbox9 : List Nat := [0x60, 0x81, 0x4f, 0xdc, 0x22, 0x2a, 0x90, 0x88, 0x46, 0xee, 0xb8, 0x14, 0xde, 0x5e, 0xb, 0xdb]
/-- Row A of the AES substitution box. -/
def sbox10 : List Nat := [0xe0, 0x32, 0x3a, 0xa, 0x49, 0x6, 0x24, 0x5c, 0xc2, 0xd3, 0xac, 0x62, 0x91, 0x95, 0xe4, 0x79]
/-- Row B of the AES substitution box. -/
def sbox11 : List Nat := [0xe7, 0xc8, 0x37, 0x6d, 0x8d, 0xd5, 0x4e, 0xa9, 0x6c, 0x56, 0xf4, 0xea, 0x65, 0x7a, 0xae, 0x8]
/-- Row C of the AES substitution box. -/
def sbox12 : List Nat := [0xba, 0x78, 0x25, 0x2e, 0x1c, 0xa6, 0xb4, 0xc6, 0xe8, 0xdd, 0x74, 0x1f, 0x4b, 0xbd, 0x8b, 0x8a]
/-- Row D of the AES substitution box. -/
def sbox13 : List Nat := [0x70, 0x3e, 0xb5, 0x66, 0x48, 0x3, 0xf6, 0xe, 0x61, 0x35, 0x57, 0xb9, 0x86, 0xc1, 0x1d, 0x9e]
/-- Row E of the AES substitution box. -/
def sbox14 : List Nat := [0xe1, 0xf8, 0x98, 0x11, 0x69, 0xd9, 0x8e, 0x94, 0x9b, 0x1e, 0x87, 0xe9, 0xce, 0x55, 0x28, 0xdf]
/-- Row F of the AES substitution box. -/
def sbox15 : List Nat := [0x8c, 0xa1, 0x89, 0xd, 0xbf, 0xe6, 0x42, 0x68, 0x41, 0x99, 0x2d, 0xf, 0xb0, 0x54, 0xbb, 0x16]

/-- The AES substitution box. -/
def sbox (x : Nat) : Nat :=
  let row := match x / 16 with
    | 0 => sbox0 | 1 => sbox1 | 2 => sbox2 | 3 => sbox3 | 4 => sbox4 | 5 => sbox5 | 6 => sbox6 | 7 => sbox7
    | 8 => sbox8 | 9 => sbox9 | 10 => sbox10 | 11 => sbox11 | 12 => sbox12 | 13 => sbox13 | 14 => sbox14 | _ => sbox15
  lget 0 row (x % 16)

/-- Multiplication by x in GF(2^8). -/
def xtime (a : Nat) : Nat := if a < 128 then 2 * a else (2 * a % 256) ^^^ 0x1B

/-- The bytes of a word, most significant first. -/
def wordBytes (w : Nat) : List Nat := [w / 2 ^ 24 % 256, w / 2 ^ 16 % 256, w / 2 ^ 8 % 256, w % 256]

/-- A word of four bytes, most significant first. -/
def bytesWord (l : List Nat) : Nat := l.foldl (fun a b => a * 256 + b) 0

/-- SubWord. -/
def subWord (w : Nat) : Nat := bytesWord ((wordBytes w).map sbox)

/-- The round constants of AES-256. -/
def aesRcon : List Nat := [0x01000000, 0x02000000, 0x04000000, 0x08000000, 0x10000000, 0x20000000, 0x40000000]

/-- The key schedule, continued for `fuel` words: `prev` is the last eight words, newest first. -/
def keyWords : Nat → Nat → List Nat → List Nat
  | 0, _, _ => []
  | fuel + 1, i, prev =>
    let t := lget 0 prev 0
    let t := if i % 8 = 0 then subWord (t % 2 ^ 24 * 256 + t / 2 ^ 24) ^^^ lget 0 aesRcon (i / 8 - 1)
      else if i % 8 = 4 then subWord t else t
    let w := lget 0 prev 7 ^^^ t
    w :: keyWords fuel (i + 1) (w :: prev.take 7)

/-- The 60 words of the AES-256 key schedule. -/
def aesKeys (key : Nat) : List Nat :=
  let k0 := (List.range 8).map (fun i => key / 2 ^ (32 * (7 - i)) % 2 ^ 32)
  k0 ++ keyWords 52 8 k0.reverse

/-- One column of MixColumns. -/
def mixCol (l : List Nat) : List Nat :=
  let a := lget 0 l 0
  let b := lget 0 l 1
  let c := lget 0 l 2
  let d := lget 0 l 3
  [xtime a ^^^ (xtime b ^^^ b) ^^^ c ^^^ d, a ^^^ xtime b ^^^ (xtime c ^^^ c) ^^^ d,
   a ^^^ b ^^^ xtime c ^^^ (xtime d ^^^ d), (xtime a ^^^ a) ^^^ b ^^^ c ^^^ xtime d]

/-- SubBytes and ShiftRows of a state of 16 bytes in column order. -/
def subShift (st : List Nat) : List Nat :=
  (List.range 16).map (fun i => sbox (lget 0 st ((i / 4 + i % 4) % 4 * 4 + i % 4)))

/-- AddRoundKey with the four words from index `i`. -/
def addKey (ks : List Nat) (i : Nat) (st : List Nat) : List Nat :=
  List.zipWith (fun a b => a ^^^ b) st
    (wordBytes (lget 0 ks i) ++ wordBytes (lget 0 ks (i + 1)) ++ wordBytes (lget 0 ks (i + 2))
      ++ wordBytes (lget 0 ks (i + 3)))

/-- Rounds `r` on, `n` of them with MixColumns, then the last without. -/
def aesRounds (ks : List Nat) : Nat → Nat → List Nat → List Nat
  | 0, r, st => addKey ks (4 * r) (subShift st)
  | n + 1, r, st =>
    let t := subShift st
    aesRounds ks n (r + 1)
      (addKey ks (4 * r) (mixCol (t.take 4) ++ mixCol ((t.drop 4).take 4) ++ mixCol ((t.drop 8).take 4) ++ mixCol (t.drop 12)))

/-- AES-256 of a 128-bit block, most significant byte first. -/
def aes256 (key block : Nat) : List Nat :=
  let ks := aesKeys key
  aesRounds ks 13 1 (addKey ks 0 ((List.range 16).map (fun i => block / 2 ^ (8 * (15 - i)) % 256)))

/-- The counter block of R123. -/
def ksCounter (branch stream layer xfwd blk : Nat) : Nat :=
  branch * 2 ^ 124 + stream * 2 ^ 118 + layer * 2 ^ 106 + xfwd * 2 ^ 58 + blk

/-- Word `k` of the keystream (R123): four bytes of block k div 4, little-endian. -/
def ksWord (key branch stream layer xfwd k : Nat) : Nat :=
  let b := aes256 key (ksCounter branch stream layer xfwd (k / 4))
  let o := 4 * (k % 4)
  lget 0 b o + 256 * lget 0 b (o + 1) + 65536 * lget 0 b (o + 2) + 16777216 * lget 0 b (o + 3)

/-- The draw of `want` distinct candidates below m from keystream words k on, at most `fuel` more words (R124). -/
def drawLoop (ks : Nat → Nat) (m w want : Nat) : Nat → Nat → List Nat → List Nat
  | 0, _, ch => ch
  | fuel + 1, k, ch =>
    if ch.length ≥ want then ch
    else
      let c := ks k % 2 ^ w
      drawLoop ks m w want fuel (k + 1) (if c < m ∧ !ch.contains c then ch ++ [c] else ch)

/-- The fill rule of R124: the lowest unused candidates until `want` are chosen. -/
def drawFill (want : Nat) (ch : List Nat) : List Nat → List Nat
  | [] => ch
  | c :: t => if ch.length ≥ want then ch else drawFill want (if ch.contains c then ch else ch ++ [c]) t

/-- Indices of a draw of n from m candidates (R124), ascending. -/
def drawIndices (ks : Nat → Nat) (m n : Nat) : List Nat :=
  if n ≥ m then List.range m
  else
    let excl := decide (n > m / 2)
    let want := if excl then m - n else n
    let w := if m ≤ 1 then 0 else (m - 1).log2 + 1
    let ch := drawFill want (drawLoop ks m w want 1024 0 []) (List.range m)
    (List.range m).filter (fun i => ch.contains i != excl)

end Sys2Proof.Machine
end

