-- ==== Sys2Proof/Machine/Arith.lean ====
section
/-! DEFINITION. Tile arithmetic: element formats (R100, R199, R200), the exact window (R205 to R212), the magnitude
accumulator (R213, R214), the judges (R218, R222) and the conversions out of the window (R219 to R221). -/

namespace Sys2Proof.Machine
open Sys2Proof

/-! ## Formats -/

/-- Bytes of an element format of R100; 0 for a reserved code. -/
def fmtBytes (f : Nat) : Nat := match f with
  | 1 => 1 | 2 => 1 | 3 => 2 | 4 => 4 | 5 => 8 | 6 => 4 | 8 => 1 | 9 => 1 | 10 => 2 | 11 => 2 | 12 => 4 | 13 => 8
  | _ => 0

/-- Exponent bits, mantissa bits and bias of a float format (R199). -/
def fmtFloat (f : Nat) : Option (Nat × Nat × Nat) := match f with
  | 8 => some (4, 3, 7) | 9 => some (5, 2, 15) | 10 => some (5, 10, 15) | 11 => some (8, 7, 127)
  | 12 => some (8, 23, 127) | 13 => some (11, 52, 1023) | _ => none

/-- A decoded element: its class, sign, significand and exponent (R199). -/
inductive Elem where
  | nan
  | inf (s : Bool)
  | fin (s : Bool) (m : Nat) (e : Int)
  deriving DecidableEq, Repr

/-- An element decoded (R199, R200). -/
def decodeElem (f x : Nat) : Elem :=
  match fmtFloat f with
  | some (eb, mb, bias) =>
    let s := x.testBit (eb + mb)
    let ef := x / 2 ^ mb % 2 ^ eb
    let mf := x % 2 ^ mb
    if f = 8 ∧ ef = 15 ∧ mf = 7 then .nan
    else if f ≠ 8 ∧ ef = 2 ^ eb - 1 then (if mf = 0 then .inf s else .nan)
    else if ef = 0 then .fin s mf (1 - (bias : Int) - mb)
    else .fin s (mf + 2 ^ mb) ((ef : Int) - bias - mb)
  | none =>
    if f = 2 then .fin false (x % 256) 0
    else
      let i := sext (8 * fmtBytes f) x
      .fin (decide (i < 0)) i.natAbs 0

/-- The product of two elements, scaled by 2^σ (R201). -/
def elemMul (a b : Elem) (sg : Int) (neg : Bool) : Elem :=
  match a, b with
  | .fin s1 m1 e1, .fin s2 m2 e2 => .fin ((s1 != s2) != neg) (m1 * m2) (e1 + e2 + sg)
  | .nan, _ => .nan
  | _, .nan => .nan
  | _, _ => .inf false

/-- An element scaled by 2^σ and negated where asked (R204, R209). -/
def elemScale (a : Elem) (sg : Int) (neg : Bool) : Elem :=
  match a with
  | .fin s m e => .fin (s != neg) m (e + sg)
  | x => x

/-! ## Exact numbers -/

/-- A non-negative exact number m x 2^e. -/
structure Mag where
  m : Nat
  e : Int
  deriving DecidableEq, Repr

/-- Exact sum. -/
def Mag.add (a b : Mag) : Mag :=
  if a.m = 0 then b else if b.m = 0 then a
  else if a.e ≤ b.e then { m := a.m + b.m * 2 ^ (b.e - a.e).toNat, e := a.e }
  else { m := b.m + a.m * 2 ^ (a.e - b.e).toNat, e := b.e }

/-- Exact product. -/
def Mag.mul (a b : Mag) : Mag := { m := a.m * b.m, e := a.e + b.e }

/-- Exact comparison. -/
def Mag.le (a b : Mag) : Bool :=
  if a.e ≤ b.e then decide (a.m ≤ b.m * 2 ^ (b.e - a.e).toNat)
  else decide (a.m * 2 ^ (a.e - b.e).toNat ≤ b.m)

/-- Rounding upward to MAG (R213); none where up signals spill. -/
def magUp (v : Mag) : Option Mag :=
  if v.m = 0 then some { m := 0, e := 0 }
  else
    let e := (v.m.log2 : Int) + v.e - 31
    let k := e - v.e
    let m := if k ≤ 0 then v.m * 2 ^ (-k).toNat else (v.m + 2 ^ k.toNat - 1) / 2 ^ k.toNat
    let r : Mag := if m = 2 ^ 32 then { m := 2 ^ 31, e := e + 1 } else { m := m, e := e }
    if r.e > 32767 then none
    else if r.e < -32768 then some { m := 2 ^ 31, e := -32768 }
    else some r

/-- The MAG form holds: m = 0, or 2^31 <= m < 2^32 (R213). -/
def magForm (m : Nat) : Bool := m = 0 || (decide (2 ^ 31 ≤ m) && decide (m < 2 ^ 32))

/-! ## The exact window (R207, R208) -/

/-- The largest count of R207 and R208. -/
def cntMax : Nat := 2 ^ 32 - 1

/-- One product or value aligned to a twin (R207): the twin with its flags and dust, and the aligned value. -/
def alignElem (t : Twin) (x : Elem) : Twin × Int :=
  match x with
  | .nan => ({ t with nan := true }, 0)
  | .inf _ => ({ t with nan := true }, 0)
  | .fin s m e =>
    if m = 0 then (t, 0)
    else
      let k := e - (t.anchor - 255)
      let mag := if k ≥ 0 then m * 2 ^ k.toNat else m / 2 ^ (-k).toNat
      let t := if k < 0 ∧ m % 2 ^ (-k).toNat ≠ 0 then { t with dust := satAdd cntMax t.dust 1 } else t
      if mag ≥ 2 ^ 255 then ({ t with spill := true }, 0)
      else (t, if s then -(mag : Int) else (mag : Int))

/-- The products of a contribution aligned in order, and their exact sum. -/
def alignAll : Twin → List Elem → Twin × Int
  | t, [] => (t, 0)
  | t, x :: l =>
    let r := alignElem t x
    let q := alignAll r.1 l
    (q.1, r.2 + q.2)

/-- A contribution added once (R208): a spilled twin is frozen, flags and dust with it (log entry 12). -/
def addContribution (t : Twin) (xs : List Elem) : Twin :=
  if t.spill then t else
  let r := alignAll t xs
  let t := r.1
  if t.spill then t
  else
    let w := t.value + r.2
    let t := if w < -(2 ^ 255 : Nat) ∨ w > (2 ^ 255 : Nat) - 1 then { t with spill := true } else { t with value := w }
    { t with count := satAdd cntMax t.count 1 }

/-- The exact sum of the magnitudes of finite products (R214). -/
def magSum (xs : List (Elem)) : Mag :=
  xs.foldl (fun a x => match x with | .fin _ m e => a.add { m := m, e := e } | _ => a) { m := 0, e := 0 }

/-- The magnitude accumulator after a lane operation's contribution (R214). -/
def addMagnitude (t : Twin) (ms : List Elem) : Twin :=
  match magUp ((Mag.mk t.magM t.magE).add (magSum ms)) with
  | some r => { t with magM := r.m, magE := r.e }
  | none => { t with spill := true }

/-- The residue V mod 3 (R212). -/
def Twin.res (t : Twin) : Nat := (t.value % 3).toNat

/-- A twin cleared with an anchor (R215). -/
def Twin.cleared (a : Int) : Twin := { Twin.reset with anchor := a }

/-- The twin image of 64 B (R216). -/
def Twin.image (t : Twin) : List Byte :=
  leBytes 32 (lowBits 256 t.value) ++ leBytes 4 t.magM ++ leBytes 2 (lowBits 16 t.magE)
  ++ leBytes 2 (lowBits 16 t.anchor) ++ leBytes 4 t.dust ++ leBytes 4 t.count
  ++ leBytes 1 (b2n t.spill + 2 * b2n t.nan) ++ leBytes 1 t.res ++ leBytes 14 0

/-- The magnitude of the twin's value. -/
def Twin.absVal (t : Twin) : Mag := { m := t.value.natAbs, e := t.anchor - 255 }

/-! ## Conversion (R219 to R221) -/

/-- Half-to-even rounding of v / 2^q. -/
def roundHalfEven (v : Mag) (q : Int) : Nat :=
  let k := q - v.e
  if k ≤ 0 then v.m * 2 ^ (-k).toNat
  else
    let p := 2 ^ k.toNat
    let n := v.m / p
    let r := v.m % p
    if 2 * r > p ∨ (2 * r = p ∧ n % 2 = 1) then n + 1 else n

/-- The largest finite value of a float format. -/
def maxFinite (f eb mb bias : Nat) : Mag :=
  if f = 8 then { m := 14, e := 5 } else { m := 2 ^ (mb + 1) - 1, e := ((2 ^ eb - 2 : Nat) : Int) - bias - mb }

/-- The canonical NaN of a format. -/
def canonNan (f : Nat) : Nat := match f with
  | 8 => 0x7F | 9 => 0x7E | 10 => 0x7E00 | 11 => 0x7FC0 | _ => 0x7FC00000

/-- A twin converted to a float format (R219): bits, and whether CVT is set. -/
def cvtFloat (t : Twin) (f : Nat) : Nat × Bool :=
  match fmtFloat f with
  | none => (0, true)
  | some (eb, mb, bias) =>
    if t.spill || t.nan then (canonNan f, true)
    else if t.value = 0 then (0, false)
    else
      let v := t.absVal
      let sgn := if t.value < 0 then 2 ^ (eb + mb) else 0
      let q := max ((v.m.log2 : Int) + v.e) (1 - (bias : Int)) - mb
      let n := roundHalfEven v q
      let mx := maxFinite f eb mb bias
      if !(Mag.le { m := n, e := q } mx) then
        (sgn + (if f = 8 then 0x7E else (2 ^ eb - 1) * 2 ^ mb), true)
      else if n < 2 ^ mb then (sgn + n, false)
      else
        let nq : Nat × Int := if n = 2 ^ (mb + 1) then (2 ^ mb, q + 1) else (n, q)
        (sgn + (nq.2 + mb + bias).toNat * 2 ^ mb + (nq.1 - 2 ^ mb), false)

/-- A twin converted to a signed integer of `b` bits (R220): value, CVT, SAT. -/
def cvtInt (t : Twin) (b : Nat) : Int × Bool × Bool :=
  if t.spill || t.nan then (0, true, false)
  else
    let n : Int := roundHalfEven t.absVal 0
    let i := if t.value < 0 then -n else n
    let hi : Int := (2 ^ (b - 1) : Nat) - 1
    let lo : Int := -((2 ^ (b - 1) : Nat) : Int)
    if i > hi then (hi, false, true) else if i < lo then (lo, false, true) else (i, false, false)

/-- ulp of a finite element in its format, as an exponent of 2 (R221). -/
def ulpExp (f : Nat) (x : Elem) : Int :=
  match fmtFloat f, x with
  | some (_, mb, bias), .fin _ m e =>
    if m = 0 then 1 - (bias : Int) - mb else max ((m.log2 : Int) + e) (1 - (bias : Int)) - mb
  | _, _ => 0

/-! ## Judges (R218, R222, R266, R267) -/

/-- A judge block's constants. -/
structure JudgeBlk where
  g : Mag
  e : Mag
  dmax : Nat
  tol : Nat
  yfmt : Nat
  /-- Reserved bytes are 0 and both significands are in MAG form (R267). -/
  ok : Bool
  deriving DecidableEq, Repr

/-- A judge block read from 64 B (R266). -/
def judgeBlk (l : List Byte) : JudgeBlk :=
  let gm := leField l 0 4
  let em := leField l 4 4
  { g := { m := gm, e := sext 16 (leField l 8 2) }, e := { m := em, e := sext 16 (leField l 10 2) },
    dmax := leField l 12 4, tol := leField l 16 1, yfmt := leField l 17 1,
    ok := magForm gm && magForm em && (slice 18 46 l).all (fun b => b == 0) }

/-- The bound Bᵢ as rounded upward (R218), with `x` added before the last rounding; none where up signals spill. -/
def boundOf (t : Twin) (j : JudgeBlk) (x : Mag) : Option Mag :=
  let dust : Mag := { m := t.dust, e := t.anchor - 255 }
  let b0 := (j.g.mul { m := t.magM, e := t.magE }).add j.e
  if t.dust > 0 then (magUp b0).bind (fun b => magUp ((b.add dust).add x)) else magUp (b0.add x)

/-- Outcome codes of R269. -/
def codePass : Nat := 1
/-- INCONCLUSIVE. -/
def codeInc : Nat := 2
/-- VIOLATED. -/
def codeViol : Nat := 3

/-- The judge of a row (R218, R267). -/
def judgeRow (t : Twin) (j : JudgeBlk) : Nat :=
  if !j.ok || t.spill || t.nan || decide (t.dust > j.dmax) then codeInc
  else match boundOf t j { m := 0, e := 0 } with
    | none => codeInc
    | some b => if t.absVal.le b then codePass else codeViol

/-- |y - yh| of two elements, exactly. -/
def absDiff (s1 : Bool) (a : Mag) (s2 : Bool) (b : Mag) : Mag :=
  if s1 != s2 then a.add b
  else if a.e ≤ b.e then
    let bm := b.m * 2 ^ (b.e - a.e).toNat
    { m := if a.m ≤ bm then bm - a.m else a.m - bm, e := a.e }
  else
    let am := a.m * 2 ^ (a.e - b.e).toNat
    { m := if b.m ≤ am then am - b.m else b.m - am, e := b.e }

/-- The judge of a re-executed element (R222, R267): outcome and whether CVT is set. -/
def judgeElem (t : Twin) (j : JudgeBlk) (y : Nat) : Nat × Bool :=
  if !j.ok || !(decide (8 ≤ j.yfmt) && decide (j.yfmt ≤ 12)) then (codeInc, false)
  else if t.spill || t.nan || decide (t.dust > j.dmax) then (codeInc, false)
  else
    let c := cvtFloat t j.yfmt
    if c.2 then (if y = c.1 then codePass else codeInc, true)
    else match decodeElem j.yfmt y with
      | .nan => (codeViol, false)
      | .inf _ => (codeViol, false)
      | .fin sy my ey =>
        match decodeElem j.yfmt c.1 with
        | .fin sh mh eh =>
          match boundOf t j { m := j.tol, e := ulpExp j.yfmt (.fin sh mh eh) } with
          | none => (codeInc, false)
          | some b =>
            (if (absDiff sy { m := my, e := ey } sh { m := mh, e := eh }).le b then codePass else codeViol, false)
        | _ => (codeInc, false)

/-! ## The constants of the bound (R126, R217) -/

/-- ⌈log2 n⌉. -/
def clog2 (n : Nat) : Nat := if n ≤ 1 then 0 else (n - 1).log2 + 1

/-- Precision p of u = 2^-p and exponent of η of a format; none for integers (R126). -/
def fmtU (f : Nat) : Option (Nat × Nat) := match f with
  | 8 => some (4, 10) | 9 => some (3, 17) | 10 => some (11, 25) | 11 => some (8, 134) | 12 => some (24, 150)
  | 13 => some (53, 1075) | _ => none

/-- The terms n, p (0: u = 0) and the exponent of η (0: none) of a layer. -/
def boundTerms (l : PLayer) : Nat × Nat × Nat × Nat :=
  let o := b2n l.srcOut
  let nA := if l.aorder = 0 then l.k else if l.aorder = 1 then clog2 l.k + 1 else 0
  let nR := if l.rorder = 0 then l.n else if l.rorder = 1 then clog2 l.n else 0
  let fs := [fmtU l.afmt, fmtU l.cfmt] ++ (if l.srcOut then [fmtU l.yfmt] else [])
  let ps := fs.filterMap (fun x => x.map Prod.fst)
  let es := ([fmtU l.afmt, fmtU l.cfmt, fmtU l.yfmt]).filterMap (fun x => x.map Prod.snd)
  (nA + nR + o, ps.foldl (fun a p => if a = 0 ∨ p < a then p else a) 0,
    es.foldl (fun a p => if a = 0 ∨ p < a then p else a) 0, 2 * (l.n * nA + l.n * o + nR))


/-- The exact quotient a / b rounded upward once: floor of log2 and ceiling of the significand (R213). -/
def magUpQuot (a b : Nat) : Option Mag :=
  if a = 0 ∨ b = 0 then some { m := 0, e := 0 }
  else
    let g : Int := (a.log2 : Int) - b.log2
    let ge (k : Int) : Bool := if k ≥ 0 then decide (b * 2 ^ k.toNat ≤ a) else decide (b ≤ a * 2 ^ (-k).toNat)
    let fl := if ge g then g else g - 1
    let e := fl - 31
    let m := if e ≥ 0 then (a + b * 2 ^ e.toNat - 1) / (b * 2 ^ e.toNat) else (a * 2 ^ (-e).toNat + b - 1) / b
    let r : Mag := if m = 2 ^ 32 then { m := 2 ^ 31, e := e + 1 } else { m := m, e := e }
    if r.e > 32767 then none else if r.e < -32768 then some { m := 2 ^ 31, e := -32768 } else some r

/-- γₙ of a layer rounded upward (R126, R217): none where n·u >= 1/2. -/
def gammaOf (l : PLayer) : Option Mag :=
  let t := boundTerms l
  if t.2.1 = 0 then some { m := 0, e := 0 }
  else if 2 * t.1 ≥ 2 ^ t.2.1 then none
  else magUpQuot t.1 (2 ^ t.2.1 - t.1)

/-- ε_out of a layer rounded upward (R126, R217). -/
def epsOf (l : PLayer) : Option Mag :=
  let t := boundTerms l
  if t.2.2.1 = 0 then some { m := 0, e := 0 } else magUp { m := t.2.2.2, e := -(t.2.2.1 : Int) }

end Sys2Proof.Machine
end

