-- ==== Sys2Proof/Machine/Journal.lean ====
section
/-! DEFINITION. The verdict journal (R86 to R93), the PDUs its records become (R555 to R559), the doubt score (R65 to
R77) and correction records (R74 to R78). -/

namespace Sys2Proof.Machine
open Sys2Proof

/-! ## Records -/

/-- A record with every field zero. -/
def JRec.zero : JRec :=
  { type := 0, stream := 0, fn := 0, code := 0, stateCode := 0, src := false, flags := 0, reason := 0, dstate := 0,
    hold := 0, pips := 0, seq := 0, frame := 0, assays := 0, plan := 0, vtime := 0, age := 0, pval := 0, fval := 0,
    first := 0, last := 0, oldv := 0, kind := 0, tile := 0, tiles := [] }

/-- The VERDICT byte (R88, R91). -/
def JRec.vbyte (r : JRec) : Nat := r.code + 8 * r.stateCode + 32 * b2n r.src

/-- The 64 bytes of a record with its CRC field zero (R88, R91). -/
def JRec.body (r : JRec) : List Byte :=
  leBytes 1 r.type ++ leBytes 1 r.stream ++ leBytes 1 r.vbyte ++ [r.flags] ++ leBytes 1 r.reason
  ++ leBytes 1 (r.dstate + 16 * r.hold) ++ leBytes 2 r.pips ++ leBytes 8 r.seq
  ++ (if r.type = 1 ∨ r.type = 3 then
      leBytes 4 r.frame.toNat ++ leBytes 2 r.assays.toNat ++ leBytes 2 r.plan.toNat ++ leBytes 8 r.vtime.toNat
      ++ leBytes 4 r.age.toNat ++ leBytes 4 0 ++ leBytes 12 r.pval.toNat ++ leBytes 12 r.fval.toNat
    else
      leBytes 8 r.first ++ leBytes 8 r.last ++ leBytes 1 r.oldv ++ leBytes 1 r.kind ++ leBytes 2 r.tile.toNat
      ++ leBytes 4 0 ++ leBytes 24 0)

/-- The 64 bytes of a record (R86). -/
def JRec.bytes (r : JRec) : List Byte :=
  let b := r.body
  slice 0 36 b ++ leBytes 4 (crc32c b) ++ slice 40 24 b

/-- Depth of the journal ring. -/
def journalDepth : Nat := 16384

/-! ## BSC PDUs of records (R557, R559) -/

/-- Produced connection `c`. -/
def State.pcon (s : State) (c : Nat) : PCon := mget PCon.reset s.bsc.pcon c
/-- Produced connection `c` set. -/
def State.setPcon (c : Nat) (p : PCon) (s : State) : State := { s with bsc.pcon := mput PCon.reset s.bsc.pcon c p }

/-- The kind and payload of the PDU of a journal record; none for a close record (R557). -/
def JRec.pdu (r : JRec) : Option (Nat × List Byte) :=
  if r.type = 1 ∨ r.type = 3 then
    some (if r.type = 1 then 1 else 2,
          beBytes 1 r.stream ++ beBytes 1 r.vbyte ++ [r.flags] ++ beBytes 1 r.reason
             ++ beBytes 4 r.frame.toNat ++ beBytes 4 r.age.toNat
             ++ leBytes 12 (if r.src then r.fval.toNat else r.pval.toNat) ++ beBytes 8 r.seq)
  else if r.type = 2 then
    some (3, beBytes 1 r.stream ++ beBytes 1 r.kind ++ beBytes 1 r.oldv ++ beBytes 1 r.code
             ++ beBytes 2 r.tile.toNat ++ beBytes 2 0 ++ beBytes 8 r.first ++ beBytes 8 r.last)
  else none

/-- SAFE_HOLD or ALARM: connections send SAFE_STATE PDUs only (R559). -/
def State.safeOnly (s : State) : Bool := s.dev.state == .safeHold || s.dev.state == .alarm

/-- The bytes of a PDU (R555, R556): big-endian, its CRC over the VCID and the bytes before it. -/
def State.pduBytes (s : State) (k : PConCfg) (kind : Nat) (seq : W32) (start : Bool) (payload : List Byte) : List Byte :=
  let ds := s.dev.state.code + 16 * b2n s.dev.split + 32 * b2n s.rv.untested + 64 * b2n start
  let b := beBytes 2 0x4253 ++ beBytes 1 1 ++ beBytes 1 kind ++ beBytes 8 k.cid.toNat ++ beBytes 4 seq.toNat
    ++ beBytes 2 k.texpMs ++ beBytes 1 payload.length ++ beBytes 1 ds ++ payload
  b ++ beBytes 4 (crcBsc (beBytes 8 k.vcid.toNat ++ b))

/-- SEQ of the next PDU: 1 first, and 1 again after 0xFFFF_FFFF (R559). -/
def nextSeq (n : W32) : W32 := if n = 0xFFFFFFFF then 1 else n + 1

/-- A PDU formed and queued on produced connection `c` (R559): SEQ rises by one, START is set in the first 16. -/
def State.formPdu (c kind : Nat) (payload : List Byte) (s : State) : State :=
  let k := pconCfg s.sio.body c
  let q := s.pcon c
  let n := nextSeq q.seq
  let p : Pdu := { bytes := s.pduBytes k kind n (decide (q.sent < 16)) payload, queuedAt := s.ao }
  s.setPcon c { q with seq := n, sent := q.sent + 1, lastAt := s.ao, queue := q.queue ++ [p] }

/-- A record's PDU queued on every produced connection whose mask holds its stream (R559). -/
def State.queuePdu (r : JRec) (s : State) : State :=
  match r.pdu with
  | none => s
  | some p =>
    if s.safeOnly then s
    else forAll (List.range 16) (fun c s =>
      let k := pconCfg s.sio.body c
      if k.ports != 0 && k.streams.toNat.testBit r.stream then s.formPdu c p.1 p.2 else s) s

/-! ## Writing -/

/-- The function that owns a stream under the running plan; 0 where none is bound. -/
def State.streamFn (s : State) (n : Nat) : Nat := match s.pstream n with | some p => p.fn | none => 0

/-- The journal overwrites its oldest record: a cursor standing at it moves on (R92). -/
def State.overwrite (s : State) : State :=
  match s.vd.journal[journalDepth - 1]? with
  | none => s
  | some o =>
    if mget 0 s.vd.cursor o.fn ≤ o.seq then
      { s with vd.cursor := mput 0 s.vd.cursor o.fn (o.seq + 1),
               vd.lost := mput 0 s.vd.lost o.fn (satAdd 0xFFFFFFFF (mget 0 s.vd.lost o.fn) 1) }
    else s

/-- The register of the count that a record raises: VD_NACC to VD_NCOR (R88, R91). -/
def JRec.counter (r : JRec) : Option Nat :=
  if r.type = 2 then some 0xA0040
  else if r.type = 1 then
    (match r.code with | 1 => some 0xA0020 | 2 => some 0xA0028 | 3 => some 0xA0030 | 4 => some 0xA0038 | _ => none)
  else none

/-- Records of function `f` not yet read through its window (VRW_PEND). -/
def State.vrwPend (s : State) (f : Nat) : Nat :=
  (s.vd.journal.filter (fun r => r.fn = f && decide (mget 0 s.vd.cursor f ≤ r.seq))).length

/-- A record written with the next sequence number (R87): counted, its events set, its PDU queued, VERDICT signalled. -/
def State.journal (r : JRec) (s : State) : State :=
  let r := { r with seq := s.vd.jseq, fn := s.streamFn r.stream }
  let pend := s.vrwPend r.fn
  let s := s.overwrite
  let s := { s with vd.journal := (r :: s.vd.journal).take journalDepth, vd.jseq := s.vd.jseq + 1 }
  let s := if pend = 0 then s.msix r.fn 1 else s
  let s := match r.counter with | some a => s.rinc64 a 1 | none => s
  let s := if r.type = 2 then s.revt 0xA0008 3 else s
  let s := if r.type = 1 ∧ r.code = 3 then (s.revt 0xA0008 0).raiseU 134 r.stream else s
  s.queuePdu r

/-- The fields common to every record of stream `n` (R88, R91). -/
def State.recBase (type n : Nat) (s : State) : JRec :=
  let v := s.stream n
  { JRec.zero with
    type := type, stream := n, stateCode := v.code,
    flags := BitVec.ofNat 8 (16 * b2n (s.dev.state == .degraded) + 32 * b2n s.rv.untested
      + 64 * b2n (match s.pstream n with | some p => p.p0 | none => false)),
    dstate := s.dev.state.code, hold := v.holdCode, pips := v.score }

/-! ## Doubt score and stream states (R64 to R69, R76) -/

/-- The state that the score gives a stream that is not DEMOTED (R65). -/
def underOf (p : PStream) (score : Nat) : Under :=
  if score ≥ p.tDemote then .demoted else if score ≥ p.tWatch then .watched else .trusted

/-- The update of R65 for a verdict; whether the stream entered DEMOTED, and whether it re-qualified. -/
def pipUpdate (p : PStream) (code : Nat) (v : StreamV) : StreamV :=
  let sc := match code with
    | 1 => v.score - p.wAccept
    | 2 => satAdd 65535 v.score p.wDoubt
    | 3 => satAdd 65535 v.score p.wReject
    | _ => satAdd 65535 v.score p.wAbsent
  let run := if code = 1 then min (v.run + 1) p.requal else 0
  let v := { v with score := sc, run := run }
  match v.under with
  | .demoted => if run = p.requal then { v with under := .trusted, score := 0, run := 0 } else v
  | _ =>
    match underOf p sc with
    | .demoted => { v with under := .demoted, run := 0 }
    | u => { v with under := u }

/-- Stream `n` set, with the events of entering DEMOTED (R65 and VD_DEMOTE) and of re-qualifying, and the outputs that
depend on it evaluated. -/
def State.putStream (n : Nat) (v : StreamV) (s : State) : State :=
  let o := s.stream n
  let s := s.setStream n v
  let s := if o.under != .demoted && v.under == .demoted then (s.revt 0xA0008 1).raiseU 135 n else s
  if o.code = v.code then s else s.evalChans

/-- The last hold reason having cleared, a stream not DEMOTED takes the state of its score (R69). -/
def State.settle (n : Nat) (s : State) : State :=
  let v := s.stream n
  if v.held || v.under == .demoted then s
  else match s.pstream n with
    | some p => s.putStream n { v with under := underOf p v.score }
    | none => s

/-- A hold reason of stream `n` changed by `f`; where the last has cleared the stream settles (R69). -/
def State.holdSet (n : Nat) (f : StreamV → StreamV) (s : State) : State :=
  let o := s.stream n
  let s := s.putStream n (f o)
  if o.held && !(s.stream n).held then s.settle n else s

/-! ## Corrections (R74 to R78) -/

/-- A record carries the HELD state: it was written while its stream was HELD (R77). -/
def JRec.wasHeld (r : JRec) : Bool := r.stateCode = 3

/-- The verdict records of stream `n` in the journal that a test holds of, oldest first. -/
def State.verdicts (n : Nat) (t : JRec → Bool) (s : State) : List JRec :=
  (s.vd.journal.filter (fun r => r.type = 1 && r.stream = n && t r)).reverse

/-- The effect of a correction on the underlying score and state (R75 to R77). `rej`: the corrected REJECT's JSEQ. -/
def correctStream (p : PStream) (kind : Nat) (rej : Nat) (v : StreamV) : StreamV :=
  match kind with
  | 1 =>
    let sc := v.score + p.wDoubt - p.wReject
    let sc := if v.score + p.wDoubt < p.wReject then 0 else sc
    let v := { v with score := sc }
    if v.under == .demoted then
      (if v.demotedBy = some rej ∧ sc < p.tDemote then { v with under := underOf p sc, demotedBy := none } else v)
    else
      (match underOf p sc with | .demoted => { v with under := .demoted, run := 0 } | u => { v with under := u })
  | 2 => if v.under == .demoted then { v with run := 0 } else v
  | _ =>
    let v := { v with score := satAdd 65535 v.score p.wReject, run := 0 }
    if v.under == .demoted then v
    else (match underOf p v.score with | .demoted => { v with under := .demoted, run := 0 } | u => { v with under := u })

/-- A correction record of a kind over records of stream `n` (given oldest first): the pip effect is applied once, then
the record is written (R75, R77, R91). Nothing is written over no record. -/
def State.correct (kind n : Nat) (rs : List JRec) (newv tile : Nat) (s : State) : State :=
  match rs, s.pstream n with
  | r0 :: _, some p =>
    let rl := lget r0 rs (rs.length - 1)
    let s := if rs.all JRec.wasHeld then s else s.putStream n (correctStream p kind r0.seq (s.stream n))
    let b := s.recBase 2 n
    let oldv := if rs.any (fun r => r.code = 1) then 1 else if rs.any (fun r => r.code = 2) then 2 else r0.code
    s.journal { b with code := newv, first := r0.seq, last := rl.seq, oldv := oldv, kind := kind,
                       tile := BitVec.ofNat 16 tile }
  | _, _ => s

/-- A STANDING correction: the stream's ACCEPT and DOUBT records written since JSEQ `since` (R54, R75). -/
def State.standing54 (n since : Nat) (s : State) : State :=
  s.correct 4 n (s.verdicts n (fun r => (r.code = 1 || r.code = 2) && decide (since ≤ r.seq))) 3 0xFFFF

/-- The TILE_RANGE corrections of a quarantined tile: one per stream, over its ACCEPT records formed from a result that
the tile delivered after AO count `ref` (R78). -/
def State.tileRange (tile ref : Nat) (s : State) : State :=
  forAll (List.range 64) (fun n s =>
    s.correct 2 n (s.verdicts n (fun r => r.code = 1 && r.tiles.any (fun t => t.1 = tile && decide (ref < t.2)))) 2 tile) s

end Sys2Proof.Machine
end

