-- ==== Sys2Proof/Machine/Verdict.lean ====
section
/-! DEFINITION. Forming verdicts (R43 to R63), quarantining tiles (R189 to R194) and the single-frame disagreement
procedure (R79 to R83, R710). -/

namespace Sys2Proof.Machine
open Sys2Proof

/-! ## Tiles as the verdict engine sees them -/

/-- Tile `t`. -/
def State.tile (s : State) (t : Nat) : TileSt := mget TileSt.reset s.tiles t
/-- Tile `t` set. -/
def State.setTile (t : Nat) (v : TileSt) (s : State) : State := { s with tiles := mput TileSt.reset s.tiles t v }
/-- The plan's line of logical tile `l`. -/
def State.ptile (s : State) (l : Nat) : Option PTile := s.run.bind (fun r => r.img.tiles[l]?)
/-- The plan's line of the logical tile placed at tile `t`. -/
def State.tileCfg (s : State) (t : Nat) : Option PTile := (s.tile t).logical.bind s.ptile

/-- The tile is healthy for placement: not QUARANTINED, FAILED or FAILED_ROUTER, nor in deep test from QUARANTINED
(R176, R194). -/
def TileSt.healthy (t : TileSt) : Bool :=
  match t.role with
  | .quarantined | .failed | .failedRouter => false
  | .deepTest => !t.dtFromQ
  | _ => true

/-- Healthy tiles outside the plan less one (R193). -/
def State.spareCount (s : State) : Nat :=
  ((List.range 192).filter (fun t => let v := s.tile t; v.healthy && v.role != .plan && v.role != .reserve)).length - 1

/-- A quarantined tile of the running plan owes results of this kind to stream `n` (R84, R191). -/
def State.quarOwes (s : State) (n kind : Nat) : Bool :=
  match s.run with
  | none => false
  | some r => (List.range r.img.tiles.length).any (fun l =>
      match r.img.tiles[l]?, r.place[l]? with
      | some pt, some t => !((s.tile t).role == .plan || (s.tile t).role == .reserve) && pt.owed.any (fun o => o.stream = n && o.kind = kind)
      | _, _ => false)

/-! ## Quarantine -/

/-- A context halted by quarantine (R191). -/
def CtxSt.halt (c : CtxSt) : CtxSt := { c with st := .halted, haltQ := true }

/-- Quarantine of tile `t` (R189 to R193, R280): role, count and cause, every context HALTED, its undelivered results
discarded, TILE_QUAR, and DEGRADED where no spare is left. Its TILE_RANGE corrections become due (R78). A tile already
out of service is not quarantined again (R82). -/
def State.quarState (t cause : Nat) (s : State) : State :=
  let v := s.tile t
  match v.role with
  | .quarantined | .failed | .failedRouter => s
  | _ =>
    let inPlan := v.role == .plan || v.role == .reserve
    let noSpare := inPlan && s.spareCount = 0
    let ctxs := if inPlan then (List.range 48).foldl (fun m c => mput CtxSt.reset m c (mget CtxSt.reset m c).halt) v.ctxs
      else v.ctxs
    let s := s.setTile t { v with role := .quarantined, qcount := satAdd 255 v.qcount 1, qcause := cause, ctxs := ctxs,
                                  stReq := false, stBusy := false }
    let ref := match v.passAt with | some a => a | none => (match s.run with | some r => r.anchor | none => 0)
    let s := { s with vd.rangeDue := s.vd.rangeDue ++ (if inPlan then [(t, ref)] else []),
                      vd.results := s.vd.results.filter (fun r => r.1.toNat / 2 ^ 80 % 65536 != t) }
    let s := { s with flits := s.flits.filter (fun f => !((match s.run with
      | some r => r.img.routes.any (fun x => x.num = f.route && x.resultQueue)
      | none => false) && f.data.toNat / 2 ^ 80 % 65536 = t)) }
    let s := (s.revt (twAddr t 0x10) 9).raiseU 106 t
    if noSpare then (s.raiseU 107 t).degrade (fun d => { d with tileNoSpare := true }) else s

/-- The TILE_RANGE corrections due, in ascending tile number (R78). -/
def State.flushRange (s : State) : State :=
  let due := s.vd.rangeDue
  let s := { s with vd.rangeDue := [] }
  forAll (List.range 192) (fun t s =>
    match due.find? (fun d => d.1 = t) with
    | some d => s.tileRange t d.2
    | none => s) s

/-! ## Frames -/

/-- A frame is that of a stream, number and kind. -/
def Frame.same (f g : Frame) : Bool := f.stream = g.stream && f.num = g.num && f.golden = g.golden
/-- The frame's record replaced. -/
def State.setFrame (f : Frame) (s : State) : State :=
  { s with vd.frames := s.vd.frames.map (fun g => if f.same g then f else g) }
/-- The frame forwarded on stream `n` as `fwd` (R97). -/
def State.frameFwd (s : State) (n fwd : Nat) : Option Frame :=
  s.vd.frames.find? (fun f => f.stream = n && f.fwd = some fwd)
/-- The frame as it now stands. -/
def State.frameNow (s : State) (f : Frame) : Frame := match s.vd.frames.find? (fun g => f.same g) with
  | some g => g
  | none => f

/-- The commit of a layer (R110). -/
def State.commitOf (s : State) (n fwd layer : Nat) : Option Commit :=
  s.vd.commits.find? (fun c => c.stream = n && c.fwd = fwd && c.layer = layer)
/-- A commit replaced. -/
def State.setCommit (c : Commit) (s : State) : State :=
  { s with vd.commits := s.vd.commits.map (fun d =>
      if d.stream = c.stream && d.fwd = c.fwd && d.layer = c.layer then c else d) }

/-- The buffers freed (R353). -/
def State.freeBufs (bs : List Nat) (s : State) : State :=
  { s with ldg.used := bs.foldl (fun m b => mput false m b false) s.ldg.used }

/-- The evidence of a frame discarded with its reveals. -/
def State.dropEvidence (n : Nat) (fwd : Option Nat) (s : State) : State :=
  match fwd with
  | none => s
  | some k => { s with vd.commits := s.vd.commits.filter (fun c => !(c.stream = n && c.fwd = k)),
                       vd.reveals := s.vd.reveals.filter (fun r => !(r.stream = n && r.fwd = k)) }

/-- A frame's buffers return to the free list (R25, R26, R353); the frame's record stays for late violations (R53). -/
def State.releaseFrame (f : Frame) (s : State) : State :=
  ((s.freeBufs (f.buffers ++ f.mirror)).setFrame { f with buffers := [], mirror := [], keepUntil := none, owner := 0 })

/-- The retention of the running plan in AO cycles (R709). -/
def State.retention (s : State) : Nat := match s.run with | some r => r.img.retention * r.img.hper | none => 0

/-! ## Outcomes -/

/-- The outcome of an assay, INCONCLUSIVE where a quarantined tile owes it and it has not reported (R84). `kind`: 1
row-checksum, 2 re-execution, 3 canary (R276). -/
def State.outcome (s : State) (f : Frame) (kind : Nat) : Nat :=
  let o := if kind = 1 then f.row else if kind = 2 then f.reexec else f.canary
  if o = 0 && s.quarOwes f.stream kind then 2 else o

/-- The four per-frame outcomes of a frame, row-checksum, re-execution, canary, envelope. -/
def State.outcomes (s : State) (f : Frame) : List Nat := [s.outcome f 1, s.outcome f 2, s.outcome f 3, f.env]

/-- Some per-frame assay is VIOLATED (R52). -/
def State.anyViolated (s : State) (f : Frame) : Bool := (s.outcomes f).contains 3

/-- Some required assay has the outcome `o`. -/
def State.required (s : State) (p : PStream) (f : Frame) (o : Nat) : Bool :=
  (List.range 4).any (fun i => p.required.toNat.testBit i && p.runs.toNat.testBit i && lget 0 (s.outcomes f) i = o)

/-- A standing violation holds for the stream (R54). -/
def StreamV.standing (v : StreamV) : Bool := v.kaBad || !v.dgBad.isEmpty
/-- A coverage lapse holds for the stream (R708). -/
def StreamV.lapse (v : StreamV) : Bool := v.kaLapse || v.dgLapse

/-- f.evidence_rows = 0 under R146: some required row-checksum or re-execution assay whose every layer committed
COUNT = 0. -/
def State.noEvidence (s : State) (p : PStream) (f : Frame) : Bool :=
  [0, 1].any (fun k => p.required.toNat.testBit k && p.runs.toNat.testBit k
    && (let ls := p.layers.filter (fun l => l.kind = k)
        !ls.isEmpty && ls.all (fun l => match f.fwd with
          | none => false
          | some w => (match s.commitOf f.stream w l.layer with | some c => c.count = 0 | none => false))))

/-- The verdict and reason of R51, evaluated at the forming event. -/
def State.decide51 (s : State) (p : PStream) (f : Frame) : Nat × Nat :=
  let v := s.stream f.stream
  if s.dev.state == .mismatchHold then (4, 0xC)
  else if f.result.isNone then (4, 0xB)
  else if s.anyViolated f || v.standing then (3, if s.outcome f 3 = 3 then 2 else 1)
  else if f.tainted then (2, 3)
  else if s.noEvidence p f then (2, 4)
  else if f.malformed then (2, 5)
  else if f.bankFailed then (2, 6)
  else if s.required p f 2 then (2, 7)
  else if f.overrun then (2, 9)
  else if s.required p f 0 then (2, 8)
  else if v.lapse then (2, 0xA)
  else (1, 0)

/-- The assay that decides a REJECT: canary where it is violated, else the lowest-numbered violated assay; none where only
a standing violation decides (R51, R80). -/
def State.deciding (s : State) (f : Frame) : Option Nat :=
  if s.outcome f 3 = 3 then some 2
  else [0, 1, 3].find? (fun i => lget 0 (s.outcomes f) i = 3)

/-- The ASSAYS field of a verdict record (R88). -/
def State.assays (s : State) (p : PStream) (f : Frame) : Nat :=
  let v := s.stream f.stream
  let st (i : Nat) (bad lapse : Bool) : Nat := if !p.runs.toNat.testBit i then 0 else if bad then 3 else if lapse then 2 else 1
  lget 0 (s.outcomes f) 0 + 4 * lget 0 (s.outcomes f) 1 + 16 * lget 0 (s.outcomes f) 2 + 64 * lget 0 (s.outcomes f) 3
  + 256 * st 4 v.kaBad v.kaLapse + 1024 * st 5 (!v.dgBad.isEmpty) v.dgLapse

/-- Age of the published fall-back value; all ones where there is none (R58, R63). -/
def State.fbAge (s : State) (n : Nat) : Nat := match (s.stream n).fb with
  | some p => min (s.ao - p.2) 0xFFFFFFFF
  | none => 0xFFFFFFFF
/-- The published fall-back value; zero where there is none (R63). -/
def State.fbVal (s : State) (n : Nat) : BitVec 96 := match (s.stream n).fb with | some p => p.1 | none => 0

/-! ## Disagreement slots -/

/-- Slot `i`. -/
def State.dis (s : State) (i : Nat) : DisSlot := mget DisSlot.reset s.vd.dis i
/-- Slot `i` set. -/
def State.setDis (i : Nat) (d : DisSlot) (s : State) : State := { s with vd.dis := mput DisSlot.reset s.vd.dis i d }
/-- A free slot. -/
def State.freeDis (s : State) : Option Nat := [0, 1, 2, 3].find? (fun i => !(s.dis i).busy)

/-- A procedure may open for the stream (R79). -/
def State.canOpen (s : State) (n : Nat) (wasDemoted : Bool) : Bool :=
  !wasDemoted && [0, 1, 2, 3].all (fun i => !((s.dis i).busy && (s.dis i).stream = n)) && s.freeDis.isSome

/-- A reserve tile disjoint from the original tiles serves (R180). -/
def State.reserveFree (s : State) (orig : List Nat) : Bool :=
  (List.range 192).any (fun t => (s.tile t).role == .reserve && !orig.contains t)

/-- The frame of a REJECT is no longer held (R81). -/
def State.unkeep (n jseq : Nat) (s : State) : State :=
  match s.vd.frames.find? (fun f => f.stream = n && f.formed = some (3, jseq)) with
  | some f => s.setFrame { f with keepUntil := none }
  | none => s

/-- The close record of a REJECT (R82, R91). -/
def State.closeRec (n jseq kind tile : Nat) (s : State) : State :=
  s.journal { s.recBase 4 n with code := 3, first := jseq, last := jseq, oldv := 3, kind := kind,
                                 tile := BitVec.ofNat 16 tile }

/-- Procedure `i` closes with an outcome, naming tiles (ascending) where it is COMPANION (R82, R83). -/
def State.closeDis (i outcome : Nat) (tiles : List Nat) (s : State) : State :=
  let d := s.dis i
  let t := if outcome = 1 then lget 0xFFFF tiles 0 else 0xFFFF
  let s := s.setDis i { d with busy := false, outcome := outcome, tile := if outcome = 1 then t % 256 else 0xFF }
  let s := s.unkeep d.stream d.jseq
  let s := if outcome = 1 then forAll tiles (fun t s => s.quarState t 5) s else s
  let s := s.closeRec d.stream d.jseq outcome t
  if outcome = 1 then
    let s := (s.revt 0xA0008 6).raiseU 136 t
    s.correct 1 d.stream (s.verdicts d.stream (fun r => r.seq = d.jseq)) 2 t
  else if outcome = 3 then s.revt 0xA0008 4 else s

/-- Procedure `i` closes where it can (R81, R82). -/
def State.pollDis (i : Nat) (s : State) : State :=
  let d := s.dis i
  if !d.busy then s
  else
    let failed := (List.range 192).filter (fun t => d.failed.contains t
      || (d.stLeft.contains t && (let r := (s.tile t).role; r == .quarantined || r == .failed || r == .failedRouter)))
    if !failed.isEmpty then s.closeDis i 1 failed
    else if d.stLeft.isEmpty && d.repeatDone && d.freshDone then
      (if !d.repeatSame then s.closeDis i 1 [d.origTile]
       else if d.fresh = 3 || d.fresh = 0 then s.closeDis i 2 [] else s.closeDis i 3 [])
    else s

/-- Every procedure that can close does, and the corrections that quarantines made due follow (R78, R83). -/
def State.pollAll (s : State) : State :=
  (forAll [0, 1, 2, 3, 0, 1, 2, 3] State.pollDis s).flushRange

/-- A tile quarantined, with everything that follows from it (R191 to R194). -/
def State.quarantine (t cause : Nat) (s : State) : State := (s.quarState t cause).pollAll

/-- Indices of the re-reveal: the original ones, then as many fresh ones drawn on the re-assay branch from the rows not
among them (R121, R124). -/
def reIndices (ks : Nat → Nat) (c : Commit) : List Nat :=
  let cand := (List.range c.count).filter (fun i => !c.idx.contains i)
  c.idx ++ (drawIndices ks cand.length c.idx.length).map (fun i => lget 0 cand i)

/-- The extended forward number of R123. -/
def State.xfwd (s : State) (n fwd : Nat) : Nat :=
  let g := s.gs n
  (if fwd ≥ g.fwdNext && g.fwdWraps > 0 then g.fwdWraps - 1 else g.fwdWraps) * 2 ^ 32 + fwd

/-- Word `k` of a stream's keystream under the session key (R123). -/
def State.ksw (s : State) (branch n layer x k : Nat) : Nat :=
  match s.kv.session with
  | some key => ksWord key.toNat branch n layer x k
  | none => 0

/-- Reveal `r` leaves before `x`: a P0 reveal before every other; of one cycle, the lower stream first (R118). -/
def Reveal.before (r x : Reveal) : Bool :=
  if r.p0 != x.p0 then r.p0 else r.at_ = x.at_ && decide (r.stream < x.stream)

/-- A reveal put in its place (R118). -/
def insertReveal (r : Reveal) : List Reveal → List Reveal
  | [] => [r]
  | x :: t => if r.before x then r :: x :: t else x :: insertReveal r t

/-- A reveal queued (R117, R118). -/
def State.queueReveal (r : Reveal) (s : State) : State := { s with vd.reveals := insertReveal r s.vd.reveals }

/-- The re-reveal of step 3 is queued (R121). -/
def State.reReveal (n fwd layer : Nat) (p0 : Bool) (s : State) : State :=
  match s.commitOf n fwd layer with
  | some c =>
    let c := { c with reIdx := reIndices (s.ksw 1 n layer (s.xfwd n fwd)) c, reSt := 1, reAns := 0 }
    (s.setCommit c).queueReveal { stream := n, fwd := fwd, layer := layer, round := 1, p0 := p0, at_ := s.ao }
  | none => s

/-- A disagreement procedure opens for the REJECT `jseq` of a frame (R79 to R82): the resident passes of the original
tiles are requested, the re-reveal is issued; an envelope violation is re-evaluated at once on the same values, whose
outcome is the same (R710). -/
def State.openDis (p : PStream) (f : Frame) (assay jseq : Nat) (s : State) : State :=
  match s.freeDis with
  | none => s
  | some i =>
    let kind := assay + 1
    let fwd := match f.fwd with | some w => w | none => 0
    let orig := if assay = 3 then [] else (List.range 192).filter (fun t => f.ktiles.contains (kind, t))
    let vl := f.viol.find? (fun v => v.1 = kind)
    let layer := match vl with | some v => v.2.2.1 | none => 0
    let dead := orig.filter (fun t => (s.tile t).role == .quarantined)
    let applies := assay = 0 || assay = 1
    let d : DisSlot :=
      { DisSlot.reset with
        busy := true, stream := f.stream, jseq := jseq, fwd := fwd, layer := layer, assay := assay, origTiles := orig,
        stLeft := orig.filter (fun t => !dead.contains t), failed := dead,
        repeatDone := assay = 3, repeatSame := assay = 3,
        freshDone := !(applies && p.reReveal), fresh := if applies then 1 else 0,
        orig := match vl with | some v => v.2.2.2 | none => [],
        origTile := match vl with | some v => v.2.1 | none => 0xFFFF,
        deadline := s.ao + s.retention }
    let s := s.setDis i d
    let s := forAll d.stLeft (fun t s => s.setTile t { s.tile t with stReq := true }) s
    let s := if applies && p.reReveal then s.reReveal f.stream fwd layer p.p0 else s
    s.pollAll

/-! ## The verdict record -/

/-- Where a frame's resources go once its verdict is formed: a golden frame's buffers return, an admitted one's become the
journal's (R353); a reveal still queued for it is not issued. -/
def State.closeEvidence (f : Frame) (s : State) : State :=
  { s with vd.reveals := s.vd.reveals.filter (fun r => !(r.stream = f.stream && some r.fwd = f.fwd && r.round = 0)) }

/-- The verdict of a frame is formed and recorded (R43, R47, R48, R65, R88): score and state are updated first, the record
says what is published, the frame's buffers become the journal's, and a REJECT opens its procedure or is closed
NOT_EXAMINED (R79, R80). -/
def State.formWith (p : PStream) (f : Frame) (code reason : Nat) (s : State) : State :=
  let n := f.stream
  let v0 := s.stream n
  let held := v0.held
  let jseq := s.vd.jseq
  let dec := if code = 3 then s.deciding f else none
  let v1 := if held || reason = 0xC || reason = 0xD then v0 else pipUpdate p code v0
  let v1 := if v0.under != .demoted && v1.under == .demoted then
      { v1 with demotedBy := if code = 3 then some jseq else none }
    else if v1.under == .demoted then v1 else { v1 with demotedBy := none }
  let assays := s.assays p f
  let s := s.putStream n v1
  let s := if v0.under == .demoted && v1.under == .trusted then s.revt 0xA0008 2 else s
  let pub := code = 1 && !(s.stream n).held && (s.stream n).under != .demoted
  let exam := match dec with | some _ => s.canOpen n (v0.under == .demoted) | none => false
  let res : BitVec 96 := match f.result with | some r => if code = 4 then 0 else r | none => 0
  let b := s.recBase 1 n
  let r : JRec := { b with
    code := code, src := !pub, reason := reason,
    flags := b.flags ||| BitVec.ofNat 8 (b2n f.tainted + 2 * b2n (s.outcome f 3 = 3) + 4 * b2n (reason = 8)
      + 8 * b2n (s.stream n).hStale + 128 * b2n exam),
    frame := BitVec.ofNat 32 f.num, assays := BitVec.ofNat 16 assays,
    plan := match s.run with | some x => x.img.planId.truncate 16 | none => 0,
    vtime := vtimeOf s.devNow,
    age := BitVec.ofNat 32 (if pub then min (s.ao - f.ingressAo) 0xFFFFFFFF else s.fbAge n),
    pval := res, fval := s.fbVal n, tiles := f.tiles }
  let s := s.journal r
  let s := if pub then s.setStream n { s.stream n with lastAcc := some (res, f.ingressAo) } else s
  let s := s.setFrame { f with formed := some (code, jseq), owner := 4,
                               keepUntil := if code = 3 && exam then some (s.ao + s.retention) else none }
  let s := s.closeEvidence f
  match dec with
  | some a => if exam then s.openDis p f a jseq else (s.closeRec n jseq 4 0xFFFF).revt 0xA0008 5
  | none => s

/-- The verdict formed by R51. -/
def State.form (f : Frame) (s : State) : State :=
  match s.pstream f.stream with
  | some p => let d := s.decide51 p f; s.formWith p f d.1 d.2
  | none => s

/-- Every required assay has reported and the result has counted (R47). -/
def State.ready (s : State) (f : Frame) : Bool :=
  match s.pstream f.stream with
  | some p => f.result.isSome && !s.required p f 0
  | none => false

/-- The frame's verdict is formed where R47's first event has come. -/
def State.formIfReady (f : Frame) (s : State) : State :=
  let f := s.frameNow f
  if !f.golden && f.formed.isNone && s.ready f then s.form f else s

/-- Every frame whose verdict can now be formed, in ascending stream number (R85). -/
def State.formReady (s : State) : State :=
  forAll (List.range 64) (fun n s =>
    forAll (s.vd.frames.filter (fun f => f.stream = n)) (fun f s => s.formIfReady f) s) s

/-- A tile quarantined, and the verdicts that its INCONCLUSIVE assays complete. -/
def State.quarantineForm (t cause : Nat) (s : State) : State := (s.quarantine t cause).formReady

/-! ## Golden frames (R140) -/

/-- A golden frame passes: its RESULT lies within tolerance, and every required assay but the envelope reports PASS. -/
def goldenDecided (p : PStream) (f : Frame) (inTol : Bool) : Option Bool :=
  if f.row = 3 || f.reexec = 3 || f.canary = 3 || (f.result.isSome && !inTol) then some false
  else if f.result.isSome && inTol
      && [(0, f.row), (1, f.reexec), (2, f.canary)].all (fun x =>
          !(p.required.toNat.testBit x.1 && p.runs.toNat.testBit x.1) || x.2 = 1)
    then some true
  else none

/-- A golden frame's record and buffers are given up (R353). -/
def State.dropGolden (f : Frame) (s : State) : State :=
  let s := s.freeBufs (f.buffers ++ f.mirror)
  ({ s with vd.frames := s.vd.frames.filter (fun g => !f.same g) }).dropEvidence f.stream f.fwd

/-- A golden frame evaluated: a pass ends the standing violation and the lapse; a violation starts one, with its STANDING
correction (R54, R140). -/
def State.judgeGolden (p : PStream) (f : Frame) (inTol : Bool) (s : State) : State :=
  let f := s.frameNow f
  match goldenDecided p f inTol with
  | none => s
  | some true =>
    let v := s.stream f.stream
    (s.setStream f.stream { v with kaBad := false, kaLapse := false, kaPassed := true, kaPassSeq := s.vd.jseq }).dropGolden f
  | some false =>
    let v := s.stream f.stream
    let s := s.setStream f.stream { v with kaBad := true }
    (if v.kaBad then s else s.standing54 f.stream v.kaPassSeq).dropGolden f

/-! ## Late violations (R53) -/

/-- A violation reported for a frame whose verdict is written: the first one of an ACCEPT or DOUBT is corrected. -/
def State.lateViolation (f : Frame) (s : State) : State :=
  match f.formed with
  | some (code, jseq) =>
    if !f.lateDone && (code = 1 || code = 2) then
      (s.setFrame { f with lateDone := true }).correct 3 f.stream
        (s.verdicts f.stream (fun r => r.seq = jseq)) 3 0xFFFF
    else s
  | none => s

end Sys2Proof.Machine
end

