-- ==== Sys2Proof/Machine/TileCode.lean ====
section
/-! DEFINITION. Tile instruction words: the formats of R240, the words of the instructions (R243 to R270), and the tests
that a word passes or fails at issue and at load (R241, R244, R246, R249, R251, R261 to R264, R270, R271, R278). -/

namespace Sys2Proof.Machine
open Sys2Proof

/-! ## Formats (R240) -/

/-- Format R. -/
def encR (op d a b cond : Nat) : Nat := op * 2 ^ 56 + d * 2 ^ 52 + a * 2 ^ 48 + b * 2 ^ 44 + cond * 2 ^ 40
/-- Format I. -/
def encI (op d a imm : Nat) : Nat := op * 2 ^ 56 + d * 2 ^ 52 + a * 2 ^ 48 + imm
/-- Format B. -/
def encB (op a cond k target : Nat) : Nat := op * 2 ^ 56 + a * 2 ^ 52 + cond * 2 ^ 48 + k * 2 ^ 40 + target
/-- Format M. -/
def encM (op d bank ar stg row cnt route disp : Nat) : Nat :=
  op * 2 ^ 56 + d * 2 ^ 52 + bank * 2 ^ 44 + ar * 2 ^ 42 + stg * 2 ^ 41 + row * 2 ^ 38 + cnt * 2 ^ 36 + route * 2 ^ 16
  + disp
/-- Format L. -/
def encL (op tw stg neg fa fb bank ar sigma eoff rsel disp : Nat) : Nat :=
  op * 2 ^ 56 + tw * 2 ^ 51 + stg * 2 ^ 50 + neg * 2 ^ 49 + fa * 2 ^ 45 + fb * 2 ^ 41 + bank * 2 ^ 37 + ar * 2 ^ 35
  + sigma * 2 ^ 24 + eoff * 2 ^ 21 + rsel * 2 ^ 18 + disp
/-- Format V. -/
def encV (op tw neg fa eidx bank ar src sigma disp : Nat) : Nat :=
  op * 2 ^ 56 + tw * 2 ^ 51 + neg * 2 ^ 49 + fa * 2 ^ 45 + eidx * 2 ^ 39 + bank * 2 ^ 35 + ar * 2 ^ 33 + src * 2 ^ 29
  + sigma * 2 ^ 18 + disp
/-- Format T. -/
def encT (op tw d sel anchor bank1 ar1 bank2 ar2 disp1 disp2 : Nat) : Nat :=
  op * 2 ^ 56 + tw * 2 ^ 51 + d * 2 ^ 47 + sel * 2 ^ 43 + anchor * 2 ^ 32 + bank1 * 2 ^ 28 + ar1 * 2 ^ 26
  + bank2 * 2 ^ 22 + ar2 * 2 ^ 20 + disp1 * 2 ^ 10 + disp2

/-- Bits [hi:lo] of a word. -/
def fld (w hi lo : Nat) : Nat := w / 2 ^ lo % 2 ^ (hi + 1 - lo)

/-! ## The fields an opcode uses -/

/-- Bits hi down to lo as a mask. -/
def bitMask (hi lo : Nat) : Nat := 2 ^ (hi + 1) - 2 ^ lo

/-- The bits of [55:0] that an opcode uses (R240, R248, R252, R255, R256, R260 to R264, R270); none for a reserved
opcode (R244). -/
def useMask (op : Nat) : Option Nat :=
  let dab := bitMask 55 44
  let da := bitMask 55 48
  let dai := bitMask 55 48 + bitMask 31 0
  let mem := bitMask 55 52 + bitMask 47 42 + bitMask 15 0
  if op = 0x01 ∨ op = 0x05 then some 0
  else if op = 0x02 then some (bitMask 15 0)
  else if op = 0x03 then some (bitMask 51 48 + bitMask 15 0)
  else if op = 0x04 then some (bitMask 55 52 + bitMask 15 0)
  else if op = 0x06 then some (bitMask 55 52 + bitMask 47 40)
  else if op = 0x07 then some (bitMask 47 40)
  else if op = 0x08 then some (bitMask 55 52)
  else if op = 0x14 ∨ op = 0x15 ∨ op = 0x16 ∨ op = 0x17 ∨ op = 0x2E ∨ op = 0x2F then some da
  else if op = 0x29 then some (bitMask 51 44)
  else if 0x10 ≤ op ∧ op ≤ 0x2D then some dab
  else if 0x39 ≤ op ∧ op ≤ 0x3C then some (da + bitMask 7 0)
  else if 0x30 ≤ op ∧ op ≤ 0x38 then some dai
  else if op = 0x3D then some (bitMask 51 48 + bitMask 31 0)
  else if op = 0x3E then some (bitMask 55 52 + bitMask 31 0)
  else if op = 0x3F then some (dab + bitMask 43 40)
  else if op = 0x40 then some da
  else if op = 0x41 ∨ op = 0x44 then some (bitMask 53 48)
  else if op = 0x42 then some (bitMask 55 52 + bitMask 49 48)
  else if op = 0x43 ∨ op = 0x45 then some (bitMask 53 52 + bitMask 31 0)
  else if op = 0x46 then some (bitMask 55 52)
  else if 0x50 ≤ op ∧ op ≤ 0x57 then some mem
  else if op = 0x58 then some (bitMask 47 36 + bitMask 15 0)
  else if 0x60 ≤ op ∧ op ≤ 0x65 then some (bitMask 55 18 + bitMask 15 0)
  else if op = 0x66 then some (bitMask 55 51 + bitMask 49 33 + bitMask 28 18 + bitMask 15 0)
  else if op = 0x67 ∨ op = 0x68 then some (bitMask 55 51 + bitMask 49 49 + bitMask 44 33 + bitMask 28 18 + bitMask 15 0)
  else if op = 0x69 then some (bitMask 55 51 + bitMask 49 49 + bitMask 32 18)
  else if op = 0x70 then some (bitMask 55 51 + bitMask 42 32)
  else if op = 0x71 then some (bitMask 55 51 + bitMask 31 26 + bitMask 19 10)
  else if op = 0x72 then some (bitMask 55 47 + bitMask 31 26 + bitMask 19 10)
  else if op = 0x73 then some (bitMask 55 47 + bitMask 31 0)
  else if op = 0x74 ∨ op = 0x75 then some (bitMask 55 43)
  else if op = 0x80 ∨ op = 0x81 then some (bitMask 47 42 + bitMask 27 0)
  else if op = 0x82 ∨ op = 0x83 then some (bitMask 55 52 + bitMask 47 40)
  else none

/-- Elements of a format in a 64 B word. -/
def elemsPerWord (f : Nat) : Nat := if fmtBytes f = 0 then 0 else 64 / fmtBytes f

/-- The CX modes take these formats (R202). -/
def cxFmt (f : Nat) : Bool := (decide (1 ≤ f) && decide (f ≤ 4)) || (decide (8 ≤ f) && decide (f ≤ 12))

/-- Twins a lane instruction writes (R261). -/
def laneTwins (op : Nat) : Nat := match op with
  | 0x60 => 8 | 0x61 => 4 | 0x62 => 4 | _ => 1

/-- Every format, condition, selector, range and count of the word is one its instruction allows (R249, R251, R260,
R261, R263, R264). -/
def valuesOk (w : Nat) : Bool :=
  let op := fld w 63 56
  let fa := fld w 48 45
  let fb := fld w 44 41
  let eoff := fld w 23 21
  let rsel := fld w 20 18
  let tw := fld w 55 51
  let r04 := rsel = 0 || rsel = 4
  if op = 0x03 then fld w 51 48 != 15
  else if op = 0x3F then fld w 43 40 != 15
  else if op = 0x06 ∨ op = 0x82 ∨ op = 0x83 then decide (fld w 47 40 < 64)
  else if op = 0x58 then decide (fld w 40 38 + fld w 37 36 ≤ 7)
  else if op = 0x60 then (fa = 1 || fa = 2) && (fb = 1 || fb = 2) && decide (tw ≤ 24) && rsel = 0 && eoff = 0
  else if op = 0x61 then (fa = 8 || fa = 9) && (fb = 8 || fb = 9) && decide (tw ≤ 28) && r04 && eoff = 0
  else if op = 0x62 then (fa = 10 || fa = 11) && (fb = 10 || fb = 11) && decide (tw ≤ 28) && r04 && eoff = 0
  else if op = 0x63 then fa = 12 && fb = 12 && eoff = 0
  else if op = 0x64 then cxFmt fa && fb = 0 && r04 && eoff % 2 = 0 && decide (8 * eoff + 16 ≤ elemsPerWord fa)
  else if op = 0x65 then cxFmt fa && fb = 0 && r04 && decide (8 * eoff + 8 ≤ elemsPerWord fa)
  else if op = 0x66 then fmtBytes fa != 0 && fa != 6 && decide (fld w 44 39 < elemsPerWord fa)
  else if op = 0x67 then decide (fld w 44 39 < 4)
  else if op = 0x68 then decide (fld w 44 39 < 2)
  else if op = 0x73 then fld w 31 28 != fld w 25 22
  else if op = 0x74 then
    let s := fld w 46 43
    s = 1 || s = 3 || s = 4 || (decide (8 ≤ s) && decide (s ≤ 12))
  else if op = 0x75 then decide (fld w 46 43 ≤ 6)
  else true

/-- A bank number names a data bank of a tile with `kc` code banks (R237, R240). -/
def dataBank (kc b : Nat) : Bool := decide (b < 12 - kc)

/-- A set bit of a 32-bit set. -/
def has32 (x : W32) (i : Nat) : Bool := x.toNat.testBit i

/-- Every bank, twin, stage, counter, route and anchor of the word is the context's or tile's own (R166, R206, R237, R246,
R260, R271). `starts`: routes that start at the tile; `queues`: those ending at a result queue. -/
def resourcesOk (kc : Nat) (p : PCtx) (starts queues : List Nat) (w : Nat) : Bool :=
  let op := fld w 63 56
  let tw := fld w 55 51
  let anchor := sext 11 (fld w 42 32)
  let twins (n : Nat) : Bool := (List.range n).all (fun i => has32 p.twins (tw + i))
  if op = 0x06 ∨ op = 0x82 ∨ op = 0x83 then p.counters.toNat.testBit (fld w 47 40)
  else if 0x50 ≤ op ∧ op ≤ 0x57 then dataBank kc (fld w 47 44)
  else if op = 0x58 then dataBank kc (fld w 47 44 + fld w 37 36) && p.stages.toNat.testBit (fld w 41 41)
  else if 0x60 ≤ op ∧ op ≤ 0x65 then dataBank kc (fld w 40 37) && twins (laneTwins op)
  else if 0x66 ≤ op ∧ op ≤ 0x68 then dataBank kc (fld w 38 35) && twins 1
  else if op = 0x69 then twins 1
  else if op = 0x70 then twins 1 && decide (-1000 ≤ anchor) && decide (anchor ≤ 1000)
  else if op = 0x71 ∨ op = 0x72 then twins 1 && dataBank kc (fld w 31 28)
  else if op = 0x73 then twins 1 && dataBank kc (fld w 31 28) && dataBank kc (fld w 25 22)
  else if op = 0x74 ∨ op = 0x75 then twins 1
  else if op = 0x80 then dataBank kc (fld w 47 44) && starts.contains (fld w 27 16)
  else if op = 0x81 then dataBank kc (fld w 47 44) && starts.contains (fld w 27 16) && queues.contains (fld w 27 16)
  else true

/-- A branch target lies within the code (R236, R278). -/
def targetOk (kc w : Nat) : Bool :=
  let op := fld w 63 56
  if op = 0x02 ∨ op = 0x03 ∨ op = 0x04 then decide (fld w 15 0 < 4096 * kc) else true

/-- Why a word is illegal (TW_ILLI.WHY); none where it is legal (R278). A padding word fails PC_RANGE (R238); of several
failing tests the lowest-numbered is reported. -/
def whyIllegal (kc : Nat) (p : PCtx) (starts queues : List Nat) (w : Nat) : Option Nat :=
  if w = 0 then some 5
  else match useMask (fld w 63 56) with
    | none => some 1
    | some m =>
      if w % 2 ^ 56 &&& (2 ^ 56 - 1 - m) ≠ 0 then some 2
      else if !valuesOk w then some 3
      else if !resourcesOk kc p starts queues w then some 4
      else if !targetOk kc w then some 5
      else none

end Sys2Proof.Machine
end

