-- ==== Sys2Proof/Machine/Operands.lean ====
section
/-! DEFINITION. Operand forms of tile instructions: registers, memory operands with their windows (R159, R242), words and
elements of SRAM (R154), c-pairs (R203), and the issue of an instruction with its tests (R160, R278, R279). -/

namespace Sys2Proof.Machine
open Sys2Proof

/-! ## Contexts and registers -/

/-- Context `c` of tile `t`. -/
def State.ctx (s : State) (t c : Nat) : CtxSt := mget CtxSt.reset (s.tile t).ctxs c
/-- Context `c` of tile `t` set. -/
def State.setCtx (t c : Nat) (x : CtxSt) (s : State) : State :=
  s.setTile t { s.tile t with ctxs := mput CtxSt.reset (s.tile t).ctxs c x }
/-- Scalar register S[r]. -/
def CtxSt.sreg (x : CtxSt) (r : Nat) : W32 := mget 0 x.regs r
/-- Address register A[r]. -/
def CtxSt.areg (x : CtxSt) (r : Nat) : W32 := mget 0 x.regs (16 + r)
/-- Register `k` (S0 to S15, then A0 to A3) is poisoned. -/
def CtxSt.bad (x : CtxSt) (k : Nat) : Bool := x.poison.toNat.testBit k
/-- Register `k` written, with the poison of what it was computed from. -/
def CtxSt.put (x : CtxSt) (k : Nat) (v : W32) (bad : Bool) : CtxSt :=
  let m := BitVec.ofNat 20 (2 ^ k)
  { x with regs := mput 0 x.regs k v, poison := if bad then x.poison ||| m else x.poison &&& ~~~m }
/-- The context of a tile changed by `f`. -/
def State.ctxUpd (t c : Nat) (f : CtxSt → CtxSt) (s : State) : State := s.setCtx t c (f (s.ctx t c))
/-- The program counter moves to the next word. -/
def CtxSt.adv (x : CtxSt) : CtxSt := { x with pc := x.pc + 1 }
/-- A register written without codes or flags (R254, R255); the program counter advances. -/
def CtxSt.move (x : CtxSt) (k : Nat) (v : W32) (bad : Bool) : CtxSt := (x.put k v bad).adv

/-- The plan's line of context `c` of a logical tile (R245). -/
def ptileCtx (p : PTile) (c : Nat) : PCtx :=
  mget { entries := [], windows := [], twins := 0, stages := 0, counters := 0 } p.ctxs c

/-- The twin `w` of tile `t`. -/
def TileSt.twin (v : TileSt) (w : Nat) : Twin := mget Twin.reset v.twins w
/-- The twin `w` of tile `t` set. -/
def State.setTwin (t w : Nat) (x : Twin) (s : State) : State :=
  s.setTile t { s.tile t with twins := mput Twin.reset (s.tile t).twins w x }

/-! ## SRAM -/

/-- Bytes of SRAM. -/
def TileSt.read (v : TileSt) (a n : Nat) : List Byte := (List.range n).map (fun i => mget 0 v.sram (a + i))
/-- Some 64-bit word of [a, a + n) is poisoned. -/
def TileSt.badAt (v : TileSt) (a n : Nat) : Bool :=
  (List.range ((a % 8 + n + 7) / 8)).any (fun i => mget false v.sramPoison (a / 8 + i))
/-- Bytes of SRAM written with a poison mark on their 64-bit words. -/
def TileSt.write (v : TileSt) (a : Nat) (l : List Byte) (bad : Bool) : TileSt :=
  let m := (List.range l.length).foldl (fun m i => mput 0 m (a + i) (lget 0 l i)) v.sram
  let p := (List.range ((a % 8 + l.length + 7) / 8)).foldl (fun m i => mput false m (a / 8 + i) bad) v.sramPoison
  let g := (List.range ((a % 8 + l.length + 7) / 8)).foldl (fun m i => mput 0 m (a / 8 + i) 0) v.plant
  { v with sram := m, sramPoison := p, plant := g }
/-- An armed injection into the bank that a store wrote plants its word and disarms (R514). -/
def State.planted (t ea : Nat) (s : State) : State :=
  if s.flt.injTarget = 1 ∧ s.flt.injUnit.toNat = 16 * t + ea / 0x8000 then
    let v := s.tile t
    { (s.setTile t { v with plant := mput 0 v.plant (ea / 8) (if s.flt.injMode = 1 then 1 else 2) }) with
      flt.injTarget := 0, flt.injMode := 0, flt.injUnit := 0, flt.injReg := false }
  else s
/-- What a read of a word finds: the memory's own outcome, or an inverted check bit stored there (R514). -/
def TileSt.eccAt (v : TileSt) (a : Nat) (e : EccOut) : EccOut :=
  match e, mget 0 v.plant (a / 8) with
  | .unc, _ => .unc
  | e, 0 => e
  | _, 1 => .corr
  | _, _ => .unc
/-- The aligned 64 B word at an address (R154). -/
def TileSt.word64B (v : TileSt) (a : Nat) : List Byte := v.read (a / 64 * 64) 64

/-- Element `i` of a 64 B word in a format (R199, R200). -/
def wordElem (f : Nat) (l : List Byte) (i : Nat) : Elem := decodeElem f (leField l (fmtBytes f * i) (fmtBytes f))

/-- Effective address of a memory operand; none for a window violation (R242). -/
def effAddr (p : PCtx) (x : CtxSt) (bank ar : Nat) (disp : Int) : Option Nat :=
  let off := (x.areg ar).toInt + disp
  if off < 0 ∨ off > 0x7FFF then none
  else
    let ea := bank * 0x8000 + off.toNat
    match p.windows[ar]? with
    | some (base, limit) => if ea < base ∨ ea > limit then none else some ea
    | none => none

/-! ## Traps -/

/-- The plan's present slot. -/
def State.slot (s : State) : Nat := match s.run with | some r => r.slot | none => 0

/-- The frames that results owed by context `c` of tile `t` for the present slot belong to: the oldest frame of the stream
that has no verdict and lacks that result (R197). -/
def State.owedFrames (s : State) (t c : Nat) : List (Owed × Frame) :=
  match s.tileCfg t with
  | none => []
  | some p =>
    (p.owed.filter (fun o => o.ctx = c && o.slot = s.slot
        && !((s.tile t).posted.contains (c, o.stream, o.kind, o.layer)))).filterMap (fun o =>
      (s.vd.frames.find? (fun f => f.stream = o.stream && f.formed.isNone
        && (if o.kind = 1 then f.row = 0 else if o.kind = 2 then f.reexec = 0 else if o.kind = 3 then f.canary = 0
            else true))).map (fun f => (o, f)))

/-- An outcome of a frame raised: 1 row-checksum, 2 re-execution, 3 canary. -/
def Frame.raiseOut (f : Frame) (kind o : Nat) : Frame :=
  if kind = 1 then { f with row := max f.row o } else if kind = 2 then { f with reexec := max f.reexec o }
  else if kind = 3 then { f with canary := max f.canary o } else f

/-- A window violation (R159): nothing else happens; BND, the context halts until its next slot entry, the source is
raised, and every assay result it owes for the slot reports INCONCLUSIVE. -/
def State.bounds (t c : Nat) (s : State) : State :=
  let owed := s.owedFrames t c
  let s := s.setCtx t c { (s.ctx t c).stick stBND true with st := .halted }
  let s := (s.revt (twAddr t 0x10) 3).raiseU 99 t
  let s := forAll owed (fun x s => s.setFrame ((s.frameNow x.2).raiseOut x.1.kind 2)) s
  s.formReady

/-- An illegal word (R279): nothing executes; the context halts, the first capture since plan start is kept, TILE_ILLEGAL
is raised and the tile is quarantined with cause ILLEGAL. -/
def State.illegal (t c w why : Nat) (s : State) : State :=
  let pc := (s.ctx t c).pc
  let s := s.setCtx t c { s.ctx t c with st := .halted }
  let s := s.revt (twAddr t 0x10) 2
  let s := if bitAt (s.rget (twAddr t 0x68)) 26 then s
    else (s.rset64 (twAddr t 0x60) w).rset (twAddr t 0x68) (BitVec.ofNat 32 (pc % 65536 + 65536 * c + 2 ^ 22 * why + 2 ^ 26))
  ((s.raiseU 98 t).quarantineForm t 2)

/-- The ECC outcome of a read of a word (R157, R158): a corrected error is counted; an uncorrectable one has marked the
word poisoned and quarantines the tile. -/
def State.eccDone (t : Nat) (e : EccOut) (s : State) : State :=
  match e with
  | .ok => s
  | .corr => ((s.rinc64 (twAddr t 0x18) 1).revt (twAddr t 0x10) 0).raiseU 96 t
  | .unc => ((s.revt (twAddr t 0x10) 1).raiseU 97 t).quarantineForm t 1

/-- A word read with an uncorrectable error is delivered marked poisoned (R158). -/
def State.eccMark (t a : Nat) (e : EccOut) (s : State) : State :=
  match e with
  | .unc => s.setTile t { s.tile t with sramPoison := mput false (s.tile t).sramPoison (a / 8) true }
  | _ => s

/-- A residue mismatch (R167): the tile is quarantined with cause TWIN_RESIDUE. -/
def State.residue (t : Nat) (ok : Bool) (s : State) : State :=
  if ok then s else ((s.revt (twAddr t 0x10) 8).raiseU 103 t).quarantineForm t 3

/-- A memory operand of context `c` (R242): where it lies outside its window nothing happens but the trap of R159;
otherwise `f` acts with the address, and the read's ECC outcome has its effect (R157, R158). -/
def State.memOp (t c : Nat) (p : PCtx) (bank ar : Nat) (disp : Int) (ecc : EccOut) (f : Nat → State → State) (s : State) :
    State :=
  match effAddr p (s.ctx t c) bank ar disp with
  | none => s.bounds t c
  | some ea => (f ea (s.eccMark t ea ((s.tile t).eccAt ea ecc))).eccDone t ((s.tile t).eccAt ea ecc)

/-! ## Trace (R682, R683) -/

/-- An entry of the trace ring, and what it changes of the debug unit's registers. Turn and phase of the issue are free
values: the AO count does not fix them (log entry 14). -/
def State.traceEntry (t c w halted : Nat) (s : State) : State :=
  let i := s.dbg.traceN % 256
  let a := 0xE1000 + 16 * i
  let turn := s.fresh 32
  let ph := (s.tickFree.fresh 32).toNat % 48
  let op := w / 2 ^ 56
  let r := (s.rset (a + 8) (BitVec.ofNat 32 (w / 2 ^ 32))).rset (a + 12)
    (BitVec.ofNat 32 (s.slot + 256 * (halted + 2 * b2n (op = 5))))
  let r := (r.rfield 0xE0084 7 0 ((s.dbg.traceN + 1) % 256)).rfield 0xE0084 8 8 (b2n (s.dbg.traceN + 1 ≥ 256))
  { s with regs := r.regs, freeCtr := s.tickFree.tickFree.freeCtr, dbg.traceN := s.dbg.traceN + 1,
           fregs := mput 0 (mput 0 s.fregs a turn) (a + 4)
             (BitVec.ofNat 32 (ph + 256 * c + 65536 * ((s.ctx t c).pc % 65536))) }

/-- An issue of the traced tile is copied into the trace ring while a trace records. -/
def State.trace (t c w halted : Nat) (s : State) : State :=
  let g := s.rget 0xE0080
  if bitAt g 15 && bitsOf g 7 0 = t && (bitAt g 14 || bitsOf g 13 8 = c) && s.dbg.traceOn then s.traceEntry t c w halted
  else s

/-! ## Issue -/


/-- A context may issue: its tile serves the plan, its quad is ON, the array has edges, and it is in RUN (R160, R162,
R621). -/
def State.canIssue (s : State) (t c : Nat) : Bool :=
  let r := (s.tile t).role
  (r == .plan || r == .reserve) && (s.ctx t c).st == .run && s.dom (quadOf t) == .on && !s.notClear 69
  && (s.tileCfg t).isSome

/-- Routes of the running plan that start at the logical tile placed at `t`; those that end at a result queue. -/
def State.routesFrom (s : State) (t : Nat) (q : Bool) : List Nat :=
  match s.run, (s.tile t).logical with
  | some r, some l => (r.img.routes.filter (fun x => x.src == .tile l && (!q || x.resultQueue))).map (fun x => x.num)
  | _, _ => []

/-- The tests of a word at its issue (R278): none where it is legal. -/
def State.whyNot (s : State) (t c w : Nat) : Option Nat :=
  match s.tileCfg t with
  | none => none
  | some p =>
    if (s.ctx t c).pc ≥ 4096 * p.kc then some 5
    else whyIllegal p.kc (ptileCtx p c) (s.routesFrom t false) (s.routesFrom t true) w

/-- An instruction word issues in context `c` of tile `t`: where the context cannot issue nothing happens; an illegal word
traps; otherwise it is traced and has its effect, given the plan's line of the context. -/
def State.issue (t c w : Nat) (eff : PCtx → State → State) (s : State) : State :=
  if s.canIssue t c then
    match s.tileCfg t, s.whyNot t c w with
    | some p, none => eff (ptileCtx p c) (s.trace t c w 0)
    | _, some y => (s.trace t c w 5).illegal t c w y
    | none, none => s
  else s

end Sys2Proof.Machine
end

