-- ==== Sys2Proof/Machine/PairOps.lean ====
section
/-! DEFINITION. Input pairs (R528 to R534), stream holds by input, and taking a safety configuration into use (R549). -/

namespace Sys2Proof.Machine
open Sys2Proof

/-- Pair `n` set. -/
def State.setPair (n : Nat) (p : InPair) (s : State) : State :=
  { s with sio.pairs := mput InPair.reset s.sio.pairs n p }

/-- The pattern of two levels under a polarity (R528). -/
def pairPattern (pol a b : Bool) : Pattern :=
  if a = b then .equal else if a = pol then .demand else .release

/-- The adopted pattern of pair `n` (R474, R528). -/
def State.pattern (s : State) (n : Nat) : Pattern :=
  pairPattern (pairCfg s.sio.body n).pol (s.rv.adopted.toNat.testBit (2 * n)) (s.rv.adopted.toNat.testBit (2 * n + 1))

/-- Hold reason INPUT of every stream follows the pairs (R534). -/
def State.evalHolds (s : State) : State :=
  let m := (List.range 16).foldl (fun m n =>
    let c := pairCfg s.sio.body n
    if c.mode ≠ 0 ∧ (s.pair n).st ≠ .release then m ||| c.holds.toNat else m) 0
  forAll (List.range 64) (fun k s =>
    if (s.stream k).hInput = m.testBit k then s else s.holdSet k (fun v => { v with hInput := m.testBit k })) s

/-- The channels that pair `k` restarts: the end of a RELEASE period of 100 ms to 5 s (R537). -/
def State.inputRestart (k since : Nat) (s : State) : State :=
  let d := s.ao - since
  if 100 * Config.aoPerMs ≤ d ∧ d ≤ 5 * Config.aoPerS then
    forAll (List.range 10) (fun c s =>
      let g := chanCfg s.sio.body c
      if g.restart = 2 + k ∧ !(s.chan c).energised ∧ (s.chan c).bt = .idle ∧ s.conds c then s.drive c true else s) s
  else s

/-- A brake test of hold channel `h` fails or is overdue (R545, R546): BTQ falls, the channel stays de-energised and
BRAKE_TESTh is raised. `last`: 2 failed, 3 overdue. -/
def State.brakeFail (h last : Nat) (s : State) : State :=
  let s := s.btStop (8 + h)
  let s := s.setChan (8 + h) { s.chan (8 + h) with btBad := true, btLast := BitVec.ofNat 2 last }
  ((s.revt 0x70008 5).raiseU (58 + h) h).evalChans

/-- A standstill pair that leaves RELEASE while the torque is asked for fails the test (R545). -/
def State.standstillLost (n : Nat) (s : State) : State :=
  forAll [0, 1] (fun h s =>
    if (s.chan (8 + h)).bt = .torque ∧ (brakeCfg s.sio.body h).standstill = n then s.brakeFail h 2 else s) s

/-- Pair `n` moves to a state: SI_DISC, the stream holds, the channels and the restarts follow (R531, R534, R537). -/
def State.pairTo (n : Nat) (st : PairSt) (s : State) : State :=
  let o := s.pair n
  if o.st = st then s
  else
    let s := s.setPair n { o with st := st, relAt := if st = .release then s.ao else o.relAt }
    let s := if st = .discrepant then s.raiseLevel (32 + n) n else s.lower (32 + n)
    let s := if o.st = .release then (s.revt 0x70008 0).standstillLost n else s
    let s := if st = .discrepant then s.revt 0x70008 1 else s
    let s := s.evalHolds.evalChans
    if o.st = .release then s.inputRestart n o.relAt else s

/-- One evaluation of pair `n` (R530). -/
def State.evalPair (n : Nat) (s : State) : State :=
  let c := pairCfg s.sio.body n
  let p := s.pair n
  let run := s.ao - p.patAt
  let eqLong := p.pat = .equal ∧ run > c.disc
  let relLong := p.pat = .release ∧ run ≥ c.filt
  match p.st with
  | .unused => s
  | .release => if p.pat ≠ .release ∧ s.ao - p.nonRelAt ≥ c.blank then s.pairTo n .demand else s
  | .demand => if eqLong then s.pairTo n .discrepant else if relLong then s.pairTo n .release else s
  | .discrepant => if p.pat = .demand then s.pairTo n (if c.mode = 2 then .testPending else .demand) else s
  | .testPending =>
    if eqLong then s.pairTo n .discrepant
    else if relLong ∧ p.demandRun ≥ c.topen then s.pairTo n .release else s

/-- The pattern that this round adopted for pair `n`. -/
def State.adoptPair (n : Nat) (s : State) : State :=
  let p := s.pair n
  let q := s.pattern n
  if p.st = .unused ∨ q = p.pat then s
  else s.setPair n { p with pat := q, patAt := s.ao, nonRelAt := if p.pat = .release then s.ao else p.nonRelAt,
                            demandRun := if p.pat = .demand then s.ao - p.patAt else p.demandRun }

/-- Every pair adopts its pattern and is evaluated. -/
def State.evalPairs (s : State) : State := forAll (List.range 16) (fun n s => (s.adoptPair n).evalPair n) s

/-- BX410 pairs become TEST_PENDING at an entry into RUN or DEGRADED from a first load (R533). -/
def State.startTests (s : State) : State :=
  forAll (List.range 16) (fun n s => if (pairCfg s.sio.body n).mode = 2 then s.pairTo n .testPending else s) s

/-- The parameters of a channel differ, or those of an input pair it uses (R549). -/
def chanChanged (o b : FMap Byte) (k : Nat) : Bool :=
  let c := chanCfg b k
  chanCfg o k != c || (k ≥ 8 && brakeCfg o (k - 8) != brakeCfg b (k - 8))
  || (List.range 16).any (fun p => (c.inputs.toNat.testBit p || c.restart = 2 + p) && pairCfg o p != pairCfg b p)

/-- The policy byte of a body: 2 bits a sensor (R666). -/
def bodyPolicy (b : FMap Byte) : Byte :=
  BitVec.ofNat 8 ((List.range 4).foldl (fun a n => a + bodyByte b (0x9C0 + 16 * n) % 4 * 4 ^ n) 0)

/-- The plan key of the body in use (R662): none for all zeros or erased keys, else as it unwraps. -/
def State.unwrapKey (s : State) : State :=
  let w := bodyBytes s.sio.body 0x2200 160
  if w.all (fun x => x = 0) then { s with kv.pkey := 0 }
  else if s.kv.impKey && Config.unwrapOk w then { s with kv.pkey := 1 }
  else ({ s with kv.pkey := 2 }).revt 0xD0008 3

/-- When a required brake test next falls due under a changed interval (R546). -/
def btDueOf (ao : Nat) (old new : Nat) (d : Option Nat) : Option Nat :=
  if new = 0 then none
  else match d with
    | some t => some (t + new - old)
    | none => if old = 0 then some (ao + new) else none

/-- A safety configuration is taken into use (R530, R549): changed pairs start in DEMAND, changed channels are
de-energised, the collector leaves its ROM defaults (R503). -/
def State.takeCfg (b : FMap Byte) (s : State) : State :=
  let o := s.sio.body
  let first := !s.sio.inUse
  let s := { s with sio.body := b, sio.bodyLen := cfgLen, sio.cfgCrc := cfgCrcOf b, sio.inUse := true,
                    flt.defaults := false, kv.policy := bodyPolicy b }
  let s := forAll (List.range 16) (fun n s =>
    let c := pairCfg b n
    if c.mode = 0 then (s.setPair n InPair.reset).lower (32 + n)
    else if first || pairCfg o n != c then
      (s.setPair n { InPair.reset with st := .demand, pat := s.pattern n, patAt := s.ao, nonRelAt := s.ao }).lower (32 + n)
    else s) s
  let s := forAll (List.range 10) (fun k s =>
    if chanChanged o b k then
      let s := if (s.chan k).energised then s.drive k false else s
      let s := if (s.chan k).bt != .idle then s.btStop k else s
      if k ≥ 8 && !first then
        s.setChan k { s.chan k with btDueAt := btDueOf s.ao (brakeCfg o (k - 8)).interval (brakeCfg b (k - 8)).interval
                                                 (s.chan k).btDueAt }
      else s
    else s) s
  (s.revt 0x70008 6).unwrapKey.evalHolds.evalChans.ownDoms

end Sys2Proof.Machine
end

