-- ==== Sys2Proof/Machine/PlanCheck.lean ====
section
/-! DEFINITION. What the plan loader checks (R299): each check of the table as one test of the image, in the table's order,
and the placement of R176 with its rerouting. -/

namespace Sys2Proof.Machine
open Sys2Proof

/-! ## FORMAT to SIGNATURE -/

/-- 0x01: MAGIC, FORMAT, HLEN (R283). -/
def planFormatOk (i : PlanImage) : Bool := i.magic = 0x4E4C5042 && i.format = 1 && i.hlen = 128
/-- RESBYTES as the section table gives it (R283). -/
def planRes (i : PlanImage) : Nat := (i.secs.map (fun x => if x.host then 0 else x.plen)).sum
/-- 0x02: the ranges of R283, its zero bytes, IMGLEN within `cap` and RESBYTES. -/
def planHeaderOk (cap : Nat) (i : PlanImage) : Bool :=
  decide (i.nstreams ≤ 64) && (if i.nstreams = 0 then decide (i.ntiles = 0) else inR 3 184 i.ntiles) && inR 1 64 i.nslots
  && inR 6250 5000000 i.hper && inR 1 1024 i.secs.length && i.hdrZeros && decide (i.imglen ≤ 100663296)
  && decide (i.imglen ≤ cap) && decide (i.resbytes = planRes i)
/-- An interface version as one number (R294). -/
def planIfv (i : PlanImage) : Nat := i.ifvMajor * 65536 + i.ifvMinor
/-- 0x03: both ranges hold the plan's interface version (R294); without a porter, the reeve's. -/
def State.planVersionOk (s : State) (i : PlanImage) : Bool :=
  inR s.rv.rangeR.1 s.rv.rangeR.2 (planIfv i) && (!s.dev.porterUp || inR s.rv.rangeP.1 s.rv.rangeP.2 (planIfv i))
/-- 0x04: the signer's key hash is one of the safety configuration's (R291). -/
def State.planKeyOk (s : State) (i : PlanImage) : Bool :=
  (List.range (bodyByte s.sio.body 0xF)).any (fun k => beNat (bodyBytes s.sio.body (0xA00 + 48 * k) 48) = i.keyHash.toNat)
/-- 0x05: the signature verifies, and the zero bytes of R290 are zero. -/
def planSigOk (i : PlanImage) : Bool := i.sigOk && i.sigZeros

/-! ## TABLE (R285 to R287) -/

/-- A tile section kind. -/
def tileKind (k : Nat) : Bool := inR 1 6 k
/-- A safety section kind. -/
def safetyKind (k : Nat) : Bool := inR 9 15 k
/-- K_c of a TILE_CODE section (R287). -/
def codeBanks (x : PSec) : Nat := (0x60000 - x.target) / 0x8000
/-- Sections of a kind. -/
def secsOf (i : PlanImage) (k : Nat) : List PSec := i.secs.filter (fun x => x.kind = k)
/-- Sections of a kind of logical tile `l`. -/
def tileSecs (i : PlanImage) (k l : Nat) : List PSec := (secsOf i k).filter (fun x => x.index = l)
/-- The code base of logical tile `l`. -/
def codeBase (i : PlanImage) (l : Nat) : Nat := match tileSecs i 1 l with | x :: _ => x.target | [] => 0x60000
/-- Two ranges do not overlap. -/
def apart (o n o' n' : Nat) : Bool := decide (o + n ≤ o') || decide (o' + n' ≤ o) || n = 0 || n' = 0
/-- Every pair of a list obeys `t`. -/
def allPairs {α : Type} (t : α → α → Bool) : List α → Bool
  | [] => true
  | x :: l => l.all (t x) && allPairs t l
/-- The first byte after the signature block (R282). -/
def sigEnd (i : PlanImage) : Nat := 128 + 96 * i.secs.length + 256
/-- A section's own part of R284 to R287. -/
def secOk (i : PlanImage) (x : PSec) : Bool :=
  inR 1 0x11 x.kind && x.zeros && (x.host == (x.kind = 0x10 || x.kind = 0x11 : Bool)) && !(x.host && x.enc)
  && (if tileKind x.kind then decide (x.index < i.ntiles) else decide (x.index = 0))
  && x.offset % 64 = 0 && decide (x.len = (if x.enc then x.plen + 16 else x.plen))
  && decide (sigEnd i ≤ x.offset) && decide (x.offset + x.len ≤ i.imglen)
  && (if x.kind = 1 then [0x40000, 0x48000, 0x50000, 0x58000].contains x.target && x.plen % 8 = 0
        && decide (x.plen ≤ 0x60000 - x.target)
      else if inR 4 6 x.kind then x.target % 64 = 0 && decide (x.target + x.plen ≤ codeBase i x.index)
      else tileKind x.kind || decide (x.target = 0))
  && (x.kind != 2 || decide (x.plen = 48))
/-- The counts of R285. -/
def secCountsOk (i : PlanImage) : Bool :=
  (List.range i.ntiles).all (fun l => [1, 2, 3].all (fun k => (tileSecs i k l).length = 1))
  && (List.range' 7 10).all (fun k => (secsOf i k).length = 1) && decide ((secsOf i 0x11).length ≤ 1)
/-- 0x06: R285 to R287. -/
def planTableOk (i : PlanImage) : Bool :=
  secCountsOk i && i.secs.all (secOk i) && allPairs (fun x y => apart x.offset x.len y.offset y.len) i.secs
  && (List.range i.ntiles).all (fun l =>
      allPairs (fun x y => apart x.target x.plen y.target y.plen) (i.secs.filter (fun x => x.index = l
        && [1, 4, 5, 6].contains x.kind)))
/-- 0x07: the GCM tag of each encrypted section, which needs a valid plan key (R292, R662). -/
def State.secTagOk (s : State) (x : PSec) : Bool := !x.enc || (x.tagOk && s.kv.pkey = 1)
/-- The table index of the first section that fails `t`. -/
def badSec (i : PlanImage) (t : PSec → Bool) : Option Nat := (List.range i.secs.length).find? (fun k =>
  match i.secs[k]? with | some x => !t x | none => false)

/-! ## TILE_CODE -/

/-- The words of a TILE_CODE section. -/
def codeWords (x : PSec) : List Nat := (List.range (x.plen / 8)).map (fun k => leField x.bytes (8 * k) 8)
/-- Where a context goes after the word `w` at `pc` (R248, R250). -/
def succPcs (pc w : Nat) : List Nat := match fld w 63 56 with
  | 0x02 => [fld w 15 0]
  | 0x03 => [fld w 15 0, pc + 1]
  | 0x04 => [fld w 15 0, pc + 1]
  | _ => [pc + 1]
/-- The program counters reached from a work list. -/
def reach (ws : List Nat) : Nat → List Nat → List Nat → List Nat
  | 0, _, seen => seen
  | _ + 1, [], seen => seen
  | n + 1, pc :: todo, seen =>
    match ws[pc]? with
    | none => reach ws n todo seen
    | some w => if seen.contains pc then reach ws n todo seen else reach ws n (succPcs pc w ++ todo) (pc :: seen)
/-- The start counters of a context (R245). -/
def startPcs (c : PCtx) : List Nat := c.entries.filterMap (fun e => match e.2 with | .start pc => some pc | _ => none)
/-- Banks that an instruction reads, each named at most once and at most four (R153). -/
def readBanks (w : Nat) : List Nat :=
  let op := fld w 63 56
  if 0x50 ≤ op ∧ op ≤ 0x57 ∨ op = 0x80 ∨ op = 0x81 then [fld w 47 44]
  else if op = 0x58 then (List.range (fld w 37 36 + 1)).map (fun k => fld w 47 44 + k)
  else if 0x60 ≤ op ∧ op ≤ 0x65 then [fld w 40 37]
  else if 0x66 ≤ op ∧ op ≤ 0x68 then [fld w 38 35]
  else if op = 0x72 then [fld w 31 28]
  else if op = 0x73 then [fld w 31 28, fld w 25 22]
  else []
/-- R153. -/
def readBanksOk (w : Nat) : Bool := decide ((readBanks w).length ≤ 4) && allPairs (fun a b => a != b) (readBanks w)
/-- Routes that start at logical tile `l`, and those of them that end at a result queue (R271). -/
def routeStarts (i : PlanImage) (l : Nat) : List Nat := (i.routes.filter (fun r => r.src = .tile l)).map PRoute.num
/-- Those ending at a result queue. -/
def routeQueues (i : PlanImage) (l : Nat) : List Nat :=
  (i.routes.filter (fun r => r.src = .tile l && r.resultQueue)).map PRoute.num
/-- An empty context line. -/
def PCtxNone : PCtx := { entries := [], windows := [], twins := 0, stages := 0, counters := 0 }
/-- A context's own limits (R245, R246): windows within the data banks, start counters within the code, entries only with
wheel slots. -/
def ctxOk (t : PTile) (nwords c : Nat) (x : PCtx) : Bool :=
  decide (c < 47) && (startPcs x).all (fun pc => decide (pc < 4096 * t.kc))
  && x.windows.all (fun b => decide (b.1 ≤ b.2) && decide (b.2 ≤ (12 - t.kc) * 0x8000))
  && (t.wheel.contains c || x.entries.all (fun e => match e.2 with | .none => true | _ => false)) && decide (nwords ≤ 4096 * t.kc)
/-- The allocations are disjoint (R166, R245). -/
def ctxsDisjoint (t : PTile) : Bool :=
  allPairs (fun x y : Nat × PCtx => x.2.twins &&& y.2.twins == 0 && x.2.stages &&& y.2.stages == 0) t.ctxs
/-- Receive rings lie in data banks (R237). -/
def ringsOk (t : PTile) : Bool :=
  t.rings.all (fun r => decide (0 < r.2.len) && decide (r.2.base % 64 = 0) && decide (r.2.base + 64 * r.2.len ≤ (12 - t.kc) * 0x8000))
/-- 0x09 for one TILE_CODE section: every word against the tests of R278 for every context that can reach it, and for words
that none reaches the tests that no allocation enters. -/
def tileCodeOk (i : PlanImage) (x : PSec) : Bool :=
  match i.tiles[x.index]? with
  | none => false
  | some t =>
    let ws := codeWords x
    let st := routeStarts i x.index
    let qu := routeQueues i x.index
    decide (t.kc = codeBanks x) && inR 1 4 t.kc && t.wheel.length = 48
    && t.wheel.all (fun o => decide (o < 47) || o = 0xFF) && ctxsDisjoint t
    && t.ctxs.all (fun c => ctxOk t ws.length c.1 c.2)
    && ws.all (fun w => readBanksOk w && (match whyIllegal t.kc PCtxNone st qu w with
        | none => true
        | some k => k = 4 || (k = 5 && targetOk t.kc w && w != 0)))
    && t.ctxs.all (fun c => (reach ws (3 * ws.length + 130) (startPcs c.2) []).all (fun pc => match ws[pc]? with
        | some w => (whyIllegal t.kc c.2 st qu w).isNone
        | none => true))

/-! ## ROUTE (R168 to R173) -/

/-- The router of a route's end: the home or placed position, or the north-edge router of a ledger column (R149). -/
def endRouter (place : List Nat) : RouteEnd → Nat
  | .tile l => lget 0 place l
  | .port c => c
/-- Routers are neighbours on the mesh. -/
def adjacent (a b : Nat) : Bool :=
  (a % 16 = b % 16 && (a / 16 + 1 = b / 16 || b / 16 + 1 = a / 16))
  || (a / 16 = b / 16 && (a % 16 + 1 = b % 16 || b % 16 + 1 = a % 16))
/-- The routers of a path follow one another. -/
def pathOk : List Nat → Bool
  | a :: b :: t => adjacent a b && pathOk (b :: t)
  | _ => true
/-- Where the flits of one injection phase stand: (router, came from, goes to, arrival, departure) in phases counted from 0
(R168). 300 and above stand for the local and ledger ports. -/
def hops (from_ : Nat) : List Nat → List Nat → Nat → List (Nat × Nat × Nat × Nat × Nat)
  | [], _, _ => []
  | a :: p, ws, t =>
    let w := lget 0 ws 0
    let to_ := match p with | b :: _ => b | [] => 300
    (a, from_, to_, t, t + 2 + w) :: hops a p (ws.drop 1) (t + 2 + w)
/-- The occupation of every injection phase of a route. -/
def routeHops (r : PRoute) : List (Nat × Nat × Nat × Nat × Nat) :=
  (List.range r.phases.length).flatMap (fun k => hops (301 + (match r.src with | .tile _ => 0 | .port _ => 1)) r.path
    (lget [] r.waits k) (lget 0 r.phases k))
/-- Flits in a buffer in phase `x`, of those that occupy it from an arrival to a departure. -/
def bufferAt (l : List (Nat × Nat × Nat × Nat × Nat)) (x : Nat) : Nat :=
  (l.filter (fun h => (x + 480 - h.2.2.2.1 % 48) % 48 < h.2.2.2.2 - h.2.2.2.1)).length
/-- No two entries use one output port in one departure phase, and no input buffer holds more than 16 flits (R169). -/
def noCollision (rs : List PRoute) : Bool :=
  let hs := rs.flatMap routeHops
  (List.range 192).all (fun n =>
    let at_ := hs.filter (fun h => h.1 = n)
    allPairs (fun x y : Nat × Nat × Nat × Nat × Nat => !(x.2.2.1 = y.2.2.1 && x.2.2.2.2 % 48 = y.2.2.2.2 % 48)) at_
    && at_.all (fun h => (List.range 48).all (fun p => bufferAt (at_.filter (fun g => g.2.1 = h.2.1)) p ≤ 16)))
/-- Delivery after injection of the k-th phase of a route (R168). -/
def routeDelay (r : PRoute) (k : Nat) : Nat := (r.path.mapIdx (fun j _ => 2 + lget 0 (lget [] r.waits k) j)).sum + 1
/-- A primary route's own form: numbered once, a path between its ends, phases 0 to 47, waits at most 15. -/
def routeOk (i : PlanImage) (home : List Nat) (r : PRoute) : Bool :=
  decide (r.num < 4096) && pathOk r.path && r.path.all (fun n => decide (n < 192))
  && r.path.head? = some (endRouter home r.src) && r.path.getLast? = some (endRouter home r.dst)
  && r.phases.all (fun p => decide (p < 48)) && r.waits.all (fun w => w.all (fun x => decide (x ≤ 15)))
  && (match r.dst with
      | .tile l => (match i.tiles[l]? with
          | some t => !r.resultQueue && decide (r.counter < 64) && (t.rings.any (fun g => g.1 = r.counter))
          | none => false)
      | .port _ => true)
  && (match r.src with | .tile l => decide (l < i.ntiles) | .port c => decide (c < 16))
/-- 0x0A: R169, R177, R237, R173, R271. -/
def State.planRouteOk (s : State) (i : PlanImage) : Bool :=
  let home := i.tiles.map PTile.home
  i.routes.all (routeOk i home) && allPairs (fun a b => a.num != b.num) i.routes && i.tiles.all ringsOk
  && noCollision i.routes && i.routes.all (fun r => r.path.all (fun n => (s.tile n).role != .failedRouter))
  && i.ledgerPhases.all (fun l => l.all (fun p => p % 16 != 0))

/-! ## RANGE -/

/-- The size of a stream's frame (R323, R327). -/
def frameBytes (p : PStream) : Nat := p.lines * p.lbytes
/-- G of R95: the BSC gate cycle in ns. -/
def gateNs (i : PlanImage) : Nat := if i.gateCycle = 0 then 31250 else i.gateCycle
/-- AO cycles as ns. -/
def aoNs (n : Nat) : Nat := 20 * n
/-- A frame layout (R323, R326, R327). -/
def layoutOk (p : PStream) : Bool :=
  decide (frameBytes p ≤ 1048576) && decide (0 < p.lbytes)
  && (if p.src < 2 then decide (p.active ≤ p.lines) && decide (p.lines ≤ p.active + 64) && decide (0 < p.active)
      else inR 1 4096 p.lines && inR 8 8192 p.lbytes && p.lbytes % 8 = 0 && decide (p.slots.length ≤ 16))
/-- Bytes [o, o + n) of a frame lie in blank lines or one reserved slot (R340). -/
def regionOk (p : PStream) (x : Nat × Nat) : Bool :=
  decide (x.1 + x.2 ≤ frameBytes p)
  && (p.slots.any (fun q => decide (q.1 ≤ x.1) && decide (x.1 + x.2 ≤ q.1 + q.2))
      || (List.range p.lines).all (fun l => apart x.1 x.2 (l * p.lbytes) p.lbytes
            || (if p.src < 2 then decide (p.active ≤ l) else p.blank.contains l)))
/-- The canary regions of R340 and the patterns of R134. -/
def canaryOk (p : PStream) : Bool :=
  decide (p.regions.length ≤ 16) && p.regions.all (regionOk p) && allPairs (fun x y => apart x.1 x.2 y.1 y.2) p.regions
  && decide ((p.regions.map Prod.snd).sum ≤ 4096) && decide (p.patterns.length ≤ 16)
  && p.patterns.all (fun x => x.bytes.map List.length = p.regions.map Prod.snd)
  && (!p.runs.toNat.testBit 2 || decide (0 < p.patterns.length))
/-- A layer's fields (R115, R125) and its stored G and E (R217). -/
def layerOk (l : PLayer) : Bool :=
  let xf := [1, 2, 3, 4, 8, 9, 10, 11, 12]
  [l.nT, l.nW, l.nD].all (inR 1 64) && decide (l.nT ≤ l.nW) && xf.contains l.xfmt && [10, 11, 12, 13, 4, 5].contains l.afmt
  && (l.kind != 0 || [12, 13, 4, 5].contains l.cfmt)
  && inR 1 65536 l.k && decide (l.aorder ≤ 2) && (!l.srcOut || inR 8 12 l.yfmt) && inR 8 12 l.yfmt && inR 1 65536 l.n
  && decide (l.rorder ≤ 2) && decide (-1000 ≤ l.anchor) && decide (l.anchor ≤ 1000) && decide (l.dmax ≤ 65535)
  && decide (l.tol ≤ 255)
  && (match gammaOf l, epsOf l with
      | some g, some e => g.m = l.gM && g.e = l.gE && e.m = l.eM && e.e = l.eE
      | _, _ => false)
/-- The pip parameters of R64. -/
def pipsOk (p : PStream) : Bool :=
  [p.wReject, p.wDoubt, p.wAbsent, p.wAccept].all (fun w => decide (w ≤ 63)) && inR 1 1023 p.tWatch && inR 2 65535 p.tDemote
  && decide (p.tWatch < p.tDemote) && inR 1 4096 p.requal
/-- A stream's times (R45, R57, R62, R335, R338). -/
def timesOk (p : PStream) : Bool :=
  inR 5000 500000000 p.a && decide (p.a ≤ p.d) && decide (p.d + 200 ≤ p.residency) && inR 1 16 p.k
  && decide (p.a ≤ p.f) && decide (p.f ≤ 3000000000) && inR 50 p.period p.window && decide (p.window < p.residency)
  && (p.stale = 0 || inR 50 50000000 p.stale)
/-- Envelopes and relations (R136). -/
def envOk (p : PStream) : Bool :=
  decide (p.rels.length ≤ 8) && p.rels.all (fun r => decide ((r.terms.map Prod.fst).dedup.length ≤ 4))
/-- Known answers (R138, R139) and digests (R144). -/
def periodicOk (i : PlanImage) (p : PStream) : Bool :=
  (!p.runs.toNat.testBit 4 || (inR 1 8 p.golden.length && inR 50000 500000000 p.kaInterval && decide (p.kaInterval ≤ p.ftti)))
  && (!p.runs.toNat.testBit 5 || (i.streams.filter (fun q => q.fn = p.fn)).all (fun q => decide (p.digestInterval ≤ q.ftti)))
/-- The banks of a stream (R349, R350). -/
def banksOk (p : PStream) : Bool :=
  let n := ((List.range 16).filter (fun b => p.banks.toNat.testBit b)).length
  if p.mirror then n = 2 else decide (1 ≤ n)
/-- 0x0B: the parameters of streams and rules. -/
def planRangeOk (i : PlanImage) : Bool :=
  i.streams.all (fun p => decide (p.num < 64) && decide (p.fn < 64) && layoutOk p && canaryOk p && timesOk p && pipsOk p
    && decide ((p.rfmts.map fmtBytes).sum ≤ 12) && p.layers.all layerOk && envOk p && periodicOk i p && banksOk p
    && (!p.p0 || (decide (aoNs p.c ≤ 120000) && decide (aoNs p.c + gateNs i ≤ 167000))))
  && allPairs (fun p q : PStream => p.num != q.num && !(p.src = q.src && p.key = q.key)) i.streams
  && i.regions.all (fun r => decide (r.index < 256) && inR 256 65536 r.step)
  && i.tiles.all (fun t => !t.reserve || t.owed.all (fun o => !inR 1 3 o.kind))
  && inR 1 64 i.retention

/-! ## SLOT (R196, R296, R612) -/

/-- The end of slot k. -/
def slotEnd (i : PlanImage) (k : Nat) : Nat := match i.slots[k + 1]? with | some x => x.start | none => i.hper
/-- The start of slot k. -/
def slotStart (i : PlanImage) (k : Nat) : Nat := match i.slots[k]? with | some x => x.start | none => 0
/-- AO cycles of slot k. -/
def slotLen (i : PlanImage) (k : Nat) : Nat := slotEnd i k - slotStart i k
/-- Quad `q` is scheduled ON in a slot: an unlisted quad is OFF. -/
def quadOn (x : PSlot) (q : Nat) : Bool := (mget { state := 2, grant := 0, hostless := false } x.quads q).state = 0
/-- AO cycles for which quad `q` is ON from the hyperperiod's start to `t` within it. -/
def onBefore (i : PlanImage) (q t : Nat) : Nat :=
  ((List.range i.slots.length).map (fun k => match i.slots[k]? with
    | some x => if quadOn x q then min (slotEnd i k) t - x.start else 0
    | none => 0)).sum
/-- ON time up to `t` over the schedule repeated. -/
def onUpTo (i : PlanImage) (q t : Nat) : Nat := t / i.hper * onBefore i q i.hper + onBefore i q (t % i.hper)
/-- At least 12 288 turns of 48 array cycles in every 1 ms (R612): the least window begins or ends at a slot boundary. -/
def turnsOk (i : PlanImage) (q : Nat) : Bool :=
  let big := (1 + 50000 / i.hper) * i.hper
  let ok (a : Nat) : Bool := decide (12288 * 48 ≤ 30 * (onUpTo i q (a + 50000) - onUpTo i q a))
  (List.range i.slots.length).all (fun k => ok (slotStart i k) && ok (big + slotStart i k - 50000))
/-- 0x0C. -/
def planSlotOk (i : PlanImage) : Bool :=
  i.slots.length = i.nslots && slotStart i 0 = 0 && (List.range i.slots.length).all (fun k =>
      decide (slotStart i k < slotEnd i k) && decide (50 ≤ slotLen i k)
      && i.tiles.all (fun t => decide (100 * lget 0 t.cycles k ≤ 97 * 30 * slotLen i k)))
  && i.tiles.all (fun t => turnsOk i (quadOf t.home))

/-! ## BUDGET (R40 to R42, R49) -/

/-- Buffers of one frame of a stream. -/
def frameBufs (p : PStream) : Nat := ceilDiv (frameBytes p) 4096
/-- Golden frames per known-answer interval; 0 without that assay. -/
def goldenOf (p : PStream) : Nat := if p.runs.toNat.testBit 4 then p.golden.length else 0
/-- The sum of 1 / n over a list, as a fraction. -/
def sumInv : List Nat → Nat × Nat
  | [] => (0, 1)
  | n :: t => let x := sumInv t; (x.1 * n + x.2, x.2 * n)
/-- 0x0D. -/
def planBudgetOk (i : PlanImage) : Bool :=
  decide ((i.streams.map (fun p => frameBufs p * (ceilDiv p.residency p.period + 1 + goldenOf p))).sum ≤ 2048)
  && decide (i.evRate * (i.retention * i.hper) ≤ 4194304 * Config.aoPerS)
  && decide (i.hostIn ≤ 48000000000) && decide (i.hostOut ≤ 48000000000)
  && i.streams.all (fun p => decide (50000 ≤ p.period))
  && (let x := sumInv (i.streams.map PStream.period); decide (Config.aoPerS * x.1 ≤ 64000 * x.2))
  && (List.range i.ntiles).all (fun l =>
      decide (((i.secs.filter (fun x => tileKind x.kind && x.index = l)).map PSec.plen).sum ≤ 393216))
  && decide (((i.secs.filter (fun x => safetyKind x.kind)).map PSec.plen).sum ≤ 3670016)

/-! ## The table of R299 -/

/-- The check that fails, by code, of codes 0x01 to 0x05 (R299); with the section that failed, 0x7FF for none. -/
def State.planHead (s : State) (cap : Nat) (i : PlanImage) : Option (Nat × Nat) :=
  if !planFormatOk i then some (1, 0x7FF) else if !planHeaderOk cap i then some (2, 0x7FF)
  else if !s.planVersionOk i then some (3, 0x7FF) else none
/-- Codes 0x04 and 0x05. -/
def State.planAuth (s : State) (i : PlanImage) : Option (Nat × Nat) :=
  if !s.planKeyOk i then some (4, 0x7FF) else if !planSigOk i then some (5, 0x7FF) else none
/-- Codes 0x06 to 0x0D. -/
def State.planScan (s : State) (i : PlanImage) : Option (Nat × Nat) :=
  if !planTableOk i then some (6, match badSec i (secOk i) with | some k => k | none => 0x7FF)
  else match badSec i s.secTagOk with
    | some k => some (7, k)
    | none => match badSec i PSec.digestOk with
      | some k => some (8, k)
      | none => match badSec i (fun x => x.kind != 1 || tileCodeOk i x) with
        | some k => some (9, k)
        | none =>
          let sec (k : Nat) : Nat := match badSec i (fun x => x.kind != k) with | some n => n | none => 0x7FF
          if !s.planRouteOk i then some (0xA, sec 7) else if !planRangeOk i then some (0xB, sec 9)
          else if !planSlotOk i then some (0xC, sec 15) else if !planBudgetOk i then some (0xD, 0x7FF) else none
/-- Codes 0x01 to 0x0D in order: the checks of a verify (R649) and of a load. -/
def State.planCheck (s : State) (cap : Nat) (i : PlanImage) : Option (Nat × Nat) :=
  match s.planHead cap i with
  | some x => some x
  | none => match s.planAuth i with
    | some x => some x
    | none => s.planScan i

/-! ## Placement (R175, R176) -/

/-- x first, then y (R176). -/
def xyPath (a b : Nat) : List Nat :=
  let r := a / 16
  let xs := if a % 16 ≤ b % 16 then (List.range (b % 16 - a % 16 + 1)).map (fun k => r * 16 + a % 16 + k)
    else (List.range (a % 16 - b % 16 + 1)).map (fun k => r * 16 + a % 16 - k)
  let c := b % 16
  let ys := if r ≤ b / 16 then (List.range (b / 16 - r)).map (fun k => (r + 1 + k) * 16 + c)
    else (List.range (r - b / 16)).map (fun k => (r - 1 - k) * 16 + c)
  xs ++ ys
/-- The least wait at most 15 that departs in a phase of `phi`, from arrival phase `t`. -/
def phiWait (phi : List Nat) (t : Nat) : Option Nat := (List.range 16).find? (fun w => phi.contains ((t + 2 + w) % 48))
/-- The waits at each link of a path (the last router delivers without one). -/
def phiWaits (phi : List Nat) : List Nat → Nat → Option (List Nat)
  | _ :: b :: p, t => match phiWait phi t with
    | some w => (phiWaits phi (b :: p) (t + 2 + w)).map (w :: ·)
    | none => none
  | _, _ => some [0]
/-- A route rerouted for a placement. `k`: the hole whose phase set it uses. -/
def reroute (i : PlanImage) (place : List Nat) (k : Nat) (r : PRoute) : Option PRoute :=
  let p := xyPath (endRouter place r.src) (endRouter place r.dst)
  let ws := r.phases.map (fun t => phiWaits (lget [] i.phi k) p t)
  if ws.all Option.isSome then some { r with path := p, waits := ws.map (fun w => match w with | some x => x | none => []) }
  else none
/-- The place of a position in the hole list. -/
def holeIndex (i : PlanImage) (t : Nat) : Option Nat := (List.range i.holes.length).find? (fun k => i.holes[k]? = some t)
/-- The hole index that a moved route uses (R176): of the source's new position, or of the hole its endpoint took. -/
def routeHole (i : PlanImage) (moved : List (Nat × Nat)) (r : PRoute) : Option Nat :=
  let end_ (e : RouteEnd) : Option Nat := match e with
    | .tile l => (moved.find? (fun m => m.1 = l)).map Prod.snd
    | .port _ => none
  match end_ r.src, end_ r.dst with
  | some t, _ => holeIndex i t
  | none, some t => holeIndex i t
  | none, none => none
/-- The routes for a placement, or none where one cannot be built. -/
def routesFor (i : PlanImage) (place : List Nat) (moved : List (Nat × Nat)) : Option (List PRoute) :=
  i.routes.foldr (fun r acc => match acc with
    | none => none
    | some l => match routeHole i moved r with
      | none => some (r :: l)
      | some k => (reroute i place k r).map (· :: l)) (some [])
/-- The outcome of the placement: positions by logical tile and routes, or the refusal code (R175, R176). -/
inductive Placed where
  | ok (place : List Nat) (routes : List PRoute)
  | refused (code : Nat)
  deriving DecidableEq, Repr
/-- R175 and R176 against the tile health that `h` gives. -/
def placePlan (i : PlanImage) (healthy failedRouter : Nat → Bool) : Placed :=
  let n := ((List.range 192).filter healthy).length
  let bad := (List.range i.tiles.length).filter (fun l => match i.tiles[l]? with | some t => !healthy t.home | none => false)
  let free := i.holes.filter healthy
  if n < i.ntiles + 1 || decide (bad.length + 1 > free.length) then .refused 0xE
  else
    let moved := bad.zip free
    let place := (List.range i.tiles.length).map (fun l => match moved.find? (fun m => m.1 = l), i.tiles[l]? with
      | some m, _ => m.2
      | none, some t => t.home
      | none, none => 0)
    match routesFor i place moved with
    | none => .refused 0xF
    | some rs =>
      if rs.all (fun r => (List.range r.phases.length).all (fun k => decide (routeDelay r k ≤ r.latest))
          && r.path.all (fun t => !failedRouter t)) && noCollision rs then .ok place rs
      else .refused 0xF
/-- Router `t` ends link `u` = tile x 4 + port: 0 north, 1 east, 2 south, 3 west (R172, R513). -/
def linkEnds (u t : Nat) : Bool :=
  let a := u / 4
  t = a || (match u % 4 with
    | 0 => decide (16 ≤ a) && decide (t + 16 = a)
    | 1 => decide (a % 16 < 15) && decide (t = a + 1)
    | 2 => decide (a < 176) && decide (t = a + 16)
    | _ => decide (0 < a % 16) && decide (t + 1 = a))
/-- The placement against the present tile health; a link whose fault has latched fails both of its routers (R172). -/
def State.placement (s : State) (i : PlanImage) : Placed :=
  let failed (t : Nat) : Bool := (s.tile t).role = .failedRouter || s.linkBad.any (fun u => linkEnds u t)
  placePlan i (fun t => (s.tile t).healthy && !failed t) failed

end Sys2Proof.Machine
end

