-- ==== Sys2Proof/Machine/GateOps.lean ====
section
/-! DEFINITION. Frame buffers and their requests (R349 to R353, R440), admission credits (R330), and the draw of golden
positions (R138, R343, R708): the operations of the stream gate that plan starts share with its rows. -/

namespace Sys2Proof.Machine
open Sys2Proof

/-! ## Buffers -/

/-- The lowest free buffer of a bank. -/
def pickBuf (used : FMap Bool) (bank : Nat) : Option Nat :=
  (List.range' (128 * bank) 128).find? (fun b => !mget false used b)
/-- The banks of a set in cyclic order from bank `c` (R349). -/
def bankOrder (banks : List Nat) (c : Nat) : List Nat :=
  banks.filter (fun b => c ≤ b) ++ banks.filter (fun b => decide (b < c))
/-- `n` buffers drawn from a set of banks, one from each in turn from bank `c`: the buffers, the bank to start at next, and
the buffers in use after it; none where the set cannot fill the request whole (R349, R351). -/
def takeBufs (banks : List Nat) : Nat → Nat → FMap Bool → Option (List Nat × Nat × FMap Bool)
  | 0, c, u => some ([], c, u)
  | n + 1, c, u =>
    match (bankOrder banks c).findSome? (fun b => (pickBuf u b).map (fun x => (b, x))) with
    | none => none
    | some (b, x) => (takeBufs banks n ((b + 1) % 16) (mput false u x true)).map (fun r => (x :: r.1, r.2))
/-- The banks of a stream's set that serve (R349, R440). -/
def State.bankSet (s : State) (p : PStream) : List Nat :=
  (List.range 16).filter (fun b => p.banks.toNat.testBit b && !s.ldg.failed.toNat.testBit b)
/-- A request answered NOBUF is counted in the register at `a` (R351, R352). -/
def State.nobuf (a u : Nat) (s : State) : State := ((s.rincSat a 31 0 1).revt 0x90008 2).raiseU 172 u
/-- The buffers of one frame of a stream, with those of the mirror copy (R349, R350). -/
def State.frameAlloc (s : State) (p : PStream) (c : Nat) : Option (List Nat × List Nat × Nat × FMap Bool) :=
  let n := frameBufs p
  match p.mirror, s.bankSet p with
  | true, [a, b] =>
    (match takeBufs [a] n a s.ldg.used with
     | some x => (takeBufs [b] n b x.2.2).map (fun y => (x.1, y.1, c, y.2.2))
     | none => none)
  | _, bs => (takeBufs bs n c s.ldg.used).map (fun x => (x.1, [], x.2.1, x.2.2))
/-- Stream `n` requests its reservation (R351). -/
def State.reserve (n : Nat) (s : State) : State :=
  match s.pstream n with
  | none => s
  | some p =>
    let g := s.gs n
    if g.resv.isSome then s
    else match s.frameAlloc p g.nextBank with
      | some r => { s.setGs n { g with resv := some (r.1, r.2.1), wantResv := false, nextBank := r.2.2.1 } with
                    ldg.used := r.2.2.2 }
      | none => (s.setGs n { g with wantResv := true }).nobuf 0x90010 p.src
/-- The bound streams in the order of R352: ascending source, then ascending stream. -/
def State.reserveOrder (s : State) : List Nat :=
  (List.range 4).flatMap (fun c => (List.range 64).filter (fun n => match s.pstream n with | some p => p.src = c | none => false))
/-- Every refused request repeated, in order (R351, R352). -/
def State.reserveAgain (s : State) : State :=
  forAll s.reserveOrder (fun n s => if (s.gs n).wantResv then s.reserve n else s) s

/-! ## Known-answer intervals -/

/-- Stream `p` runs the known-answer assay. -/
def hasGolden (p : PStream) : Bool := p.runs.toNat.testBit 4 && !p.golden.isEmpty
/-- A known-answer interval starts at AO count `t` with number `k`: its golden positions are drawn (R138, R343). -/
def State.kaBegin (p : PStream) (k t : Nat) (s : State) : State :=
  let g := p.golden.length
  let m := ceilDiv p.kaInterval p.period + g
  let pos := if hasGolden p then drawIndices (s.ksw 2 p.num 1 k) m g else []
  s.setGs p.num { s.gs p.num with kaNum := k, kaStart := t, kaPos := 0, kaGolden := pos, kaNext := 0 }

/-! ## Admission -/

/-- A frame's first packet is not admitted (R331): its cause is shown, the drop counted, its packets discarded. Causes: 1
NO_PLAN, 2 BLACKOUT, 3 NOBUF, 4 EARLY. -/
def State.dropFrame (n cause : Nat) (s : State) : State :=
  let s := s.setGs n { s.gs n with ldrop := cause, discarding := true }
  let s := (s.rincSat (0x9100C + 32 * n) 31 0 1).revt 0x90008 1
  if cause = 2 then s.rincSat 0x9001C 31 0 1 else s
/-- The open frame of stream `n`. -/
def State.openFrame (s : State) (n : Nat) : Option Frame := s.vd.frames.find? (fun f => f.stream = n && f.isOpen)
/-- A taint cause arises for an open frame (R336, R339): the first is shown in LTAINT. -/
def State.taint (f : Frame) (cause : Nat) (s : State) : State :=
  let f := s.frameNow f
  s.setFrame { f with taints := f.taints ++ [cause] }
/-- The frame is marked TAINTED at its close, where a cause arose (R336, R339). -/
def State.markTainted (src : Nat) (f : Frame) (s : State) : State :=
  let f := s.frameNow f
  match f.taints with
  | [] => s
  | c :: _ =>
    let s := s.setFrame { f with tainted := true }
    let s := s.setGs f.stream { s.gs f.stream with ltaint := c }
    ((s.rincSat (0x91008 + 32 * f.stream) 31 0 1).revt 0x90008 0).raiseU (160 + src) src

end Sys2Proof.Machine
end

