-- ==== Sys2Proof/Machine/PlanOps.lean ====
section
/-! DEFINITION. Refusing, disarming, starting and switching plans (R297 to R319, R63, R70 to R72, R122, R193, R247, R288, R289,
R417, R612, R708): the operations that the plan loader's rows, aborts and the end of every command share. -/

namespace Sys2Proof.Machine
open Sys2Proof

/-! ## Refusal -/

/-- The loader returns to IDLE; its domain is released (R608). -/
def State.loaderIdle (s : State) : State :=
  { s with
    ldr := { s.ldr with phase := .idle, img := none, staged := false, armed := false, tag := none, nsec := 0, bytes := 0 },
    pm.dom := mput .off s.pm.dom 0x55 .off }
/-- The command of the load in progress finishes. -/
def State.loadTag (status detail : Nat) (s : State) : State :=
  match s.ldr.tag with
  | some t =>
    let s := match s.ldr.phase, s.ldr.img with
      | .header, _ => s
      | _, some i => s.tagInfo t i.planId.toNat
      | _, none => s
    s.finishTag t status detail
  | none => s
/-- The load in progress refused with a code and a section (R299, R306, R309): reported, PLAN_REFUSED raised, its command
completed; nothing of it was taken into use. -/
def State.planRefuse (code sec : Nat) (s : State) : State :=
  let s := s.loadTag (if code = 0x13 then 7 else 13) code
  let s := { s with ldr := { s.ldr with refuse := code, secDetail := sec } }
  let s := if sec = 0x7FF then { s with fregs := mput 0 s.fregs 0xB003C 0 } else s.rsetFree 0xB003C 0xFFFFFFFF
  ((s.revt 0xB0008 1).raise 225).loaderIdle
/-- An armed switch whose placement fails against the present tile health is disarmed and refused (R312). -/
def State.rearm (s : State) : State :=
  match s.ldr.phase, s.ldr.first, s.ldr.img with
  | .armed, false, some i =>
    (match s.placement i with
     | .ok place _ => if s.ldr.place = place then s else { s with ldr.place := place }
     | .refused c => (s.revt 0xB0008 4).planRefuse c 0x7FF)
  | _, _, _ => s

/-! ## Placing (R288, R289, R300, R612) -/

/-- Quads that hold a PLAN, RESERVE or DEEP_TEST tile (R151). -/
def State.quadHeld (s : State) (q : Nat) : Bool :=
  (List.range 192).any (fun t => quadOf t = q && (match (s.tile t).role with | .plan | .reserve | .deepTest => true | _ => false))
/-- The state of quad `q` in slot `k` as the POWER section gives it: 0 ON, 1 gated, 2 OFF. -/
def planQuad (i : PlanImage) (k q : Nat) : Nat := match i.slots[k]? with
  | some x => (mget { state := 2, grant := 0, hostless := false } x.quads q).state
  | none => 2
/-- Slots in which remap makes quad `q` ON: the home quad of a logical tile it now holds is ON (R612). -/
def forcedOn (i : PlanImage) (place : List Nat) : List (Nat × Nat) :=
  (List.range i.slots.length).flatMap (fun k => ((List.range 48).filter (fun q =>
    planQuad i k q != 0 && (List.range i.tiles.length).any (fun l => match i.tiles[l]?, place[l]? with
      | some t, some x => quadOf x = q && x != t.home && planQuad i k (quadOf t.home) = 0
      | _, _ => false))).map (fun q => (k, q)))
/-- Power schedule entries changed: made ON by remap, or changed from OFF to clock-gate (R289, R612). -/
def State.overrides (i : PlanImage) (force : List (Nat × Nat)) (s : State) : Nat :=
  force.length + ((List.range i.slots.length).map (fun k => ((List.range 48).filter (fun q =>
    planQuad i k q = 2 && s.quadHeld q && !force.contains (k, q))).length)).sum
/-- Bytes written into a tile's SRAM. -/
def putSram (m : FMap Byte) : Nat → List Byte → FMap Byte
  | _, [] => m
  | a, b :: t => putSram (mput 0 m a b) (a + 1) t
/-- The SRAM of logical tile `l` as placed: its sections, and zero everywhere else (R238, R288). -/
def placedSram (i : PlanImage) (l : Nat) : FMap Byte :=
  (i.secs.filter (fun x => x.index = l && [1, 4, 5, 6].contains x.kind)).foldl (fun m x => putSram m x.target x.bytes) []
/-- A context at a plan start (R247): WAITSLOT where slot 0 has a start counter, else IDLE. -/
def ctxStart (c : PCtx) : CtxSt := match mget .none c.entries 0 with
  | .start pc => { CtxSt.reset with st := .waitSlot, pc := pc }
  | _ => CtxSt.reset
/-- Logical tile `l` placed at tile `t` (R194, R247, R300): a tile quarantined since its placement stays out of service. -/
def State.placeTile (i : PlanImage) (l t : Nat) (s : State) : State :=
  match i.tiles[l]? with
  | none => s
  | some p =>
    let v := s.tile t
    let q := v.role == .quarantined
    let b := { TileSt.reset with
      role := if q then .quarantined else if p.reserve then .reserve else .plan,
      logical := some l, qcount := v.qcount, qcause := v.qcause, dtLast := v.dtLast, sram := placedSram i l,
      ctxs := p.ctxs.foldl (fun m c => mput .reset m c.1 (if q then { CtxSt.reset with st := .halted, haltQ := true }
        else ctxStart c.2)) [] }
    let s := (s.setTile t b).domsOn [quadOf t]
    s.rfield (twAddr t 0x68) 26 26 0

/-! ## Streams at a plan start -/

/-- The stream is carried over a switch: same number, function and fall-back model digest (R71). -/
def carried (old : Option PlanImage) (p : PStream) : Bool :=
  match old.bind (fun o => planStream o p.num) with
  | some q => q.fn = p.fn && q.fbDigest = p.fbDigest
  | none => false
/-- The hold reasons that no plan start changes (R69). -/
def StreamV.keepHolds (v w : StreamV) : StreamV :=
  { w with hInput := v.hInput, hCommand := v.hCommand, hMismatch := v.hMismatch, hSafe := v.hSafe }
/-- A stream of the verdict engine at a plan start (R63, R70, R71, R708). -/
def State.streamStart (keep : Bool) (i : PlanImage) (p : PStream) (s : State) : State :=
  let v := s.stream p.num
  let w : StreamV :=
    if keep then
      { v with kaLapse := false, dgLapse := false, kaPassed := false, dgRegs := [], lastFrame := none,
               dgBad := v.dgBad.filter (fun r => i.regions.any (fun x => x.fn = p.fn && x.index = r)) }
    else v.keepHolds { StreamV.reset with under := if p.initTrusted then .trusted else .demoted, kaPassSeq := s.vd.jseq,
                                          dgPassSeq := i.regions.foldl (fun m x =>
                                            if x.fn = p.fn then mput 0 m x.index s.vd.jseq else m) [] }
  let stale := match w.fb with | some f => decide (s.ao > f.2 + p.f) | none => true
  let s := s.setStream p.num { w with hStale := stale }
  let g := s.gs p.num
  let g := if keep then g else { g with credits := 1, prev := none, creditAt := s.ao }
  let s := s.setGs p.num { g with discarding := false, resv := none, wantResv := false, goldCopies := [] }
  let s := s.kaBegin p 0 s.ao
  { s with vd.dgStart := mput 0 s.vd.dgStart p.num s.ao }

/-! ## Starting -/

/-- The newest tile health record (R643, R660). -/
def State.healthRec (s : State) : Option HealthRec :=
  match s.store.thr0, s.store.thr1 with
  | some a, some b => some (if seqNewer b.seq a.seq then b else a)
  | some a, none => some a
  | none, b => b
/-- The quarantine count that the newest tile health record lists for tile `t`. -/
def State.healthCount (s : State) (t : Nat) : Nat := match s.healthRec with
  | some h => (mget (0, 0) h.health t).2
  | none => 0
/-- A fresh session key (R122). -/
def State.drawKey (s : State) : State := { s with kv.session := some (s.fresh 256), freeCtr := s.freeCtr + 1 }
/-- The device enters RUN, or DEGRADED where a degrading condition stands (R32, R34, R38). -/
def State.enterRun (s : State) : State :=
  if s.dev.degr.any then (s.devTo .degraded).startCount else { s.devTo .run with dev.degrStart := none }
/-- Brake tests required for the first time fall due one interval after the first entry into RUN or DEGRADED (R546). -/
def State.brakeFirst (s : State) : State :=
  forAll [0, 1] (fun h s =>
    let c := s.chan (8 + h)
    let i := (brakeCfg s.sio.body h).interval
    if c.btDueAt.isNone && c.btPassAt.isNone && !c.btDue && i != 0 then s.setChan (8 + h) { c with btDueAt := some (s.ao + i) }
    else s) s
/-- The 802.1Qbv gate list of a plan is installed: its cycle, and the first whole second after now (R23, R707). -/
def State.installGate (i : PlanImage) (s : State) : State :=
  { s with bsc.gate := some (gateNs i, (secNs s.devNow).1 + 1) }
/-- The first boundary of a plan at the present AO cycle (R63, R70, R71, R122, R172, R193, R247, R297, R314 step 7, R417):
`old` is the plan it replaces in a switch. -/
def State.startPlan (i : PlanImage) (place : List Nat) (routes : List PRoute) (old : Option PlanImage) (s : State) : State :=
  let bad := s.linkBad
  let s := { s with linkBad := [] }
  let s := forAll (List.range 192) (fun t s => if bad.any (fun u => linkEnds u t) then
      { s.setTile t { s.tile t with role := .failedRouter } with store.thrDirty := true } else s) s
  let s := { s.stopPlan with linkBad := [] }
  let s := forAll (List.range i.tiles.length) (fun l s => s.placeTile i l (lget 0 place l)) s
  let force := forcedOn i place
  let s := { s with
    run := some { img := { i with routes := routes }, place := place, anchor := s.ao, slot := 0, hyper := 0, strobeAt := s.ao,
                  struck := false, fromBank := if s.ldr.src = 1 then some s.ldr.bank else none, forceOn := force, spares := s.spareCount, pwovr := min 127 (s.overrides i force) },
    q.digReg := [], pm.account := [], pm.accAt := [], pm.grant := [], pm.throttled := false,
    sv.tasks := mmap .reset (fun (t : TaskMon) => { t with refs := [] }) s.sv.tasks }
  let s := forAll i.streams (fun p s => s.streamStart (carried old p) i p) s
  let s := forAll s.reserveOrder State.reserve s
  let s := forAll [0x4B, 0x4C, 0x4D, 0x4E, 0x52] State.releaseDom s
  let s := if (List.range 192).any (fun t => (s.tile t).qcount ≠ s.healthCount t) then { s with store.thrDirty := true } else s
  let s := ((s.domsOn [0x4F]).domsOn (i.streams.map (fun p => 0x4B + p.src))).domsOn (if i.regions.isEmpty then [] else [0x52])
  let s := { s.installGate i with dev.degr := { s.dev.degr with banks := 0, tileNoSpare := false } }
  s.ownDoms.loaderIdle.planEvt

/-! ## The boundary of a switch (R72, R314) -/

/-- Every frame without a verdict receives DOUBT PLAN_SWITCH, in ascending stream number (R72, R85). -/
def State.doubtAll (s : State) : State :=
  forAll (List.range 64) (fun n s =>
    forAll (s.vd.frames.filter (fun f => f.stream = n && !f.golden && f.formed.isNone)) (fun f s =>
      match s.pstream n with
      | some p => let f := { s.frameNow f with isOpen := false }; (s.setFrame f).formWith p f 2 0xD
      | none => s) s) s
/-- A context at boundary B: IDLE (R314 step 4). -/
def CtxSt.idled (c : CtxSt) : CtxSt := if c.haltQ then c else { c with st := .idle, await := none }
/-- Boundary B of a switch (R314 steps 1 to 4, R140, R353). -/
def State.boundaryB (s : State) : State :=
  let s := { s with vd.frames := s.vd.frames.filter (fun f => !f.golden) }
  let s := s.doubtAll
  let s := forAll [0, 1, 2, 3] (fun i s => if (s.dis i).busy then s.closeDis i 3 [] else s) s
  let s := s.flushRange
  let s := { s with
    tiles := mmap .reset (fun (t : TileSt) => if t.role == Role.deepTest then
        { t with role := if t.dtFromQ then .quarantined else .spare, dtFromQ := false }
      else { t with ctxs := mmap .reset CtxSt.idled t.ctxs, stBusy := false, stReq := false }) s.tiles,
    flits := [], vd.commits := [], vd.reveals := [], vd.results := [], vd.digests := [], vd.holdAt := [],
    vd.frames := s.vd.frames.map (fun (f : Frame) => { f with buffers := [], mirror := [], keepUntil := none, dest := none }),
    gate := mmap .reset GateS.stopped s.gate, ldg.used := [] }
  let s := { s.drawKey with ldr.phase := .blackout, ldr.b := s.ao, ldr.armed := false }
  match s.dev.state with
  | .run | .degraded => { s.devTo .planLoad with dev.blackout := true }
  | _ => s

end Sys2Proof.Machine
end

