-- ==== Sys2Proof/Machine/Boot.lean ====
section
/-! DEFINITION. Resets and the start-up sequence (R626 to R631, R483 to R485, R642 to R646, R655, R656), and the end of a
command, which carries out a chip reset that the command requested. -/

namespace Sys2Proof.Machine
open Sys2Proof

/-! ## What a reset keeps (R626, R627) -/

/-- The flash and fuses, with every volatile part of the store lost (R649). -/
def Store.kept (x : Store) : Store :=
  { x with verified := 0, recorded := [], busy := [], density := 0, noSel := false, thrReset := false, thrDirty := false }

/-- COLD after a power-on or supply reset: only flash, fuses, pins and parts stay. -/
def State.coldBase (s : State) : State :=
  { State.reset with
    store := s.store.kept,
    dev := { Dev.reset with porstN := s.dev.porstN, perstN := s.dev.perstN, railReset := s.dev.railReset,
                            railWarn := s.dev.railWarn, phys := s.dev.phys },
    out := s.out, freeCtr := s.freeCtr, pending := s.pending }

/-- After a chip reset: the AO count, the reset record, the tamper state and the straps stay as well (R626, R627). `cause`:
the source of a reaction C, none for an activation. -/
def State.chipBase (cause : Option Nat) (s : State) : State :=
  let n := satAdd 65535 (bitsOf (s.rget 0x60058) 31 16) 1
  let b := s.coldBase
  let b := { b with
    ao := s.ao, dev.split := s.dev.split, dev.bench := s.dev.bench,
    kv := { Vault.reset with idKey := s.kv.idKey, impKey := s.kv.impKey, erased := s.kv.erased,
                             entropyOk := s.kv.entropyOk, tcnt := s.kv.tcnt,
                             policy := s.kv.policy },
    flt.src := s.flt.src.filter (fun p => 231 ≤ p.1 && p.1 ≤ 234),
    tm := { TimeUnit.reset with at_ := s.ao } }
  b.rset 0x60058 (BitVec.ofNat 32 ((if cause.isSome then 2 else 3)
    + 8 * (match cause with | some c => c | none => 0xFF) + 65536 * n))

/-! ## Voters and cores (R462 to R466, R468, R483) -/

/-- A redundancy loss (R465): the first is recorded, a second moves the device to SAFE_HOLD. -/
def State.lossOf (s : State) : State := if s.rv.loss then s.raise 4 else { s with rv.loss := true }

/-- A core's state. -/
def Reeve.core (r : Reeve) (c : Nat) : CoreSt := match c with | 0 => r.coreA | 1 => r.coreB | _ => r.coreC
/-- A core's state set. -/
def Reeve.setCore (r : Reeve) (c : Nat) (x : CoreSt) : Reeve := match c with
  | 0 => { r with coreA := x } | 1 => { r with coreB := x } | _ => { r with coreC := x }

/-- Core `c` is retired (R465, R468, R469, R472). -/
def State.retire (c : Nat) (why : CoreSt) (s : State) : State :=
  if s.rv.core c != .active then s
  else
    let s := { s with rv := { s.rv.setCore c why with mode := .pair } }
    let s := ((s.revt 0x2000C 2).raise 3).lossOf
    s.degrade (fun d => { d with coreFailed := true })

/-- A voter test with its outcome for the patterns passed (R462, R463). -/
def State.voterOutcome (prim shad : BitVec 6) (runtime : Bool) (s : State) : State :=
  let s := s.rset 0x20010 (BitVec.ofNat 32 (prim.toNat + 256 * shad.toNat + 16384 * b2n runtime
    + 65536 * bitsOf (s.rget 0x20010) 23 16))
  let pBad := prim != 0x3F || s.rv.onShadow
  let sBad := shad != 0x3F || s.rv.shadowFail
  let pNew := pBad && !s.rv.onShadow
  let sNew := sBad && !s.rv.shadowFail
  let s := if pNew || sNew then (s.revt 0x2000C 3).raise 2 else s
  if pBad && sBad then s.raise 4
  else if pNew then
    ({ s with rv.onShadow := true }).lossOf.degrade (fun d => { d with primaryVoter := true })
  else if sNew then ({ s with rv.shadowFail := true }).lossOf
  else s

/-- Steps 1 and 2 of R483: the voter test and the core self-test, outside split mode. -/
def State.bootTests (s : State) : State :=
  if s.dev.split then
    { s with rv.mode := .split, rv.coreA := .independent, rv.coreB := .halted, rv.coreC := .halted }
  else
    let s := s.voterOutcome s.dev.phys.voterP s.dev.phys.voterS false
    let bad := (List.range 3).filter (fun c => !(s.dev.phys.cores.toNat.testBit c))
    match bad with
    | [] => s
    | [c] => s.retire c .retiredSelftest
    | _ => s.raise 4

/-! ## Selector records (R642 to R646) -/


/-- Selector block 1 holds the record in force. -/
def Store.selIn1 (x : Store) : Bool := match x.sel0, x.sel1 with
  | _, none => false
  | none, some _ => true
  | some a, some b => seqNewer b.seq a.seq
/-- The record in force. -/
def Store.sel (x : Store) : Option SelBlock := if x.selIn1 then x.sel1 else x.sel0

/-- An entry that boots bank A, CONFIRMED. -/
def SelEntry.bankA : SelEntry := { bank := false, trial := false, prev := false, len := 0, hash := 0 }
/-- The record in force, or one that boots every bank A (R645). -/
def Store.selOr (x : Store) : SelBlock := match x.sel with
  | some b => b
  | none => { seq := 0, reeve := .bankA, porter := .bankA, plan := .bankA, marks := 0 }

/-- A new record with SEQ one above, in the other block, without marks (R644). -/
def Store.writeSel (f : SelBlock → SelBlock) (x : Store) : Store :=
  let b := { f x.selOr with seq := x.selOr.seq + 1, marks := 0 }
  if x.sel.isSome && !x.selIn1 then { x with sel1 := some b } else { x with sel0 := some b }

/-- The entry of a kind: 0 reeve, 1 porter, 2 plan. -/
def SelBlock.entry (b : SelBlock) (k : Nat) : SelEntry := match k with | 0 => b.reeve | 1 => b.porter | _ => b.plan
/-- The entry of a kind set. -/
def SelBlock.setEntry (k : Nat) (e : SelEntry) (b : SelBlock) : SelBlock := match k with
  | 0 => { b with reeve := e } | 1 => { b with porter := e } | _ => { b with plan := e }

/-- The firmware image in a bank. -/
def Store.fw (x : Store) (k : Nat) (bank : Bool) : Option FwImage := match k, bank with
  | 0, false => x.reeveA | 0, true => x.reeveB | _, false => x.porterA | _, true => x.porterB
/-- The plan image in a bank. -/
def Store.planOf (x : Store) (bank : Bool) : Option PlanImage := if bank then x.planB else x.planA
/-- The stored length and SHA-384 of what a bank holds. -/
def Store.stored (x : Store) (k : Nat) (bank : Bool) : Nat × BitVec 384 :=
  if k = 2 then (match x.planOf bank with | some i => (i.imglen, i.hash) | none => (0, 0))
  else (match x.fw k bank with | some i => (i.len, i.hash) | none => (0, 0))

/-- A trial entry rolled back to its PREV bank, whose image the entry then describes (R645). -/
def Store.rolled (x : Store) (k : Nat) (e : SelEntry) : SelEntry :=
  if e.trial then { e with bank := e.prev, trial := false, len := (x.stored k e.prev).1, hash := (x.stored k e.prev).2 }
  else e

/-- Every trial kind is rolled back through a new record; ROLLBACK is raised (R645, R646). -/
def State.rollback (s : State) : State :=
  let x := s.store
  let s := { s with store := x.writeSel (fun b =>
    { b with reeve := x.rolled 0 b.reeve, porter := x.rolled 1 b.porter, plan := x.rolled 2 b.plan }) }
  (s.revt 0xC0008 4).raise 228

/-- The boot marks of the record in force raised by one (R644). -/
def Store.mark (x : Store) : Store :=
  if x.selIn1 then { x with sel1 := x.sel1.map (fun b => { b with marks := b.marks + 1 }) }
  else { x with sel0 := x.sel0.map (fun b => { b with marks := b.marks + 1 }) }

/-- The procedure of R645. -/
def State.bootSelector (s : State) : State :=
  match s.store.sel with
  | none => { s with store.noSel := true }
  | some b =>
    if b.reeve.trial || b.porter.trial || b.plan.trial then
      (if b.marks ≥ 3 then s.rollback else { s with store := s.store.mark })
    else s

/-! ## Firmware (R641, R646) -/

/-- Bank size of a firmware kind (R637). -/
def fwBankSize (k : Nat) : Nat := if k = 0 then 4194304 else 16777216

/-- Why a firmware image is refused, as an UPDATE code of R652; none where R641 accepts it. -/
def Store.fwWhy (x : Store) (k : Nat) (i : FwImage) : Option Nat :=
  if !i.formOk || i.kind.toNat ≠ k + 1 || i.len > fwBankSize k || i.svn > 64 then some 3
  else if !i.keyOk || Config.revoked.toNat.testBit i.slot.toNat then some 4
  else if !i.sigOk then some 5
  else if !i.digestOk then some 6
  else if i.svn < (if k = 0 then x.svnR else x.svnP) then some 7
  else none

/-- A bank holds an image that R641 accepts. -/
def Store.fwPass (x : Store) (k : Nat) (bank : Bool) : Bool := match x.fw k bank with
  | some i => x.density != 0 && (x.fwWhy k i).isNone
  | none => false

/-- The bank in force passes its checks at start: R641, and the selector HASH where a record is in force (R646). -/
def Store.inForceOk (x : Store) (k : Nat) : Bool :=
  let e := x.selOr.entry k
  x.fwPass k e.bank && (x.sel.isNone || (match x.fw k e.bank with | some i => i.hash = e.hash | none => false))

/-- The choice of a firmware bank at start (R646): the state, and whether a bank boots. -/
def State.chooseFw (k : Nat) (s : State) : State × Bool :=
  if s.store.inForceOk k then (s, true)
  else
    let s := if (s.store.selOr.entry k).trial then s.rollback else s
    if s.store.inForceOk k then (s, true)
    else
      let e := s.store.selOr.entry k
      if s.store.fwPass k (!e.bank) then
        let x := s.store
        let e' := { e with bank := !e.bank, trial := false, len := (x.stored k (!e.bank)).1, hash := (x.stored k (!e.bank)).2 }
        ((({ s with store := x.writeSel (SelBlock.setEntry k e') }).revt 0xC0008 4).raise 228, true)
      else (s, false)

/-- The image that a kind's bank in force holds. -/
def Store.running (x : Store) (k : Nat) : Option FwImage := x.fw k (x.selOr.entry k).bank

/-- A confirmed image's SVN completes the fuse at start (R653). -/
def Store.fuse (x : Store) : Store :=
  let up (k : Nat) (f : Nat) : Nat := match x.sel, x.running k with
    | some b, some i => if (b.entry k).trial then f else max f i.svn
    | _, _ => f
  { x with svnR := up 0 x.svnR, svnP := up 1 x.svnP }

/-! ## Safety configuration, change log, tile health (R655, R656, R660) -/

/-- A record of a slot is valid (R655). -/
def CfgRec.ok (r : CfgRec) : Bool := r.len = cfgLen && bodyOk r.body
/-- The record in force and whether slot 1 holds it; whether both slots are valid. -/
def Store.cfg (x : Store) : Option (CfgRec × Bool) × Bool :=
  let v0 := x.cfg0.filter CfgRec.ok
  let v1 := x.cfg1.filter CfgRec.ok
  match v0, v1 with
  | none, none => (none, false)
  | some a, none => (some (a, false), false)
  | none, some b => (some (b, true), false)
  | some a, some b => (some (if seqNewer b.seq a.seq then (b, true) else (a, false)), true)

/-- SEQ of the last change-log entry. -/
def Store.lastLog (x : Store) : Nat := x.log.foldl (fun m e => max m e.seq.toNat) 0

/-- The block of the change-log ring that holds entry SEQ s (R659). -/
def logBlock (s : W32) : Nat := (s.toNat - 1) % 8192 / 2048

/-- A change-log entry appended (R551, R659): a block is erased before its first slot is written. -/
def Store.appendLog (e : LogEntry) (x : Store) : Store :=
  let l := if (e.seq.toNat - 1) % 2048 = 0 then x.log.filter (fun o => logBlock o.seq != logBlock e.seq) else x.log
  { x with log := l ++ [e] }

/-- Step 4 of R483: the safety configuration loaded and taken into use; false where no record is valid. -/
def State.bootCfg (s : State) : State × Bool :=
  match s.store.cfg with
  | (none, _) => (s, false)
  | (some (r, _), both) =>
    let s := if r.logSeq.toNat > s.store.lastLog then
      { s with store := s.store.appendLog { seq := r.logSeq, opid := r.opid, time := r.time, oldCrc := r.oldCrc,
                                             newCrc := cfgCrcOf r.body, kind := r.kind } } else s
    let s := { s with sio.cfgSeq := r.seq, sio.logSeq := BitVec.ofNat 32 s.store.lastLog }
    let s := s.takeCfg r.body
    (if both then s else s.raise 13, true)

/-- The newest tile health record, taken at start (R660). -/
def State.bootHealth (s : State) : State :=
  match s.healthRec with
  | none => { s with store.thrReset := true }
  | some h => forAll h.health (fun p s =>
      let role := if p.2.1 = 5 then Role.failed else if p.2.1 = 6 then .failedRouter else .spare
      s.setTile p.1 { s.tile p.1 with role := role, qcount := p.2.2 }) s

/-! ## Domains -/

/-- Ledger bank `b` fails (R55): the bank leaves use, every frame with a buffer in it is marked unless its stream is mirrored
into a surviving bank, the degrading condition arises and LEDGER_BANK is raised. -/
def State.failBank (b : Nat) (s : State) : State :=
  if s.ldg.failed.toNat.testBit b then s
  else
    let s := { s with ldg.failed := s.ldg.failed ||| BitVec.ofNat 16 (2 ^ b) }
    let inB (n : Nat) : Bool := s.ldg.failed.toNat.testBit (n / 128)
    let s := { s with vd.frames := s.vd.frames.map (fun (f : Frame) =>
      if f.formed.isNone && f.buffers.any inB && (f.mirror.isEmpty || f.mirror.any inB) then { f with bankFailed := true }
      else f) }
    (s.raiseU 130 b).degrade (fun d => { d with banks := d.banks ||| BitVec.ofNat 16 (2 ^ b) })

/-! ## The start-up sequence (R630) -/

/-- The vault draws a value: the next free value (R663). -/
def State.draw32 (s : State) : W32 × State := (s.fresh 32, s.tickFree)

/-- The reeve firmware's first instruction arms the reeve watchdog (R566 table). -/
def State.armReeve (s : State) : State :=
  let seed := s.fresh 128
  let s := s.tickFree
  let c := s.draw32
  { c.2 with sv.rwd := { Dog.reset with st := .first, chal := c.1, seed := seed, prev := s.ao, tOpen := 0,
                                        tClose := 10 * Config.aoPerMs } }

/-- The pair check (R485): the tested-pair source, whether untested, and whether the start proceeds to PLAN_LOAD. -/
def State.pairCheck (s : State) (r p : FwImage) : Nat × Bool × Bool :=
  let has (l : List (Nat × Nat)) (b : W32) : Bool := l.any (fun x => x.1 ≤ b.toNat && b.toNat ≤ x.2)
  let src := b2n (has r.pairs p.build) + 2 * b2n (has p.pairs r.build)
  if r.ifvMajor != p.ifvMajor then (src, false, false)
  else if src ≠ 0 then (src, false, true)
  else if s.dev.split || s.allowUntested then (0, true, true)
  else (0, true, false)

/-- Plan bank size (R638). -/
def planBank (density : Nat) : Nat := match density with
  | 1 => 12058624 | 2 => 45613056 | 3 => 100663296 | _ => 0
/-- A first load from the active flash plan bank starts (R305). -/
def State.firstLoad (s : State) : State :=
  let b := s.store.selOr.plan.bank
  { s with ldr := { Loader.reset with phase := .header, src := 1, bank := b, img := s.store.planOf b,
                                      cap := planBank s.store.density.toNat, refuse := s.ldr.refuse,
                                      secDetail := s.ldr.secDetail } }.domsOn [0x55]

/-- BOOT ends into PLAN_LOAD (R32), unless a reaction has left BOOT before: a standing source with reaction H counts as raised
(R520); the first load starts. -/
def State.toPlanLoad (s : State) : State :=
  if s.dev.state != .boot then s
  else
    let s := ({ s with dev.bootHealthy := true }).devTo .planLoad
    match s.standing.find? (fun n => (s.srcCfg n).has 6) with
    | some n => s.enterSafeHold (some n)
    | none => s.firstLoad

/-- The porter released (R483 step 6): it serves configuration space. -/
def State.releasePorter (s : State) : State :=
  { s with dev.porterUp := true, hl.serves := true }

/-- The start-up sequence from step 3 of R630, the device in BOOT. It ends in PLAN_LOAD, MISMATCH_HOLD or SAFE_HOLD; where
it ends in SAFE_HOLD before the reeve firmware runs, no core runs (DEDUCED, log entry 16). -/
def State.bootFrom3 (s : State) : State :=
  let s := { s with dev.state := .boot }
  let s := s.domsOn (List.range' 0x40 5 ++ [0x50, 0x51, 0x5F] ++ [0x45, 0x46, 0x56, 0x57, 0x58, 0x59])
  let s := { s with hl.powered := true, hl.downAt := some s.ao }
  let s := s.bootTests
  if s.dev.state != .boot then { s with rv.stopped := true }
  else
    let s := (s.domsOn (List.range' 0x30 16 ++ List.range' 0x5B 4)).ownDoms
    let s := forAll ((List.range 16).filter (fun b => !(s.dev.phys.banks.toNat.testBit b))) State.failBank s
    let s := { s with store.density := s.dev.phys.density }
    let s := s.bootSelector
    let c := s.chooseFw 0
    let s := c.1
    match s.store.running 0 with
    | none => { s.enterSafeHold none with rv.stopped := true }
    | some r =>
      if !c.2 || (s.dev.split && r.len > 3 * 1048576) then { s.enterSafeHold none with rv.stopped := true }
      else
        let s := { s with rv.buildR := r.build, rv.ifvR := r.ifv, rv.rangeR := (r.planLo.toNat, r.planHi.toNat) }.armReeve
        let k := s.bootCfg
        if !k.2 then k.1.enterSafeHold none
        else
          let s := k.1.bootHealth
          let c := s.chooseFw 1
          let s := { c.1 with store := c.1.store.fuse }
          match s.store.running 1 with
          | none => s.toPlanLoad
          | some p =>
            if !c.2 then s.toPlanLoad
            else
              let q := s.pairCheck r p
              let s := { s with rv.ifvP := p.ifv, rv.rangeP := (p.planLo.toNat, p.planHi.toNat), rv.abi := (p.abiLo.toNat, p.abiHi.toNat) }
              let s := { s with rv.buildP := p.build, rv.pairSrc := BitVec.ofNat 2 q.1, rv.untested := q.2.1 }
              let s := if q.2.1 && q.2.2 && !s.dev.split then s.degrade (fun d => { d with untestedPair := true }) else s
              let s := s.releasePorter
              if q.2.2 then s.toPlanLoad else s.enterMismatch

/-- A cold start from the release of PORST_N or the return of the supplies (R630): the AO count starts at 0, the straps are
sampled, the keys are derived, the AO oscillator is checked. -/
def State.coldStart (supply split bench : Bool) (phys : Phys) (s : State) : State :=
  let s := s.coldBase
  let s := { s with dev.split := split, dev.bench := bench, dev.phys := phys, dev.state := .boot, kv.idKey := true,
                    kv.impKey := true, kv.entropyOk := true, rv.adoptedReset := BitVec.ofNat 2 (b2n split + 2 * b2n bench) }
  let s := s.rset 0x60058 (BitVec.ofNat 32 (b2n supply + 8 * 0xFF))
  if !phys.aoOk then { s.raise 68 with rv.stopped := true } else s.bootFrom3

/-- A chip reset (R629, R631). -/
def State.chipReset (cause : Option Nat) (s : State) : State := (s.chipBase cause).bootFrom3

/-! ## The end of a command -/

/-- What follows a command's effect: an armed switch is held against the tile health as it now stands (R312), and a chip reset
that the command requested is carried out, unless the device is in COLD or ALARM (R36, R39). -/
def State.finish (s : State) : State :=
  let s := s.rearm
  match s.dev.chipReq with
  | none => s
  | some c =>
    match s.dev.state with
    | .cold | .alarm => { s with dev.chipReq := none }
    | _ => s.chipReset c

/-- The outcome of a command. -/
def State.done (s : State) : Host.Outcome State Fault Refusal := .next s.finish

/-- An event outside COLD; in COLD the device is unpowered or held in reset and nothing happens (R28). -/
def State.act (f : State → State) (s : State) : Host.Outcome State Fault Refusal :=
  if s.dev.state = .cold then .next s else (f s).done

end Sys2Proof.Machine
end

