-- ==== Sys2Proof/Machine/Device.lean ====
section
/-! DEFINITION. Power, reset and Ethernet links: PORST_N, the supplies, the activation reboot, the degraded-operation limit
and the ports' links (R32 to R39, R623, R626 to R631, R650, R697). -/

namespace Sys2Proof.Machine
open Sys2Proof

/-- A strap counts as asserted only where all 8 samples read high (R688). -/
def strapOf (b : BitVec 8) : Bool := b = 0xFF

/-- PORST_N_ASSERT (R697): a low level of 1 us or more takes the device to COLD with everything reset; a shorter pulse is
ignored (R628). -/
def execPorstNAssert (ns : Nat) (s : State) : Host.Outcome State Fault Refusal :=
  if ns < 1000 then .next s else .next ({ s with dev.porstN := false }).coldBase

/-- PORST_N_RELEASE (R630): a cold start, where PORST_N was low and every rail is in range. -/
def execPorstNRelease (split bench : BitVec 8) (phys : Phys) (s : State) : Host.Outcome State Fault Refusal :=
  if s.dev.porstN then .next s
  else
    let s := { s with dev.porstN := true }
    if s.dev.railReset = 0 then (s.coldStart false (strapOf split) (strapOf bench) phys).done else .next s

/-- SUPPLY_RESET (R623, R626): a rail in its reset band takes the device to COLD. -/
def execSupplyReset (rail : Rail) (s : State) : Host.Outcome State Fault Refusal :=
  .next ({ s with dev.railReset := s.dev.railReset ||| BitVec.ofNat 7 (2 ^ rail.num) }).coldBase

/-- SUPPLY_RESTORED (R626): every rail has been in range for 1 ms; with PORST_N released the device starts. -/
def execSupplyRestored (split bench : BitVec 8) (phys : Phys) (s : State) : Host.Outcome State Fault Refusal :=
  if s.dev.railReset = 0 then .next s
  else
    let s := { s with dev.railReset := 0, dev.railWarn := 0 }
    if s.dev.porstN then (s.coldStart true (strapOf split) (strapOf bench) phys).done else .next s

/-- SUPPLY_WARNING (R623): SIO_SUPPLY for VDDIO33, SUPPLY_WARN for every other rail. -/
def execSupplyWarning (rail : Rail) (s : State) : Host.Outcome State Fault Refusal :=
  s.act (fun s =>
    let s := { s with dev.railWarn := s.dev.railWarn ||| BitVec.ofNat 7 (2 ^ rail.num) }
    s.raiseLevel (if rail = .vddio33 then 62 else 74) 0xFFFF)

/-- UPDATE_REBOOT (R650): the chip reset of an activation whose completion has left the pins. -/
def execUpdateReboot (s : State) : Host.Outcome State Fault Refusal :=
  s.act (fun s => if s.dev.rebootDue then { s with dev.rebootDue := false, dev.chipReq := some none } else s)

/-- DEGRADED_LIMIT (R33 to R35): the count runs in DEGRADED, through a blackout that began in it, and in MISMATCH_HOLD with
a degrading condition. -/
def execDegradedLimit (s : State) : Host.Outcome State Fault Refusal :=
  s.act (fun s =>
    match s.dev.degrStart, s.degLimit with
    | some t, some l =>
      if s.dev.state = .degraded ∨ s.dev.state = .mismatchHold ∨ (s.dev.state = .planLoad ∧ s.dev.blackout) then
        ((s.advance (t + l)).raise 12).enterSafeHold (some 12)
      else s
    | _, _ => s)

/-! ## Ethernet ports -/

/-- Port `p` carries a replicated BSC connection: one that the safety configuration sends or receives on more than one port
(R554, R558, R561). -/
def State.replicated (s : State) (p : Nat) : Bool :=
  let two (m : BitVec 4) : Bool := m.toNat.testBit p && m != BitVec.ofNat 4 (2 ^ p)
  (List.range 16).any (fun c => two (pconCfg s.sio.body c).ports)
  || (List.range 8).any (fun c => two (cconCfg s.sio.body c).ports)

/-- The port's bit. -/
def portBit (p : Nat) : BitVec 4 := BitVec.ofNat 4 (2 ^ p)

/-- The second of R32 starts (again) for port `p`: it has link and ETH_LINKp is CLEAR. -/
def State.startStable (p : Nat) (s : State) : State :=
  { s with bsc.upSince := mput 0 s.bsc.upSince p s.ao, bsc.eccSeen := s.bsc.eccSeen &&& ~~~(portBit p),
           bsc.chkPass := s.bsc.chkPass &&& ~~~(portBit p) }

/-- What follows a source's return to CLEAR: a port that is up starts its second (R32); the channels are evaluated (R518). -/
def State.cleared (n : Nat) (s : State) : State :=
  let s := if 164 ≤ n ∧ n < 168 ∧ s.bsc.linkUp.toNat.testBit (n - 164) then s.startStable (n - 164) else s
  s.evalChans

/-- ETH_LINK_DOWN (R32): ETH_LINKp is raised; a port with a replicated connection is a degrading condition. -/
def execEthLinkDown (p : Port) (s : State) : Host.Outcome State Fault Refusal :=
  s.act (fun s =>
    if s.bsc.linkUp.toNat.testBit p then
      let s := { s with bsc.linkUp := s.bsc.linkUp &&& ~~~(portBit p) }
      let s := s.raiseLevel (164 + p) p
      if s.replicated p then s.degrade (fun d => { d with ports := d.ports ||| portBit p }) else s
    else s)

/-- ETH_LINK_UP (R32): a port whose domain is ON gains link; the line of ETH_LINKp deasserts, and the port's second starts. -/
def execEthLinkUp (p : Port) (s : State) : Host.Outcome State Fault Refusal :=
  s.act (fun s =>
    if s.bsc.linkUp.toNat.testBit p || s.dom (0x47 + p) != .on || s.pm.pllBad.toNat.testBit (6 + p.val) then s
    else (({ s with bsc.linkUp := s.bsc.linkUp ||| portBit p }).startStable p).lower (164 + p))

/-- ETH_PORT_STABLE (R32): 1 s up with ETH_LINKp CLEAR. Without ETH_ECCp and with a passed checker rotation the condition
clears; otherwise another second starts. -/
def execEthPortStable (p : Port) (s : State) : Host.Outcome State Fault Refusal :=
  s.act (fun s =>
    if s.bsc.linkUp.toNat.testBit p ∧ ¬ s.notClear (164 + p) then
      let s := s.advance (mget 0 s.bsc.upSince p + Config.aoPerS)
      if !s.bsc.eccSeen.toNat.testBit p && s.bsc.chkPass.toNat.testBit p then
        s.undegrade (fun d => { d with ports := d.ports &&& ~~~(portBit p) })
      else s.startStable p
    else s)

end Sys2Proof.Machine
end

