-- ==== Sys2Proof/Machine/FaultOps.lean ====
section
/-! DEFINITION. The fault collector (R506 to R525): raises, quiet periods, the ERR_P pin, injections, rotations and scrubs. -/

namespace Sys2Proof.Machine
open Sys2Proof

/-! ## Injection (R514, R515) -/

/-- The source that reports an injection: target and mode (SINGLE or not). -/
def injSource (target unit : Nat) (single : Bool) : Option Nat :=
  match target with
  | 1 => some (if single then 96 else 97)
  | 2 => some (if single then 128 else 129)
  | 3 => some (if single then 7 else 8)
  | 4 => some 104
  | 5 => some (if single then 196 else 195)
  | 6 => some 197
  | 7 => some (168 + unit % 4)
  | 8 => some 226
  | 9 => some 14
  | _ => none

/-- An injection armed (R514): a reserved target or mode NONE arms nothing. -/
def State.arm (target mode unit : Nat) (byReg : Bool) (s : State) : State :=
  if 1 ≤ target ∧ target ≤ 9 ∧ mode % 4 ≠ 0 then
    { s with flt.injTarget := BitVec.ofNat 8 target, flt.injMode := BitVec.ofNat 2 mode,
             flt.injUnit := BitVec.ofNat 16 unit, flt.injReg := byReg }
  else { s with flt.injTarget := 0, flt.injMode := 0, flt.injUnit := 0, flt.injReg := false }

/-- Nothing armed. -/
def State.disarm (s : State) : State := s.arm 0 0 0 false

/-- A raise that reports the armed injection shows that its write has taken place: the injection has disarmed (log entry 17).
Tile SRAM, whose writes are commands here, disarms at the write itself. -/
def State.injSeen (n : Nat) (s : State) : State :=
  if s.flt.injTarget ≠ 0 ∧ s.flt.injTarget ≠ 1
      ∧ injSource s.flt.injTarget.toNat s.flt.injUnit.toNat (s.flt.injMode = 1) = some n then s.disarm
  else s

/-! ## Raises and recoveries -/

/-- What the rest of the device learns of a raise: a port that shows ETH_ECC is not stable (R32). -/
def State.raiseSeen (n : Nat) (s : State) : State :=
  let s := s.injSeen n
  if 168 ≤ n ∧ n < 172 then { s with bsc.eccSeen := s.bsc.eccSeen ||| portBit (n - 168) } else s

/-- What follows a source's entry into LATCHED: a bank whose LEDGER_UNC latches has failed (R55); a mesh link whose fault
latches quarantines the tiles of its two routers and marks the routers for the next plan start (R172, R190). -/
def State.latchSeen (n : Nat) (s : State) : State :=
  let us := (s.src n).units
  if n = 129 then forAll us (fun u s => if u < 16 then s.failBank u else s) s
  else if n = 104 then
    let new := us.filter (fun u => u < 768 && !s.linkBad.contains u)
    forAll (List.range 192) (fun t s => if new.any (fun u => linkEnds u t) then s.quarantineForm t 8 else s)
      { s with linkBad := s.linkBad ++ new }
  else s

/-- The line of a source stands by a condition that the state holds: it cannot deassert. -/
def State.lineHeld (s : State) (n : Nat) : Bool :=
  (decide (32 ≤ n) && decide (n < 48) && (s.pair (n - 32)).st == .discrepant)
  || (decide (164 ≤ n) && decide (n < 168) && !s.bsc.linkUp.toNat.testBit (n - 164))
  || (n == 69 && (s.pm.pllBad &&& 0x6) != 0) || (n == 71 && (s.pm.pllBad &&& 0x8) != 0)
  || (n == 72 && (s.pm.pllBad &&& 0x3FE0) != 0) || (n == 230 && !s.kv.entropyOk)

/-- The recovery of a source whose quiet period has ended (R507). -/
def State.quietEnd (n : Nat) (s : State) : State :=
  let o := s.src n
  let c := s.srcCfg n
  let recent := o.recov.filter (fun t => decide (s.ao < t + c.windowS * Config.aoPerS))
  if recent.length + 1 > c.limit then
    ((s.setSrc n { o with st := .latched, recov := recent }).revt 0x10008 1).latchSeen n
  else
    ((s.setSrc n { o with st := .clear, recov := s.ao :: recent, units := [] }).revt 0x10008 2).cleared n

/-- The heartbeat check of PORTER_HANG is suspended: a porter core is halted, or both have run again for less than 10 ms
(R681). -/
def State.beatHeld (s : State) : Bool :=
  s.dbg.porterHalt != 0 || (s.dbg.porterRunAt != 0 && decide (s.ao < s.dbg.porterRunAt + 10 * Config.aoPerMs))
/-- SOURCE_RAISE (R506, R507, R512): a condition outside the other rows asserts a source's line, for one AO cycle or for as
long as it stands. PORTER_HANG is not raised while its check is suspended. -/
def execSourceRaise (n : Src) (level : Bool) (addr : W32) (init : Byte) (acc : BitVec 2) (unit : W16) (s : State) :
    Host.Outcome State Fault Refusal :=
  s.act (fun s => if n.val = 194 && s.beatHeld then s else
    (s.raiseWith n level { addr := addr.toNat, init := init.toNat, acc := acc.toNat, unit := unit.toNat }).raiseSeen n)

/-- SOURCE_DEASSERT (R507, R508): the line deasserts; an ACTIVE source becomes QUIET or LATCHED. -/
def execSourceDeassert (n : Src) (s : State) : Host.Outcome State Fault Refusal :=
  s.act (fun s =>
    if s.lineHeld n then s
    else
      let s := if n.val = 74 then { s with dev.railWarn := s.dev.railWarn &&& 0x40 }
        else if n.val = 62 then { s with dev.railWarn := s.dev.railWarn &&& 0x3F }
        else if n.val = 70 then { s with pm.pllBad := s.pm.pllBad &&& 0xFFFE } else s
      let was := (s.src n).st
      let s := s.deassert n
      if was != .latched && (s.src n).st == .latched then s.latchSeen n else s)

/-- QUIET_PERIOD_END (R507): the source clears, or latches where its recoveries exceed the limit. -/
def execQuietPeriodEnd (n : Src) (s : State) : Host.Outcome State Fault Refusal :=
  s.act (fun s =>
    if (s.src n).st == .quiet then
      (s.advance ((s.src n).quietAt + (s.srcCfg n).quietMs * Config.aoPerMs)).quietEnd n
    else s)

/-! ## ERR_P (R510, R511) -/

/-- FC_ERRP.AUTO. -/
def State.errPAuto (s : State) : Bool := bitAt (s.rget 0x1000C) 1

/-- ERR_P_MINIMUM_END (R510, R511): the minimum ends; the pin falls where a RELEASE waits or AUTO is 1. -/
def execErrPMinimumEnd (s : State) : Host.Outcome State Fault Refusal :=
  s.act (fun s =>
    if s.flt.errP then
      let s := s.advance s.flt.errPMin
      if s.flt.errPRel || s.errPAuto then s.errPFall else s
    else s)

/-- ERR_P_LOW_END (R510): the low time ends; a raise during it asserts the pin. -/
def execErrPLowEnd (s : State) : Host.Outcome State Fault Refusal :=
  s.act (fun s =>
    if s.flt.errP then s
    else
      let s := s.advance s.flt.errPLow
      if s.flt.errPRaise then { s with flt.errP := true, flt.errPMin := s.ao + 500, flt.errPRaise := false } else s)

/-- A write of FC_ERRP (R510, R511): AUTO is stored; RELEASE lets the pin fall at once, or at the end of its minimum. -/
def State.errPWrite (v : W32) (s : State) : State :=
  let s := s.rfield 0x1000C 1 1 (bitsOf v 1 1)
  if !s.flt.errP then s
  else if s.ao ≥ s.flt.errPMin then (if bitAt v 0 || bitAt v 1 then s.errPFall else s)
  else if bitAt v 0 then { s with flt.errPRel := true } else s

/-! ## Rotations and scrubs (R521) -/

/-- COLLECTOR_ROTATION (R521): a test pulse into the next source latch; a failure raises FC_SELFTEST. -/
def execCollectorRotation (pass : Bool) (s : State) : Host.Outcome State Fault Refusal :=
  s.act (fun s =>
    let s := { s with flt.rotSrc := (s.flt.rotSrc + 1) % 256 }
    if pass then s else (s.revt 0x10008 4).raise 14)

/-- The checkers in rotation order: targets of R514 with how many units each has. -/
def checkers : List (Nat × Nat) := [(1, 2304), (2, 16), (3, 2), (4, 768), (5, 1), (6, 1), (7, 4), (8, 1), (9, 8)]

/-- Target and unit of checker `k`. -/
def checkerAt : List (Nat × Nat) → Nat → Nat × Nat
  | [], _ => (0, 0)
  | (t, n) :: r, k => if k < n then (t, if t = 1 then k / 12 * 16 + k % 12 else k) else checkerAt r (k - n)

/-- CHECKER_ROTATION (R521): a SINGLE injection into a reserved word of the next checker. A failure raises the checker's own
source with its UNIT, and FC_SELFTEST where the checker stays silent. -/
def execCheckerRotation (pass silent : Bool) (s : State) : Host.Outcome State Fault Refusal :=
  s.act (fun s =>
    let c := checkerAt checkers s.flt.rotChk
    let s := { s with flt.rotChk := (s.flt.rotChk + 1) % 3105 }
    if pass then
      (if c.1 = 7 then { s with bsc.chkPass := s.bsc.chkPass ||| portBit c.2 } else s)
    else
      let s := match injSource c.1 c.2 true with | some n => (s.raiseU n c.2).raiseSeen n | none => s
      let s := s.revt 0x10008 4
      if silent then s.raise 14 else s)

/-- The error of a scrub read of ledger or safety SRAM reported (Group 4 and 0 of R501). -/
def State.scrubErr (corr unc addr unit : Nat) (e : EccOut) (s : State) : State :=
  let cap (n : Nat) (s : State) : State :=
    (s.raiseWith n false { addr := addr, init := 0xFF, acc := 0, unit := unit }).raiseSeen n
  match e with
  | .ok => s
  | .corr => cap corr s
  | .unc => cap unc s

/-- MEMORY_SCRUB (R521): the next 64-bit word of the ledger and of the safety SRAM is read and, where corrected, written
back. -/
def execMemoryScrub (ledger sram : EccOut) (s : State) : Host.Outcome State Fault Refusal :=
  s.act (fun s =>
    let l := s.flt.scrubLedger
    let m := s.flt.scrubSram
    let s := { s with flt.scrubLedger := (l + 1) % 2 ^ 21, flt.scrubSram := (m + 1) % 2 ^ 20 }
    let s := s.scrubErr 128 129 (8 * l) (l / 2 ^ 17) ledger
    s.scrubErr 7 8 (8 * m) 0xFFFF sram)

end Sys2Proof.Machine
end

