-- ==== Sys2Proof/Machine/MbOps.lean ====
section
/-! DEFINITION. Mailbox boxes and doorbells (R443 to R456): sending, taking, withdrawing, crossing, and the far side's
waiting answers. -/

namespace Sys2Proof.Machine
open Sys2Proof

/-- The address of a channel's register: channel 0 porter, 1 reeve (R443). -/
def mbAddr (f ch off : Nat) : Nat := fnAddr f (0x1000 + 0x800 * ch + off)
/-- Channel `ch` of function `f`. -/
def State.chan2 (s : State) (f ch : Nat) : Chan2 := mget Chan2.reset s.q.boxes (2 * f + ch)
/-- Channel `ch` of function `f` set. -/
def State.setChan2 (f ch : Nat) (c : Chan2) (s : State) : State :=
  { s with q.boxes := mput Chan2.reset s.q.boxes (2 * f + ch) c }

/-- Doorbell bits of a function set; an enabled one signals vector 0 (R454). -/
def State.bells (f : Nat) (mask : W32) (s : State) : State :=
  let a := fnAddr f 0x2000
  let m := if f = 0 then mask else mask &&& 0xFFFFFF0F
  let s := s.rset a (s.rget a ||| m)
  if m &&& s.rget (fnAddr f 0x2004) != 0 then s.msix f 0 else s

/-- One doorbell of a channel's four: 0 MSG_IN, 1 OUT_FREE, 2 OUT_TMO, 3 COLL (R454). -/
def bellBit (ch k : Nat) : W32 := BitVec.ofNat 32 (2 ^ (4 * ch + k))

/-- MB_TMO or MB_XTIME as it acts: 1 to 1 000 (R452, R455). -/
def mbValue (v : W32) : Nat :=
  let n := bitsOf v 9 0
  if n = 0 then 1 else if n > 1000 then 1000 else n

/-- The channel exists: the porter's on every enabled function, the reeve's on F00 (R443). -/
def State.hasChan (s : State) (f ch : Nat) : Bool := s.fns.contains f && (ch == 0 || f == 0)

/-- A body of LEN bytes: zero beyond LEN. -/
def maskBody (b : BitVec 512) (len : Nat) : BitVec 512 := BitVec.ofNat 512 (b.toNat % 2 ^ (8 * len))

/-- The body in MB_OUT_DATA. -/
def State.outBody (s : State) (f ch : Nat) : BitVec 512 :=
  BitVec.ofNat 512 ((List.range 16).foldl (fun n k => n + (s.rget (mbAddr f ch (4 * k))).toNat * 2 ^ (32 * k)) 0)

/-- A header write to MB_OUT_HDR sends (R446 to R448). -/
def State.mbSend (f ch : Nat) (v : W32) (s : State) : State :=
  let len := bitsOf v 14 8
  if len > 64 || bitsOf v 31 15 != 0 then s.revt (mbAddr f ch 0x48) 4
  else
    let c := s.chan2 f ch
    let box : Box := { full := true, body := maskBody (s.outBody f ch) len, type := bitsOf v 7 0, len := len, src := f,
                       seq := (c.seqOut + 1) % 256, bells := s.rget (mbAddr f ch 0x40) &&& 0x7FFFFF00, sentAt := s.ao }
    if c.outb.full then
      let s := s.setChan2 f ch { c with outb := box, seqOut := box.seq }
      let s := (s.revt (mbAddr f ch 0x48) 1).rincSat (mbAddr f ch 0xD8) 15 0 1
      (s.bells f (bellBit ch 3)).raiseU 201 f
    else s.setChan2 f ch { c with outb := box, seqOut := box.seq, fnPoll := none }

/-- The far side takes the function's message (R450). -/
def State.farTake (f ch : Nat) (s : State) : State :=
  let c := s.chan2 f ch
  (s.setChan2 f ch { c with outb := { c.outb with full := false }, fnPoll := none, cross := false }).bells f (bellBit ch 1)

/-- The far side's message arrives in the function's inbox, which is free (R448). -/
def State.farSend (f ch : Nat) (body : BitVec 512) (type len : Nat) (bells : W32) (s : State) : State :=
  let c := s.chan2 f ch
  let box : Box := { full := true, body := maskBody body len, type := type, len := len, src := 0x40 + ch,
                     seq := (c.seqIn + 1) % 256, bells := bells, sentAt := s.ao }
  (s.setChan2 f ch { c with inb := box, seqIn := box.seq, farPoll := none }).bells f
    (bellBit ch 0 ||| (bells &&& 0x7FFFFF00))

/-- The reeve's next waiting answer is sent where F00's inbox is free; otherwise the reeve polls it (R448, R455). -/
def State.reeveFlush (s : State) : State :=
  match s.rv.ansQ with
  | [] => s
  | a :: t =>
    let c := s.chan2 0 1
    if c.inb.full then
      (match c.farPoll with | some _ => s | none => s.setChan2 0 1 { c with farPoll := some s.ao })
    else ({ s with rv.ansQ := t }).farSend 0 1 a.1 a.2.1 a.2.2 0

/-- A message from the reeve to F00. -/
def State.reeveSay (body : BitVec 512) (type len : Nat) (s : State) : State :=
  ({ s with rv.ansQ := s.rv.ansQ ++ [(body, type, len)] }).reeveFlush

/-- An answer of the porter waits for the function's inbox (R451). -/
def State.porterSay (f : Nat) (body : BitVec 512) (type len : Nat) (s : State) : State :=
  let s := { s with dev.porterQ := s.dev.porterQ ++ [(f, body, type, len)] }
  let c := s.chan2 f 0
  if c.inb.full then (match c.farPoll with | some _ => s | none => s.setChan2 f 0 { c with farPoll := some s.ao }) else s

/-- The header word of a box (MB_IN_HDR). -/
def Box.hdr (b : Box) : W32 :=
  if b.full then BitVec.ofNat 32 (b.type + 256 * b.len + 32768 + 65536 * b.src + 16777216 * b.seq) else 0

/-- A read of MB_IN_TAKE (R449, R450): the held message leaves the box; its body stays readable. -/
def State.mbTake (f ch : Nat) (s : State) : State :=
  let c := s.chan2 f ch
  if c.inb.full then
    let s := s.setChan2 f ch { c with inb := { c.inb with full := false }, farPoll := none, cross := false }
    if ch = 1 then s.reeveFlush else s
  else s

/-- A read of MB_OUT_STAT: the function polls from its first read while its outbox is FULL (R455). -/
def State.mbPoll (f ch : Nat) (s : State) : State :=
  let c := s.chan2 f ch
  match c.outb.full, c.fnPoll with
  | true, none => s.setChan2 f ch { c with fnPoll := some s.ao }
  | _, _ => s

/-- A channel emptied by a reset of its function or of the link (R385, R445, R457). -/
def State.mbReset (f ch : Nat) (s : State) : State := s.setChan2 f ch Chan2.reset

end Sys2Proof.Machine
end

