-- ==== Sys2Proof/Machine/RingOps.lean ====
section
/-! DEFINITION. Rings, tallies, command tags and completions (R389 to R442): the operations that rows of several families
share. -/

namespace Sys2Proof.Machine
open Sys2Proof

/-! ## Ring state (R391 to R397) -/

/-- Global ring `g`. -/
def State.ring (s : State) (g : Nat) : RingSt := mget RingSt.reset s.q.rings g
/-- Global ring `g` set. -/
def State.setRing (g : Nat) (r : RingSt) (s : State) : State := { s with q.rings := mput RingSt.reset s.q.rings g r }
/-- The global ring ID of ring `r` of function `f` (R389). -/
def ringId (f r : Nat) : Nat := f * 1024 + r
/-- An internal ring of the reeve command interface (R389). -/
def internalRing (g : Nat) : Bool := decide (1008 ≤ g) && decide (g < 1024)

/-- The 32 bytes of a ring state record (R391). -/
def RingSt.bytes (r : RingSt) : List Byte :=
  leBytes 8 r.base.toNat ++ leBytes 4 r.size ++ leBytes 4 r.pi.toNat ++ leBytes 4 r.ci.toNat ++ leBytes 1 r.type
  ++ leBytes 1 r.vec ++ leBytes 2 r.bind ++ leBytes 2 r.mod ++ leBytes 1 r.err ++ leBytes 1 r.errCnt ++ leBytes 2 0
  ++ leBytes 2 r.scrc.toNat
/-- The SCRC that a record should hold (R391). -/
def RingSt.goodScrc (r : RingSt) : W16 := BitVec.ofNat 16 (crc16 (slice 0 12 r.bytes ++ slice 20 6 r.bytes))
/-- SCRC matches; the record of a ring never configured is all zeros and is not in use (R397). -/
def RingSt.scrcOk (r : RingSt) : Bool := r.scrc = r.goodScrc
/-- The record with its SCRC made good. -/
def RingSt.sealed (r : RingSt) : RingSt := { r with scrc := r.goodScrc }
/-- The record that 32 bytes spell, its moderation kept. -/
def RingSt.ofBytes (b : List Byte) (o : RingSt) : RingSt :=
  { o with base := BitVec.ofNat 64 (leField b 0 8), size := leField b 8 4, pi := BitVec.ofNat 32 (leField b 12 4),
           ci := BitVec.ofNat 32 (leField b 16 4), type := leField b 20 1, vec := leField b 21 1, bind := leField b 22 2,
           mod := leField b 24 2, err := leField b 26 1, errCnt := leField b 27 1,
           scrc := BitVec.ofNat 16 (leField b 30 2) }

/-- Entries in use: (PI - CI) mod 2^32 (R394). -/
def RingSt.used (r : RingSt) : Nat := (r.pi - r.ci).toNat

/-- A ring error recorded (R396). -/
def State.ringErr (g code : Nat) (s : State) : State :=
  s.setRing g { s.ring g with err := code, errCnt := satAdd 255 (s.ring g).errCnt 1 }

/-- A ring made disabled by an error (R397, RD_STAT): STATE raises RING_STATE, DMA raises DMA_ERR. -/
def State.ringKill (g code : Nat) (s : State) : State :=
  let s := (s.setRing g { s.ring g with size := 0 }).ringErr g code
  let s := s.setRing g (s.ring g).sealed
  s.raiseU (if code = 3 then 200 else 199) (g / 1024)

/-- A write of RD_PI (R395, R396). -/
def State.ringPi (g : Nat) (v : W32) (s : State) : State :=
  let r := s.ring g
  if r.size = 0 then s.ringErr g 6
  else if r.type ≠ 2 ∧ (v - r.pi).toNat ≤ r.size - r.used then s.setRing g { r with pi := v }
  else s.ringErr g 1

/-- A write of RD_CI (R395, R396). -/
def State.ringCi (g : Nat) (v : W32) (s : State) : State :=
  let r := s.ring g
  if r.size = 0 then s.ringErr g 6
  else if r.type = 2 ∧ (v - r.ci).toNat ≤ r.used then s.setRing g { r with ci := v }
  else s.ringErr g 2

/-- A ring's vector signalled under its moderation (R402). -/
def State.ringSignal (g : Nat) (s : State) : State :=
  let r := s.ring g
  if r.vec = 0xFF then s
  else
    let go := match r.lastSig with | some t => decide (t + r.mod * Config.aoPerUs ≤ s.ao) | none => true
    if go && !r.sigPend then (s.setRing g { r with lastSig := some s.ao }).msix (g / 1024) r.vec
    else s.setRing g { r with sigPend := true }

/-! ## Configuration (R390, R398, R399) -/

/-- The operands of RING_CONFIG (R412). -/
structure RingArgs where
  ring : Nat
  type : Nat
  vec : Nat
  base : Nat
  size : Nat
  bind : Nat
  mod : Nat
  deriving DecidableEq, Repr

/-- The operands in ARG0 to ARG2. -/
def RingArgs.of (a0 a1 a2 : Nat) : RingArgs :=
  { ring := a0 % 1024, type := a0 / 2 ^ 16 % 256, vec := a0 / 2 ^ 24 % 256, base := a1, size := a2 % 2 ^ 32,
    bind := a2 / 2 ^ 32 % 2 ^ 16, mod := a2 / 2 ^ 48 }

/-- A SIZE of R391: 0, or a power of two from 2 to 65 536. -/
def sizeOk (n : Nat) : Bool := n = 0 || (List.range' 1 16).any (fun k => n = 2 ^ k)

/-- BASE, SIZE, TYPE, VEC, BIND and MOD lie within R390 and R391 (R398). -/
def RingArgs.ok (a : RingArgs) : Bool :=
  decide (a.type ≤ 3) && a.base % 4096 = 0 && sizeOk a.size && (a.vec = 0xFF || inR 4 31 a.vec) && decide (a.mod ≤ 1000)
  && (match a.type with
      | 0 => a.size = 0 && a.bind = 0
      | 1 => decide (a.bind < 1024)
      | 2 => a.bind = 0
      | _ => decide (a.bind < 64))

/-- The rings of function `f` of a type that are enabled, as global IDs. -/
def State.ringsOf (s : State) (f type : Nat) : List Nat :=
  ((s.q.rings.filter (fun p => p.1 / 1024 = f && p.2.size != 0 && p.2.type = type)).map Prod.fst)

/-- RING_CONFIG for function `f` (R398, R400): the status and the state. -/
def State.ringConfig (f : Nat) (a : RingArgs) (s : State) : Nat × State :=
  let g := ringId f a.ring
  let o := s.ring g
  let same := a.size = o.size && a.type = o.type && o.base.toNat = a.base && a.bind = o.bind
  if !a.ok then (2, s)
  else if o.size ≠ 0 ∧ a.size ≠ 0 ∧ !same then (6, s)
  else if o.size ≠ 0 ∧ a.size = 0 ∧ o.type = 2 ∧ (s.ringsOf f 1).any (fun c => (s.ring c).bind = a.ring) then (6, s)
  else if a.size ≠ 0 ∧ a.type = 1 ∧ !(let c := s.ring (ringId f a.bind); c.size != 0 && c.type = 2) then (2, s)
  else if a.size ≠ 0 ∧ a.type = 3 ∧ (s.ringsOf f 3).any (fun c => c ≠ g && (s.ring c).bind = a.bind) then (6, s)
  else
    let n : RingSt := { o with base := BitVec.ofNat 64 a.base, size := a.size, type := a.type, vec := a.vec, bind := a.bind,
                               mod := a.mod }
    let n := if o.size = 0 && a.size != 0 then { n with pi := 0, ci := 0, err := 0, lastSig := none, sigPend := false } else n
    (0, { s.setRing g n.sealed with q.paused := if a.size = 0 then mput false s.q.paused g false else s.q.paused })

/-! ## Tags (R420, R421, R441) -/

/-- The tags held. -/
def State.heldTags (s : State) : List (Nat × Tag) := s.q.tags.filterMap (fun p => p.2.map (fun c => (p.1, c)))
/-- Tags held by function `f`. -/
def State.tagsOf (s : State) (f : Nat) : Nat := (s.heldTags.filter (fun p => p.2.fn = f)).length
/-- The lowest free tag, where the function may take one (R420, R421). -/
def State.freeTag (s : State) (f : Nat) : Option Nat :=
  let lim := if f = 0 then 128 else 64
  let vf := (s.heldTags.filter (fun p => p.2.fn != 0)).length
  if s.tagsOf f ≥ lim ∨ (f ≠ 0 ∧ vf ≥ 448) then none
  else (List.range 512).find? (fun t => (s.tag t).isNone)

/-- The opcode of a descriptor (R409). -/
def Tag.opc (c : Tag) : Nat := leField c.desc 0 1
/-- The host tag. -/
def Tag.utag (c : Tag) : Nat := leField c.desc 2 2
/-- Operand ARGi. -/
def Tag.arg (c : Tag) (i : Nat) : Nat := leField c.desc (8 + 8 * i) 8
/-- Bit `b` of CTL: 0 IRQ, 1 FENCE, 2 TLY. -/
def Tag.ctl (c : Tag) (b : Nat) : Bool := (leField c.desc 1 1).testBit b

/-- The tag's XFER raised (R418). -/
def State.tagXfer (t n : Nat) (s : State) : State :=
  match s.tag t with | some c => s.setTag t (some { c with xfer := c.xfer + n }) | none => s
/-- The tag's command is under way. -/
def State.tagActive (t : Nat) (s : State) : State :=
  match s.tag t with | some c => s.setTag t (some { c with st := .active }) | none => s

/-- A meaning of a command with opcode `opc` that tag `t` holds, checked and not yet executed. -/
def State.onTag (t opc : Nat) (f : Tag → State → State) (s : State) : Host.Outcome State Fault Refusal :=
  s.act (fun s => match s.tag t with
    | some c => if c.st = .ready ∧ c.opc = opc then f c s else s
    | none => s)

/-! ## Tallies (R430 to R437) -/

/-- The value of tally `y`. -/
def State.tally (s : State) (y : Nat) : W32 := mget 0 s.q.tallies y

/-- The tally's value, with its operation counted (R432), and no test of its waits. -/
def State.tallySet (y : Nat) (v : W32) (s : State) : State :=
  { s with q.tallies := mput 0 s.q.tallies y v, q.tyOps := mput 0 s.q.tyOps y ((mget 0 s.q.tyOps y + 1) % 2 ^ 64) }

/-- A wait is satisfied by a value (R434). -/
def Wait.holds (w : Wait) (v : W32) : Bool :=
  w.count = 0 || (if w.take then decide (w.count.toNat ≤ v.toNat) else decide ((v - w.count).toNat < 2 ^ 31))

/-- The first wait of a list that may be released: a satisfied REACH wait, or a satisfied TAKE wait with no TAKE wait ahead
of it (R435). `blocked`: a TAKE wait stands ahead. -/
def nextWait (v : W32) : Bool → List Wait → Option Wait
  | _, [] => none
  | blocked, w :: t =>
    if w.holds v && !(w.take && blocked) then some w else nextWait v (blocked || w.take) t

/-- A tally's list tested: waits are released in order until none is satisfied (R435); a TAKE reduces the value. -/
def State.tallyTest (y : Nat) : Nat → State → State
  | 0, s => s
  | n + 1, s =>
    match nextWait (s.tally y) false (s.q.waits.filter (fun w => w.tally = y)) with
    | none => s
    | some w =>
      let s := if w.take && w.count != 0 then s.tallySet y (s.tally y - w.count) else s
      (((s.tagInfo w.tag (s.tally y).toNat).finishTag w.tag 0 0)).tallyTest y n

/-- A tally's list tested in full. -/
def State.tallyTested (y : Nat) (s : State) : State := s.tallyTest y s.q.waits.length

/-- A tally changed, and its list tested (R435). -/
def State.tallyPut (y : Nat) (v : W32) (s : State) : State := (s.tallySet y v).tallyTested y

/-- A device increment of a function's tally (R406, R415, R419). -/
def State.tallyInc (f t : Nat) (s : State) : State := s.tallyPut (ringId f t) (s.tally (ringId f t) + 1)

/-! ## Completions (R401, R402, R418, R419, R429) -/

/-- The 32 bytes of a completion record (R418). -/
def complRec (t : Nat) (c : Tag) (status detail ao : Nat) (phase : Bool) : List Byte :=
  let b := leBytes 2 t ++ leBytes 2 c.utag ++ leBytes 1 c.opc ++ leBytes 1 status ++ leBytes 2 c.ring ++ leBytes 4 detail
    ++ leBytes 4 (if leField c.desc 0 1 = 7 ∨ leField c.desc 0 1 = 0x18 then c.xfer else 0) ++ leBytes 8 c.info ++ leBytes 4 ao ++ leBytes 1 (b2n phase) ++ leBytes 1 0
  b ++ leBytes 2 (crc16 b)

/-- The ABORT that waits for a target completes once the target's completion stands (R427 to R429). -/
def State.abortEnd (target status : Nat) (a : List Nat) (s : State) : State :=
  forAll a (fun x s => s.finishTag x (if status = 7 then 0 else 8) target) s

/-- What a committed completion brings about: a firmware activation's reboot waits for it (R650). -/
def State.afterCommit (c : Tag) (status : Nat) (s : State) : State :=
  if c.opc = 0x1A && status = 0 && decide (c.arg 0 < 2) then { s with dev.rebootDue := true } else s

/-- The completion of tag `t` committed (R401, R402, R419), or discarded where its CPL ring is out of use (R397, R400);
nothing while another command finished first for the same ring or no slot is free. `err`: the record's write is lost. -/
def State.commitTag (t : Nat) (err : Bool) (s : State) : State :=
  match s.tag t with
  | none => s
  | some c =>
    match c.st with
    | .done status detail =>
      if s.heldTags.any (fun p => p.2.cpl = c.cpl && decide (p.2.fin < c.fin)
          && (match p.2.st with | .done _ _ => true | _ => false)) then s
      else
        let g := c.cpl
        let bad := (s.ring g).size ≠ 0 && (s.ring g).type = 2 && !(s.ring g).scrcOk
        let s := if bad then s.ringKill g 3 else s
        let r := s.ring g
        if r.size = 0 ∨ r.type ≠ 2 then
          (((s.ringErr g (if r.err = 3 then 3 else 6)).setTag t none).abortEnd t status c.abortBy).afterCommit c status
        else if r.used ≥ r.size then s
        else
          let i := r.pi.toNat
          let s := s.setRing g { r with pi := r.pi + 1 }
          let s := s.setTag t none
          let s := if err then (s.ringErr g 4).raiseU 199 c.fn
            else
              let s := s.emit (.dma c.fn (r.base + BitVec.ofNat 64 (i % r.size * 32))
                (complRec t c status detail s.ao (i / r.size % 2 = 0)))
              let s := if c.ctl 2 then s.tallyInc c.fn (leField c.desc 4 2) else s
              if c.ctl 0 then s.ringSignal g else s
          (s.abortEnd t status c.abortBy).afterCommit c status
    | _ => s

/-! ## Ingress descriptors (R403 to R407) -/

/-- The stream's ingress ring in its function (R404). -/
def State.ingressRing (s : State) (f n : Nat) : Option Nat := (s.ringsOf f 3).find? (fun g => (s.ring g).bind = n)

/-- The function's driver has announced a supported ABI (R359, R360). -/
def State.abiOk (s : State) (f : Nat) : Bool := bitAt (s.rget (fnAddr f 4)) 4

/-- A descriptor is present for stream `n` of function `f` (R404). -/
def State.descReady (s : State) (f n : Nat) : Option Nat :=
  if !s.abiOk f then none else (s.ingressRing f n).filter (fun g => (s.ring g).used != 0)

/-- A descriptor is well formed (R405). -/
def descOk (d : List Byte) : Bool :=
  leField d 0 8 % 64 = 0 && decide (leField d 12 1 < 8) && leField d 13 1 = 0 && decide (leField d 14 2 < 1024)
  && leField d 25 7 = 0

/-- The next descriptor of a ring is consumed for a frame of `size` bytes: its WST where the forward ends at once (BADDESC 4,
SIZE 3), else 0; SCRC is checked first (R397, R405). None where the ring fails. -/
def State.takeDesc (g : Nat) (d : List Byte) (size : Nat) (s : State) : Option Nat × State :=
  if !(s.ring g).scrcOk then (none, s.ringKill g 3)
  else
    let s := s.setRing g { s.ring g with ci := (s.ring g).ci + 1 }
    if !descOk d then (some 4, s.ringErr g 5)
    else if leField d 8 4 < size then (some 3, s)
    else (some 0, s)

/-- A descriptor's write-back: bytes 16 to 31, at host address `a`, then the tally, then the vector (R406). -/
def State.writeBack (g a : Nat) (d : List Byte) (fwd len wst : Nat) (s : State) : State :=
  let f := g / 1024
  let s := if (leField d 12 1).testBit 0 || decide (2 ≤ wst) then
      s.emit (.dma f (BitVec.ofNat 64 a)
        (leBytes 4 fwd ++ leBytes 4 len ++ leBytes 1 wst ++ leBytes 7 0)) else s
  let s := if (leField d 12 1).testBit 1 && decide (leField d 14 2 < 1024) then s.tallyInc f (leField d 14 2) else s
  if (leField d 12 1).testBit 2 then s.ringSignal g else s

end Sys2Proof.Machine
end

