-- ==== Sys2Proof/Machine/EvidOps.lean ====
section
/-! DEFINITION. Evidence (R97 to R147) and assay result records (R274 to R277): the fields of records, the acceptance
checks, the combination of layers into assay outcomes, and the envelope. -/

namespace Sys2Proof.Machine
open Sys2Proof

/-! ## Task timing (R575, R576) -/

/-- Monitor `m`. -/
def State.task (s : State) (m : Nat) : TaskMon := mget TaskMon.reset s.sv.tasks m
/-- Monitor `m` set. -/
def State.setTask (m : Nat) (t : TaskMon) (s : State) : State := { s with sv.tasks := mput TaskMon.reset s.sv.tasks m t }
/-- The monitor watches this checkpoint of this stream; it is idle while the running plan does not bind the stream. -/
def State.taskWatches (s : State) (m chk stream : Nat) : Bool :=
  let t := s.task m
  t.en && t.chk = chk && t.stream = stream && s.isBound stream

/-- A reference of a checkpoint: the frame or reveal it is of, and its AO count (R575). -/
def State.taskRef (chk stream a b at_ : Nat) (s : State) : State :=
  forAll (List.range 16) (fun m s =>
    if s.taskWatches m chk stream then s.setTask m { s.task m with refs := (s.task m).refs ++ [(a, b, at_)] } else s) s

/-- An event of a checkpoint at AO count `at_` (R576): EARLY where it comes before lo; it ends the reference. -/
def State.taskEvent (chk stream a b at_ : Nat) (s : State) : State :=
  forAll (List.range 16) (fun m s =>
    if s.taskWatches m chk stream then
      let t := s.task m
      match t.refs.find? (fun r => r.1 = a && r.2.1 = b) with
      | none => s
      | some r =>
        let t' := { t with refs := t.refs.erase r }
        if at_ < r.2.2 + t.lo * Config.aoPerUs then
          ((s.setTask m { t' with early := satAdd 65535 t.early 1 }).revt 0x30008 5).raise 66
        else s.setTask m t'
    else s) s

/-! ## Evidence records (R98) -/

/-- TYPE. -/
def evType (r : List Byte) : Nat := leField r 0 1
/-- STREAM. -/
def evStream (r : List Byte) : Nat := leField r 1 1
/-- LAYER. -/
def evLayer (r : List Byte) : Nat := leField r 2 2
/-- FWD. -/
def evFwd (r : List Byte) : Nat := leField r 4 4
/-- LEN. -/
def evLen (r : List Byte) : Nat := leField r 8 4
/-- COUNT. -/
def evCount (r : List Byte) : Nat := leField r 12 4
/-- FMT. -/
def evFmt (r : List Byte) : Nat := leField r 16 1
/-- FLAGS.KIND. -/
def evKind (r : List Byte) : Nat := leField r 17 1 % 2
/-- FLAGS.LAST. -/
def evLast (r : List Byte) : Bool := (leField r 17 1).testBit 1
/-- ROUND. -/
def evRound (r : List Byte) : Nat := leField r 18 1
/-- CMT. -/
def evCmt (r : List Byte) : Nat := leField r 20 8
/-- HCRC matches (R98, R108). -/
def evHcrcOk (r : List Byte) : Bool := crc32c (slice 0 28 r) = leField r 28 4
/-- LEN lies within R98. -/
def evLenOk (r : List Byte) : Bool := evLen r % 8 = 0 && decide (32 ≤ evLen r) && decide (evLen r ≤ 1048576)

/-- A length padded to a multiple of 8. -/
def pad8 (n : Nat) : Nat := (n + 7) / 8 * 8

/-- The planned layer that a record names. -/
def planLayer (p : PStream) (l : Nat) : Option PLayer := p.layers.find? (fun x => x.layer = l)
/-- Elements in the body of a SAMPLE entry of a layer (R104). -/
def sampleElems (l : PLayer) : Nat := if l.kind = 0 then l.k else l.body
/-- Bytes of a SAMPLE entry of a layer. -/
def sampleEntry (l : PLayer) (fmt : Nat) : Nat := 8 + pad8 (sampleElems l * fmtBytes fmt)
/-- Canary positions of a stream (R106, R134). -/
def canaryCount (p : PStream) : Nat := match p.patterns with | [] => 0 | x :: _ => x.expect.length

/-- The length that COUNT and FMT imply (R102, R104, R106, R107, R109). -/
def evImplied (p : PStream) (r : List Byte) : Nat :=
  match evType r with
  | 3 => match planLayer p (evLayer r) with
    | some l => 32 + evCount r * sampleEntry l (evFmt r)
    | none => 32
  | 5 => 48
  | _ => 32 + pad8 (evCount r * fmtBytes (evFmt r))

/-- The format that the plan declares for a record of a stream (R100); a RESULT is declared by its first component. -/
def evDeclared (p : PStream) (r : List Byte) : Option Nat :=
  match evType r with
  | 1 => (planLayer p (evLayer r)).map PLayer.cfmt
  | 3 => (planLayer p (evLayer r)).map PLayer.sfmt
  | 4 => if evLayer r = 0 then some p.canaryFmt else none
  | 5 => if evLayer r = 0 then p.rfmts.head? else none
  | _ => none

/-- The rows of R109 that concern every record, and COMMIT, CANARY and RESULT: the record makes its frame malformed. -/
def evBad (p : PStream) (f : Nat) (r : List Byte) : Bool :=
  p.fn != f || !evLenOk r || evDeclared p r != some (evFmt r) || evLen r != evImplied p r
  || (match evType r with
      | 1 => (match planLayer p (evLayer r) with | some l => decide (l.maxM < evCount r) | none => true)
             || crc64 (r.drop 32) != evCmt r
      | 4 => evCount r != canaryCount p
      | 5 => evCount r != 1 || leField r 44 4 != 0
      | _ => false)

/-! ## Staging and lanes (R366, R368) -/

/-- Bytes of the evidence staging region (R366). -/
def stagingSize : Nat := 4194304

/-- Lane `k` of function `f`. -/
def State.lane (s : State) (f k : Nat) : Lane := mget Lane.reset s.hl.lanes (4 * f + k)
/-- Lane `k` of function `f` set. -/
def State.setLane (f k : Nat) (l : Lane) (s : State) : State :=
  { s with hl.lanes := mput Lane.reset s.hl.lanes (4 * f + k) l }

/-- Staging in use: records in progress whose header is checked, completed records, and the evidence that frames hold. -/
def State.stagingUsed (s : State) : Nat :=
  (s.hl.lanes.map (fun p => if p.2.st = .opened ∧ 32 ≤ p.2.bytes.length then evLen p.2.bytes else 0)).sum
  + (s.vd.records.map (fun r => r.2.2.length)).sum
  + (s.vd.commits.map (fun c => 32 + c.payload.length + c.samples.length)).sum
  + (s.vd.frames.map (fun f => f.resultRec.length + (match f.canaryRec with | some r => r.length | none => 0))).sum

/-- An evidence record discarded under R112 is counted (R348). -/
def State.lateRec (n : Nat) (s : State) : State := (s.rincSat (0x91018 + 32 * n) 31 0 1).revt 0x90008 6

/-- The re-reveal of a commit is open: issued for a procedure that has not closed (R112). -/
def Commit.reOpen (c : Commit) : Bool := c.reSt = 2

/-- A completed record of function `f`: `k` where it passes the common checks, with its frame (R97, R109, R112). A record
of a forward whose frame is no longer held counts as late; one of no forward identifies no frame. -/
def State.evCheck (f : Nat) (r : List Byte) (k : PStream → Frame → State → State) (s : State) : State :=
  let n := evStream r
  match s.frameFwd n (evFwd r), s.pstream n with
  | some fr, some p =>
    let re := evType r = 3 && evRound r = 1
      && (match s.commitOf n (evFwd r) (evLayer r) with | some c => c.reOpen | none => false)
    if fr.formed.isSome && !re then s.lateRec n
    else if evBad p f r then s.setFrame { fr with malformed := true }
    else k p fr s
  | none, some _ =>
    if evFwd r < (s.gs n).fwdNext ∨ 0 < (s.gs n).fwdWraps then s.lateRec n else s
  | _, _ => s

/-- A record completes in its lane (R99, R368, R575): a type that the principal never sends is discarded and makes its frame
malformed; the others wait for their row. -/
def State.evComplete (f : Nat) (r : List Byte) (s : State) : State :=
  let s := s.rinc64 (fnAddr f 0x18) 1
  let s := match s.frameFwd (evStream r) (evFwd r), s.pstream (evStream r) with
    | some fr, some p =>
      if fr.golden || p.fn != f then s
      else
        let s := s.taskEvent 0 fr.stream fr.num 0 s.ao
        if evType r = 5 then s.taskEvent 1 fr.stream fr.num 0 s.ao else s
    | _, _ => s
  if [1, 3, 4, 5].contains (evType r) then { s with vd.records := s.vd.records ++ [(f, s.ao, r)] }
  else s.evCheck f r (fun _ _ s => s)

/-- The oldest completed record of function `f`, where it is of a type: its stamp and bytes, taken. -/
def State.evTake (f type : Nat) (s : State) : Option (Nat × List Byte × State) :=
  match s.vd.records.find? (fun r => r.1 = f) with
  | some r => if evType r.2.2 = type then
      some (r.2.1, r.2.2, { s with vd.records := s.vd.records.erase r }) else none
  | none => none

/-! ## Assay outcomes of a frame (R130, R133) -/

/-- The outcome of the layers of a kind: 0 row-checksum, 1 re-execution (R110, R116, R130). -/
def State.layersOut (s : State) (p : PStream) (f : Frame) (kind : Nat) : Nat :=
  match f.fwd with
  | none => 0
  | some w =>
    let ls := p.layers.filter (fun l => l.kind = kind)
    let cs := ls.map (fun l => s.commitOf f.stream w l.layer)
    if ls.isEmpty then 0
    else if cs.any (fun c => match c with | some c => c.equivocated || c.outcome = 3 | none => false) then 3
    else if cs.any (fun c => match c with | some c => c.outcome = 2 | none => false) then 2
    else if cs.all (fun c => match c with | some c => c.count = 0 || c.outcome = 1 | none => false) then 1
    else 0

/-- An exact number as sign and magnitude. -/
def dyMag (x : Dy) : Bool × Mag := (decide (x.m < 0), { m := x.m.natAbs, e := x.e })

/-- |x - y| as a magnitude. -/
def distOf (s1 : Bool) (a : Mag) (y : Dy) : Mag := absDiff s1 a (dyMag y).1 (dyMag y).2

/-- A component lies within a tolerance of an expected value; NaN and Inf do not. -/
def within (x : Elem) (e t : Dy) : Bool := match x with
  | .fin sg m ex => (distOf sg { m := m, e := ex } e).le (dyMag t).2
  | _ => false

/-- The components of a result value in the stream's declared formats, packed in order (R89, R107). -/
def resultComps (fmts : List Nat) (v : Nat) : List Elem := match fmts with
  | [] => []
  | f :: t => decodeElem f (v % 2 ^ (8 * fmtBytes f)) :: resultComps t (v / 2 ^ (8 * fmtBytes f))

/-- A golden frame's RESULT lies within tolerance (R140). -/
def goldenInTol (p : PStream) (f : Frame) : Bool := match f.result, p.golden[f.num % 8]? with
  | some v, some g =>
    let xs := resultComps p.rfmts v.toNat
    (List.range xs.length).all (fun i => match xs[i]?, g.expect[i]? with
      | some x, some e => within x e.1 e.2
      | _, _ => true)
  | _, _ => false

/-- What follows a changed outcome of a frame: a golden frame is judged; an admitted one forms where R47 allows. -/
def State.progress (p : PStream) (f : Frame) (s : State) : State :=
  let f := s.frameNow f
  if f.golden then s.judgeGolden p f (goldenInTol p f) else s.formIfReady f

/-- The row-checksum and re-execution outcomes of a frame taken from its layers; a violation of a frame whose verdict is
written is late (R53). -/
def State.reLayer (p : PStream) (f : Frame) (s : State) : State :=
  let f := s.frameNow f
  let f := { f with row := max f.row (s.layersOut p f 0), reexec := max f.reexec (s.layersOut p f 1) }
  (s.setFrame f).progress p f

/-! ## Envelope (R136, R137) -/

/-- A signed exact sum as sign and magnitude. -/
def addSigned (a b : Bool × Mag) : Bool × Mag :=
  if a.1 = b.1 then (a.1, a.2.add b.2)
  else if b.2.le a.2 then (a.1, absDiff false a.2 false b.2) else (b.1, absDiff false a.2 false b.2)

/-- x <= y for signed exact numbers. -/
def leSigned (x y : Bool × Mag) : Bool :=
  match x.1, y.1 with
  | true, false => true
  | false, true => x.2.m = 0 && y.2.m = 0
  | false, false => x.2.le y.2
  | true, true => y.2.le x.2

/-- An element as a signed exact number; none for NaN and Inf. -/
def Elem.signed (x : Elem) : Option (Bool × Mag) := match x with
  | .fin sg m e => some (sg, { m := m, e := e })
  | _ => none

/-- A component outside its range, or NaN or Inf (R137). -/
def rangeBad (e : PEnv) (x : Elem) : Bool := match x.signed with
  | some v => !(leSigned (dyMag e.lo) v && leSigned v (dyMag e.hi))
  | none => true

/-- A component that differs from the last ACCEPT-published one by more than the rate allows over the elapsed AO cycles. -/
def rateBad (e : PEnv) (x y : Elem) (cycles : Nat) : Bool := match x.signed, y.signed with
  | some a, some b =>
    let d := absDiff a.1 a.2 b.1 b.2
    !(({ d with m := d.m * Config.aoPerMs } : Mag).le { m := e.rate.m.natAbs * cycles, e := e.rate.e })
  | _, _ => false

/-- The last ACCEPT-published components of stream `n`, where its frame's ingress stamp is younger than the stream's A. -/
def State.lastComps (s : State) (n : Nat) : Option (List Elem) := match (s.stream n).lastAcc, s.pstream n with
  | some v, some p => if s.ao - v.2 < p.a then some (resultComps p.rfmts v.1.toNat) else none
  | _, _ => none

/-- The sum of a relation's terms; none where a component is NaN, Inf or absent. -/
def relSum (get : Nat → Option (List Elem)) : List (Nat × Nat × Dy) → Option (Bool × Mag)
  | [] => some (false, { m := 0, e := 0 })
  | t :: ts => match (get t.1).bind (fun xs => xs[t.2.1]?), relSum get ts with
    | some x, some a => x.signed.map (fun v => addSigned a ((v.1 != (dyMag t.2.2).1), v.2.mul (dyMag t.2.2).2))
    | _, _ => none

/-- A relation fails (R137); skipped where another stream it names has no young ACCEPT-published value. -/
def State.relBad (s : State) (n : Nat) (xs : List Elem) (r : PRel) : Bool :=
  let get (k : Nat) : Option (List Elem) := if k = n then some xs else s.lastComps k
  if r.terms.any (fun t => (get t.1).isNone) then false
  else match relSum get r.terms with
    | some a => !((absDiff a.1 a.2 (dyMag r.b).1 (dyMag r.b).2).le (dyMag r.t).2)
    | none => true

/-- The envelope assay of a RESULT (R137): 3 VIOLATED, 1 PASS. -/
def State.envelope (s : State) (p : PStream) (f : Frame) (v : BitVec 96) : Nat :=
  let xs := resultComps p.rfmts v.toNat
  let bad := (List.range xs.length).any (fun i => match xs[i]?, p.env[i]? with
    | some x, some e => rangeBad e x
        || (match s.lastComps p.num, (s.stream p.num).lastAcc with
            | some ys, some a => (match ys[i]? with | some y => rateBad e x y (f.ingressAo - a.2) | none => false)
            | _, _ => false)
    | some x, none => x.signed.isNone
    | _, _ => false)
  if bad || p.rels.any (s.relBad p.num xs) then 3 else 1

/-! ## Result records (R15, R274 to R277) -/

/-- The record kinds of R276 and the OUTCOME codes listed for them (R277). -/
def recordOk (l : List Byte) : Bool :=
  decide (leField l 0 1 < 64)
  && (match leField l 1 1 with
      | 4 => inR 1 2 (leField l 2 1)
      | 1 | 2 | 3 | 5 | 6 => inR 1 3 (leField l 2 1)
      | _ => false)

/-- The CRC of a result record matches (R275). -/
def recordCrcOk (l : List Byte) : Bool := crc16 (slice 0 14 l ++ leBytes 2 0 ++ slice 16 48 l) = leField l 14 2

/-- A result of tile `t` that fails its CRC or is reserved: RESULT_CRC; the second in a hyperperiod quarantines (R190). -/
def State.crcFail (t : Nat) (s : State) : State :=
  let s := s.raiseU 105 t
  let s := s.setTile t { s.tile t with crcFails := (s.tile t).crcFails + 1 }
  if (s.tile t).crcFails ≥ 2 then s.quarantineForm t 6 else s

/-- The oldest result record, where it is of a kind: its bytes, whether it is sound, and the state without it. -/
def State.takeResult (kind : Nat) (s : State) : Option (List Byte × Bool × State) :=
  match s.vd.results with
  | [] => none
  | x :: t =>
    let l := leBytes 64 x.1.toNat
    if leField l 1 1 = kind then some (l, recordCrcOk l && !x.2, { s with vd.results := t }) else none

/-- The fields of a record that a tile computes, compared by the repeat check (R82): OUTCOME, ROWS, DUSTMAX and DATA. -/
def computed (l : List Byte) : List Byte := slice 2 1 l ++ slice 16 20 l

/-- An assay result reaches the verdict engine (R130, R133, R135, R276): counted for its frame with the tile and time of its
delivery; a second failed CRC quarantines the tile. -/
def State.assayResult (kind : Nat) (s : State) : State :=
  match s.takeResult kind with
  | none => s
  | some (l, sound, s) =>
    let n := leField l 0 1
    let t := leField l 10 2
    let o := if sound then leField l 2 1 else 2
    let s := match s.frameFwd n (leField l 4 4), s.pstream n with
      | some f, some p =>
        let f := { f with tiles := f.tiles ++ [(t, s.ao)], ktiles := f.ktiles ++ [(kind, t)],
                          viol := if o = 3 then f.viol ++ [(kind, t, leField l 8 2, computed l)] else f.viol }
        let s := s.setFrame f
        if f.formed.isSome then (if o = 3 then s.lateViolation f else s)
        else if kind = 3 then
          (match f.canaryRec with
           | some _ => let f := f.raiseOut 3 o; (s.setFrame f).progress p f
           | none => s)
        else
          match s.commitOf n (leField l 4 4) (leField l 8 2) with
          | some c => (s.setCommit { c with outcome := max c.outcome o, rows := leField l 16 4 }).reLayer p f
          | none => s
      | _, _ => s
    if !recordCrcOk l && decide (t < 192) then s.crcFail t else s

end Sys2Proof.Machine
end

