-- ==== Sys2Proof/Machine/Ledger.lean ====
section
/-! DEFINITION. The ledger as its bytes read (R366): ring state, tallies, frame buffers, the journal and evidence staging.
Bytes that no record of the model holds (stale buffers, the staging region's inner layout) are free values (log entry 17). -/

namespace Sys2Proof.Machine
open Sys2Proof

/-- The bank of a ledger byte (R349): a frame buffer's own bank, else its megabyte. -/
def ledgerBank (a : Nat) : Nat :=
  if 0x300000 ≤ a ∧ a < 0xB00000 then (a - 0x300000) / 4096 / 128 else a / 2 ^ 20

/-- The tally state record of a tally (R432). -/
def State.tallyBytes (s : State) (y : Nat) : List Byte :=
  leBytes 4 (s.tally y).toNat ++ leBytes 2 (s.q.waits.filter (fun w => w.tally = y)).length ++ leBytes 2 0
  ++ leBytes 8 (mget 0 s.q.tyOps y)

/-- Byte `k` of buffer `n`, where a frame holds it and has written it (R349, R350). -/
def State.bufByte (s : State) (n k : Nat) : Option Byte :=
  (s.vd.frames.find? (fun f => f.buffers.contains n || f.mirror.contains n)).bind (fun f =>
    let j := if f.buffers.contains n then f.buffers.findIdx (fun x => x = n) else f.mirror.findIdx (fun x => x = n)
    (s.pstream f.stream).bind (fun p =>
      let o := 4096 * j + k
      (mget [] f.lines (o / p.lbytes))[o % p.lbytes]?))

/-- The journal record at an index (R87); none where none is written there. -/
def State.journalAt (s : State) (i : Nat) : Option JRec :=
  if s.vd.jseq = 0 then none else s.vd.journal[(s.vd.jseq - 1 + journalDepth - i) % journalDepth]?

/-- The ledger's byte at `a`; none where the model holds no value for it. -/
def State.ledgerByte (s : State) (a : Nat) : Option Byte :=
  if a < 0x200000 then (s.ring (a / 32)).bytes[a % 32]?
  else if a < 0x300000 then (s.tallyBytes ((a - 0x200000) / 16))[a % 16]?
  else if a < 0xB00000 then s.bufByte ((a - 0x300000) / 4096) (a % 4096)
  else if a < 0xC00000 then
    (match s.journalAt ((a - 0xB00000) / 64) with | some r => r.bytes[a % 64]? | none => some 0)
  else none

/-- Ledger bytes [a, a + n): a byte that the model does not hold is a free value. -/
def State.ledgerRead (s : State) (a n : Nat) : List Byte :=
  (List.range n).map (fun i => match s.ledgerByte (a + i) with
    | some b => b
    | none => Config.freeBits 8 (s.freeCtr + i))

end Sys2Proof.Machine
end

