-- ==== Sys2Proof/Machine/Access.lean ====
section
/-! DEFINITION. Access errors and discarded writes (R16, R375 to R377, R379): what every path of register access shares. -/

namespace Sys2Proof.Machine
open Sys2Proof

/-- The porter runs and is not held in block reset by its clock (R622). -/
def State.porterLive (s : State) : Bool := s.dev.porterUp && !s.notClear 71

/-- Bits of ID_ACCERR. -/
inductive AccErr where
  | absent | unmap | size | dxfail | xpchg | lkwr | fwall
  deriving DecidableEq, Repr

/-- The bit of ID_ACCERR. -/
def AccErr.bit : AccErr → Nat
  | .absent => 8 | .unmap => 9 | .size => 10 | .dxfail => 11 | .xpchg => 12 | .lkwr => 13 | .fwall => 14

/-- An access error's record: ID_ACCERR, ID_ACCADDR and ID_ACCCNT (R377). -/
def State.accRec (e : AccErr) (who : Initiator) (off : Nat) (s : State) : State :=
  let f := match who with | .host f => f.val | _ => 0
  let s := s.revt 0x20 e.bit
  let s := s.rset 0x24 (BitVec.ofNat 32 (off % 2 ^ 24 + 2 ^ 24 * who.cls + 2 ^ 26 * f))
  s.rinc64 0x28 1
/-- An access error (R377): recorded, and the register access source raised. -/
def State.accErr (e : AccErr) (who : Initiator) (off : Nat) (write : Bool) (s : State) : State :=
  (s.accRec e who off).raiseWith 192 false { addr := off, init := who.num, acc := b2n write,
                                              unit := match who with | .host f => f.val | _ => 0xFFFF }
/-- A write discarded under R16: the firewall source captures the initiator and address. -/
def State.firewall (who : Initiator) (off : Nat) (s : State) : State :=
  (s.accRec .fwall who off).raiseWith 9 false { addr := off, init := who.num, acc := 1, unit := 0xFFFF }

end Sys2Proof.Machine
end

