-- ==== Sys2Proof/Machine/Sha.lean ====
section
/-! DEFINITION. SHA-384, which the manual names in R496, R552 and R674 for its tokens (FIPS 180-4, log entry 6). -/

namespace Sys2Proof.Machine
open Sys2Proof

/-- The 80 round constants of the SHA-512 family, first half. -/
def shaK0 : List Nat := [
  0x428a2f98d728ae22, 0x7137449123ef65cd, 0xb5c0fbcfec4d3b2f, 0xe9b5dba58189dbbc, 0x3956c25bf348b538,
  0x59f111f1b605d019, 0x923f82a4af194f9b, 0xab1c5ed5da6d8118, 0xd807aa98a3030242, 0x12835b0145706fbe,
  0x243185be4ee4b28c, 0x550c7dc3d5ffb4e2, 0x72be5d74f27b896f, 0x80deb1fe3b1696b1, 0x9bdc06a725c71235,
  0xc19bf174cf692694, 0xe49b69c19ef14ad2, 0xefbe4786384f25e3, 0x0fc19dc68b8cd5b5, 0x240ca1cc77ac9c65,
  0x2de92c6f592b0275, 0x4a7484aa6ea6e483, 0x5cb0a9dcbd41fbd4, 0x76f988da831153b5, 0x983e5152ee66dfab,
  0xa831c66d2db43210, 0xb00327c898fb213f, 0xbf597fc7beef0ee4, 0xc6e00bf33da88fc2, 0xd5a79147930aa725,
  0x06ca6351e003826f, 0x142929670a0e6e70, 0x27b70a8546d22ffc, 0x2e1b21385c26c926, 0x4d2c6dfc5ac42aed,
  0x53380d139d95b3df, 0x650a73548baf63de, 0x766a0abb3c77b2a8, 0x81c2c92e47edaee6, 0x92722c851482353b]

/-- The round constants, second half. -/
def shaK1 : List Nat := [
  0xa2bfe8a14cf10364, 0xa81a664bbc423001, 0xc24b8b70d0f89791, 0xc76c51a30654be30, 0xd192e819d6ef5218,
  0xd69906245565a910, 0xf40e35855771202a, 0x106aa07032bbd1b8, 0x19a4c116b8d2d0c8, 0x1e376c085141ab53,
  0x2748774cdf8eeb99, 0x34b0bcb5e19b48a8, 0x391c0cb3c5c95a63, 0x4ed8aa4ae3418acb, 0x5b9cca4f7763e373,
  0x682e6ff3d6b2b8a3, 0x748f82ee5defb2fc, 0x78a5636f43172f60, 0x84c87814a1f0ab72, 0x8cc702081a6439ec,
  0x90befffa23631e28, 0xa4506cebde82bde9, 0xbef9a3f7b2c67915, 0xc67178f2e372532b, 0xca273eceea26619c,
  0xd186b8c721c0c207, 0xeada7dd6cde0eb1e, 0xf57d4f7fee6ed178, 0x06f067aa72176fba, 0x0a637dc5a2c898a6,
  0x113f9804bef90dae, 0x1b710b35131c471b, 0x28db77f523047d84, 0x32caab7b40c72493, 0x3c9ebe0a15c9bebc,
  0x431d67c49c100d4c, 0x4cc5d4becb3e42b6, 0x597f299cfc657e2a, 0x5fcb6fab3ad6faec, 0x6c44198c4a475817]

/-- Addition modulo 2 to the 64. -/
def add64 (a b : Nat) : Nat := (a + b) % 2 ^ 64
/-- Rotation right of 64 bits. -/
def rotr64 (a n : Nat) : Nat := (a >>> n) ||| ((a <<< (64 - n)) % 2 ^ 64)

/-- The message schedule grown by one word; `w` is newest first. -/
def shaExtend (w : List Nat) : List Nat :=
  let x := lget 0 w 14
  let y := lget 0 w 1
  let s0 := rotr64 x 1 ^^^ rotr64 x 8 ^^^ (x >>> 7)
  let s1 := rotr64 y 19 ^^^ rotr64 y 61 ^^^ (y >>> 6)
  add64 (add64 (lget 0 w 15) s0) (add64 (lget 0 w 6) s1) :: w

/-- The eight working words. -/
structure ShaSt where
  a : Nat
  b : Nat
  c : Nat
  d : Nat
  e : Nat
  f : Nat
  g : Nat
  h : Nat
  deriving DecidableEq, Repr

/-- One round with constant `k` and schedule word `w`. -/
def shaRound (s : ShaSt) (kw : Nat × Nat) : ShaSt :=
  let s1 := rotr64 s.e 14 ^^^ rotr64 s.e 18 ^^^ rotr64 s.e 41
  let ch := (s.e &&& s.f) ^^^ ((s.e ^^^ (2 ^ 64 - 1)) &&& s.g)
  let t1 := add64 (add64 s.h s1) (add64 ch (add64 kw.1 kw.2))
  let s0 := rotr64 s.a 28 ^^^ rotr64 s.a 34 ^^^ rotr64 s.a 39
  let mj := (s.a &&& s.b) ^^^ (s.a &&& s.c) ^^^ (s.b &&& s.c)
  { a := add64 t1 (add64 s0 mj), b := s.a, c := s.b, d := s.c, e := add64 s.d t1, f := s.e, g := s.f, h := s.g }

/-- One block of 16 words, in order. -/
def shaBlock (s : ShaSt) (blk : List Nat) : ShaSt :=
  let w := (List.range 64).foldl (fun w _ => shaExtend w) blk.reverse
  let r := ((shaK0 ++ shaK1).zip w.reverse).foldl shaRound s
  { a := add64 s.a r.a, b := add64 s.b r.b, c := add64 s.c r.c, d := add64 s.d r.d, e := add64 s.e r.e,
    f := add64 s.f r.f, g := add64 s.g r.g, h := add64 s.h r.h }

/-- The initial words of SHA-384. -/
def sha384Init : ShaSt :=
  { a := 0xcbbb9d5dc1059ed8, b := 0x629a292a367cd507, c := 0x9159015a3070dd17, d := 0x152fecd8f70e5939,
    e := 0x67332667ffc00b31, f := 0x8eb44a8768581511, g := 0xdb0c2e0d64f98fa7, h := 0x47b5481dbefa4fa4 }

/-- Sixteen big-endian words from byte `o`. -/
def shaWords (m : List Byte) (o : Nat) : List Nat := (List.range 16).map (fun i => beNat (slice (o + 8 * i) 8 m))

/-- The padded message. -/
def shaPad (m : List Byte) : List Byte :=
  let n := m.length
  m ++ [0x80] ++ List.replicate ((111 + 128 - n % 128) % 128) 0 ++ beBytes 16 (8 * n)

/-- SHA-384 of a byte string: 48 bytes. -/
def sha384 (m : List Byte) : List Byte :=
  let p := shaPad m
  let r := (List.range (p.length / 128)).foldl (fun s i => shaBlock s (shaWords p (128 * i))) sha384Init
  beBytes 8 r.a ++ beBytes 8 r.b ++ beBytes 8 r.c ++ beBytes 8 r.d ++ beBytes 8 r.e ++ beBytes 8 r.f

end Sys2Proof.Machine
end

