-- ==== Sys2Proof/Machine/ReeveOps.lean ====
section
/-! DEFINITION. The reeve complex (R458 to R482, R706): votes, recovery, voter tests, agreement rounds, and the command
interface's shared checks and answers (R486 to R498). -/

namespace Sys2Proof.Machine
open Sys2Proof

/-! ## Requests (R409, R487, R491) -/

/-- A field of a 64 B request: `n` bytes at `off`. -/
def reqField (r : BitVec 512) (off n : Nat) : Nat := r.toNat / 2 ^ (8 * off) % 2 ^ (8 * n)
/-- Operand ARGi of a request. -/
def reqArg (r : BitVec 512) (i : Nat) : Nat := reqField r (8 + 8 * i) 8
/-- The reeve command code (ARG0 [15:0]). -/
def reqCode (r : BitVec 512) : Nat := reqArg r 0 % 65536
/-- DCRC matches (R409). -/
def reqCrcOk (r : BitVec 512) : Bool := crc32c (leBytes 60 r.toNat) = reqField r 60 4
/-- OPC 0x20 and every reserved byte and bit zero, given the bits that each of ARG1 to ARG4 may use (R409, R487). -/
def reqFieldsOk (r : BitVec 512) (masks : List Nat) : Bool :=
  reqField r 0 1 = 0x20 && decide (reqField r 1 1 < 8) && reqField r 6 2 = 0 && reqField r 48 8 = 0
  && (reqField r 1 1 / 4 = 1 || reqField r 4 2 = 0) && decide (reqField r 4 2 < 1024)
  && decide (reqArg r 0 < 65536)
  && (List.range 4).all (fun i => reqArg r (i + 1) &&& lget 0 masks i = reqArg r (i + 1))

/-- All 64 bits of an operand. -/
def all64 : Nat := 0xFFFFFFFFFFFFFFFF

/-- The codes of R494, R523, R547 and R572. -/
def reeveCodes : List Nat :=
  [0x0001, 0x0002, 0x0003, 0x0004, 0x0010, 0x0011, 0x0020, 0x0021, 0x0030, 0x0031, 0x0100, 0x0101, 0x0102, 0x0103, 0x0104,
   0x0110, 0x0111, 0x0120, 0x0121, 0x0122, 0x0200, 0x0201, 0x0202, 0x0300, 0x0301, 0x0302, 0x0303]

/-- The reeve takes requests and messages: not in BOOT, not paused, stopped or halted by the debug port (R471, R495, R706,
R677). -/
def State.reeveUp (s : State) : Bool :=
  s.dev.state != .cold && s.dev.state != .boot && s.rv.pause.isNone && !s.rv.stopped && !s.dbg.halted

/-- The answer record of R491 with its ACRC. -/
def answerRec (ridx : Nat) (r : BitVec 512) (path rstat info ao : Nat) : BitVec 256 :=
  let b := leBytes 2 (ridx % 65536) ++ leBytes 2 (reqField r 2 2) ++ leBytes 2 (reqCode r) ++ leBytes 1 rstat
    ++ leBytes 1 path ++ leBytes 4 (reqField r 56 4) ++ leBytes 4 0 ++ leBytes 8 info ++ leBytes 4 ao
  BitVec.ofNat 256 (leNat (b ++ leBytes 4 (crc32c b)))

/-- The path's number: 0 ring, 1 mailbox. -/
def pathNum (p : ReqPath) : Nat := match p with | .ring => 0 | .mailbox => 1

/-- The request at the head of a path. -/
def State.reqHead (s : State) (p : ReqPath) : Option (BitVec 512) := match p with
  | .ring => s.rv.reqRing.head?.map Prod.fst
  | .mailbox => s.rv.mbReq.map Prod.fst

/-- The head request is taken and answered with a status and INFO (R490, R491): counted, and a refusal recorded. -/
def State.answer (p : ReqPath) (r : BitVec 512) (rstat info : Nat) (s : State) : State :=
  let info := if rstat = 0 then info else 0
  let s := if rstat = 0 then s.rincSat 0x20050 15 0 1
    else
      let s := ((s.rincSat 0x20050 31 16 1).revt 0x2000C 5).rset 0x20054
        (BitVec.ofNat 32 (rstat + 256 * reqCode r + 2 ^ 24 * pathNum p))
      if rstat = 1 then s.raise 10 else s
  match p with
  | .ring =>
    match s.rv.reqRing with
    | [] => s
    | q :: t =>
      let a := answerRec s.rv.ridx r 0 rstat info s.ao
      { s with rv.reqRing := t, rv.ridx := (s.rv.ridx + 1) % 2 ^ 32, rv.ansRing := s.rv.ansRing ++ [(a, q.2)] }
  | .mailbox =>
    ({ s with rv.mbReq := none }).reeveSay (BitVec.ofNat 512 (answerRec 0 r 1 rstat info s.ao).toNat) 0xA0 32

/-- A lease whose time has come ends before a request is checked (R500). -/
def State.leaseCheck (s : State) : State := if s.rv.privHeld && decide (s.ao ≥ s.rv.leaseEnd) then s.endPriv else s
/-- A lockout whose time has come ends (R497). -/
def State.lockCheck (s : State) : State := match s.rv.lockEnd with
  | some t => if s.ao ≥ t then { s with rv.lockEnd := none, rv.fails := 0 } else s
  | none => s

/-- The codes accepted in a device state (R495, R524). -/
def codeState (d : DevState) (code : Nat) : Bool := match d with
  | .planLoad | .run | .degraded => true
  | .mismatchHold => code != 0x31
  | .safeHold | .alarm => [1, 2, 3, 4, 0x300, 0x303].contains code
  | _ => false

/-- The checks 1 to 3 of R487 on a request whose code the reeve does not know: answered CRC, SEQ or CODE. -/
def State.refuseHead (p : ReqPath) (r : BitVec 512) (s : State) : State :=
  if !reqCrcOk r then s.answer p r 1 0
  else if reqField r 56 4 ≠ (s.rv.sseq + 1).toNat then s.answer p r 2 0
  else ({ s with rv.sseq := s.rv.sseq + 1 }).answer p r 3 0

/-- Requests with codes that are not listed, at the head of a path, are answered in turn. -/
def State.drainPath (p : ReqPath) : Nat → State → State
  | 0, s => s
  | n + 1, s =>
    match s.reqHead p with
    | some r => if s.reeveUp && !reeveCodes.contains (reqCode r) then (s.refuseHead p r).drainPath p n else s
    | none => s

/-- Both paths' unlisted heads answered, the mailbox first (R489). -/
def State.drain (s : State) : State := (s.drainPath .mailbox 1).drainPath .ring 64

/-- A reeve command of one code (R487): nothing where the path's head is not a request of that code or the reeve takes none;
else the checks in order, then `f`, which answers a status, INFO and the new state. -/
def State.reeveCmd (p : ReqPath) (code : Nat) (masks : List Nat) (rangesOk : BitVec 512 → Bool)
    (priv : BitVec 512 → Bool) (f : BitVec 512 → State → Nat × Nat × State) (s : State) :
    Host.Outcome State Fault Refusal :=
  s.act (fun s =>
    match s.reqHead p with
    | none => s
    | some r =>
      if !s.reeveUp || reqCode r ≠ code then s
      else
        let s := s.leaseCheck.lockCheck
        let s := { s with rv.slow := false }
        if !reqCrcOk r then (s.answer p r 1 0).drain
        else if reqField r 56 4 ≠ (s.rv.sseq + 1).toNat then (s.answer p r 2 0).drain
        else
          let s := { s with rv.sseq := s.rv.sseq + 1 }
          if !reqFieldsOk r masks || !rangesOk r then (s.answer p r 4 0).drain
          else if !codeState s.dev.state code then (s.answer p r 6 0).drain
          else if priv r && !s.rv.privHeld then (s.answer p r 5 0).drain
          else
            let q := f r s
            (q.2.2.answer p r q.1 q.2.1).drain)

/-! ## Votes and recovery (R460 to R472) -/

/-- The class and minority of the last mismatch (RV_LASTMIS). -/
def State.lastMis (minor cls : Nat) (s : State) : State :=
  (s.rset 0x20024 (BitVec.ofNat 32 (minor % 4 + 4 * cls))).rset 0x20028 (BitVec.ofNat 32 s.ao)
/-- The classification of the last mismatch. -/
def State.classify (cls : Nat) (s : State) : State := s.rfield 0x20024 4 2 cls

/-- The reeve watchdog holds its count (R568). -/
def State.dogHold (s : State) : State := { s with sv.rwd.heldAt := some s.ao }
/-- The reeve watchdog resumes its count. -/
def State.dogRelease (s : State) : State := match s.sv.rwd.heldAt with
  | some t => { s with sv.rwd.heldAt := none, sv.rwd.prev := s.sv.rwd.prev + (s.ao - t) }
  | none => s

/-- SAFE_HOLD with the cores stopped until reset (R706). -/
def State.stopCores (src : Nat) (s : State) : State :=
  let s := { s with rv.stopped := true, rv.pause := none }
  s.raise src

/-- Whether the voters compare: outside split mode, cores running. -/
def State.voting (s : State) : Bool := s.rv.mode != .split && !s.rv.stopped && !s.dbg.halted && !s.dbg.forced && s.dev.state != .cold

/-- A vote mismatch (R460, R466, R467). -/
def State.mismatch (minority : Option Nat) (s : State) : State :=
  if !s.voting || s.rv.pause.isSome then s
  else
    let s := ((s.revt 0x2000C 0).rinc64 0x20018 1).raise 0
    match minority, s.rv.mode with
    | some m, .trio => ({ s.lastMis m 0 with rv.pause := some (s.ao, m) }).dogHold
    | _, _ => (s.lastMis 3 3).stopCores 4

/-- A core's transients of the last 24 h. -/
def Reeve.trans (r : Reeve) (c : Nat) : List Nat := match c with | 0 => r.transA | 1 => r.transB | _ => r.transC
/-- A core's transients set. -/
def Reeve.setTrans (r : Reeve) (c : Nat) (l : List Nat) : Reeve := match c with
  | 0 => { r with transA := l } | 1 => { r with transB := l } | _ => { r with transC := l }

/-- AO cycles in 24 h. -/
def day : Nat := 24 * Config.aoPerH

/-- The cores resume (R467 step 5). -/
def State.resume (us : Nat) (s : State) : State :=
  (({ s with rv.pause := none }).rmax 0x20058 6 0 us).dogRelease.drain.reeveFlush

/-- The classification of R468 and R469 by the self-test outcomes, bit c: core c passes. -/
def State.recover (pass : BitVec 3) (us : Nat) (s : State) : State :=
  match s.rv.pause with
  | none => s
  | some (t, m) =>
    let s := s.advance (t + us * Config.aoPerUs)
    match (List.range 3).filter (fun c => !pass.toNat.testBit c) with
    | [] =>
      let l := s.ao :: (s.rv.trans m).filter (fun x => decide (s.ao < x + day))
      let s := { s with rv := s.rv.setTrans m l }
      if l.length > s.transLimit then ((s.classify 4).retire m .retiredTransient).resume us
      else ((s.classify 1).revt 0x2000C 1).resume us
    | [c] =>
      if c = m then ((s.classify 2).retire m .retiredSelftest).resume us else (s.classify 3).stopCores 4
    | _ => (s.classify 3).stopCores 4

/-- VOTE_MISMATCH (R460, R466, R467). -/
def execVoteMismatch (minority : Option (Fin 3)) (s : State) : Host.Outcome State Fault Refusal :=
  s.act (fun s => s.mismatch (minority.map Fin.val))

/-- RECOVERY_RESUME (R467 to R469): the self-tests' outcomes and the length of the pause in us, at most 100. -/
def execRecoveryResume (pass : BitVec 3) (us : BitVec 7) (s : State) : Host.Outcome State Fault Refusal :=
  s.act (fun s => s.recover pass (min us.toNat 100))

/-- RECOVERY_TIMEOUT (R467 step 6, R706). -/
def execRecoveryTimeout (s : State) : Host.Outcome State Fault Refusal :=
  s.act (fun s => match s.rv.pause with
    | none => s
    | some (t, _) => (s.advance (t + 100 * Config.aoPerUs)).stopCores 16)

/-- VOTER_DISAGREEMENT (R461 to R464): a run-time voter test with its outcomes; with both voters passing it is counted as
transient. It cannot arise once either voter has failed. -/
def execVoterDisagreement (prim shad : BitVec 6) (s : State) : Host.Outcome State Fault Refusal :=
  s.act (fun s =>
    if !s.voting || s.rv.shadowFail || s.rv.onShadow then s
    else
      let s := (s.raise 1).voterOutcome prim shad true
      let s := if prim = 0x3F ∧ shad = 0x3F then s.rincSat 0x20010 23 16 1 else s
      s.rmaxFree 0x20058 5)

/-- HOURLY_CORE_SELFTEST (R472's closing text, RV_CORES.HOURLY): a retired core's self-test. -/
def execHourlyCoreSelftest (core : Fin 3) (pass : Bool) (s : State) : Host.Outcome State Fault Refusal :=
  s.act (fun s => match s.rv.core core with
    | .retiredSelftest | .retiredTransient | .retiredDiverge => s.rfield 0x20008 (12 + core) (12 + core) (b2n (!pass))
    | _ => s)

/-! ## Agreement rounds (R473 to R479) -/

/-- The run of a divergence of input `i` at core `c` (3: a pair's, unattributed). -/
def State.divRun (s : State) (i c : Nat) : Nat := mget 0 s.rv.divRun (4 * i + c)
/-- The run set. -/
def State.setDiv (i c n : Nat) (s : State) : State := { s with rv.divRun := mput 0 s.rv.divRun (4 * i + c) n }

/-- A persistent divergence (R478): recorded, counted and raised. -/
def State.diverged (i c : Nat) (s : State) : State :=
  ((((s.rincSat 0x20030 31 16 1).rset 0x20034 (BitVec.ofNat 32 (i + 64 * c))).revt 0x2000C 4).raise 5)

/-- One input at one core of a trio: the run of its divergence, and what a persistent one does (R472, R477, R478, R500). -/
def State.trioDiv (i c : Nat) (differs : Bool) (s : State) : State :=
  let n := s.divRun i c
  if !differs then (if n = 0 then s else
    let s := s.setDiv i c 0
    if n ≤ 2 then s.rincSat 0x20030 15 0 1 else s)
  else
    let s := s.setDiv i c (min (n + 1) 3)
    if n = 2 then
      let s := s.diverged i c
      match s.rv.pause with
      | some (_, m) => if m = c then ((s.classify 2).retire c .retiredDiverge).resume 0 else (s.classify 3).stopCores 4
      | none => if s.rv.core c == .active && s.rv.mode == .trio then ((s.lastMis c 2).retire c .retiredDiverge) else s
    else s

/-- The value that a pair's input takes once its samples have differed for more than 2 rounds (R479). -/
def State.pairDefault (s : State) (i : Nat) : Bool :=
  if i < 32 then
    (let pol := (pairCfg s.sio.body (i / 2)).pol
     if i % 2 = 0 then pol else !pol)
  else if i < 48 then s.rv.adopted.toNat.testBit i
  else if i = 50 then s.rv.adoptedReset.toNat.testBit 0
  else if i = 51 then s.rv.adoptedReset.toNat.testBit 1
  else false

/-- The bit with a value at place `i`. -/
def atBit (i : Nat) (b : Bool) : Nat := if b then 2 ^ i else 0

/-- One round of a trio (R474): the majority of every input. -/
def majority (a b c : W64) : W64 := (a &&& b) ||| (a &&& c) ||| (b &&& c)

/-- One round of a checked pair (R479): equal samples are adopted; differing ones keep the adopted value for up to 2 rounds. -/
def State.pairRound (x y : W64) (s : State) : State :=
  forAll (List.range 52) (fun i s =>
    let bx := x.toNat.testBit i
    let by' := y.toNat.testBit i
    let n := s.divRun i 3
    let put (v : Bool) (s : State) : State :=
      { s with rv.adopted := BitVec.ofNat 64 ((s.rv.adopted.toNat &&& (2 ^ 64 - 1 - 2 ^ i)) ||| atBit i v) }
    if bx = by' then
      let s := if n = 0 then s else
        let s := s.setDiv i 3 0
        if n ≤ 2 then s.rincSat 0x20030 15 0 1 else s
      put bx s
    else
      let s := s.setDiv i 3 (min (n + 1) 3)
      if n ≥ 2 then
        let s := if n = 2 then s.diverged i 3 else s
        put (s.pairDefault i) s
      else s) s

/-- The low 52 inputs; the others are always sampled as 0 (R473). -/
def inputs52 (v : W64) : W64 := BitVec.ofNat 64 (v.toNat % 2 ^ 52)

/-- The samples of the two cores of a checked pair. -/
def State.pairSamples (s : State) (a b c : W64) : W64 × W64 :=
  if s.rv.coreA != .active then (b, c) else if s.rv.coreB != .active then (a, c) else (a, b)

/-- The vector adopted in a round (R474, R479); in split mode core A's own samples (R481). -/
def State.adopt (a b c : W64) (s : State) : State :=
  match s.rv.mode with
  | .split => { s with rv.adopted := a }
  | .pair => let p := s.pairSamples a b c; s.pairRound p.1 p.2
  | .trio =>
    let m := majority a b c
    let s := { s with rv.adopted := m }
    forAll (List.range 52) (fun i s =>
      let v := m.toNat.testBit i
      ((s.trioDiv i 0 (a.toNat.testBit i != v)).trioDiv i 1 (b.toNat.testBit i != v)).trioDiv i 2
        (c.toNat.testBit i != v)) s

end Sys2Proof.Machine
end

