-- ==== Sys2Proof/Machine/PlanLoad.lean ====
section
/-! DEFINITION. Plan loads and switches (R299 to R319, R426, R646) and the HOLD records of a blackout (R73). -/

namespace Sys2Proof.Machine
open Sys2Proof

/-! ## Loads -/

/-- The plan's entry rolled back to its PREV bank (R646). -/
def State.rollPlan (s : State) : State :=
  let x := s.store
  let s := { s with store := x.writeSel (fun b => { b with plan := x.rolled 2 b.plan }) }
  (s.revt 0xC0008 4).raise 228
/-- A load refused: a first load from a TRIAL bank is rolled back, and a first load from PREV follows (R646). -/
def State.refuseLoad (code sec : Nat) (s : State) : State :=
  let roll := s.ldr.first && s.ldr.src = 1 && s.store.sel.isSome && s.store.selOr.plan.trial && code != 0x13
  let s := s.planRefuse code sec
  if roll then s.rollPlan.firstLoad else s
/-- Negotiated transfer rate in tenths of GT/s, by ID_LINK speed code. -/
def rateTenths (n : Nat) : Nat := match n with
  | 1 => 25 | 2 => 50 | 3 => 80 | 4 => 160 | 5 => 320 | _ => 0
/-- T_place in microseconds, rounded up, and whether it is at most 1 850 us (R311). -/
def State.tPlace (s : State) (i : PlanImage) : Nat × Bool :=
  if s.ldr.src = 1 then (150 + ceilDiv i.resbytes 400, decide (i.resbytes ≤ 1700 * 400))
  else
    let r := 48000 * s.hl.width.toNat * rateTenths s.hl.speed.toNat
    (if r = 0 then 0xFFFFF else 150 + ceilDiv (i.resbytes * 5120) r, r != 0 && decide (i.resbytes * 5120 ≤ 1700 * r))
/-- Sections whose bytes are all read. -/
def secsDone (i : PlanImage) (n : Nat) : Nat := (i.secs.filter (fun x => x.offset + x.len ≤ n)).length
/-- The end of SCAN: a first load goes on to PLACE; a switch is staged, placed on paper and armed (R308, R311, R313). -/
def State.scanned (i : PlanImage) (s : State) : State :=
  match s.planScan i with
  | some x => s.refuseLoad x.1 x.2
  | none =>
    if s.ldr.first then { s with ldr.phase := .place }
    else
      let s := { s with ldr.staged := true }
      match s.placement i with
      | .refused c => s.refuseLoad c 0x7FF
      | .ok place _ =>
        let t := s.tPlace i
        let s := { s with ldr.tplace := min t.1 0xFFFFF, ldr.place := place }
        if t.2 then { s with ldr.phase := .armed, ldr.armed := true, ldr.armedAt := s.ao } else s.refuseLoad 0x11 0x7FF
/-- A ply of the plan loader's present phase ends (R304, R305). -/
def State.loadPly (n : Nat) (src build back : Bool) (s : State) : State :=
  match s.ldr.phase with
  | .header =>
    (match s.ldr.img with
     | some i =>
       if !src then s.refuseLoad 0x12 0x7FF
       else match s.planHead s.ldr.cap i with
         | some x => s.refuseLoad x.1 x.2
         | none => { s with ldr.phase := .auth, ldr.bytes := sigEnd i }
     | none => s.refuseLoad 0x12 0x7FF)
  | .auth =>
    (match s.ldr.img with
     | some i => (match s.planAuth i with
       | some x => s.refuseLoad x.1 x.2
       | none => { s with ldr.phase := .scan })
     | none => s)
  | .scan =>
    (match s.ldr.img with
     | some i =>
       if !src then s.refuseLoad 0x12 (secsDone i s.ldr.bytes)
       else
         let b := min i.imglen (s.ldr.bytes + n)
         let s := { s with ldr.bytes := b, ldr.nsec := secsDone i b }
         if b < i.imglen then s else s.scanned i
     | none => s)
  | .place =>
    (match s.ldr.img with
     | some i => (match s.placement i with
       | .refused c => s.refuseLoad c 0x7FF
       | .ok place _ => if build then { s with ldr.phase := .verify, ldr.place := place } else s.refuseLoad 0x10 0x7FF)
     | none => s)
  | .verify =>
    if back then { s with ldr.phase := .armed, ldr.armedAt := s.ao } else s.refuseLoad 0x10 0x7FF
  | _ => s
/-- PLAN_LOAD_PLY (R304, R305): the phase's next ply ends. `n`: source bytes read in it; `src`: the source read well;
`build`: the two builds of the derived tables agree (R301); `back`: the read-back agrees (R302, R303). -/
def execPlanLoadPly (n : Nat) (src build back : Bool) (s : State) : Host.Outcome State Fault Refusal :=
  s.act (State.loadPly n src build back)

/-- PLAN_LOAD (R305, R308, R318, R426): a load starts, a first load where no plan runs and a switch load otherwise; BUSY where
another is in progress. `host`: the registered host copy, where it can be read. -/
def execPlanLoad (tag : Fin 512) (host : Option PlanImage) (s : State) : Host.Outcome State Fault Refusal :=
  s.onTag tag 0x10 (fun c s =>
    if s.ldr.phase != .idle then s.finishTag tag 6 0
    else
      let b := s.store.selOr.plan.bank
      let flash := c.arg 0 % 4 = 0
      let cap := if flash then planBank s.store.density.toNat else c.arg 2
      ({ s.tagActive tag with
         ldr := { Loader.reset with
           phase := .header, src := if flash then 1 else 2, bank := b, img := if flash then s.store.planOf b else host,
           first := s.run.isNone, tag := some tag, target := c.arg 3, cap := cap, refuse := s.ldr.refuse,
           secDetail := s.ldr.secDetail } }).domsOn [0x55])

/-! ## First boundaries and switches -/

/-- The routes of the placement that the load found. -/
def State.loadRoutes (s : State) (i : PlanImage) : List PRoute := match s.placement i with
  | .ok _ rs => rs
  | .refused _ => i.routes
/-- PLAN_FIRST_BOUNDARY (R307, R32): the first AO cycle after VERIFY starts a first-loaded plan. -/
def execPlanFirstBoundary (s : State) : Host.Outcome State Fault Refusal :=
  s.act (fun s =>
    match s.ldr.phase, s.ldr.first, s.ldr.img with
    | .armed, true, some i =>
      if s.dev.state = .planLoad ∨ s.dev.state = .mismatchHold then
        let s := s.advance (s.ldr.armedAt + 1)
        let rs := s.loadRoutes i
        let s := s.loadTag 0 0
        let s := s.drawKey.startPlan i s.ldr.place rs none
        let s := s.revt 0xB0008 0
        if s.dev.state = .planLoad then (s.enterRun.brakeFirst.startTests).evalChans else s.evalChans
      else s
    | _, _, _ => s)

/-- Boundary B of the armed switch (R313): the first hyperperiod boundary after arming, at or after the target. -/
def nextBoundary (r : Running) (armed target : Nat) : Nat :=
  let t := max (armed + 1) target
  r.anchor + ceilDiv (t - r.anchor) r.img.hper * r.img.hper
/-- PLAN_SWITCH_BOUNDARY (R313, R314): boundary B of an armed switch. -/
def execPlanSwitchBoundary (s : State) : Host.Outcome State Fault Refusal :=
  s.act (fun s =>
    match s.ldr.phase, s.ldr.first, s.run with
    | .armed, false, some r =>
      if s.dev.state = .run ∨ s.dev.state = .degraded ∨ s.dev.state = .mismatchHold then
        (s.advance (nextBoundary r s.ldr.armedAt s.ldr.target)).boundaryB
      else s
    | _, _, _ => s)

/-- A switch fails inside its blackout (R316): its plan is cleared away, PLAN_SWITCH is raised, and a first load from the
active flash plan bank starts. -/
def State.switchFail (s : State) : State :=
  let s := s.loadTag 13 0x14
  let s := { s with ldr := { s.ldr with refuse := 0x14, secDetail := 0x7FF }, dev.blackout := false }
  let s := (((s.revt 0xB0008 1).revt 0xB0008 3).raise 225).raise 224
  (s.loaderIdle.stopPlan.planDomsOff.planEvt.evalChans).firstLoad
/-- The blackout's length, in microseconds rounded up (PL_BLKLAST, PL_BLKMAX). -/
def State.blackoutDone (n : Nat) (s : State) : State :=
  (s.rset 0xB0044 (BitVec.ofNat 32 (min 65535 (ceilDiv n 50)))).rmax 0xB0048 15 0 (ceilDiv n 50)
/-- PLAN_SWITCH_PLACED (R314 steps 6 and 7, R316): placement and read-back end at AO count `at_`; the next AO cycle is B', no later than
B + 2 ms (R32). `good`: every section passed tag, digest and read-back again and the source held. -/
def execPlanSwitchPlaced (at_ : Nat) (good : Bool) (s : State) : Host.Outcome State Fault Refusal :=
  s.act (fun s =>
    match s.ldr.phase, s.ldr.img, s.run with
    | .blackout, some i, some r =>
      if at_ + 1 > s.ldr.b + 2 * Config.aoPerMs then s
      else if !good then (s.advance at_).switchFail
      else
        let s := s.advance at_
        let s := s.advance (s.ao + 1)
        let n := s.ao - s.ldr.b
        let rs := s.loadRoutes i
        let s := s.loadTag 0 0
        let s := (s.startPlan i s.ldr.place rs (some r.img)).blackoutDone n
        let s := s.revt 0xB0008 2
        if s.dev.state = .planLoad then ({ s with dev.blackout := false }).enterRun.evalChans else s.evalChans
    | _, _, _ => s)
/-- PLAN_SWITCH_TIMEOUT (R314 step 8, R316): B + 2 ms without completed placement. -/
def execPlanSwitchTimeout (s : State) : Host.Outcome State Fault Refusal :=
  s.act (fun s => if s.ldr.phase = .blackout then (s.advance (s.ldr.b + 2 * Config.aoPerMs)).switchFail else s)

/-! ## HOLD records (R73, R88) -/

/-- The next point of a stream's frame grid inside the blackout: of its last admitted frame, or from B (R73). -/
def State.holdPoint (s : State) (p : PStream) : Nat :=
  let last := mget 0 s.vd.holdAt p.num
  match (s.stream p.num).lastFrame with
  | some f =>
    let from_ := if last = 0 then s.ldr.b else last + 1
    f.2 + max 1 (ceilDiv (from_ - f.2) p.period) * p.period
  | none => if last = 0 then s.ldr.b + p.period else last + p.period
/-- HOLD_RECORD (R73, R88): the next point of stream `n`'s frame grid in the blackout comes. -/
def execHoldRecord (n : Stream) (s : State) : Host.Outcome State Fault Refusal :=
  s.act (fun s =>
    match s.ldr.phase, s.pstream n with
    | .blackout, some p =>
      let t := s.holdPoint p
      if t > s.ldr.b + 2 * Config.aoPerMs then s
      else
        let s := s.advance t
        let s := { s with vd.holdAt := mput 0 s.vd.holdAt n t }
        let b := s.recBase 3 n
        s.journal { b with
          src := true, flags := b.flags ||| BitVec.ofNat 8 (8 * b2n (s.stream n).hStale),
          frame := if s.rget64 (0x91000 + 32 * n) = 0 then 0xFFFFFFFF else BitVec.ofNat 32 (s.gs n).nextNum - 1,
          plan := match s.run with | some x => x.img.planId.truncate 16 | none => 0,
          vtime := vtimeOf s.devNow, age := BitVec.ofNat 32 (s.fbAge n), fval := s.fbVal n }
    | _, _ => s)

end Sys2Proof.Machine
end

