-- ==== Sys2Proof/Machine/Updates.lean ====
section
/-! DEFINITION. Update commands (R647 to R653): download, verify, activation and confirmation of reeve firmware (kind 0),
porter firmware (kind 1) and plan images (kind 2). -/

namespace Sys2Proof.Machine
open Sys2Proof

/-! ## Outcomes -/

/-- An update command fails (R652): STATUS UPDATE with its DETAIL, recorded in ST_LASTERR; UPDATE_FAIL is raised, and a flash
failure shown. -/
def State.updFail (t k code refusal : Nat) (s : State) : State :=
  let d := code + 256 * refusal + 65536 * k
  let s := if code = 2 then s.revt 0xC0008 6 else s
  ((s.rset 0xC003C (BitVec.ofNat 32 d)).revt 0xC0008 5).raise 227 |>.finishTag t 15 d
/-- An update command of kind `k` is no longer in progress (R652 IN_PROGRESS). -/
def State.updEnd (k : Nat) (s : State) : State := { s with store.busy := mput 0 s.store.busy k 0 }
/-- An update command of kind `k` begins in plies under tag `t`. -/
def State.updBegin (t k : Nat) (s : State) : State :=
  { s.tagActive t with store.busy := mput 0 s.store.busy k (t + 1) }
/-- A read of flash fails its buffer check twice (R636). -/
def State.flashReadFail (s : State) : State := (s.revt 0xC0008 6).raise 226

/-- Bank size of a kind (R637, R638). -/
def Store.bankSize (x : Store) (k : Nat) : Nat := if k = 2 then planBank x.density.toNat else fwBankSize k
/-- The inactive bank of a kind. -/
def Store.inactive (x : Store) (k : Nat) : Bool := !(x.selOr.entry k).bank
/-- A firmware bank's content set. -/
def Store.setFw (k : Nat) (bank : Bool) (i : Option FwImage) (x : Store) : Store := match k, bank with
  | 0, false => { x with reeveA := i } | 0, true => { x with reeveB := i }
  | _, false => { x with porterA := i } | _, true => { x with porterB := i }
/-- A plan bank's content set. -/
def Store.setPlan (bank : Bool) (i : Option PlanImage) (x : Store) : Store :=
  if bank then { x with planB := i } else { x with planA := i }
/-- The inactive bank of a kind erased: it holds no image and its verified flag falls (R648, R649). -/
def Store.eraseBank (k : Nat) (x : Store) : Store :=
  let x := { x with verified := x.verified &&& ~~~(BitVec.ofNat 3 (2 ^ k)) }
  if k = 2 then x.setPlan (x.inactive 2) none else x.setFw k (x.inactive k) none

/-- The stage of kind `k` under tag `t` runs `f`, unless the kind is TRIAL and the stage is no confirmation, or another
update of the kind is in progress (R647, R652). -/
def State.updStage (t : Nat) (confirm : Bool) (f : Nat → State → State) (c : Tag) (s : State) : State :=
  let k := c.arg 0 % 4
  if !confirm && (s.store.selOr.entry k).trial then s.updFail t k 0xA 0
  else if mget 0 s.store.busy k ≠ 0 then s.updFail t k 0xF 0
  else f k s

/-! ## Download and verify -/

/-- UPD_DOWNLOAD (R647, R648): the inactive bank is erased, and its plies begin. A length of 0 erases and completes. -/
def execUpdDownload (tag : Fin 512) (s : State) : Host.Outcome State Fault Refusal :=
  s.onTag tag 0x18 (fun c s => s.updStage tag false (fun k s =>
    if c.arg 2 > s.store.bankSize k then s.updFail tag k 1 0
    else
      let s := { s with store := s.store.eraseBank k }
      if s.store.density = 0 ∨ !s.dev.phys.flashOk then s.updFail tag k 2 0
      else if c.arg 2 = 0 then (s.revt 0xC0008 0).finishTag tag 0 0
      else s.updBegin tag k) c)
/-- The last ply of a download programs bytes 0 to 63 (R648): the bank holds the image. -/
def State.downloaded (t k : Nat) (fw : Option FwImage) (pl : Option PlanImage) (s : State) : State :=
  let x := s.store
  let s := { s with store := if k = 2 then x.setPlan (x.inactive 2) pl else x.setFw k (x.inactive k) fw }
  (((s.rset 0xC0040 0).updEnd k).revt 0xC0008 0).finishTag t 0 0

/-- UPD_VERIFY (R647, R649): its plies begin. -/
def execUpdVerify (tag : Fin 512) (s : State) : Host.Outcome State Fault Refusal :=
  s.onTag tag 0x19 (fun c s => s.updStage tag false (fun k s => s.updBegin tag k) c)
/-- A plan's refusal as an update code: FORMAT, KEY, SIGNATURE or PLAN_CHECK with the refusal code (R652). -/
def planUpdCode (refusal : Nat) : Nat × Nat := match refusal with
  | 1 | 2 => (3, 0)
  | 4 => (4, 0)
  | 5 => (5, 0)
  | c => (8, c)
/-- Why the image in the inactive bank of a kind fails (R641, R649): none where it passes. -/
def State.verifyWhy (k : Nat) (s : State) : Option (Nat × Nat) :=
  let x := s.store
  let b := x.inactive k
  if k = 2 then
    (match x.planOf b with
     | some i => (s.planCheck (x.bankSize 2) i).map (fun r => planUpdCode r.1)
     | none => some (3, 0))
  else
    (match x.fw k b with
     | some i => (x.fwWhy k i).map (fun c => (c, 0))
     | none => some (3, 0))
/-- The last ply of a verify ends (R649). -/
def State.verified (t k : Nat) (s : State) : State :=
  let s := (s.rset 0xC0040 0).updEnd k
  match s.verifyWhy k with
  | some w => s.updFail t k w.1 w.2
  | none =>
    let x := s.store
    let s := { s with store.verified := x.verified ||| BitVec.ofNat 3 (2 ^ k),
                      store.recorded := mput (0, 0) x.recorded k (x.stored k (x.inactive k)) }
    (s.revt 0xC0008 1).finishTag t 0 0

/-! ## Activation and confirmation -/

/-- A load reads the active plan bank, or a switch staged from it is armed (R650). -/
def State.planBusy (s : State) : Bool := s.ldr.phase != .idle && s.ldr.src = 1
/-- The signature of the image in the inactive bank verifies under its key (R650). -/
def State.resigned (k : Nat) (s : State) : Bool :=
  let x := s.store
  if k = 2 then (match x.planOf (x.inactive 2) with | some i => s.planKeyOk i && planSigOk i | none => false)
  else (match x.fw k (x.inactive k) with
    | some i => i.keyOk && !Config.revoked.toNat.testBit i.slot.toNat && i.sigOk
    | none => false)
/-- UPD_ACTIVATE (R647, R650): the inactive bank comes into force on TRIAL. -/
def execUpdActivate (tag : Fin 512) (s : State) : Host.Outcome State Fault Refusal :=
  s.onTag tag 0x1A (fun c s => s.updStage tag false (fun k s =>
    let s := s.leaseCheck
    let x := s.store
    let h := x.stored k (x.inactive k)
    if !x.verified.toNat.testBit k then s.updFail tag k 9 0
    else if !s.rv.privHeld then s.updFail tag k 0xD 0
    else if k = 2 && s.planBusy then s.updFail tag k 0xE 0
    else if !s.resigned k then s.updFail tag k 5 0
    else if mget (0, 0) x.recorded k ≠ h then s.updFail tag k 6 0
    else if !s.dev.phys.flashOk then s.updFail tag k 0x10 0
    else
      let e := x.selOr.entry k
      let e' := { e with bank := !e.bank, trial := true, prev := e.bank, len := h.1, hash := h.2 }
      let x := { x.writeSel (SelBlock.setEntry k e') with verified := x.verified &&& ~~~(BitVec.ofNat 3 (2 ^ k)) }
      (({ s with store := x }).revt 0xC0008 2).finishTag tag 0 0) c)

/-- The kind's image in force is healthy (R651). -/
def State.confirmHealthy (k : Nat) (s : State) : Bool :=
  if k = 2 then
    (let b := s.store.selOr.plan.bank
     match s.run, s.store.planOf b with
     | some r, some i => r.img.planId = i.planId && r.fromBank = some b
     | _, _ => false)
  else s.dev.bootHealthy
/-- UPD_CONFIRM (R647, R651, R653): a TRIAL entry is CONFIRMED and the fuse count of a firmware kind raised. -/
def execUpdConfirm (tag : Fin 512) (s : State) : Host.Outcome State Fault Refusal :=
  s.onTag tag 0x1B (fun c s => s.updStage tag true (fun k s =>
    let s := s.leaseCheck
    let x := s.store
    let e := x.selOr.entry k
    if !e.trial then s.updFail tag k 0xB 0
    else if !s.rv.privHeld then s.updFail tag k 0xD 0
    else if !s.confirmHealthy k then s.updFail tag k 0xC 0
    else if !s.dev.phys.flashOk then s.updFail tag k 0x10 0
    else
      let x := x.writeSel (SelBlock.setEntry k { e with trial := false })
      let svn := match k, x.running k with | 2, _ => 0 | _, some i => i.svn | _, none => 0
      let x := match k with
        | 0 => { x with svnR := max x.svnR svn }
        | 1 => { x with svnP := max x.svnP svn }
        | _ => x
      let s := (({ s with store := x }).revt 0xC0008 3).finishTag tag 0 0
      match s.store.running 0, s.store.running 1 with
      | some r, some p => if k != 2 && (s.pairCheck r p).1 != 0 then s.undegrade (fun d => { d with untestedPair := false }) else s
      | _, _ => s) c)

end Sys2Proof.Machine
end

