-- ==== Sys2Proof/Machine/RingCmds.lean ====
section
/-! DEFINITION. Ring doorbells, fetching and checking commands (R395 to R397, R409 to R423), the short commands (R398, R412,
R415, R427, R434), the reeve's ring path (R414, R486, R492), completions and tally accesses (R430 to R436). -/

namespace Sys2Proof.Machine
open Sys2Proof

/-! ## Doorbells -/

/-- The doorbell slot of a ring is mapped (R389, R376). -/
def slotMapped (f r : Nat) : Bool := !(f = 0 && decide (1008 ≤ r))
/-- RD_PI_WRITE (R395, R396): function `f` writes `v` to RD_PI of its ring `r`. -/
def execRdPiWrite (f : Fn) (r : Fin 1024) (v : W32) (s : State) : Host.Outcome State Fault Refusal :=
  s.act (fun s =>
    if !s.fns.contains f.val then s
    else if !slotMapped f r then s.accErr .unmap (.host f) (0x4000 + 16 * r.val) true
    else s.ringPi (ringId f r) v)
/-- RD_CI_WRITE (R395, R396): function `f` writes `v` to RD_CI of its ring `r`. -/
def execRdCiWrite (f : Fn) (r : Fin 1024) (v : W32) (s : State) : Host.Outcome State Fault Refusal :=
  s.act (fun s =>
    if !s.fns.contains f.val then s
    else if !slotMapped f r then s.accErr .unmap (.host f) (0x4004 + 16 * r.val) true
    else s.ringCi (ringId f r) v)

/-! ## The checks of a descriptor (R409 to R413) -/

/-- An opcode of R412. -/
def opcListed (o : Nat) : Bool := [1, 2, 3, 4, 5, 6, 7, 0x10, 0x18, 0x19, 0x1A, 0x1B, 0x20].contains o
/-- An opcode reserved to F00 (R412). -/
def opcF00 (o : Nat) : Bool := [7, 0x10, 0x18, 0x19, 0x1A, 0x1B, 0x20].contains o
/-- A command is served in the device state (R413). `ingress`: a RING_CONFIG of an INGRESS ring, of class Stream. -/
def opcServed (d : DevState) (o : Nat) (ingress : Bool) : Bool :=
  let stream := o = 4 || o = 5 || (o = 3 && ingress)
  let maint := decide (0x10 ≤ o)
  match d with
  | .planLoad | .run | .degraded => true
  | .mismatchHold => !stream
  | .safeHold => !stream && !maint
  | .alarm => o = 1
  | _ => false
/-- The bits of ARG0 to ARG4 that an opcode uses (R412). -/
def opcMasks (o : Nat) : List Nat := match o with
  | 2 => [0xFFFF01FF, 0, 0, 0, 0]
  | 3 => [0xFFFF03FF, all64, all64, 0, 0]
  | 4 => [0x3F, all64, 0x1FF, 0x103FF, 0]
  | 5 => [0xFF, all64, 0, 0, 0]
  | 6 => [0x103FF, 0xFFFFFFFF, 0xFFFFFFFF, 0, 0]
  | 7 => [all64, all64, 0xFFFFFFFF, 0, 0]
  | 0x10 => [3, all64, all64, all64, 0]
  | 0x18 => [3, all64, all64, 0, 0]
  | 0x19 | 0x1A | 0x1B => [3, 0, 0, 0, 0]
  | 0x20 => [0xFFFF, all64, all64, all64, all64]
  | _ => [0, 0, 0, 0, 0]
/-- The operand ranges of an opcode (R412, R425, R398's last row). -/
def opcRanges (o : Nat) (d : BitVec 512) : Bool := match o with
  | 3 => (RingArgs.of (reqArg d 0) (reqArg d 1) (reqArg d 2)).ok
  | 4 => reqArg d 1 % 1024 = 0 && decide (reqArg d 2 ≤ 256)
  | 7 => decide (reqArg d 2 ≤ 16777216) && decide (reqArg d 0 + reqArg d 2 ≤ 16777216)
  | 0x10 => decide (reqArg d 0 ≤ 1) && reqArg d 1 % 64 = 0
  | 0x18 | 0x19 | 0x1A | 0x1B => reqArg d 0 != 3
  | _ => true
/-- Reserved bits and bytes 0, TALLY in range, SSEQ only for SAFE (R409). -/
def descFieldsOk (o : Nat) (d : BitVec 512) : Bool :=
  reqField d 1 1 / 8 = 0 && decide (reqField d 4 2 < 1024) && (reqField d 1 1 / 4 % 2 = 1 || reqField d 4 2 = 0)
  && reqField d 6 2 = 0 && reqField d 48 8 = 0 && (o = 0x20 || reqField d 56 4 = 0)
  && (List.range 5).all (fun i => reqArg d i ||| lget 0 (opcMasks o) i = lget 0 (opcMasks o) i)
/-- The first status of R411 that applies to a descriptor of function `f`; none where it passes. -/
def State.descCheck (s : State) (f : Nat) (d : BitVec 512) : Option Nat :=
  let o := reqField d 0 1
  let ring := reqArg d 0 % 1024
  if !reqCrcOk d then some 3
  else if !opcListed o then some 1
  else if (f ≠ 0 && opcF00 o) || (f = 0 && o = 3 && decide (1008 ≤ ring)) then some 4
  else if !opcServed s.dev.state o (reqArg d 0 / 2 ^ 16 % 256 = 3) then some 5
  else if !descFieldsOk o d || !opcRanges o d then some 2
  else none

/-- A fetch may take a descriptor from global ring `g` (R360, R393, R413). -/
def State.canFetch (s : State) (g : Nat) : Bool :=
  let r := s.ring g
  s.porterLive && s.dev.state != .cold && s.dev.state != .boot && s.abiOk (g / 1024) && s.fns.contains (g / 1024)
  && r.size != 0 && r.type = 1 && r.pi != r.ci && !internalRing g
/-- The next descriptor of ring `g` fetched under tag `t` and checked (R411, R420). -/
def State.take (g t : Nat) (d : BitVec 512) (s : State) : State :=
  let f := g / 1024
  let r := s.ring g
  let c : Tag :=
    { fn := f, ring := g % 1024, desc := leBytes 64 d.toNat, st := .ready, xfer := 0, info := 0, abortBy := [], moved := 0,
      due := none, order := s.q.fetched, fetchAo := s.ao, cpl := ringId f r.bind, fin := 0 }
  let s := s.setRing g { r with ci := r.ci + 1 }
  let s := { s.setTag t (some c) with q.fetched := s.q.fetched + 1, q.paused := mput false s.q.paused g false }
  match s.descCheck f d with
  | some st => s.finishTag t st 0
  | none => s
/-- The ring core visits command ring `g`, whose next descriptor is `desc` (R397, R411, R420 to R423). -/
def State.fetchCmd (g : Nat) (desc : BitVec 512) (err : Bool) (s : State) : State :=
  if !s.canFetch g then s
  else if !(s.ring g).scrcOk then s.ringKill g 3
  else
    match s.freeTag (g / 1024) with
    | none => { s with q.paused := mput false s.q.paused g true }
    | some t =>
      if err then s.ringKill g 4
      else if (desc.toNat / 2 ^ 9).testBit 0 && s.heldTags.any (fun p => ringId p.2.fn p.2.ring = g) then
        { s with q.paused := mput false s.q.paused g true }
      else s.take g t desc
/-- COMMAND_FETCH (R397, R411, R420 to R423): the porter's ring core visits ring `ring` of function `f`, whose next descriptor
is `desc`; `err`: the read ends in an error completion. -/
def execCommandFetch (f : Fn) (ring : Fin 1024) (desc : BitVec 512) (err : Bool) (s : State) :
    Host.Outcome State Fault Refusal :=
  s.act (State.fetchCmd (ringId f ring) desc err)

/-- COMPLETION_COMMIT (R397, R400, R401, R419, R423): a slot is allocated for the completion of the command that holds `tag`;
`err`: its record's write ends in an error. -/
def execCompletionCommit (tag : Fin 512) (err : Bool) (s : State) : Host.Outcome State Fault Refusal :=
  s.act (fun s => if s.porterLive then s.commitTag tag err else s)

/-! ## Short commands -/

/-- NOP (R412). -/
def execCmdNop (tag : Fin 512) (s : State) : Host.Outcome State Fault Refusal :=
  s.onTag tag 1 (fun _ s => s.finishTag tag 0 0)

/-- An opcode that ABORT can stop (R412). -/
def opcAbortable (o : Nat) : Bool := [6, 7, 0x10, 0x18, 0x19].contains o
/-- The ABORT under tag `t` waits for the completion of tag `x`, whose command is `c` (R428). -/
def State.abortWaits (t x : Nat) (c : Tag) (s : State) : State :=
  (s.setTag x (some { c with abortBy := c.abortBy ++ [t] })).tagActive t
/-- ABORT (R427 to R429, R317). -/
def execAbort (tag : Fin 512) (s : State) : Host.Outcome State Fault Refusal :=
  s.onTag tag 2 (fun a s =>
    let x := a.arg 0 % 512
    let no (st : Nat) := s.finishTag tag st x
    match s.tag x with
    | none => no 9
    | some c =>
      let w := s.abortWaits tag x c
      if c.fn ≠ a.fn ∨ c.utag ≠ a.arg 0 / 2 ^ 16 % 2 ^ 16 then no 9
      else match c.st with
      | .done _ _ => no 8
      | .ready => if opcAbortable c.opc then w.finishTag x 7 (if c.opc = 0x10 then 0x13 else 0) else no 0xA
      | .active =>
        if !opcAbortable c.opc then no 0xA
        else if c.opc = 6 then w.finishTag x 7 0
        else if c.opc = 0x10 then
          (if s.ldr.phase = .blackout then (no 8).revt 0xB0008 5 else w.refuseLoad 0x13 0x7FF)
        else w)

/-- RING_CONFIG (R398, R400). -/
def execRingConfig (tag : Fin 512) (s : State) : Host.Outcome State Fault Refusal :=
  s.onTag tag 3 (fun c s =>
    let r := s.ringConfig c.fn (RingArgs.of (c.arg 0) (c.arg 1) (c.arg 2))
    r.2.finishTag tag r.1 0)

/-- REVEAL_SET (R415): a registration, or its clearing with 0 slots. -/
def execRevealSet (tag : Fin 512) (s : State) : Host.Outcome State Fault Refusal :=
  s.onTag tag 4 (fun c s =>
    let r : Option RevReg := if c.arg 2 = 0 then none else some
      { addr := BitVec.ofNat 64 (c.arg 1), slots := c.arg 2, tally := c.arg 3 % 1024, tly := (c.arg 3).testBit 16, k := 0 }
    { s with q.revReg := mput none s.q.revReg (64 * c.fn + c.arg 0 % 64) r }.finishTag tag 0 0)

/-- DIGEST_SET (R141, R416, R417): a weight region's principal address, 0 to clear. -/
def execDigestSet (tag : Fin 512) (s : State) : Host.Outcome State Fault Refusal :=
  s.onTag tag 5 (fun c s =>
    { s with q.digReg := mput 0 s.q.digReg (256 * c.fn + c.arg 0 % 256) (BitVec.ofNat 64 (c.arg 1)) }.finishTag tag 0 0)

/-- A wait put in its place, in order of fetch (R435). -/
def State.insertWait (w : Wait) (order : Nat) (s : State) : List Wait :=
  let before (x : Wait) : Bool := match s.tag x.tag with | some c => decide (c.order < order) | none => true
  s.q.waits.filter before ++ [w] ++ s.q.waits.filter (fun x => !before x)
/-- TALLY_WAIT (R434 to R436): satisfied at once for a count of 0, else listed and its tally's list tested. -/
def execTallyWait (tag : Fin 512) (s : State) : Host.Outcome State Fault Refusal :=
  s.onTag tag 6 (fun c s =>
    let y := ringId c.fn (c.arg 0 % 1024)
    let n := c.arg 1 % 2 ^ 32
    if n = 0 then (s.tagInfo tag (s.tally y).toNat).finishTag tag 0 0
    else
      let us := c.arg 2 % 2 ^ 32
      let w : Wait := { tag := tag, tally := y, take := (c.arg 0).testBit 16, count := BitVec.ofNat 32 n }
      let s := { s with q.waits := s.insertWait w c.order }
      let s := s.setTag tag (some { c with
        st := .active, due := if us = 0 then none else some (c.fetchAo + us * Config.aoPerUs) })
      s.tallyTested y)
/-- TALLY_WAIT_TIMEOUT (R436): the time of a wait that is still listed ends. -/
def execTallyWaitTimeout (tag : Fin 512) (s : State) : Host.Outcome State Fault Refusal :=
  s.act (fun s => match s.tag tag with
    | some c => (match c.st, c.due with
      | .active, some d => if c.opc = 6 then (s.advance d).finishTag tag 0xB 0 else s
      | _, _ => s)
    | none => s)

/-! ## The reeve's ring path -/

/-- SAFE (R414, R486): the descriptor enters the request ring, while an entry is free; `flip`: bits corrupted on the way. -/
def execSafe (tag : Fin 512) (flip : BitVec 512) (s : State) : Host.Outcome State Fault Refusal :=
  s.onTag tag 0x20 (fun c s =>
    if s.rv.reqRing.length ≥ 64 then s
    else
      let d := BitVec.ofNat 512 (leNat c.desc) ^^^ flip
      ({ s.tagActive tag with rv.reqRing := s.rv.reqRing ++ [(d, tag.val)] }).drain)
/-- SAFE_ANSWER (R491, R492): the porter takes the next answer; `corrupt`: its ACRC does not match as read. -/
def execSafeAnswer (corrupt : Bool) (s : State) : Host.Outcome State Fault Refusal :=
  s.act (fun s =>
    match s.rv.ansRing with
    | [] => s
    | a :: t =>
      if !s.porterLive then s
      else
        let s := { s with rv.ansRing := t }
        let st := a.1.toNat / 2 ^ 48 % 256
        if corrupt then (s.raise 10).finishTag a.2 0xE 1
        else if st = 0 then (s.tagInfo a.2 (a.1.toNat / 2 ^ 128 % 2 ^ 64)).finishTag a.2 0 0
        else s.finishTag a.2 0xE st)

/-! ## Tally accesses -/

/-- TY_ADD (R431): function `f` adds `v` to its tally `t`. -/
def execTyAdd (f : Fn) (t : Fin 1024) (v : W32) (s : State) : Host.Outcome State Fault Refusal :=
  s.act (fun s => if s.fns.contains f.val then s.tallyPut (ringId f t) (s.tally (ringId f t) + v) else s)
/-- TY_TAKE (R433): a read of function `f`'s TY_TAKE of tally `t`: it returns the value and takes 1 where it is not 0. -/
def execTyTake (f : Fn) (t : Fin 1024) (s : State) : Host.Outcome State Fault Refusal :=
  s.act (fun s =>
    if !s.fns.contains f.val then s
    else
      let v := s.tally (ringId f t)
      let s := s.emit (.readData (fnAddr f (0x8008 + 16 * t.val)) v)
      if v = 0 then s else s.tallyPut (ringId f t) (v - 1))
/-- TY_SET: function `f` sets its tally `t` to `v`. -/
def execTySet (f : Fn) (t : Fin 1024) (v : W32) (s : State) : Host.Outcome State Fault Refusal :=
  s.act (fun s => if s.fns.contains f.val then s.tallyPut (ringId f t) v else s)

/-- VECTOR_MODERATION_END (R402): MOD us after a ring's last signal, the events that waited give one signal. -/
def execVectorModerationEnd (f : Fn) (ring : Fin 1024) (s : State) : Host.Outcome State Fault Refusal :=
  let g := ringId f ring
  s.act (fun s =>
    let r := s.ring g
    match r.sigPend, r.lastSig with
    | true, some t =>
      let s := s.advance (t + r.mod * Config.aoPerUs)
      (s.setRing g { r with sigPend := false, lastSig := some s.ao }).msix f r.vec
    | _, _ => s)

end Sys2Proof.Machine
end

