-- ==== Sys2Proof/Machine/Plies.lean ====
section
/-! DEFINITION. Commands in plies (R424, R425, R428, R429, R648, R649): DMA_OUT, UPD_DOWNLOAD and UPD_VERIFY on the porter's
ply core. -/

namespace Sys2Proof.Machine
open Sys2Proof

/-- DMA_OUT (R425): of length 0 it completes at once; else its plies begin. -/
def execDmaOut (tag : Fin 512) (s : State) : Host.Outcome State Fault Refusal :=
  s.onTag tag 7 (fun c s => if c.arg 2 = 0 then s.finishTag tag 0 0 else s.tagActive tag)

/-- The commands in plies under way, oldest fetch first. -/
def State.plyTags (s : State) : List (Nat × Tag) :=
  (s.heldTags.filter (fun p => p.2.st = .active && [7, 0x18, 0x19].contains p.2.opc)).mergeSort
    (fun a b => decide (a.2.order ≤ b.2.order))
/-- The tag whose ply is next: of the 8 active commands, round robin by ascending tag (R424). -/
def State.plyNext (s : State) : Option (Nat × Tag) :=
  let l := (if s.porterLive then s.plyTags.take 8 else []).mergeSort (fun a b => decide (a.1 ≤ b.1))
  match l.find? (fun p => decide (s.q.plyLast < p.1)) with
  | some p => some p
  | none => l.head?

/-- The command of tag `t` has processed `n` more bytes, `x` of them moved. -/
def State.plyMoved (t n x : Nat) (s : State) : State := match s.tag t with
  | some c => s.setTag t (some { c with moved := c.moved + n, xfer := c.xfer + x })
  | none => s
/-- The end of a ply that was not the last: an abort takes effect (R427 to R429). -/
def State.plyAbort (t : Nat) (s : State) : State := match s.tag t with
  | some c => if c.abortBy = [] then s else s.finishTag t 7 0
  | none => s

/-- A ply of DMA_OUT (R425): at most 524 288 B copied; `unc`: an uncorrectable word found after so many of them. -/
def State.dmaPly (t : Nat) (c : Tag) (unc : Option Nat) (s : State) : State :=
  let a := c.arg 0 + c.moved
  let m := min 524288 (c.arg 2 - c.moved)
  let bad := match unc with | some k => decide (k < m) | none => false
  let n := match unc with | some k => min m k | none => m
  let s := if n = 0 then s else
    { s.emit (.dma c.fn (BitVec.ofNat 64 (c.arg 1 + c.moved)) (s.ledgerRead a n)) with freeCtr := s.freeCtr + n }
  let s := s.plyMoved t n n
  if bad then
    (s.raiseWith 129 false { addr := a + n, init := 0x40, acc := 0, unit := ledgerBank (a + n) }).finishTag t 0xC 0
  else if c.moved + m ≥ c.arg 2 then s.finishTag t 0 0
  else s.plyAbort t
/-- A ply of UPD_DOWNLOAD (R648): `n` bytes programmed; `err`: the host read fails; `flash`: an erase or program fails. -/
def State.downPly (t : Nat) (c : Tag) (n : Nat) (err flash : Bool) (fw : Option FwImage) (pl : Option PlanImage)
    (s : State) : State :=
  let k := c.arg 0 % 4
  if err then ((s.updEnd k).raiseU 199 c.fn).finishTag t 0xC 0
  else if flash then (s.updEnd k).updFail t k 2 0
  else
    let m := min n (c.arg 2 - c.moved)
    let s := (s.plyMoved t m m).rset 0xC0040 (BitVec.ofNat 32 (ceilDiv (c.moved + m) 65536))
    if c.moved + m ≥ c.arg 2 then s.downloaded t k fw pl
    else if c.abortBy = [] then s else (s.updEnd k).plyAbort t
/-- A ply of UPD_VERIFY (R649): `n` bytes read; `flash`: a read fails twice (R636). -/
def State.verifyPly (t : Nat) (c : Tag) (n : Nat) (flash : Bool) (s : State) : State :=
  let k := c.arg 0 % 4
  let len := (s.store.stored k (s.store.inactive k)).1
  if flash then ((s.updEnd k).flashReadFail).updFail t k 2 0
  else
    let s := (s.plyMoved t n 0).rset 0xC0040 (BitVec.ofNat 32 (ceilDiv (c.moved + n) 65536))
    if c.moved + n ≥ len then s.verified t k
    else if c.abortBy = [] then s else (s.updEnd k).plyAbort t
/-- The ply core's next ply ends (R424). -/
def State.ply (n : Nat) (err flash : Bool) (unc : Option Nat) (fw : Option FwImage) (pl : Option PlanImage) (s : State) : State :=
  match s.plyNext with
  | none => s
  | some (t, c) =>
    let s := { s with q.plyLast := t }
    match c.opc with
    | 7 => s.dmaPly t c unc
    | 0x18 => s.downPly t c n err flash fw pl
    | _ => s.verifyPly t c n flash
/-- PLY (R424): the ply core's next ply ends. `n`: bytes it processed; `err`, `flash`, `unc`: how it failed; `fw`, `pl`: the
image that a download's last ply leaves in the bank. -/
def execPly (n : Nat) (err flash : Bool) (unc : Option Nat) (fw : Option FwImage) (pl : Option PlanImage) (s : State) :
    Host.Outcome State Fault Refusal :=
  s.act (State.ply n err flash unc fw pl)

end Sys2Proof.Machine
end

