-- ==== Sys2Proof/Machine/Gate.lean ====
section
/-! DEFINITION. The stream gate (R320 to R354) with golden frames (R138, R343, R344, R708) and the digest assay (R141 to
R143): packets, admission, closing, canaries, forwarding. -/

namespace Sys2Proof.Machine
open Sys2Proof

/-! ## Frames -/

/-- A frame with nothing in it. -/
def Frame.blank (n num : Nat) (golden : Bool) (ao : Nat) : Frame :=
  { stream := n, num := num, golden := golden, fwd := none, ingressAo := ao, closeAo := ao, devSec := 0, devNs := 0,
    isOpen := false, lines := [], nLines := 0, taints := [], tainted := false, buffers := [], mirror := [],
    malformed := false, bankFailed := false, overrun := false, result := none, resultAo := 0, row := 0, reexec := 0,
    canary := 0, env := 0, rows := 0, canaryRec := none, resultRec := [], fbA := none, fbB := none, formed := none,
    lateDone := false, tiles := [], ktiles := [], viol := [], deliveredAo := none, keepUntil := none, dest := none,
    gotLast := false, owner := 0 }
/-- A line of zeros. -/
def zeroLine (n : Nat) : List Byte := List.replicate n 0
/-- The lines that bytes spell, as a frame's lines from line `k`. -/
def putLines (lb : Nat) (m : FMap (List Byte)) (k : Nat) (data : List Byte) : Nat → FMap (List Byte)
  | 0 => m
  | n + 1 => putLines lb (mput [] m k (slice 0 lb data)) (k + 1) (data.drop lb) n
/-- Every line not written filled with zeros (R336). -/
def fillLines (p : PStream) (m : FMap (List Byte)) : FMap (List Byte) :=
  (List.range p.lines).foldl (fun m k => if (mget [] m k).isEmpty then mput [] m k (zeroLine p.lbytes) else m) m
/-- The stored bytes of a frame. -/
def Frame.bytes (p : PStream) (f : Frame) : List Byte := (List.range p.lines).flatMap (fun k => mget [] f.lines k)
/-- Bytes written over a frame's content at an offset. -/
def putBytes (lb : Nat) (m : FMap (List Byte)) : Nat → List Byte → FMap (List Byte)
  | _, [] => m
  | o, b :: t => putBytes lb (mput [] m (o / lb) (lset (mget [] m (o / lb)) (o % lb) b)) (o + 1) t
/-- The canary pattern of a forward (R134), written into the frame's canary regions (R341). -/
def State.canaryWrite (p : PStream) (fwd : Nat) (f : Frame) (s : State) : Frame :=
  match p.patterns[(if p.patterns.isEmpty then 0 else s.ksw 2 p.num 0 (s.xfwd p.num fwd) 0 % p.patterns.length)]? with
  | none => f
  | some x =>
    let lines := (List.range p.regions.length).foldl (fun m k =>
      match p.regions[k]?, x.bytes[k]? with
      | some r, some b => putBytes p.lbytes m r.1 (slice 0 r.2 b)
      | _, _ => m) f.lines
    { f with lines := lines }

/-! ## Forwarding (R341, R343 to R347, R403 to R405) -/

/-- Descriptors in host memory, in the order in which the gate takes them; none: its read ends in an error. -/
abbrev Descs := List (Option (BitVec 256))
/-- A descriptor taken for a frame: the ring, the write-back address, its bytes, and the WST at which the forward ends at
once (0: none). -/
structure Taken where
  ring : Nat
  at_ : Nat
  desc : List Byte
  wst : Nat
  deriving DecidableEq, Repr
/-- The stream's next descriptor taken (R345, R404, R405); none where none is present or its ring fails. -/
def State.nextDesc (p : PStream) (ds : Descs) (s : State) : Option Taken × Descs × State :=
  match s.descReady p.fn p.num with
  | none => (none, ds, s)
  | some g =>
    let r := s.ring g
    let a := r.base.toNat + r.ci.toNat % r.size * 32 + 16
    match ds with
    | none :: t => (none, t, s.ringKill g 4)
    | _ =>
      let d : List Byte := match ds with | some b :: _ => leBytes 32 b.toNat | _ => leBytes 32 0
      let w := s.takeDesc g d (frameBytes p)
      (w.1.map (fun x => { ring := g, at_ := a, desc := d, wst := x }), ds.tail, w.2)
/-- A forward that ends in an error completion is counted (R347). -/
def State.fwdErr (n : Nat) (s : State) : State := (s.rincSat (0x9101C + 32 * n) 31 0 1).revt 0x90008 5
/-- A frame takes the stream's next FWD and its descriptor, and its canaries are written (R341, R345, R353). A frame is put
back into the list of frames. -/
def State.forward (p : PStream) (f : Frame) (d : Taken) (s : State) : State :=
  let g := s.gs p.num
  let w := g.fwdNext
  let g' := { g with fwdNext := (w + 1) % 2 ^ 32, fwdWraps := if w + 1 = 2 ^ 32 then g.fwdWraps + 1 else g.fwdWraps,
                     kaPos := g.kaPos + 1 }
  let f := s.canaryWrite p w { f with fwd := some w, owner := if f.golden then 3 else 2,
                                      dest := if d.wst = 0 then some (d.ring, d.at_, d.desc) else none }
  let s := ((s.setGs p.num g').rset (0x90604 + 8 * p.num) (BitVec.ofNat 32 w)).setFrame f
  if d.wst = 0 then s else (s.writeBack d.ring d.at_ d.desc w 0 d.wst).fwdErr p.num

/-- A golden frame forwarded from its copy (R344). -/
def State.forwardGolden (p : PStream) (d : Taken) (s : State) : State :=
  let g := s.gs p.num
  match g.goldCopies, p.golden[g.kaNext]? with
  | bs :: rest, some x =>
    let f := { Frame.blank p.num (8 * (g.fwdWraps * 2 ^ 32 + g.fwdNext) + g.kaNext) true s.ao with
               lines := putLines p.lbytes [] 0 x.bytes p.lines, buffers := bs, devSec := (secNs s.devNow).1,
               devNs := (secNs s.devNow).2 }
    let s := s.setGs p.num { g with goldCopies := rest, kaNext := g.kaNext + 1 }
    ({ s with vd.frames := s.vd.frames ++ [f] }).forward p f d
  | _, _ => s
/-- A golden frame waits for a position: its copy is in place and golden frames are left (R344). -/
def State.goldenReady (p : PStream) (s : State) : Bool :=
  let g := s.gs p.num
  !g.goldCopies.isEmpty && decide (g.kaNext < p.golden.length)
/-- Golden frames forwarded while `t` holds (R344), at most `k`. -/
def State.goldens (p : PStream) (t : GateS → Bool) : Nat → Descs → State → Descs × State
  | 0, ds, s => (ds, s)
  | k + 1, ds, s =>
    if !s.goldenReady p || !t (s.gs p.num) then (ds, s)
    else match s.nextDesc p ds with
      | (none, ds, s) => (ds, s)
      | (some d, ds, s) => (s.forwardGolden p d).goldens p t k ds
/-- A closed frame forwarded, golden frames at their positions ahead of it; without a descriptor it is never forwarded
(R344, R345). -/
def State.forwardClosed (p : PStream) (f : Frame) (ds : Descs) (s : State) : State :=
  let r := s.goldens p (fun g => g.kaGolden.contains g.kaPos) 8 ds
  match r.2.nextDesc p r.1 with
  | (none, _, s) => (s.rincSat (0x91014 + 32 * p.num) 31 0 1).revt 0x90008 4
  | (some d, _, s) => s.forward p (s.frameNow f) d

/-! ## Opening and closing (R329 to R338) -/

/-- A frame closes (R335, R336): its unwritten lines are filled, it is marked where a cause arose, and it is forwarded.
`last`: its last packet was accepted. -/
def State.closeFrame (p : PStream) (f : Frame) (last : Bool) (ds : Descs) (s : State) : State :=
  let f := s.frameNow f
  let missing := if p.src < 2 then decide (f.nLines < p.active) else decide (f.lines.length < p.lines)
  let taints := f.taints ++ (if missing then [1] else []) ++ (if last then [] else [7])
  let f := { f with isOpen := false, closeAo := s.ao, gotLast := last, taints := taints, lines := fillLines p f.lines }
  ((s.setFrame f).markTainted p.src f).forwardClosed p f ds
/-- The open frame of a stream closes without its last packet. -/
def State.closeOpen (p : PStream) (ds : Descs) (s : State) : State :=
  match s.openFrame p.num with | some f => s.closeFrame p f false ds | none => s

/-- The cause for which a frame is not admitted (R329, R331). -/
def State.dropCause (s : State) (n : Nat) : Option Nat :=
  if s.ldr.phase = .blackout then some 2
  else if s.run.isNone then some 1
  else if (s.gs n).resv.isNone then some 3
  else if (s.gs n).credits = 0 then some 4
  else none
/-- The sequence check (R337): whether a taint arises, the gap, and the number kept for the next check. -/
def seqCheck (p : PStream) (prev : Option Nat) (num : Nat) : Bool × Nat × Option Nat :=
  if p.src < 2 then
    (if !p.seq then (false, 0, prev)
     else
      let keep := if num = 0 then prev else some num
      match prev with
      | none => (false, 0, keep)
      | some q =>
        let d := (num + 65535 - q % 65535) % 65535
        if num = 0 || d = 0 || d ≥ 32768 then (true, 0, keep) else (false, d - 1, keep))
  else
    match prev with
    | none => (false, 0, some num)
    | some q =>
      let d := (num + 2 ^ 32 - q) % 2 ^ 32
      if d = 0 || d ≥ 2 ^ 31 then (true, 0, some num) else (false, d - 1, some num)
/-- A BSF frame's TSTAMP differs from its first-byte device time by more than Z, while device time is synchronised (R338,
R594). -/
def State.isStale (s : State) (p : PStream) (sec ns tstamp : Nat) : Bool :=
  let m := 2 ^ 34 * 1000000000
  let a := (sec % 2 ^ 34 * 1000000000 + ns) % m
  let b := (tstamp / 2 ^ 30 * 1000000000 + tstamp % 2 ^ 30) % m
  let d := (a + m - b) % m
  p.stale != 0 && s.tm.sync == .locked && decide (min d (m - d) > aoNs p.stale)
/-- A stream's first packet (R329, R331, R333, R337, R351): the frame before it closes, and a frame is admitted or dropped.
`num`: the sender's frame number; `tstamp`: a BSF sender's time. -/
def State.openAt (p : PStream) (num : Nat) (tstamp : Option Nat) (ds : Descs) (s : State) : State :=
  let n := p.num
  let s := (s.closeOpen p ds)
  match s.dropCause n with
  | some c => s.dropFrame n c
  | none =>
    let g := s.gs n
    let dev := secNs s.devNow
    let q := seqCheck p g.prev num
    let stale := match tstamp with | some t => s.isStale p dev.1 dev.2 t | none => false
    let bs := match g.resv with | some r => r | none => ([], [])
    let f := { Frame.blank n g.nextNum false s.ao with
               devSec := dev.1, devNs := dev.2, isOpen := true, buffers := bs.1, mirror := bs.2, owner := 1,
               taints := (if q.1 then [8] else []) ++ (if stale then [9] else []) }
    let s := s.setGs n { g with
      credits := g.credits - 1, resv := none, discarding := false, prev := q.2.2, nextNum := (g.nextNum + 1) % 2 ^ 32 }
    let s := { s with vd.frames := s.vd.frames ++ [f] }
    let s := s.setStream n { s.stream n with lastFrame := some (g.nextNum, s.ao) }
    let s := (s.rset (0x90600 + 8 * n) (BitVec.ofNat 32 num)).rinc64 (0x91000 + 32 * n) 1
    let s := if q.2.1 = 0 then s else (s.rincSat (0x91010 + 32 * n) 31 0 q.2.1).revt 0x90008 7
    let s := (s.taskRef 0 n f.num 0 s.ao).taskRef 1 n f.num 0 s.ao
    s.reserve n

/-- A counter of source `c` (SG_DISC 0x08, SG_UNB 0x0C, SG_ORPH 0x10, SG_CORR 0x14, SG_PHY 0x18). -/
def State.srcCount (c off : Nat) (s : State) : State := s.rincSat (0x90100 + 32 * c + off) 31 0 1
/-- A packet of no bound stream (R322). -/
def State.unbound (c : Nat) (s : State) : State := (s.srcCount c 0x0C).revt 0x90008 8
/-- A packet of a stream with no frame open: of a dropped frame (R331), or an orphan (R332). -/
def State.orphan (p : PStream) (s : State) : State :=
  if (s.gs p.num).discarding then s else (s.srcCount p.src 0x10).revt 0x90008 3
/-- A packet written into a frame is counted. -/
def State.pktCount (c : Nat) (s : State) : State := s.rinc64 (0x90100 + 32 * c) 1
/-- The stream bound to a source and key (R321). -/
def State.boundTo (s : State) (c : Nat) (key : Nat × Nat × Nat) : Option PStream :=
  s.run.bind (fun r => r.img.streams.find? (fun p => p.src = c && p.key = key))

/-! ## BSF packets (R323 to R325) -/

/-- The header of a BSF packet is sound for a stream's layout, its payload apart (R325). -/
def bsfOk (p : PStream) (b : List Byte) : Bool :=
  decide (40 ≤ b.length) && beNat (slice 0 2 b) = 0x4246 && leField b 2 1 = 1 && leField b 3 1 < 8 && leField b 5 1 = 0
  && beNat (slice 6 2 b) = 40 && beNat (slice 22 2 b) = 0 && crc32c (slice 0 36 b) = beNat (slice 36 4 b)
  && beNat (slice 20 2 b) = p.lbytes && inR 1 4096 (beNat (slice 18 2 b))
  && decide (beNat (slice 16 2 b) + beNat (slice 18 2 b) ≤ p.lines)
/-- A BLANK packet carries a line that the layout declares active (R325). -/
def bsfBlankBad (p : PStream) (b : List Byte) : Bool :=
  (leField b 3 1).testBit 2 && (List.range' (beNat (slice 16 2 b)) (beNat (slice 18 2 b))).any (fun k => !p.blank.contains k)
/-- The payload of a packet that is not discarded written into the open frame (R325). -/
def bsfWrite (p : PStream) (b : List Byte) (f : Frame) : Frame :=
  let n := beNat (slice 18 2 b)
  let data := if (leField b 3 1).testBit 2 then [] else b.drop 40
  { f with lines := putLines p.lbytes f.lines (beNat (slice 16 2 b)) data n }
/-- A taint against the open frame of a stream, where one is open. -/
def State.taintOpen (n cause : Nat) (s : State) : State :=
  match s.openFrame n with | some f => s.taint f cause | none => s
/-- A BSF packet of a bound stream (R325, R329, R332, R335). -/
def State.bsfIn (p : PStream) (b : List Byte) (ds : Descs) (s : State) : State :=
  let fl := leField b 3 1
  let disc := s.srcCount p.src 8
  let len := if fl.testBit 2 then 0 else beNat (slice 18 2 b) * p.lbytes
  if !bsfOk p b then disc
  else if bsfBlankBad p b then disc.taintOpen p.num 6
  else if b.length ≠ 40 + len then disc
  else if crc32c (b.drop 40) ≠ beNat (slice 32 4 b) then disc.taintOpen p.num 2
  else
    let s := if fl.testBit 0 then s.openAt p (beNat (slice 12 4 b)) (some (beNat (slice 24 8 b))) ds else s
    match s.openFrame p.num with
    | none => if fl.testBit 0 then s else s.orphan p
    | some f =>
      let s := (s.setFrame (bsfWrite p b f)).pktCount p.src
      if fl.testBit 1 then s.closeFrame p f true ds else s
/-- BSF_PACKET (R322 to R325): a datagram reaches Ethernet ingress engine `e` at AO count `at_`, to UDP port `dport`, with
payload `data`; `formOk`: its form is that of R324; `sumOk`: its UDP checksum is 0 or verifies. -/
def execBsfPacket (e : Fin 2) (dport : W16) (data : List Byte) (formOk sumOk : Bool) (descs : Descs) (at_ : Nat) (s : State) :
    Host.Outcome State Fault Refusal :=
  s.act (fun s =>
    let s := s.advance at_
    let c := 2 + e.val
    if !formOk || !sumOk then s.srcCount c 8
    else match s.boundTo c (dport.toNat, beNat (slice 8 4 data), leField data 4 1) with
      | none => s.unbound c
      | some p => s.bsfIn p data descs)

/-! ## CSI-2 packets (R326 to R328) -/

/-- The streams of a CSI-2 port on a virtual channel, ascending. -/
def State.csiStreams (s : State) (port vc : Nat) : List PStream := match s.run with
  | some r => ((List.range 64).filterMap (fun n => planStream r.img n)).filter (fun p => p.src = port && p.key.1 = vc)
  | none => []
/-- CSI_FRAME_START (R329, R337): a Frame Start short packet on a virtual channel opens a frame of every stream bound to it. -/
def execCsiFrameStart (port : Fin 2) (vc : Fin 16) (num : W16) (descs : Descs) (at_ : Nat) (s : State) :
    Host.Outcome State Fault Refusal :=
  s.act (fun s =>
    let s := s.advance at_
    forAll (s.csiStreams port vc) (fun p s => s.openAt p num.toNat none descs) s)
/-- A line of a CSI-2 stream (R327, R336): truncated or padded to the line length. -/
def State.csiLine (p : PStream) (f : Frame) (data : List Byte) (crcOk : Bool) (s : State) : State :=
  let s := if crcOk then s else s.taint f 4
  if f.nLines ≥ p.active then s.taint f 6
  else
    let s := if data.length = p.lbytes then s else s.taint f 6
    let f := s.frameNow f
    (s.setFrame { f with lines := mput [] f.lines f.nLines (slice 0 p.lbytes data), nLines := f.nLines + 1 }).pktCount p.src
/-- CSI_LONG_PACKET (R322, R327, R332): a long packet of a data type on a virtual channel. -/
def execCsiLongPacket (port : Fin 2) (vc : Fin 16) (dt : BitVec 6) (data : List Byte) (crcOk : Bool) (s : State) :
    Host.Outcome State Fault Refusal :=
  s.act (fun s =>
    match s.boundTo port (vc.val, dt.toNat, 0) with
    | none => s.unbound port
    | some p => match s.openFrame p.num with
      | some f => s.csiLine p f data crcOk
      | none => s.orphan p)
/-- CSI_FRAME_END (R335): a Frame End short packet closes the open frames of its virtual channel. -/
def execCsiFrameEnd (port : Fin 2) (vc : Fin 16) (descs : Descs) (at_ : Nat) (s : State) : Host.Outcome State Fault Refusal :=
  s.act (fun s =>
    let s := s.advance at_
    forAll (s.csiStreams port vc) (fun p s => match s.openFrame p.num with
      | some f => s.closeFrame p f true descs
      | none => s) s)
/-- Every open frame of the streams bound to a port tainted (R328). -/
def State.taintPort (port cause : Nat) (s : State) : State :=
  forAll (s.vd.frames.filter (fun f => f.isOpen && (match s.pstream f.stream with | some p => p.src = port | none => false)))
    (fun f s => s.taint f cause) s
/-- CSI_ECC_ERROR (R328): a header ECC error on a port, corrected or not. -/
def execCsiEccError (port : Fin 2) (corrected : Bool) (s : State) : Host.Outcome State Fault Refusal :=
  s.act (fun s => if corrected then s.srcCount port 0x14 else s.taintPort port 3)
/-- PHY_ERROR (R328): a start-of-transmission or synchronisation error on a port. -/
def execPhyError (port : Fin 2) (s : State) : Host.Outcome State Fault Refusal :=
  s.act (fun s => (s.srcCount port 0x18).taintPort port 5)

/-! ## Windows, credits, forwards -/

/-- INGRESS_WINDOW_END (R335): W has run from the first-byte stamp of stream `n`'s open frame. -/
def execIngressWindowEnd (n : Stream) (descs : Descs) (s : State) : Host.Outcome State Fault Refusal :=
  s.act (fun s => match s.openFrame n, s.pstream n with
    | some f, some p => (s.advance (f.ingressAo + p.window)).closeFrame p f false descs
    | _, _ => s)
/-- CREDIT_EARN (R330): a frame period of stream `n` has passed on its grid. -/
def execCreditEarn (n : Stream) (s : State) : Host.Outcome State Fault Refusal :=
  s.act (fun s => match s.pstream n with
    | some p =>
      let g := s.gs n
      let t := g.creditAt + p.period
      (s.advance t).setGs n { g with creditAt := t, credits := min 2 (g.credits + 1) }
    | none => s)
/-- FORWARD_DONE (R347, R353, R406, R407): the oldest forward in progress of stream `n` ends; `err`: in an error completion
or timeout, after `written` bytes. -/
def execForwardDone (n : Stream) (err : Bool) (written : Nat) (s : State) : Host.Outcome State Fault Refusal :=
  s.act (fun s =>
    match s.vd.frames.find? (fun (f : Frame) => f.stream = n.val && f.dest.isSome), s.pstream n with
    | some f, some p =>
      (match f.dest with
       | none => s
       | some (g, a, d) =>
         let data := f.bytes p
         let err := err || !s.hl.dlUp
         let len := if err then min written data.length else data.length
         let own := if !f.golden && !err && p.layers.isEmpty && f.owner = 2 then 3 else f.owner
         let s := s.setFrame { f with dest := none, owner := own }
         let s := if s.hl.dlUp then s.emit (.dma p.fn (BitVec.ofNat 64 (leField d 0 8)) (data.take len)) else s
         let s := if err then (s.fwdErr n).raiseU 199 p.fn else s
         let w := match f.fwd with | some w => w | none => 0
         if s.hl.dlUp then s.writeBack g a d w len (if err then 2 else 1) else s)
    | _, _ => s)

/-! ## Known-answer intervals (R138, R343, R344, R708) -/

/-- KNOWN_ANSWER_INTERVAL_END (R343, R344, R708): golden positions still unfilled are forwarded back to back; without a
passing golden frame in the interval a coverage lapse holds; the next interval starts. -/
def execKnownAnswerIntervalEnd (n : Stream) (descs : Descs) (s : State) : Host.Outcome State Fault Refusal :=
  s.act (fun s => match s.pstream n with
    | some p =>
      if !hasGolden p || s.ldr.phase = .blackout then s
      else
        let g := s.gs n
        let t := g.kaStart + p.kaInterval
        let s := s.advance t
        let s := (s.goldens p (fun _ => true) p.golden.length descs).2
        let v := s.stream n
        let s := s.setStream n { v with kaLapse := !v.kaPassed || v.kaLapse, kaPassed := false }
        s.kaBegin p (g.kaNum + 1) t
    | none => s)
/-- GOLDEN_COPY (R344, R351, R352): the next golden frame of stream `n` is copied into buffers of its bank set. -/
def execGoldenCopy (n : Stream) (s : State) : Host.Outcome State Fault Refusal :=
  s.act (fun s => match s.pstream n with
    | some p =>
      let g := s.gs n
      if !hasGolden p || s.ldr.phase = .blackout || decide (g.kaNext + g.goldCopies.length ≥ p.golden.length) then s
      else match s.frameAlloc p g.nextBank with
        | some r => { s.setGs n { g with goldCopies := g.goldCopies ++ [r.1 ++ r.2.1], nextBank := r.2.2.1 } with
                      ldg.used := r.2.2.2 }
        | none => s.nobuf 0x90014 p.src
    | none => s)

/-! ## Digest passes (R141 to R143, R54, R708) -/

/-- Weight region `i` of tenant `f` in the running plan. -/
def State.region (s : State) (f i : Nat) : Option PRegion :=
  s.run.bind (fun r => r.img.regions.find? (fun x => x.fn = f && x.index = i))
/-- The pass over region `i` of tenant `f`. -/
def State.digest (s : State) (f i : Nat) : DigestSt := mget DigestSt.reset s.vd.digests (256 * f + i)
/-- The pass over a region set. -/
def State.setDigest (f i : Nat) (d : DigestSt) (s : State) : State :=
  { s with vd.digests := mput DigestSt.reset s.vd.digests (256 * f + i) d }
/-- The present slot schedules digest steps. -/
def State.digestSlot (s : State) : Bool := match s.run with
  | some r => r.struck && (match r.img.slots[r.slot]? with | some x => x.digest | none => false)
  | none => false
/-- DIGEST_STEP (R142, R416): the next step of a registered region is read in a scheduled slot, into ledger buffers. -/
def execDigestStep (f : Fn) (i : Fin 256) (s : State) : Host.Outcome State Fault Refusal :=
  s.act (fun s =>
    let a := mget 0 s.q.digReg (256 * f.val + i.val)
    match s.region f i with
    | some r =>
      let d := s.digest f i
      if a = 0 || d.flying.isSome || !s.digestSlot || s.ldr.phase = .blackout then s
      else
        let n := min r.step (r.len - d.off)
        let banks := (List.range 16).filter (fun b => !s.ldg.failed.toNat.testBit b)
        match takeBufs banks (ceilDiv n 4096) 0 s.ldg.used with
        | none => s.nobuf 0x90018 f
        | some x =>
          (({ s with ldg.used := x.2.2 }).setDigest f i { d with flying := some x.1 }).emit
            (.dmaRead (a + BitVec.ofNat 64 d.off) n)
    | none => s)
/-- The streams of a tenant. -/
def State.streamsOf (s : State) (f : Nat) : List PStream := match s.run with
  | some r => (List.range 64).filterMap (fun n => (planStream r.img n).filter (fun p => p.fn = f))
  | none => []
/-- A whole pass over region `i` has finished, for one stream of its tenant (R54, R143, R708). -/
def State.passDone (f i : Nat) (good : Bool) (p : PStream) (s : State) : State :=
  let v := s.stream p.num
  let regs := if v.dgRegs.contains i then v.dgRegs else v.dgRegs ++ [i]
  let all := match s.run with | some r => r.img.regions.all (fun x => x.fn != f || regs.contains x.index) | none => false
  let v := { v with dgRegs := regs, dgLapse := v.dgLapse && !all }
  if good then
    s.setStream p.num { v with dgBad := v.dgBad.filter (fun k => k ≠ i), dgPassSeq := mput 0 v.dgPassSeq i s.vd.jseq }
  else if v.dgBad.contains i then s.setStream p.num v
  else (s.setStream p.num { v with dgBad := v.dgBad ++ [i] }).standing54 p.num (mget 0 v.dgPassSeq i)
/-- The step read of a region ends (R142, R143). -/
def State.digestDone (f : Fn) (i : Fin 256) (data : List Byte) (err : Bool) (s : State) : State :=
  let d := s.digest f i
  match d.flying, s.region f i with
  | some bs, some r =>
    let s := s.freeBufs bs
    if err then
      (s.setDigest f i (if d.retried then DigestSt.reset else { d with flying := none, retried := true })).raiseU 199 f
    else
      let n := min r.step (r.len - d.off)
      let c := crcRun 64 0x42F0E1EBA9EA3693 true d.crc.toNat (slice 0 n data)
      if d.off + n < r.len then
        s.setDigest f i { off := d.off + n, crc := BitVec.ofNat 64 c, retried := false, flying := none }
      else
        let good : Bool := (reflect 64 c ^^^ 0xFFFFFFFFFFFFFFFF) = r.digest.toNat
        forAll (s.streamsOf f) (fun p s => s.passDone f i good p) (s.setDigest f i DigestSt.reset)
  | _, _ => s
/-- DIGEST_STEP_DONE (R142, R143): the step read of a region ends: `data` read, or an error completion or poisoned data. -/
def execDigestStepDone (f : Fn) (i : Fin 256) (data : List Byte) (err : Bool) (s : State) :
    Host.Outcome State Fault Refusal :=
  s.act (State.digestDone f i data err)
/-- DIGEST_INTERVAL_END (R708): a digest interval of stream `n` ends; without a complete pass in it a lapse holds. -/
def execDigestIntervalEnd (n : Stream) (s : State) : Host.Outcome State Fault Refusal :=
  s.act (fun s => match s.pstream n, s.run with
    | some p, some r =>
      if !p.runs.toNat.testBit 5 || s.ldr.phase = .blackout then s
      else
        let t := mget 0 s.vd.dgStart n + p.digestInterval
        let v := s.stream n
        let all := r.img.regions.all (fun x => x.fn != p.fn || v.dgRegs.contains x.index)
        { (s.advance t).setStream n { v with dgLapse := v.dgLapse || !all, dgRegs := [] } with
          vd.dgStart := mput 0 s.vd.dgStart n t }
    | _, _ => s)

end Sys2Proof.Machine
end

