-- ==== Sys2Proof/Machine/TileMem.lean ====
section
/-! DEFINITION. Tile instructions: loads, stores, stage loads (R256 to R260), the mesh (R270 to R275). -/

namespace Sys2Proof.Machine
open Sys2Proof

/-! ## Shapes -/

/-- A load: `n` bytes at the address aligned to `n`, extended to 32 bits (R154, R256). -/
def State.load (t c d n : Nat) (signed : Bool) (ea : Nat) (s : State) : State :=
  let v := s.tile t
  let a := ea / n * n
  let raw := leNat (v.read a n)
  let r : W32 := if signed then BitVec.ofInt 32 (sext (8 * n) raw) else BitVec.ofNat 32 raw
  s.ctxUpd t c (fun x => x.move d r (v.badAt a n))

/-- A store of the low `n` bytes of S[D] at the address aligned to `n`, by a merge read of its 64-bit word (R256, R258). -/
def State.storeN (t c d n ea : Nat) (s : State) : State :=
  let v := s.tile t
  let x := s.ctx t c
  let a := ea / n * n
  ((s.setTile t (v.write a (leBytes n (x.sreg d).toNat) (v.badAt a n || x.bad d))).planted t a).ctxUpd t c CtxSt.adv

/-- The 64 B word at an address as a number, with its poison (R154). -/
def TileSt.vec (v : TileSt) (ea : Nat) : BitVec 512 × Bool :=
  (BitVec.ofNat 512 (leNat (v.word64B ea)), v.badAt (ea / 64 * 64) 64)

/-! ## Loads and stores (R256) -/

/-- LD.W (R256). -/
def execLdW (t : Tile) (c : Ctx) (d bank : Fin 16) (ar : Fin 4) (disp : W16) (ecc : EccOut) (s : State) :
    Host.Outcome State Fault Refusal :=
  (s.issue t c (encM 0x50 d bank ar 0 0 0 0 disp.toNat)
    (fun p => State.memOp t c p bank ar disp.toInt ecc (State.load t c d 4 false))).done
/-- LD.H (R256): the half selected by ea[1], sign-extended. -/
def execLdH (t : Tile) (c : Ctx) (d bank : Fin 16) (ar : Fin 4) (disp : W16) (ecc : EccOut) (s : State) :
    Host.Outcome State Fault Refusal :=
  (s.issue t c (encM 0x51 d bank ar 0 0 0 0 disp.toNat)
    (fun p => State.memOp t c p bank ar disp.toInt ecc (State.load t c d 2 true))).done
/-- LD.HU (R256): zero-extended. -/
def execLdHu (t : Tile) (c : Ctx) (d bank : Fin 16) (ar : Fin 4) (disp : W16) (ecc : EccOut) (s : State) :
    Host.Outcome State Fault Refusal :=
  (s.issue t c (encM 0x52 d bank ar 0 0 0 0 disp.toNat)
    (fun p => State.memOp t c p bank ar disp.toInt ecc (State.load t c d 2 false))).done
/-- LD.B (R256): the byte selected by ea[1:0], sign-extended. -/
def execLdB (t : Tile) (c : Ctx) (d bank : Fin 16) (ar : Fin 4) (disp : W16) (ecc : EccOut) (s : State) :
    Host.Outcome State Fault Refusal :=
  (s.issue t c (encM 0x53 d bank ar 0 0 0 0 disp.toNat)
    (fun p => State.memOp t c p bank ar disp.toInt ecc (State.load t c d 1 true))).done
/-- LD.BU (R256): zero-extended. -/
def execLdBu (t : Tile) (c : Ctx) (d bank : Fin 16) (ar : Fin 4) (disp : W16) (ecc : EccOut) (s : State) :
    Host.Outcome State Fault Refusal :=
  (s.issue t c (encM 0x54 d bank ar 0 0 0 0 disp.toNat)
    (fun p => State.memOp t c p bank ar disp.toInt ecc (State.load t c d 1 false))).done
/-- ST.W (R256, R258). -/
def execStW (t : Tile) (c : Ctx) (d bank : Fin 16) (ar : Fin 4) (disp : W16) (ecc : EccOut) (s : State) :
    Host.Outcome State Fault Refusal :=
  (s.issue t c (encM 0x55 d bank ar 0 0 0 0 disp.toNat)
    (fun p => State.memOp t c p bank ar disp.toInt ecc (State.storeN t c d 4))).done
/-- ST.H (R256). -/
def execStH (t : Tile) (c : Ctx) (d bank : Fin 16) (ar : Fin 4) (disp : W16) (ecc : EccOut) (s : State) :
    Host.Outcome State Fault Refusal :=
  (s.issue t c (encM 0x56 d bank ar 0 0 0 0 disp.toNat)
    (fun p => State.memOp t c p bank ar disp.toInt ecc (State.storeN t c d 2))).done
/-- ST.B (R256). -/
def execStB (t : Tile) (c : Ctx) (d bank : Fin 16) (ar : Fin 4) (disp : W16) (ecc : EccOut) (s : State) :
    Host.Outcome State Fault Refusal :=
  (s.issue t c (encM 0x57 d bank ar 0 0 0 0 disp.toNat)
    (fun p => State.memOp t c p bank ar disp.toInt ecc (State.storeN t c d 1))).done

/-! ## Stages (R260) -/

/-- Row `r` of stage `g` set, with its poison. -/
def TileSt.setRow (v : TileSt) (g r : Nat) (w : BitVec 512) (bad : Bool) : TileSt :=
  let k := 8 * g + r
  let m := BitVec.ofNat 16 (2 ^ k)
  { v with stages := mput 0 v.stages k w, stagePoison := if bad then v.stagePoison ||| m else v.stagePoison &&& ~~~m }

/-- The addresses of an STLD, bank by bank; none where one lies outside its window (R242, R260). -/
def stldAddrs (p : PCtx) (x : CtxSt) (bank ar : Nat) (disp : Int) : Nat → Option (List Nat)
  | 0 => some []
  | n + 1 => match stldAddrs p x bank ar disp n, effAddr p x (bank + n) ar disp with
    | some l, some ea => some (l ++ [ea])
    | _, _ => none

/-- STLD (R256, R260): stage rows ROW to ROW + CNT from consecutive banks at one offset. `hit`: the word, counted from
BANK, that the ECC outcome is of. -/
def execStld (t : Tile) (c : Ctx) (stg : Fin 2) (row : Fin 8) (cnt : Fin 4) (bank : Fin 16) (ar : Fin 4) (disp : W16)
    (hit : Fin 4) (ecc : EccOut) (s : State) : Host.Outcome State Fault Refusal :=
  (s.issue t c (encM 0x58 0 bank ar stg row cnt 0 disp.toNat) (fun p s =>
    match stldAddrs p (s.ctx t c) bank ar disp.toInt (cnt + 1) with
    | none => s.bounds t c
    | some as =>
      let es := (List.range as.length).map (fun i => (s.tile t).eccAt (lget 0 as i) (if i = hit.val then ecc else .ok))
      let s := forAll (List.range as.length) (fun i s => s.eccMark t (lget 0 as i) (lget .ok es i)) s
      let s := forAll (List.range as.length) (fun i s =>
        let w := (s.tile t).vec (lget 0 as i)
        s.setTile t ((s.tile t).setRow stg (row + i) w.1 w.2)) s
      forAll es (fun e s => s.eccDone t e) (s.ctxUpd t c CtxSt.adv))).done

/-! ## Mesh (R270 to R275) -/

/-- A flit injected on a route (R168). -/
def State.inject (route : Nat) (data : BitVec 512) (bad : Bool) (s : State) : State :=
  { s with flits := s.flits ++ [{ route := route, data := data, poison := bad }] }

/-- SEND (R270): the 64 B word at ea becomes one flit of the route. -/
def execSend (t : Tile) (c : Ctx) (bank : Fin 16) (ar : Fin 4) (route : BitVec 12) (disp : W16) (ecc : EccOut)
    (s : State) : Host.Outcome State Fault Refusal :=
  (s.issue t c (encM 0x80 0 bank ar 0 0 0 route.toNat disp.toNat)
    (fun p => State.memOp t c p bank ar disp.toInt ecc (fun ea s =>
      let w := (s.tile t).vec ea
      (s.inject route.toNat w.1 w.2).ctxUpd t c CtxSt.adv))).done

/-- An assay result record completed with TILE, CTX, SLOT and CRC (R274). -/
def completeRecord (t c slot : Nat) (l : List Byte) : List Byte :=
  let h := slice 0 10 l ++ leBytes 2 t ++ leBytes 1 c ++ leBytes 1 slot
  let z := h ++ leBytes 2 0 ++ slice 16 48 l
  h ++ leBytes 2 (crc16 z) ++ slice 16 48 l

/-- RPOST (R270, R274): the record at ea, completed, becomes a flit; the slot's owed result is posted (R197). -/
def execRpost (t : Tile) (c : Ctx) (bank : Fin 16) (ar : Fin 4) (route : BitVec 12) (disp : W16) (ecc : EccOut)
    (s : State) : Host.Outcome State Fault Refusal :=
  (s.issue t c (encM 0x81 0 bank ar 0 0 0 route.toNat disp.toNat)
    (fun p => State.memOp t c p bank ar disp.toInt ecc (fun ea s =>
      let v := s.tile t
      let l := completeRecord t c s.slot (v.word64B ea)
      let s := s.setTile t { v with posted := (c.val, leField l 0 1, leField l 1 1, leField l 8 2) :: v.posted }
      (s.inject route.toNat (BitVec.ofNat 512 (leNat l)) (v.badAt (ea / 64 * 64) 64)).ctxUpd t c CtxSt.adv))).done

/-- ARRD (R270): S[A] := arrival counter K. -/
def execArrd (t : Tile) (c : Ctx) (d : Fin 16) (k : Byte) (s : State) : Host.Outcome State Fault Refusal :=
  (s.issue t c (encB 0x82 d 0 k.toNat 0)
    (fun _ s => s.ctxUpd t c (fun x => x.move d (mget 0 (s.tile t).counters k.toNat) false))).done

/-- RXPTR (R270): S[A] := write pointer, in words, of counter K's receive ring. -/
def execRxptr (t : Tile) (c : Ctx) (d : Fin 16) (k : Byte) (s : State) : Host.Outcome State Fault Refusal :=
  (s.issue t c (encB 0x83 d 0 k.toNat 0)
    (fun _ s => s.ctxUpd t c (fun x => x.move d (BitVec.ofNat 32 (mget 0 (s.tile t).wptr k.toNat)) false))).done

end Sys2Proof.Machine
end

