-- ==== Sys2Proof/Machine/TileLane.lean ====
section
/-! DEFINITION. Tile instructions: lane operations, value contributions (R261 to R263) and twin instructions (R264 to
R269). -/

namespace Sys2Proof.Machine
open Sys2Proof

/-! ## Energy (R616, R617) -/

/-- A quad's energy account charged with a lane operation of `cost` (pJ x 10) in one array cycle: each array cycle adds
the grant x 66.7 pJ, up to 64 cycles of it; where the account does not cover the cost, array edges are withheld until it
does, each counted in PM_THROT, the first of a slot raising POWER_CAP (log entry 15). -/
def State.spend (q cost : Nat) (s : State) : State :=
  let per := 667 * mget 0 s.pm.grant q
  let acc := min (64 * per) (mget 0 s.pm.account q + per * (1 + 30 * (s.ao - mget 0 s.pm.accAt q)))
  let short := if acc ≥ cost then 0 else if per = 0 then 1 else ceilDiv (cost - acc) per
  let s := { s with pm.account := mput 0 s.pm.account q (acc + short * per - cost),
                    pm.accAt := mput 0 s.pm.accAt q s.ao }
  if short = 0 then s
  else
    let s := (s.rinc64 0x60040 short).revt 0x60008 0
    let s := { s with pm.lostSlot := s.pm.lostSlot + short }
    let s := if s.pm.throttled then s else s.raise 77
    { s with pm.throttled := true }

/-- Energy of one MAC, in pJ x 100 (Architecture and Trust Boundaries); the CX modes run at the FP32 rate (R202). -/
def macEnergy (op : Nat) : Nat := match op with
  | 0x60 => 65 | 0x61 => 130 | 0x62 => 260 | _ => 2090

/-! ## Contributions -/

/-- A contribution to twin `w` of tile `t` by context `c`, with the magnitudes of a lane operation (R208, R214), the
sticky flags of its events (R228) and the poison of its operands (R158). A spilled twin is frozen whole (log entry 12). -/
def State.contribute (t c w : Nat) (xs : List Elem) (mags : Option (List Elem)) (bad : Bool) (s : State) : State :=
  let o := (s.tile t).twin w
  if o.spill then s.setTwin t w { o with poison := o.poison || bad }
  else
    let r := addContribution { o with nan := false, dust := 0 } xs
    let r := match mags with | some m => addMagnitude r m | none => r
    let x := ((s.ctx t c).stick stSPILL r.spill).stick stNAN r.nan
    let x := x.stick stDUST (decide (r.dust > 0))
    (s.setTwin t w { r with nan := o.nan || r.nan, dust := satAdd cntMax o.dust r.dust, poison := o.poison || bad }).setCtx
      t c x

/-- Element `j` of a stage row in a format. -/
def TileSt.stageElem (v : TileSt) (g row f j : Nat) : Elem :=
  wordElem f (leBytes 64 (mget 0 v.stages (8 * g + row)).toNat) j

/-- Some row of a stage among `n` from `row` is poisoned. -/
def TileSt.rowsBad (v : TileSt) (g row n : Nat) : Bool :=
  (List.range n).any (fun i => v.stagePoison.toNat.testBit (8 * g + row + i))

/-- C and |C| of c-pair `j` in a stage from row `row`: 64-bit pairs four to a row, 128-bit pairs two (R203). -/
def TileSt.cpair (v : TileSt) (wide : Bool) (g row j : Nat) : Int × Nat :=
  let n := if wide then 16 else 8
  let per := if wide then 2 else 4
  let l := leBytes 64 (mget 0 v.stages (8 * g + row + j / per)).toNat
  let o := 2 * n * (j % per)
  (sext (8 * n) (leField l o n), leField l (o + n) n)

/-- An integer as an element. -/
def intElem (i : Int) : Elem := .fin (decide (i < 0)) i.natAbs 0

/-- The magnitude of an element times a natural, scaled: nothing for NaN or Inf (R214). -/
def absTimes (a : Elem) (n : Nat) (sg : Int) : Elem :=
  match a with
  | .fin _ m e => .fin false (m * n) (e + sg)
  | x => x

/-- A lane operation (R262): the products of the word with the stage rows, one contribution to each twin it writes. -/
def State.laneStep (t c op tw stg : Nat) (neg : Bool) (fa fb : Nat) (sg : Int) (eoff rsel : Nat) (res : Bool) (ea : Nat)
    (s : State) : State :=
  let v := s.tile t
  let l := v.word64B ea
  let wbad := v.badAt (ea / 64 * 64) 64
  let s := s.spend (quadOf t) (macEnergy op * (if op ≥ 0x64 then (if op = 0x64 then 16 else 8)
    else elemsPerWord fa * laneTwins op) / 10)
  let s :=
    if op ≥ 0x64 then
      let n := if op = 0x64 then 16 else 8
      let js := List.range n
      let a (j : Nat) : Elem := wordElem fa l (8 * eoff + j)
      let cp (j : Nat) : Int × Nat := v.cpair (op = 0x65) stg rsel j
      s.contribute t c tw (js.map (fun j => elemMul (a j) (intElem (cp j).1) sg neg))
        (some (js.map (fun j => absTimes (a j) (cp j).2 sg))) (wbad || v.rowsBad stg rsel 4)
    else
      let js := List.range (elemsPerWord fa)
      forAll (List.range (laneTwins op)) (fun r s =>
        let ps := js.map (fun j => elemMul (wordElem fa l j) (v.stageElem stg (rsel + r) fb j) sg neg)
        s.contribute t c (tw + r) ps (some ps) (wbad || v.rowsBad stg (rsel + r) 1)) s
  (s.ctxUpd t c CtxSt.adv).residue t res

/-- A value contribution to a twin (R209, R263). -/
def State.value (t c tw : Nat) (x : Elem) (bad res : Bool) (s : State) : State :=
  ((s.contribute t c tw [x] none bad).ctxUpd t c CtxSt.adv).residue t res

/-! ## Lane operations (R261, R262) -/

/-- LOP.I8 (R261, R262): INT8 rows into eight twins. -/
def execLopI8 (t : Tile) (c : Ctx) (tw : Fin 32) (stg : Fin 2) (neg : Bool) (fa fb bank : Fin 16) (ar : Fin 4)
    (sigma : BitVec 11) (eoff rsel : Fin 8) (disp : W16) (ecc : EccOut) (res : Bool) (s : State) : Host.Outcome State Fault Refusal :=
  (s.issue t c (encL 0x60 tw stg (b2n neg) fa fb bank ar sigma.toNat eoff rsel disp.toNat)
    (fun p => State.memOp t c p bank ar disp.toInt ecc
      (State.laneStep t c 0x60 tw stg neg fa fb sigma.toInt eoff rsel res))).done

/-- LOP.F8 (R261, R262): FP8 rows into four twins. -/
def execLopF8 (t : Tile) (c : Ctx) (tw : Fin 32) (stg : Fin 2) (neg : Bool) (fa fb bank : Fin 16) (ar : Fin 4)
    (sigma : BitVec 11) (eoff rsel : Fin 8) (disp : W16) (ecc : EccOut) (res : Bool) (s : State) : Host.Outcome State Fault Refusal :=
  (s.issue t c (encL 0x61 tw stg (b2n neg) fa fb bank ar sigma.toNat eoff rsel disp.toNat)
    (fun p => State.memOp t c p bank ar disp.toInt ecc
      (State.laneStep t c 0x61 tw stg neg fa fb sigma.toInt eoff rsel res))).done

/-- LOP.F16 (R261, R262): FP16 or BF16 rows into four twins. -/
def execLopF16 (t : Tile) (c : Ctx) (tw : Fin 32) (stg : Fin 2) (neg : Bool) (fa fb bank : Fin 16) (ar : Fin 4)
    (sigma : BitVec 11) (eoff rsel : Fin 8) (disp : W16) (ecc : EccOut) (res : Bool) (s : State) : Host.Outcome State Fault Refusal :=
  (s.issue t c (encL 0x62 tw stg (b2n neg) fa fb bank ar sigma.toNat eoff rsel disp.toNat)
    (fun p => State.memOp t c p bank ar disp.toInt ecc
      (State.laneStep t c 0x62 tw stg neg fa fb sigma.toInt eoff rsel res))).done

/-- LOP.F32 (R261, R262): an FP32 row into one twin. -/
def execLopF32 (t : Tile) (c : Ctx) (tw : Fin 32) (stg : Fin 2) (neg : Bool) (fa fb bank : Fin 16) (ar : Fin 4)
    (sigma : BitVec 11) (eoff rsel : Fin 8) (disp : W16) (ecc : EccOut) (res : Bool) (s : State) : Host.Outcome State Fault Refusal :=
  (s.issue t c (encL 0x63 tw stg (b2n neg) fa fb bank ar sigma.toNat eoff rsel disp.toNat)
    (fun p => State.memOp t c p bank ar disp.toInt ecc
      (State.laneStep t c 0x63 tw stg neg fa fb sigma.toInt eoff rsel res))).done

/-- LOP.CX64 (R261, R262): a dot product with 64-bit c-pairs into one twin. -/
def execLopCx64 (t : Tile) (c : Ctx) (tw : Fin 32) (stg : Fin 2) (neg : Bool) (fa fb bank : Fin 16) (ar : Fin 4)
    (sigma : BitVec 11) (eoff rsel : Fin 8) (disp : W16) (ecc : EccOut) (res : Bool) (s : State) : Host.Outcome State Fault Refusal :=
  (s.issue t c (encL 0x64 tw stg (b2n neg) fa fb bank ar sigma.toNat eoff rsel disp.toNat)
    (fun p => State.memOp t c p bank ar disp.toInt ecc
      (State.laneStep t c 0x64 tw stg neg fa fb sigma.toInt eoff rsel res))).done

/-- LOP.CX128 (R261, R262): a dot product with 128-bit c-pairs into one twin. -/
def execLopCx128 (t : Tile) (c : Ctx) (tw : Fin 32) (stg : Fin 2) (neg : Bool) (fa fb bank : Fin 16) (ar : Fin 4)
    (sigma : BitVec 11) (eoff rsel : Fin 8) (disp : W16) (ecc : EccOut) (res : Bool) (s : State) : Host.Outcome State Fault Refusal :=
  (s.issue t c (encL 0x65 tw stg (b2n neg) fa fb bank ar sigma.toNat eoff rsel disp.toNat)
    (fun p => State.memOp t c p bank ar disp.toInt ecc
      (State.laneStep t c 0x65 tw stg neg fa fb sigma.toInt eoff rsel res))).done

/-! ## Value contributions (R263) -/

/-- VADD (R263): element EIDX of the word at ea. -/
def execVadd (t : Tile) (c : Ctx) (tw : Fin 32) (neg : Bool) (fa : Fin 16) (eidx : Fin 64) (bank : Fin 16) (ar : Fin 4)
    (sigma : BitVec 11) (disp : W16) (ecc : EccOut) (res : Bool) (s : State) : Host.Outcome State Fault Refusal :=
  (s.issue t c (encV 0x66 tw (b2n neg) fa eidx bank ar 0 sigma.toNat disp.toNat)
    (fun p => State.memOp t c p bank ar disp.toInt ecc (fun ea s =>
      let v := s.tile t
      s.value t c tw (elemScale (wordElem fa (v.word64B ea) eidx) sigma.toInt neg) (v.badAt (ea / 64 * 64) 64) res))).done

/-- C of c-pair `j` of a 64 B word (R203). -/
def wordPair (wide : Bool) (l : List Byte) (j : Nat) : Elem :=
  let n := if wide then 16 else 8
  intElem (sext (8 * n) (leField l (2 * n * j) n))

/-- VADDC (R263): C of c-pair EIDX of the word at ea. -/
def execVaddc (t : Tile) (c : Ctx) (tw : Fin 32) (neg : Bool) (eidx : Fin 64) (bank : Fin 16) (ar : Fin 4)
    (sigma : BitVec 11) (disp : W16) (ecc : EccOut) (res : Bool) (s : State) : Host.Outcome State Fault Refusal :=
  (s.issue t c (encV 0x67 tw (b2n neg) 0 eidx bank ar 0 sigma.toNat disp.toNat)
    (fun p => State.memOp t c p bank ar disp.toInt ecc (fun ea s =>
      let v := s.tile t
      s.value t c tw (elemScale (wordPair false (v.word64B ea) eidx) sigma.toInt neg)
        (v.badAt (ea / 64 * 64) 64) res))).done

/-- VADDC128 (R263): C of wide c-pair EIDX of the word at ea. -/
def execVaddc128 (t : Tile) (c : Ctx) (tw : Fin 32) (neg : Bool) (eidx : Fin 64) (bank : Fin 16) (ar : Fin 4)
    (sigma : BitVec 11) (disp : W16) (ecc : EccOut) (res : Bool) (s : State) : Host.Outcome State Fault Refusal :=
  (s.issue t c (encV 0x68 tw (b2n neg) 0 eidx bank ar 0 sigma.toNat disp.toNat)
    (fun p => State.memOp t c p bank ar disp.toInt ecc (fun ea s =>
      let v := s.tile t
      s.value t c tw (elemScale (wordPair true (v.word64B ea) eidx) sigma.toInt neg)
        (v.badAt (ea / 64 * 64) 64) res))).done

/-- VADDS (R263): S[SRC] as a signed 32-bit integer. -/
def execVadds (t : Tile) (c : Ctx) (tw : Fin 32) (neg : Bool) (src : Fin 16) (sigma : BitVec 11) (res : Bool)
    (s : State) : Host.Outcome State Fault Refusal :=
  (s.issue t c (encV 0x69 tw (b2n neg) 0 0 0 0 src sigma.toNat 0) (fun _ s =>
    let x := s.ctx t c
    s.value t c tw (elemScale (intElem (x.sreg src).toInt) sigma.toInt neg) (x.bad src) res)).done

/-! ## Twin instructions (R264 to R269) -/

/-- TCLR (R264, R215): twin TW cleared with the anchor. -/
def execTclr (t : Tile) (c : Ctx) (tw : Fin 32) (anchor : BitVec 11) (s : State) : Host.Outcome State Fault Refusal :=
  (s.issue t c (encT 0x70 tw 0 0 anchor.toNat 0 0 0 0 0 0)
    (fun _ s => (s.setTwin t tw (Twin.cleared anchor.toInt)).ctxUpd t c CtxSt.adv)).done

/-- TSTORE (R264, R216): the twin image written to the 64 B word at the address. -/
def execTstore (t : Tile) (c : Ctx) (tw : Fin 32) (bank : Fin 16) (ar : Fin 4) (disp : BitVec 10) (s : State) :
    Host.Outcome State Fault Refusal :=
  (s.issue t c (encT 0x71 tw 0 0 0 bank ar 0 0 disp.toNat 0)
    (fun p s => match effAddr p (s.ctx t c) bank ar (64 * disp.toInt) with
      | none => s.bounds t c
      | some ea =>
        let v := s.tile t
        let w := v.twin tw
        ((s.setTile t (v.write (ea / 64 * 64) w.image w.poison)).planted t (ea / 64 * 64)).ctxUpd t c CtxSt.adv)).done

/-- TJUDGE (R264, R218): S[D] := the outcome of the row-checksum twin. -/
def execTjudge (t : Tile) (c : Ctx) (tw : Fin 32) (d bank : Fin 16) (ar : Fin 4) (disp : BitVec 10) (ecc : EccOut)
    (s : State) : Host.Outcome State Fault Refusal :=
  (s.issue t c (encT 0x72 tw d 0 0 bank ar 0 0 disp.toNat 0)
    (fun p => State.memOp t c p bank ar (64 * disp.toInt) ecc (fun ea s =>
      let v := s.tile t
      let w := v.twin tw
      s.ctxUpd t c (fun x => x.move d (BitVec.ofNat 32 (judgeRow w (judgeBlk (v.word64B ea))))
        (w.poison || v.badAt (ea / 64 * 64) 64))))).done

/-- The element y of TJUDGEY: at bits [5:0] of its address, rounded down to the size of its format (R268). -/
def judgeY (l : List Byte) (ea f : Nat) : Nat :=
  let n := fmtBytes f
  if n = 0 then 0 else leField l (ea % 64 / n * n) n

/-- TJUDGEY (R264, R222, R268): S[D] := the outcome of the re-executed element. `hit`: the ECC outcome is of the word
holding y, else of the judge block. -/
def execTjudgey (t : Tile) (c : Ctx) (tw : Fin 32) (d bank1 : Fin 16) (ar1 : Fin 4) (bank2 : Fin 16) (ar2 : Fin 4)
    (disp1 disp2 : BitVec 10) (hit : Bool) (ecc : EccOut) (s : State) : Host.Outcome State Fault Refusal :=
  (s.issue t c (encT 0x73 tw d 0 0 bank1 ar1 bank2 ar2 disp1.toNat disp2.toNat) (fun p s =>
    let x := s.ctx t c
    match effAddr p x bank1 ar1 (64 * disp1.toInt), effAddr p x bank2 ar2 (64 * disp2.toInt) with
    | some e1, some e2 =>
      let o1 := (s.tile t).eccAt e1 (if hit then .ok else ecc)
      let o2 := (s.tile t).eccAt e2 (if hit then ecc else .ok)
      let s := (s.eccMark t e1 o1).eccMark t e2 o2
      let v := s.tile t
      let w := v.twin tw
      let j := judgeBlk (v.word64B e1)
      let r := judgeElem w j (judgeY (v.word64B e2) e2 j.yfmt)
      let bad := w.poison || v.badAt (e1 / 64 * 64) 64 || v.badAt (e2 / 64 * 64) 64
      ((s.ctxUpd t c (fun x => (x.move d (BitVec.ofNat 32 r.1) bad).stick stCVT r.2)).eccDone t o1).eccDone t o2
    | _, _ => s.bounds t c)).done

/-- TCVT (R264, R219, R220): S[D] := the twin converted to SEL. -/
def execTcvt (t : Tile) (c : Ctx) (tw : Fin 32) (d sel : Fin 16) (s : State) : Host.Outcome State Fault Refusal :=
  (s.issue t c (encT 0x74 tw d sel 0 0 0 0 0 0 0) (fun _ s =>
    let w := (s.tile t).twin tw
    if sel.val ≥ 8 then
      let r := cvtFloat w sel
      s.ctxUpd t c (fun x => (x.move d (BitVec.ofNat 32 r.1) w.poison).stick stCVT r.2)
    else
      let r := cvtInt w (8 * fmtBytes sel)
      s.ctxUpd t c (fun x =>
        ((x.move d (BitVec.ofInt 32 r.1) w.poison).stick stCVT r.2.1).stick stSAT r.2.2))).done

/-- The twin field that SEL selects (R264). -/
def Twin.info (w : Twin) (sel : Nat) : W32 := match sel with
  | 0 => BitVec.ofNat 32 w.dust
  | 1 => BitVec.ofNat 32 w.count
  | 2 => BitVec.ofNat 32 (b2n w.spill + 2 * b2n w.nan + 256 * w.res)
  | 3 => BitVec.ofInt 32 w.anchor
  | 4 => BitVec.ofNat 32 w.magM
  | 5 => BitVec.ofInt 32 w.magE
  | _ => BitVec.ofInt 32 w.value

/-- TINFO (R264): S[D] := the selected twin field. -/
def execTinfo (t : Tile) (c : Ctx) (tw : Fin 32) (d sel : Fin 16) (s : State) : Host.Outcome State Fault Refusal :=
  (s.issue t c (encT 0x75 tw d sel 0 0 0 0 0 0 0) (fun _ s =>
    let w := (s.tile t).twin tw
    s.ctxUpd t c (fun x => x.move d (w.info sel) w.poison))).done

end Sys2Proof.Machine
end

