-- ==== Sys2Proof/Machine/TileScalar.lean ====
section
/-! DEFINITION. Tile instructions: control, scalar arithmetic and logic, moves and address registers (R248 to R255). -/

namespace Sys2Proof.Machine
open Sys2Proof

/-! ## Shapes -/

/-- A scalar result written: D, the condition codes and the sticky flags (R224 to R232); the program counter advances. -/
def CtxSt.wr (x : CtxSt) (d : Nat) (r : Alu) (bad : Bool) : CtxSt := (((x.put d r.r bad).codes r).sticky r).adv
/-- D := A op B. -/
def aluRR (f : W32 → W32 → Alu) (d a b : Nat) (x : CtxSt) : CtxSt :=
  x.wr d (f (x.sreg a) (x.sreg b)) (x.bad a || x.bad b)
/-- D := A op IMM. -/
def aluRI (f : W32 → W32 → Alu) (d a : Nat) (imm : W32) (x : CtxSt) : CtxSt := x.wr d (f (x.sreg a) imm) (x.bad a)
/-- D := op A. -/
def aluR (f : W32 → Alu) (d a : Nat) (x : CtxSt) : CtxSt := x.wr d (f (x.sreg a)) (x.bad a)
/-- Codes of A - B alone, no sticky flag (R253). -/
def cmpCodes (a b : W32) (x : CtxSt) : CtxSt := (x.codes (aluSub false a b)).adv
/-- The condition holds in the context (R249). -/
def CtxSt.cond (x : CtxSt) (k : Nat) : Bool := condHolds x.z x.n x.c x.v k

/-! ## Control (R248 to R251) -/

/-- NOP (R248): none. -/
def execNop (t : Tile) (c : Ctx) (s : State) : Host.Outcome State Fault Refusal :=
  (s.issue t c (encR 0x01 0 0 0 0) (fun _ => State.ctxUpd t c CtxSt.adv)).done

/-- BR (R248): pc := TARGET. -/
def execBr (t : Tile) (c : Ctx) (target : W16) (s : State) : Host.Outcome State Fault Refusal :=
  (s.issue t c (encB 0x02 0 0 0 target.toNat)
    (fun _ => State.ctxUpd t c (fun x => { x with pc := target.toNat }))).done

/-- BC (R248): if COND holds, pc := TARGET. -/
def execBc (t : Tile) (c : Ctx) (cond : Fin 16) (target : W16) (s : State) : Host.Outcome State Fault Refusal :=
  (s.issue t c (encB 0x03 0 cond 0 target.toNat)
    (fun _ => State.ctxUpd t c (fun x => if x.cond cond then { x with pc := target.toNat } else x.adv))).done

/-- LOOP (R250): the count down to 0, branching while it is not 0. -/
def execLoop (t : Tile) (c : Ctx) (a : Fin 16) (target : W16) (s : State) : Host.Outcome State Fault Refusal :=
  (s.issue t c (encB 0x04 a 0 0 target.toNat)
    (fun _ => State.ctxUpd t c (fun x =>
      let x := if x.sreg a = 0 then x else x.put a (x.sreg a - 1) (x.bad a)
      if x.sreg a = 0 then x.adv else { x with pc := target.toNat }))).done

/-- SLOTEND (R248): the context enters WAITSLOT. -/
def execSlotend (t : Tile) (c : Ctx) (s : State) : Host.Outcome State Fault Refusal :=
  (s.issue t c (encR 0x05 0 0 0 0) (fun _ => State.ctxUpd t c (fun x => { x.adv with st := .waitSlot }))).done

/-- The awaited count is reached: (counter - count) mod 2^32 < 2^31 (R251). -/
def awaitMet (counter count : W32) : Bool := decide ((counter - count).toNat < 2 ^ 31)

/-- AWAIT (R251): a NOP where the count is reached, else WAITARR. -/
def execAwait (t : Tile) (c : Ctx) (a : Fin 16) (k : Byte) (s : State) : Host.Outcome State Fault Refusal :=
  (s.issue t c (encB 0x06 a 0 k.toNat 0)
    (fun _ s => s.ctxUpd t c (fun x =>
      if awaitMet (mget 0 (s.tile t).counters k.toNat) (x.sreg a) then x.adv
      else { x.adv with st := .waitArr, await := some (k.toNat, x.sreg a) }))).done

/-- FCLR (R248): clears the sticky flags of K. -/
def execFclr (t : Tile) (c : Ctx) (k : Byte) (s : State) : Host.Outcome State Fault Refusal :=
  (s.issue t c (encB 0x07 0 0 k.toNat 0)
    (fun _ => State.ctxUpd t c (fun x => { x.adv with flags := x.flags &&& ~~~k }))).done

/-- FRD (R248): S[D][7:0] := the sticky flags. -/
def execFrd (t : Tile) (c : Ctx) (d : Fin 16) (s : State) : Host.Outcome State Fault Refusal :=
  (s.issue t c (encR 0x08 d 0 0 0)
    (fun _ => State.ctxUpd t c (fun x => x.move d (x.flags.zeroExtend 32) false))).done

/-! ## Scalar arithmetic and logic (R252, R253) -/

/-- ADD.W (R252): A + B, wrapping. -/
def execAddW (t : Tile) (c : Ctx) (d a b : Fin 16) (s : State) : Host.Outcome State Fault Refusal :=
  (s.issue t c (encR 0x10 d a b 0) (fun _ => State.ctxUpd t c (aluRR (aluAdd false) d a b))).done

/-- ADD.S (R252): A + B, saturating. -/
def execAddS (t : Tile) (c : Ctx) (d a b : Fin 16) (s : State) : Host.Outcome State Fault Refusal :=
  (s.issue t c (encR 0x11 d a b 0) (fun _ => State.ctxUpd t c (aluRR (aluAdd true) d a b))).done

/-- SUB.W (R252): A - B, wrapping. -/
def execSubW (t : Tile) (c : Ctx) (d a b : Fin 16) (s : State) : Host.Outcome State Fault Refusal :=
  (s.issue t c (encR 0x12 d a b 0) (fun _ => State.ctxUpd t c (aluRR (aluSub false) d a b))).done

/-- SUB.S (R252): A - B, saturating. -/
def execSubS (t : Tile) (c : Ctx) (d a b : Fin 16) (s : State) : Host.Outcome State Fault Refusal :=
  (s.issue t c (encR 0x13 d a b 0) (fun _ => State.ctxUpd t c (aluRR (aluSub true) d a b))).done

/-- NEG.W (R252): -A, wrapping. -/
def execNegW (t : Tile) (c : Ctx) (d a : Fin 16) (s : State) : Host.Outcome State Fault Refusal :=
  (s.issue t c (encR 0x14 d a 0 0) (fun _ => State.ctxUpd t c (aluR (aluNeg false) d a))).done

/-- NEG.S (R252): -A, saturating. -/
def execNegS (t : Tile) (c : Ctx) (d a : Fin 16) (s : State) : Host.Outcome State Fault Refusal :=
  (s.issue t c (encR 0x15 d a 0 0) (fun _ => State.ctxUpd t c (aluR (aluNeg true) d a))).done

/-- ABS.W (R252): absolute value, wrapping. -/
def execAbsW (t : Tile) (c : Ctx) (d a : Fin 16) (s : State) : Host.Outcome State Fault Refusal :=
  (s.issue t c (encR 0x16 d a 0 0) (fun _ => State.ctxUpd t c (aluR (aluAbs false) d a))).done

/-- ABS.S (R252): absolute value, saturating. -/
def execAbsS (t : Tile) (c : Ctx) (d a : Fin 16) (s : State) : Host.Outcome State Fault Refusal :=
  (s.issue t c (encR 0x17 d a 0 0) (fun _ => State.ctxUpd t c (aluR (aluAbs true) d a))).done

/-- MUL.W (R252): low word of A x B, wrapping. -/
def execMulW (t : Tile) (c : Ctx) (d a b : Fin 16) (s : State) : Host.Outcome State Fault Refusal :=
  (s.issue t c (encR 0x18 d a b 0) (fun _ => State.ctxUpd t c (aluRR (aluMul false) d a b))).done

/-- MUL.S (R252): low word of A x B, saturating. -/
def execMulS (t : Tile) (c : Ctx) (d a b : Fin 16) (s : State) : Host.Outcome State Fault Refusal :=
  (s.issue t c (encR 0x19 d a b 0) (fun _ => State.ctxUpd t c (aluRR (aluMul true) d a b))).done

/-- MULH (R252): high word of signed A x B. -/
def execMulh (t : Tile) (c : Ctx) (d a b : Fin 16) (s : State) : Host.Outcome State Fault Refusal :=
  (s.issue t c (encR 0x1A d a b 0) (fun _ => State.ctxUpd t c (aluRR aluMulh d a b))).done

/-- MULHU (R252): high word of unsigned A x B. -/
def execMulhu (t : Tile) (c : Ctx) (d a b : Fin 16) (s : State) : Host.Outcome State Fault Refusal :=
  (s.issue t c (encR 0x1B d a b 0) (fun _ => State.ctxUpd t c (aluRR aluMulhu d a b))).done

/-- DIV.W (R229): signed quotient, wrapping. -/
def execDivW (t : Tile) (c : Ctx) (d a b : Fin 16) (s : State) : Host.Outcome State Fault Refusal :=
  (s.issue t c (encR 0x1C d a b 0) (fun _ => State.ctxUpd t c (aluRR (aluDiv false) d a b))).done

/-- DIV.S (R229): signed quotient, saturating. -/
def execDivS (t : Tile) (c : Ctx) (d a b : Fin 16) (s : State) : Host.Outcome State Fault Refusal :=
  (s.issue t c (encR 0x1D d a b 0) (fun _ => State.ctxUpd t c (aluRR (aluDiv true) d a b))).done

/-- REM (R229, R253): signed remainder. -/
def execRem (t : Tile) (c : Ctx) (d a b : Fin 16) (s : State) : Host.Outcome State Fault Refusal :=
  (s.issue t c (encR 0x1E d a b 0) (fun _ => State.ctxUpd t c (aluRR aluRem d a b))).done

/-- DIVU (R230): unsigned quotient. -/
def execDivu (t : Tile) (c : Ctx) (d a b : Fin 16) (s : State) : Host.Outcome State Fault Refusal :=
  (s.issue t c (encR 0x1F d a b 0) (fun _ => State.ctxUpd t c (aluRR aluDivu d a b))).done

/-- REMU (R230): unsigned remainder. -/
def execRemu (t : Tile) (c : Ctx) (d a b : Fin 16) (s : State) : Host.Outcome State Fault Refusal :=
  (s.issue t c (encR 0x20 d a b 0) (fun _ => State.ctxUpd t c (aluRR aluRemu d a b))).done

/-- AND (R252): bitwise and. -/
def execAnd (t : Tile) (c : Ctx) (d a b : Fin 16) (s : State) : Host.Outcome State Fault Refusal :=
  (s.issue t c (encR 0x21 d a b 0) (fun _ => State.ctxUpd t c (aluRR (fun x y => .plain (x &&& y)) d a b))).done

/-- OR (R252): bitwise or. -/
def execOr (t : Tile) (c : Ctx) (d a b : Fin 16) (s : State) : Host.Outcome State Fault Refusal :=
  (s.issue t c (encR 0x22 d a b 0) (fun _ => State.ctxUpd t c (aluRR (fun x y => .plain (x ||| y)) d a b))).done

/-- XOR (R252): bitwise exclusive or. -/
def execXor (t : Tile) (c : Ctx) (d a b : Fin 16) (s : State) : Host.Outcome State Fault Refusal :=
  (s.issue t c (encR 0x23 d a b 0) (fun _ => State.ctxUpd t c (aluRR (fun x y => .plain (x ^^^ y)) d a b))).done

/-- ANDN (R252): A and not B. -/
def execAndn (t : Tile) (c : Ctx) (d a b : Fin 16) (s : State) : Host.Outcome State Fault Refusal :=
  (s.issue t c (encR 0x24 d a b 0) (fun _ => State.ctxUpd t c (aluRR (fun x y => .plain (x &&& ~~~y)) d a b))).done

/-- SHL.W (R231): left shift, wrapping. -/
def execShlW (t : Tile) (c : Ctx) (d a b : Fin 16) (s : State) : Host.Outcome State Fault Refusal :=
  (s.issue t c (encR 0x25 d a b 0) (fun _ => State.ctxUpd t c (aluRR (fun x y => aluShl false x (shiftCount y)) d a b))).done

/-- SHL.S (R231): left shift, saturating. -/
def execShlS (t : Tile) (c : Ctx) (d a b : Fin 16) (s : State) : Host.Outcome State Fault Refusal :=
  (s.issue t c (encR 0x26 d a b 0) (fun _ => State.ctxUpd t c (aluRR (fun x y => aluShl true x (shiftCount y)) d a b))).done

/-- SHR (R231): logical right shift. -/
def execShr (t : Tile) (c : Ctx) (d a b : Fin 16) (s : State) : Host.Outcome State Fault Refusal :=
  (s.issue t c (encR 0x27 d a b 0) (fun _ => State.ctxUpd t c (aluRR (fun x y => aluShr x (shiftCount y)) d a b))).done

/-- SAR (R231): arithmetic right shift. -/
def execSar (t : Tile) (c : Ctx) (d a b : Fin 16) (s : State) : Host.Outcome State Fault Refusal :=
  (s.issue t c (encR 0x28 d a b 0) (fun _ => State.ctxUpd t c (aluRR (fun x y => aluSar x (shiftCount y)) d a b))).done

/-- CMP (R253): codes of A - B; no register, no sticky flag. -/
def execCmp (t : Tile) (c : Ctx) (a b : Fin 16) (s : State) : Host.Outcome State Fault Refusal :=
  (s.issue t c (encR 0x29 0 a b 0) (fun _ => State.ctxUpd t c (fun x => cmpCodes (x.sreg a) (x.sreg b) x))).done

/-- MIN (R252): signed minimum. -/
def execMin (t : Tile) (c : Ctx) (d a b : Fin 16) (s : State) : Host.Outcome State Fault Refusal :=
  (s.issue t c (encR 0x2A d a b 0) (fun _ => State.ctxUpd t c (aluRR aluMin d a b))).done

/-- MAX (R252): signed maximum. -/
def execMax (t : Tile) (c : Ctx) (d a b : Fin 16) (s : State) : Host.Outcome State Fault Refusal :=
  (s.issue t c (encR 0x2B d a b 0) (fun _ => State.ctxUpd t c (aluRR aluMax d a b))).done

/-- MINU (R252): unsigned minimum. -/
def execMinu (t : Tile) (c : Ctx) (d a b : Fin 16) (s : State) : Host.Outcome State Fault Refusal :=
  (s.issue t c (encR 0x2C d a b 0) (fun _ => State.ctxUpd t c (aluRR aluMinu d a b))).done

/-- MAXU (R252): unsigned maximum. -/
def execMaxu (t : Tile) (c : Ctx) (d a b : Fin 16) (s : State) : Host.Outcome State Fault Refusal :=
  (s.issue t c (encR 0x2D d a b 0) (fun _ => State.ctxUpd t c (aluRR aluMaxu d a b))).done

/-- CLZ (R252): leading zeros of A. -/
def execClz (t : Tile) (c : Ctx) (d a : Fin 16) (s : State) : Host.Outcome State Fault Refusal :=
  (s.issue t c (encR 0x2E d a 0 0) (fun _ => State.ctxUpd t c (aluR aluClz d a))).done

/-- POPC (R252): set bits of A. -/
def execPopc (t : Tile) (c : Ctx) (d a : Fin 16) (s : State) : Host.Outcome State Fault Refusal :=
  (s.issue t c (encR 0x2F d a 0 0) (fun _ => State.ctxUpd t c (aluR aluPopc d a))).done

/-- ADDI.W (R252): A + IMM, wrapping. -/
def execAddiW (t : Tile) (c : Ctx) (d a : Fin 16) (imm : W32) (s : State) :
    Host.Outcome State Fault Refusal :=
  (s.issue t c (encI 0x30 d a imm.toNat) (fun _ => State.ctxUpd t c (aluRI (aluAdd false) d a imm))).done

/-- ADDI.S (R252): A + IMM, saturating. -/
def execAddiS (t : Tile) (c : Ctx) (d a : Fin 16) (imm : W32) (s : State) :
    Host.Outcome State Fault Refusal :=
  (s.issue t c (encI 0x31 d a imm.toNat) (fun _ => State.ctxUpd t c (aluRI (aluAdd true) d a imm))).done

/-- SUBI.W (R252): A - IMM, wrapping. -/
def execSubiW (t : Tile) (c : Ctx) (d a : Fin 16) (imm : W32) (s : State) :
    Host.Outcome State Fault Refusal :=
  (s.issue t c (encI 0x32 d a imm.toNat) (fun _ => State.ctxUpd t c (aluRI (aluSub false) d a imm))).done

/-- SUBI.S (R252): A - IMM, saturating. -/
def execSubiS (t : Tile) (c : Ctx) (d a : Fin 16) (imm : W32) (s : State) :
    Host.Outcome State Fault Refusal :=
  (s.issue t c (encI 0x33 d a imm.toNat) (fun _ => State.ctxUpd t c (aluRI (aluSub true) d a imm))).done

/-- MULI.W (R252): low word of A x IMM, wrapping. -/
def execMuliW (t : Tile) (c : Ctx) (d a : Fin 16) (imm : W32) (s : State) :
    Host.Outcome State Fault Refusal :=
  (s.issue t c (encI 0x34 d a imm.toNat) (fun _ => State.ctxUpd t c (aluRI (aluMul false) d a imm))).done

/-- MULI.S (R252): low word of A x IMM, saturating. -/
def execMuliS (t : Tile) (c : Ctx) (d a : Fin 16) (imm : W32) (s : State) :
    Host.Outcome State Fault Refusal :=
  (s.issue t c (encI 0x35 d a imm.toNat) (fun _ => State.ctxUpd t c (aluRI (aluMul true) d a imm))).done

/-- ANDI (R252): bitwise and with IMM. -/
def execAndi (t : Tile) (c : Ctx) (d a : Fin 16) (imm : W32) (s : State) :
    Host.Outcome State Fault Refusal :=
  (s.issue t c (encI 0x36 d a imm.toNat) (fun _ => State.ctxUpd t c (aluRI (fun x y => .plain (x &&& y)) d a imm))).done

/-- ORI (R252): bitwise or with IMM. -/
def execOri (t : Tile) (c : Ctx) (d a : Fin 16) (imm : W32) (s : State) :
    Host.Outcome State Fault Refusal :=
  (s.issue t c (encI 0x37 d a imm.toNat) (fun _ => State.ctxUpd t c (aluRI (fun x y => .plain (x ||| y)) d a imm))).done

/-- XORI (R252): bitwise exclusive or with IMM. -/
def execXori (t : Tile) (c : Ctx) (d a : Fin 16) (imm : W32) (s : State) :
    Host.Outcome State Fault Refusal :=
  (s.issue t c (encI 0x38 d a imm.toNat) (fun _ => State.ctxUpd t c (aluRI (fun x y => .plain (x ^^^ y)) d a imm))).done

/-- SHLI.W (R231): left shift by IMM[7:0], wrapping. -/
def execShliW (t : Tile) (c : Ctx) (d a : Fin 16) (imm : Byte) (s : State) :
    Host.Outcome State Fault Refusal :=
  (s.issue t c (encI 0x39 d a imm.toNat) (fun _ => State.ctxUpd t c (aluRI (fun x y => aluShl false x (shiftCount y)) d a (imm.zeroExtend 32)))).done

/-- SHLI.S (R231): left shift by IMM[7:0], saturating. -/
def execShliS (t : Tile) (c : Ctx) (d a : Fin 16) (imm : Byte) (s : State) :
    Host.Outcome State Fault Refusal :=
  (s.issue t c (encI 0x3A d a imm.toNat) (fun _ => State.ctxUpd t c (aluRI (fun x y => aluShl true x (shiftCount y)) d a (imm.zeroExtend 32)))).done

/-- SHRI (R231): logical right shift by IMM[7:0]. -/
def execShri (t : Tile) (c : Ctx) (d a : Fin 16) (imm : Byte) (s : State) :
    Host.Outcome State Fault Refusal :=
  (s.issue t c (encI 0x3B d a imm.toNat) (fun _ => State.ctxUpd t c (aluRI (fun x y => aluShr x (shiftCount y)) d a (imm.zeroExtend 32)))).done

/-- SARI (R231): arithmetic right shift by IMM[7:0]. -/
def execSari (t : Tile) (c : Ctx) (d a : Fin 16) (imm : Byte) (s : State) :
    Host.Outcome State Fault Refusal :=
  (s.issue t c (encI 0x3C d a imm.toNat) (fun _ => State.ctxUpd t c (aluRI (fun x y => aluSar x (shiftCount y)) d a (imm.zeroExtend 32)))).done

/-- CMPI (R253): codes of A - IMM. -/
def execCmpi (t : Tile) (c : Ctx) (a : Fin 16) (imm : W32) (s : State) : Host.Outcome State Fault Refusal :=
  (s.issue t c (encI 0x3D 0 a imm.toNat) (fun _ => State.ctxUpd t c (fun x => cmpCodes (x.sreg a) imm x))).done

/-- MOVI (R252): D := IMM. -/
def execMovi (t : Tile) (c : Ctx) (d : Fin 16) (imm : W32) (s : State) : Host.Outcome State Fault Refusal :=
  (s.issue t c (encI 0x3E d 0 imm.toNat) (fun _ => State.ctxUpd t c (fun x => x.move d imm false))).done

/-- SEL (R252): if COND holds then A else B. -/
def execSel (t : Tile) (c : Ctx) (d a b cond : Fin 16) (s : State) : Host.Outcome State Fault Refusal :=
  (s.issue t c (encR 0x3F d a b cond) (fun _ => State.ctxUpd t c (fun x =>
    let k := if x.cond cond then a else b
    x.move d (x.sreg k) (x.bad k)))).done

/-! ## Moves and address registers (R255) -/

/-- MOV (R255): S[D] := S[A]. -/
def execMov (t : Tile) (c : Ctx) (d a : Fin 16) (s : State) : Host.Outcome State Fault Refusal :=
  (s.issue t c (encR 0x40 d a 0 0) (fun _ => State.ctxUpd t c (fun x => x.move d (x.sreg a) (x.bad a)))).done

/-- MOVA (R255): A[D] := S[A]. -/
def execMova (t : Tile) (c : Ctx) (d : Fin 4) (a : Fin 16) (s : State) : Host.Outcome State Fault Refusal :=
  (s.issue t c (encR 0x41 d a 0 0) (fun _ => State.ctxUpd t c (fun x => x.move (16 + d) (x.sreg a) (x.bad a)))).done

/-- MOVS (R255): S[D] := A[A]. -/
def execMovs (t : Tile) (c : Ctx) (d : Fin 16) (a : Fin 4) (s : State) : Host.Outcome State Fault Refusal :=
  (s.issue t c (encR 0x42 d a 0 0) (fun _ => State.ctxUpd t c (fun x => x.move d (x.areg a) (x.bad (16 + a))))).done

/-- LDAI (R255): A[D] := IMM. -/
def execLdai (t : Tile) (c : Ctx) (d : Fin 4) (imm : W32) (s : State) : Host.Outcome State Fault Refusal :=
  (s.issue t c (encI 0x43 d 0 imm.toNat) (fun _ => State.ctxUpd t c (fun x => x.move (16 + d) imm false))).done

/-- ADDA (R255): A[D] := A[D] + S[A], wrapping (R223). -/
def execAdda (t : Tile) (c : Ctx) (d : Fin 4) (a : Fin 16) (s : State) : Host.Outcome State Fault Refusal :=
  (s.issue t c (encR 0x44 d a 0 0) (fun _ => State.ctxUpd t c (fun x =>
    x.move (16 + d) (x.areg d + x.sreg a) (x.bad (16 + d) || x.bad a)))).done

/-- ADDAI (R255): A[D] := A[D] + IMM, wrapping (R223). -/
def execAddai (t : Tile) (c : Ctx) (d : Fin 4) (imm : W32) (s : State) : Host.Outcome State Fault Refusal :=
  (s.issue t c (encI 0x45 d 0 imm.toNat) (fun _ => State.ctxUpd t c (fun x =>
    x.move (16 + d) (x.areg d + imm) (x.bad (16 + d))))).done

/-- CTXID (R255): logical tile in [7:0], context in [13:8], current slot in [19:14]. -/
def execCtxid (t : Tile) (c : Ctx) (d : Fin 16) (s : State) : Host.Outcome State Fault Refusal :=
  (s.issue t c (encR 0x46 d 0 0 0) (fun _ s => s.ctxUpd t c (fun x =>
    let l := match (s.tile t).logical with | some l => l | none => 0
    x.move d (BitVec.ofNat 32 (l % 256 + 256 * (c % 64) + 16384 * (s.slot % 64))) false))).done

end Sys2Proof.Machine
end

