-- ==== Sys2Proof/Machine/TileEvents.lean ====
section
/-! DEFINITION. Events of the assay array: the slot strobe (R25, R163, R164, R197, R610 to R615, R632), resident and deep
self-tests (R181 to R189), mesh deliveries (R168 to R171), arrivals (R251), droop (R195, R624), illegal words (R278, R279)
and the tile health record (R660). -/

namespace Sys2Proof.Machine
open Sys2Proof

/-! ## Overruns (R197) -/

/-- The tile serves the running plan. -/
def TileSt.serves (t : TileSt) : Bool := t.role == .plan || t.role == .reserve
/-- Contexts that have not reached their slot end: tile and context. -/
def State.overrunning (s : State) : List (Nat × Nat) :=
  s.tiles.flatMap (fun p => if p.2.serves then
    (p.2.ctxs.filter (fun x => x.2.st == .run || x.2.st == .waitArr)).map (fun x => (p.1, x.1)) else [])
/-- Context `c` of tile `t` has overrun the present slot (R197): the frames of the results it has not posted are marked. -/
def State.overrun (t c : Nat) (s : State) : State :=
  let s := forAll (s.owedFrames t c) (fun x s => s.setFrame { s.frameNow x.2 with overrun := true }) s
  let n := satAdd 65535 (bitsOf (s.rget (twAddr t 0x50)) 15 0) 1
  ((s.revt (twAddr t 0x10) 5).rset (twAddr t 0x50) (BitVec.ofNat 32 (n + 65536 * s.slot + 2 ^ 22 * c))).raiseU 101 t

/-! ## Quads (R608 to R613, R632) -/

/-- Slots of a list taken while they are OFF for quad `q`: their AO cycles. -/
def offRun (i : PlanImage) (q : Nat) : List Nat → Nat
  | [] => 0
  | k :: t => if planQuad i k q = 2 then slotEnd i k - (match i.slots[k]? with | some x => x.start | none => 0) + offRun i q t else 0
/-- The AO cycles of the OFF interval of quad `q` that slot `k` lies in, taken cyclically (R610). -/
def offInterval (i : PlanImage) (k q : Nat) : Nat :=
  let n := i.slots.length
  offRun i q ((List.range n).map (fun j => (k + j) % n)) + offRun i q ((List.range (n - 1)).map (fun j => (k + n - 1 - j) % n))
/-- The power schedule's host-less mask names quad `q` in slot `k`. -/
def planHostless (i : PlanImage) (k q : Nat) : Bool := match i.slots[k]? with
  | some x => (mget { state := 2, grant := 0, hostless := false } x.quads q).hostless
  | none => false
/-- An open disagreement procedure waits for the resident pass of a tile of quad `q` (R613). -/
def State.quadNamed (s : State) (q : Nat) : Bool :=
  [0, 1, 2, 3].any (fun i => (s.dis i).busy && (s.dis i).stLeft.any (fun t => quadOf t = q))
/-- The state quad `q` is to take in slot `k`: 0 ON, 1 gated, 2 OFF (R608, R610, R612, R613, R632). -/
def State.quadWant (s : State) (r : Running) (k q : Nat) : Nat :=
  if s.quadNamed q then 0
  else if s.pm.hostless && planHostless r.img k q then 1
  else if r.forceOn.contains (k, q) || planQuad r.img k q = 0 then 0
  else if planQuad r.img k q = 1 || s.quadHeld q || offInterval r.img k q < 2000 then 1
  else 2
/-- Every context of every tile of quad `q` is IDLE, WAITSLOT or HALTED (R610). -/
def State.quadQuiet (s : State) (q : Nat) : Bool :=
  s.tiles.all (fun p => quadOf p.1 ≠ q || p.2.ctxs.all (fun x => x.2.st != .run && x.2.st != .waitArr))
/-- Quad `q` takes its state for slot `k`. -/
def State.quadSet (r : Running) (k q : Nat) (s : State) : State :=
  match s.quadWant r k q with
  | 0 => s.wakeDom q
  | 1 => (match s.dom q with
          | .off => if s.quadHeld q then s.wakeDom q else s
          | .on => if s.quadQuiet q then { s with pm.dom := mput .off s.pm.dom q .gated } else s
          | .gated => s)
  | _ => if s.dom q = .off then s.releaseDom q else s.quadOff q

/-! ## Tokens (R614, R615, R618) -/

/-- The grants of slot `k`: the ceiling over the quads that are ON, the effective cap, and each quad's grant. -/
def State.grants (r : Running) (k : Nat) (s : State) : State :=
  let g (q : Nat) : Nat := if s.dom q = .on then (match r.img.slots[k]? with
    | some x => min 20 (mget { state := 2, grant := 0, hostless := false } x.quads q).grant
    | none => 0) else 0
  let c := ((List.range 48).map g).sum
  let cap := bitsOf (s.rget 0x6000C) 9 0
  let h := if cap = 0 then 960 else cap
  let e := min c (min h (if s.notClear 75 then 3 * c / 4 else 960))
  let grant := (List.range 48).foldl (fun m q => mput 0 m q (if e < c then g q * e / c else g q)) []
  let given := (grant.map Prod.snd).sum
  let s := (s.rset 0x60038 (BitVec.ofNat 32 (e + 1024 * (e - given) + 2 ^ 20 * given))).rset 0x6003C (BitVec.ofNat 32 (1024 * c))
  { s with pm.grant := grant, pm.lostSlot := 0, pm.lostQuad := 0, pm.throttled := false }

/-! ## Contexts at a strobe (R163, R197, R247) -/

/-- A context with its entry for the new slot. -/
def CtxSt.strobe (e : SlotEntry) (x : CtxSt) : CtxSt :=
  if x.haltQ then x
  else match e with
    | .start pc => { x with st := .run, pc := pc, await := none }
    | .cont => { x with st := .run, await := none }
    | .none => if x.st == .run || x.st == .waitArr then { x with st := .waitSlot, await := none } else x
/-- The contexts of tile `t` at the strobe of slot `k`: a tile whose quad is not ON has no clock. -/
def State.tileStrobe (k t : Nat) (s : State) : State :=
  match s.tileCfg t with
  | none => s
  | some p =>
    let v := s.tile t
    let v := { v with posted := [], boundsCtx := [], crcFails := if k = 0 then 0 else v.crcFails }
    if v.serves && s.dom (quadOf t) == .on then
      s.setTile t { v with ctxs := p.ctxs.foldl (fun m c => mput .reset m c.1
        ((mget .reset v.ctxs c.1).strobe (mget .none c.2.entries k))) v.ctxs }
    else s.setTile t v

/-- Buffers of frames whose verdict is written return to the free list; a REJECT's stay while it is held (R25, R26). -/
def State.returnBufs (s : State) : State :=
  forAll (s.vd.frames.filter (fun f => f.formed.isSome && f.keepUntil.isNone && !f.buffers.isEmpty)) (fun f s =>
    (s.releaseFrame (s.frameNow f)).dropEvidence f.stream f.fwd) s

/-- The recording of a trace starts at the first strobe of its slot (R682). -/
def State.traceStart (k : Nat) (s : State) : State :=
  let g := s.rget 0xE0080
  if bitAt g 15 && bitsOf g 21 16 = k then { s with dbg.traceOn := true } else s

/-- AO count `t` lies in a blackout, or at or past boundary B of an armed switch (R313, R314). -/
def State.pastSwitch (s : State) (r : Running) (t : Nat) : Bool :=
  s.ldr.phase == .blackout ||
    (s.ldr.phase == .armed && !s.ldr.first
      && (s.dev.state == .run || s.dev.state == .degraded || s.dev.state == .mismatchHold)
      && decide (nextBoundary r s.ldr.armedAt s.ldr.target ≤ t))

/-- Slot `k` of hyperperiod `h` begins. -/
def State.strobe (r : Running) (h k t : Nat) (s : State) : State :=
  let s := s.advance t
  let late := if r.struck then s.overrunning else []
  let s := forAll late (fun x s => s.overrun x.1 x.2) s
  let s := { s with run := some { r with slot := k, hyper := h, strobeAt := t, struck := true } }
  let s := s.returnBufs
  let s := forAll (List.range 48) (fun q s => s.quadSet r k q) s
  let s := forAll (List.range 192) (fun t s => s.tileStrobe k t) s
  let s := (s.grants r k).traceStart k
  s.reserveAgain.formReady

/-- SLOT_STROBE (R25, R163, R164, R197, R297, R351, R615): the next slot strobe of the running plan comes. No strobe falls in a
blackout, nor after the boundary of an armed switch. -/
def execSlotStrobe (s : State) : Host.Outcome State Fault Refusal :=
  s.act (fun s =>
    match s.run with
    | none => s
    | some r =>
      let wrap := decide (r.slot + 1 ≥ r.img.slots.length)
      let k := if !r.struck || wrap then 0 else r.slot + 1
      let h := if r.struck && wrap then r.hyper + 1 else r.hyper
      let t := r.anchor + h * r.img.hper + (match r.img.slots[k]? with | some x => x.start | none => 0)
      if s.pastSwitch r t then s else s.strobe r h k t)

/-! ## Resident self-test (R181 to R185) -/

/-- The outcome of the scrub read of a 64 B word: the worst of its eight 64-bit words. -/
def TileSt.scrubOut (v : TileSt) (a : Nat) (e : EccOut) : EccOut :=
  let l : List EccOut := (List.range 8).map (fun i => v.eccAt (a + 8 * i) .ok)
  if e == .unc || l.contains EccOut.unc then EccOut.unc else if e == .corr || l.contains EccOut.corr then .corr else .ok
/-- The scrub of one 64 B word: a correctable error is counted and written back (R157, R181), an uncorrectable one marks
the word poisoned and quarantines the tile (R158). -/
def State.scrubWord (t a : Nat) (e : EccOut) (s : State) : State :=
  let o := (s.tile t).scrubOut a e
  let s := match o with
    | .ok => s
    | .corr => let v := s.tile t
               s.setTile t { v with plant := (List.range 8).foldl (fun m i =>
                 if mget 0 m (a / 8 + i) = 1 then mput 0 m (a / 8 + i) 0 else m) v.plant }
    | .unc => let v := s.tile t
              let hit := (List.range 8).filter (fun i => v.eccAt (a + 8 * i) .ok == EccOut.unc)
              s.setTile t { v with sramPoison := (if hit.isEmpty then List.range 8 else hit).foldl (fun m i =>
                mput false m (a / 8 + i) true) v.sramPoison }
  s.eccDone t o

/-- A resident pass ends with a matching signature: TW_STPASS, TW_STLAST, and the procedures that waited for it go on (R81,
R182). -/
def State.passed (t : Nat) (s : State) : State :=
  let s := (s.rinc64 (twAddr t 0x20) 1).rset64 (twAddr t 0x28) s.ao
  let s := s.setTile t { s.tile t with passAt := some s.ao }
  let s := forAll [0, 1, 2, 3] (fun i s =>
    let d := s.dis i
    if d.busy then s.setDis i { d with stLeft := d.stLeft.filter (fun x => x ≠ t) } else s) s
  s.pollAll.formReady

/-- RESIDENT_STEP (R181 to R184): C47 of tile `t` executes its next step at AO count `at_`. `ecc`: what the scrub reads of
banks 0 to 11 find; `sigOk`: at the last step, whether the pass signature matches. -/
def execResidentStep (t : Tile) (sigOk : Bool) (ecc : List EccOut) (at_ : Nat) (s : State) : Host.Outcome State Fault Refusal :=
  s.act (fun s =>
    let v := s.tile t
    if v.serves && s.run.isSome && s.dom (quadOf t) == .on && !s.notClear 69 then
      let s := s.advance at_
      let k := if v.stReq then 0 else v.stStep
      let row := v.scrub % 512
      let s := s.setTile t { v with stStep := (k + 1) % 47, stReq := false, stBusy := decide (k < 46), scrub := (row + 1) % 512 }
      let s := s.rset (twAddr t 0x30) (BitVec.ofNat 32 ((row + 1) % 512))
      let s := forAll (List.range 12) (fun b s => s.scrubWord t (0x8000 * b + 64 * row) (lget .ok ecc b)) s
      if k < 46 then s
      else if sigOk then (if (s.tile t).serves then s.passed t else s)
      else ((s.revt (twAddr t 0x10) 6).raiseU 102 t).quarantineForm t 4
    else s)

/-! ## Mesh deliveries (R168 to R171, R191) -/

/-- A router that a route passes has stopped forwarding (R191, R194). -/
def State.pathBroken (s : State) (p : PRoute) : Bool :=
  p.path.any (fun t => (s.tile t).role == .quarantined && (s.tile t).qcause = 8)
/-- The oldest flit of a route, and the flits without it. -/
def takeFlit (n : Nat) : List Flit → Option (Flit × List Flit)
  | [] => none
  | f :: t => if f.route = n then some (f, t) else (takeFlit n t).map (fun x => (x.1, f :: x.2))
/-- A flit committed at the receive ring of its route's counter (R156, R170). -/
def State.arrive (t k : Nat) (ring : Ring) (data : BitVec 512) (bad : Bool) (s : State) : State :=
  let v := s.tile t
  let w := mget 0 v.wptr k
  let a := ring.base + 64 * w
  let v := v.write a (leBytes 64 data.toNat) bad
  let v := { v with wptr := mput 0 v.wptr k (if w + 1 ≥ ring.len then 0 else w + 1),
                    counters := mput 0 v.counters k (mget 0 v.counters k + 1) }
  (s.setTile t v).planted t a
/-- A result record reaches its result queue (R274): one that is reserved is discarded and counted (R275, R277). -/
def State.queueResult (data : BitVec 512) (bad : Bool) (s : State) : State :=
  let l := leBytes 64 data.toNat
  let t := leField l 10 2
  if decide (t < 192) && !(s.tile t).serves then s
  else if recordOk l then { s with vd.results := s.vd.results ++ [(data, bad)] }
  else if t < 192 then s.crcFail t else s

/-- MESH_DELIVERY (R168, R170, R171): the oldest flit of a route reaches its end; a route from a ledger column port carries
`data`. `coll`: an instruction write reached the same word in the same cycle (R156). `link`: the router input, tile x 4 +
port, at which a parity or route mismatch poisoned it (R171). -/
def execMeshDelivery (route : BitVec 12) (data : BitVec 512) (coll : Bool) (link : Option (Fin 768)) (s : State) :
    Host.Outcome State Fault Refusal :=
  s.act (fun s =>
    match s.run with
    | none => s
    | some r =>
      match r.img.routes.find? (fun p => p.num = route.toNat) with
      | none => s
      | some p =>
        let src : Option (Flit × List Flit) := match p.src with
          | .port _ => some ({ route := route.toNat, data := data, poison := false }, s.flits)
          | .tile _ => takeFlit route.toNat s.flits
        match src with
        | none => s
        | some x =>
          let s := { s with flits := x.2 }
          let bad := x.1.poison || link.isSome || s.pathBroken p
          let s := match link with
            | some u =>
              let s := if s.flt.injTarget = 4 ∧ s.flt.injUnit.toNat = u.val then s.disarm else s
              (s.revt (twAddr (u.val / 4) 0x10) 7).raiseU 104 u.val
            | none => s
          match p.dst with
          | .port _ => if p.resultQueue then s.queueResult x.1.data bad else s
          | .tile l =>
            match r.place[l]?, r.img.tiles[l]? with
            | some t, some q =>
              let s := s.arrive t p.counter (mget { base := 0, len := 1 } q.rings p.counter) x.1.data bad
              if coll then (s.revt (twAddr t 0x10) 4).raiseU 100 t else s
            | _, _ => s)

/-- AWAIT_RESUME (R251): the awaited count is reached and the context goes on with its next instruction. -/
def execAwaitResume (t : Tile) (c : Ctx) (s : State) : Host.Outcome State Fault Refusal :=
  s.act (fun s =>
    match (s.ctx t c).st, (s.ctx t c).await with
    | .waitArr, some (k, n) =>
      if awaitMet (mget 0 (s.tile t).counters k) n && s.dom (quadOf t) == .on && !s.notClear 69 then
        s.ctxUpd t c (fun (x : CtxSt) => { x with st := .run, await := none })
      else s
    | _, _ => s)

/-! ## Deep test (R186 to R189) -/

/-- The tile that enters deep test next: QUARANTINED tiles, then SPARE tiles, each in ascending order of their last deep
test and then of their number (R186). -/
def State.deepNext (s : State) : Option Nat :=
  let first (r : Role) : Option Nat :=
    let l := (List.range 192).filter (fun t => (s.tile t).role == r)
    l.find? (fun t => l.all (fun u => decide ((s.tile t).dtLast ≤ (s.tile u).dtLast)))
  match first .quarantined with
  | some t => some t
  | none => first .spare
/-- The tile in deep test. -/
def State.deepTile (s : State) : Option Nat := (List.range 192).find? (fun t => (s.tile t).role == .deepTest)

/-- DEEP_TEST_START (R186): while a plan runs and no tile is in deep test, the next tile enters it. -/
def execDeepTestStart (s : State) : Host.Outcome State Fault Refusal :=
  s.act (fun s =>
    match s.run, s.ldr.phase, s.deepTile, s.deepNext with
    | some _, .blackout, _, _ => s
    | some _, _, none, some t =>
      let v := s.tile t
      (s.setTile t { v with role := .deepTest, dtFromQ := v.role == .quarantined }).wakeDom (quadOf t)
    | _, _, _, _ => s)

/-- DEEP_TEST_END (R188, R189): the deep test in progress ends at AO count `at_`, and the tile takes its new role. -/
def execDeepTestEnd (pass routerOk : Bool) (at_ : Nat) (s : State) : Host.Outcome State Fault Refusal :=
  s.act (fun s =>
    match s.deepTile with
    | none => s
    | some t =>
      let s := s.advance at_
      let v : TileSt := { s.tile t with dtLast := s.ao, dtFromQ := false }
      if pass && routerOk then
        if v.qcount ≤ 2 then s.setTile t { v with role := .spare }
        else { s.setTile t { v with role := .failed } with store.thrDirty := true }
      else
        let v := { v with qcount := satAdd 255 v.qcount 1, qcause := 9, role := if routerOk then Role.failed else .failedRouter }
        let s := { s.setTile t v with store.thrDirty := true }
        (((s.revt (twAddr t 0x10) 9).raiseU 106 t).raiseU 109 t))

/-- The tile health record as the tiles stand (R660). -/
def State.healthNow (s : State) : FMap (Nat × Nat) :=
  (List.range 192).foldl (fun m t =>
    let v := s.tile t
    mput (0, 0) m t (if v.role == .failed then 5 else if v.role == .failedRouter then 6 else 0, v.qcount)) []
/-- TILE_HEALTH_WRITE (R643, R660): the health record, where one is due, is written into the slot of the older record. -/
def execTileHealthWrite (s : State) : Host.Outcome State Fault Refusal :=
  s.act (fun s =>
    if !s.store.thrDirty then s
    else if !s.dev.phys.flashOk then s.revt 0xC0008 6
    else
      let n := match s.healthRec with | some h => h.seq + 1 | none => 1
      let h : HealthRec := { seq := n, health := s.healthNow }
      let s := { s with store.thrDirty := false }
      let first := match s.store.thr0, s.store.thr1 with
        | none, _ => true
        | some _, none => false
        | some a, some b => !seqNewer a.seq b.seq
      if first then { s with store.thr0 := some h } else { s with store.thr1 := some h })

/-! ## Droop and illegal words -/

/-- DROOP_EVENT (R195, R617, R624): the detector of quad `q` fires and the array loses 1 to 8 cycle periods. -/
def execDroopEvent (q : Fin 48) (n : Fin 8) (s : State) : Host.Outcome State Fault Refusal :=
  s.act (fun s =>
    let s := ((s.rinc64 0x60048 1).revt 0x60008 1).raise 73
    let o := s.pm.lostSlot
    let s := { s with pm.lostQuad := if o = 0 then q.val else s.pm.lostQuad, pm.lostSlot := o + n.val + 1 }
    if s.pm.lostSlot > bitsOf (s.rget 0x60050) 15 0 then
      s.rset 0x60050 (BitVec.ofNat 32 (min 65535 s.pm.lostSlot + 65536 * s.pm.lostQuad)) else s)

/-- ILLEGAL_WORD (R278, R279): context `c` of tile `t` reaches the word `w`, which is illegal there. -/
def execIllegalWord (t : Tile) (c : Ctx) (w : W64) (s : State) : Host.Outcome State Fault Refusal :=
  (if s.canIssue t c then
    match s.whyNot t c w.toNat with
    | some y => (s.trace t c w.toNat 5).illegal t c w.toNat y
    | none => s
  else s).done

end Sys2Proof.Machine
end

