-- ==== Sys2Proof/Machine/HostLink.lean ====
section
/-! DEFINITION. The host link (R355 to R388): link loss and hot-add, Function Level Resets, virtual functions, the driver's
announcement, the ledger aperture, mover timeouts and MSI-X masks. -/

namespace Sys2Proof.Machine
open Sys2Proof

/-! ## Resetting a function (R361, R385, R445) -/

/-- The keys of a map below `lo` or from `lo + n` on. -/
def mdrop {α : Type} (lo n : Nat) (m : FMap α) : FMap α := m.filter (fun p => decide (p.1 < lo) || decide (lo + n ≤ p.1))
/-- The commands of function `f` are given up: their tags return to the free pool, with everything that waits on them. -/
def State.dropTags (f : Nat) (s : State) : State :=
  let ts := (s.heldTags.filter (fun p => p.2.fn = f)).map Prod.fst
  let gone (t : Nat) : Nat := if ts.contains t then 512 else t
  let s := forAll ts (fun t s => s.setTag t none) s
  { s with
    q.waits := s.q.waits.filter (fun w => !ts.contains w.tag),
    rv.reqRing := s.rv.reqRing.map (fun r => (r.1, gone r.2)),
    rv.ansRing := s.rv.ansRing.map (fun r => (r.1, gone r.2)),
    store.busy := s.store.busy.filter (fun p => !ts.contains (p.2 - 1)),
    ldr.tag := match s.ldr.tag with | some t => if ts.contains t then none else some t | none => none }
/-- Function `f` reset: rings, commands, registrations, mailboxes, doorbells, lanes, MSI-X table and FN_ registers; its verdict
read cursor moves to the newest record, and VRW_LOST to 0 (R361). -/
def State.fnReset (f : Nat) (s : State) : State :=
  let s := s.dropTags f
  let s := s.mbReset f 0
  let s := if f = 0 then s.mbReset 0 1 else s
  { s with
    q.rings := s.q.rings.filter (fun p => p.1 / 1024 ≠ f || internalRing p.1),
    q.paused := mdrop (1024 * f) 1024 s.q.paused,
    q.revReg := mdrop (64 * f) 64 s.q.revReg, q.digReg := mdrop (256 * f) 256 s.q.digReg,
    hl.lanes := mdrop (4 * f) 4 s.hl.lanes, hl.vmask := mdrop (32 * f) 32 s.hl.vmask,
    hl.fmask := mdrop f 1 s.hl.fmask, hl.vpend := mdrop (32 * f) 32 s.hl.vpend,
    dev.porterQ := s.dev.porterQ.filter (fun m => m.1 ≠ f),
    vd.cursor := mput 0 s.vd.cursor f s.vd.jseq, vd.lost := mput 0 s.vd.lost f 0,
    regs := mdrop (fnAddr f 0) 0x10000 s.regs, fregs := mdrop (fnAddr f 0) 0x10000 s.fregs }

/-- The function is enabled and served over the link (R357). -/
def State.fnLive (s : State) (f : Nat) : Bool := s.hl.dlUp && s.fns.contains f && !mget false s.hl.flr f

/-! ## Link loss and hot-add (R385 to R387) -/

/-- Check-value pair 2 or 3 is requested or not (R608): its domain follows, and an OFF pair loses its contents. -/
def State.cvPower (pair : Nat) (on : Bool) (s : State) : State :=
  if on then s.wakeDom (0x51 + pair)
  else { s.releaseDom (0x51 + pair) with
    sv.cv := mdrop (2 * pair) 2 s.sv.cv,
    regs := mdrop (0x40010 + 4 * pair) 4 (mdrop (0x40100 + 0x80 * pair) 0x80 s.regs) }
/-- PM_REQ goes to its reset value (R385, R632). -/
def State.reqReset (s : State) : State := (((s.rset 0x6000C 0).cvPower 2 false).cvPower 3 false)
/-- The link goes down: a hot reset of every function (R385). -/
def State.linkLost (surprise : Bool) (s : State) : State :=
  if !s.hl.dlUp then s
  else
    let s := { s with hl := { s.hl with dlUp := false, speed := 0, width := 0, downAt := some s.ao, wasDown := true } }
    let s := (s.revt 0x30 0).rincSat 0x34 31 0 1
    let s := if surprise then s.revt 0x30 1 else s
    let s := forAll (List.range 64) State.fnReset s
    let s := { s with hl := { s.hl with vfEnable := false, numVfs := 0, flr := [] } }
    s.reqReset.raise 198

/-- LINK_DOWN (R385): DL_Down at AO count `at_`. -/
def execLinkDown (at_ : Nat) (s : State) : Host.Outcome State Fault Refusal :=
  s.act (fun s => (s.advance at_).linkLost s.dev.perstN)
/-- PERST_N_ASSERT (R385, R626): the link goes down, and a later release powers the link's domains again. -/
def execPerstNAssert (at_ : Nat) (s : State) : Host.Outcome State Fault Refusal :=
  if s.dev.state = .cold then .next { s with dev.perstN := false }
  else if !s.dev.perstN then s.done
  else
    let s := s.advance at_
    let s := { s with dev.perstN := false, hl.serves := false }
    ((s.revt 0x30 2).linkLost false).done
/-- HOST_LINK_POWER_OFF (R386): 10 ms without link. -/
def execHostLinkPowerOff (s : State) : Host.Outcome State Fault Refusal :=
  s.act (fun s =>
    match s.hl.dlUp, s.hl.powered, s.hl.downAt with
    | false, true, some t =>
      let s := s.advance (t + 10 * Config.aoPerMs)
      { (s.releaseDom 0x45).releaseDom 0x46 with hl.powered := false }
    | _, _, _ => s)
/-- PERST_N_RELEASE (R386, R387, R633): domains that were switched off are powered again, and configuration requests receive
Retry Status until the porter serves them. -/
def execPerstNRelease (at_ : Nat) (s : State) : Host.Outcome State Fault Refusal :=
  if s.dev.state = .cold then .next { s with dev.perstN := true }
  else if s.dev.perstN then s.done
  else
    let s := s.advance at_
    let s := { s with dev.perstN := true, hl.serves := false }
    let s := if s.hl.powered then s
      else { forAll [0x45, 0x46, 0x56, 0x57, 0x58, 0x59] State.wakeDom s with hl.powered := true, hl.downAt := none }
    s.done
/-- LINK_UP (R355, R387): the link trains at a speed of 1 to 5 and a width; a running porter serves configuration space. -/
def execLinkUp (speed : BitVec 3) (width : BitVec 5) (at_ : Nat) (s : State) : Host.Outcome State Fault Refusal :=
  s.act (fun s =>
    if s.hl.dlUp || !s.dev.perstN || s.dom 0x45 != .on || s.dom 0x46 != .on || s.pm.pllBad.getLsbD 5
        || !(decide (1 ≤ speed.toNat) && decide (speed.toNat ≤ 5)) || !([1, 2, 4, 8, 16] : List Nat).contains width.toNat then s
    else
      let s := s.advance at_
      let s := if s.hl.wasDown then s.revt 0x30 3 else s
      ({ s with hl := { s.hl with dlUp := true, speed := speed, width := width, downAt := none, wasDown := false,
                                  serves := s.hl.serves || s.dev.porterUp } }).reeveFlush)

/-! ## Configuration requests and virtual functions (R357, R361, R362, R387) -/

/-- A vector's masks now allow its pending signal (R374). -/
def State.unmasked (f v : Nat) (s : State) : State :=
  let k := 32 * f + v
  if mget false s.hl.vpend k && !mget true s.hl.vmask k && !mget false s.hl.fmask f then
    ({ s with hl.vpend := mput false s.hl.vpend k false }).emit (.msix f v)
  else s
/-- VF Enable and NumVFs set: every virtual function removed is reset (R362). -/
def State.setVfs (en : Bool) (n : Nat) (s : State) : State :=
  let before := s.fns
  let s := { s with hl.vfEnable := en, hl.numVfs := n }
  forAll (before.filter (fun f => !s.fns.contains f)) (fun f s => { s.fnReset f with hl.flr := mput false s.hl.flr f false }) s
/-- CONFIG_REQUEST (R362, R373, R387): a configuration request of function `f` is answered with success, or with Retry Status
while the porter does not serve configuration space. What it may write: VF Enable with NumVFs (F00), and the Function
Mask. -/
def execConfigRequest (f : Fn) (vfs : Option (Bool × Fin 64)) (fmask : Option Bool) (s : State) :
    Host.Outcome State Fault Refusal :=
  s.act (fun s =>
    if !s.hl.dlUp then s
    else if !s.hl.serves then s.emit (.cfgAnswer f false)
    else if !s.fns.contains f.val then s.emit (.cfgAnswer f false)
    else
      let s := match vfs with
        | some (en, n) => if f.val = 0 then s.setVfs en n.val else s
        | none => s
      let s := match fmask with
        | some m => forAll (List.range 32) (fun v (s : State) => s.unmasked f v) { s with hl.fmask := mput false s.hl.fmask f m }
        | none => s
      s.emit (.cfgAnswer f true))
/-- VF_DISABLE (R362): VF Enable is cleared, or NumVFs lowered to `n`. -/
def execVfDisable (en : Bool) (n : Fin 64) (s : State) : Host.Outcome State Fault Refusal :=
  s.act (fun s =>
    if s.hl.dlUp && s.hl.serves && s.hl.vfEnable then s.setVfs en (min n.val s.hl.numVfs) else s)
/-- FUNCTION_LEVEL_RESET (R361): the host resets function `f`, which is not served until the reset completes. -/
def execFunctionLevelReset (f : Fn) (s : State) : Host.Outcome State Fault Refusal :=
  s.act (fun s =>
    if s.hl.dlUp && s.hl.serves && s.fns.contains f.val then
      { s.fnReset f with hl.flr := mput false s.hl.flr f true }
    else s)
/-- FUNCTION_LEVEL_RESET_COMPLETE (R361): the reset of function `f` in progress returns. -/
def execFunctionLevelResetComplete (f : Fn) (s : State) : Host.Outcome State Fault Refusal :=
  s.act (fun s =>
    if mget false s.hl.flr f then
      let s := { s with hl.flr := mput false s.hl.flr f false }
      if f.val = 0 then s.reeveFlush else s
    else s)

/-- An announcement of function `f` evaluated (R359): within the range of FN_ABI, outside it, or 0. -/
def State.announce (f : Nat) (v : W32) (s : State) : State :=
  let a := fnAddr f 4
  if v = 0 then (s.rfield a 4 4 0).rfield a 5 5 0
  else
    let m := bitsOf v 31 16
    if s.rv.abi.1 ≤ m ∧ m ≤ s.rv.abi.2 then (s.rfield a 4 4 1).rfield a 5 5 0
    else
      let s := ((s.rfield a 4 4 0).rfield a 5 5 1).fnEvt f 1
      if f = 0 then s.enterMismatch else s
/-- FN_DRV written by function `f`, and evaluated by a running porter. -/
def State.drvWrite (f : Nat) (v : W32) (s : State) : State :=
  let s := s.rset (fnAddr f 0x0C) v
  if s.porterLive then s.announce f v else s
/-- FN_DRV_WRITE (R31, R359): the driver of function `f` announces its ABI version. -/
def execFnDrvWrite (f : Fn) (v : W32) (s : State) : Host.Outcome State Fault Refusal :=
  s.act (fun s => if s.fnLive f then s.drvWrite f v else s)

/-! ## Ledger aperture (R366, R367) -/

/-- An error reported through AER as uncorrectable. -/
def State.aerUncorr (f : Nat) (s : State) : State := (s.revt 0x30 5).raiseU 197 f
/-- One byte written through the aperture at ledger address `a` (R366): only ring state of rings that the reeve does
not own is taken. -/
def State.apertureByte (a : Nat) (b : Byte) (s : State) : State :=
  let g := a / 32
  let r := s.ring g
  let l := r.bytes
  s.setRing g (RingSt.ofBytes (lset l (a % 32) b) r)
/-- A write of `who` through the aperture: `data` from ledger address `a`, none where a byte is not enabled. -/
def State.apertureWrite (who : Initiator) (a : Nat) (data : List (Option Byte)) (s : State) : State :=
  let touches (lo hi : Nat) : Bool := (List.range data.length).any (fun i =>
    ((data[i]?).join).isSome && decide (lo ≤ a + i) && decide (a + i < hi))
  if touches 0x7E00 0x8000 || touches 0xB00000 0xC00000 then s.firewall who (0x800000 + a % 0x800000)
  else if a < 0x200000 then
    forAll (List.range data.length) (fun i s => match (data[i]?).join with
      | some b => s.apertureByte (a + i) b
      | none => s) s
  else s
/-- APERTURE_ACCESS (R366, R367): F00 reads `len` bytes at offset `off` of the ledger aperture, or writes `data` there. `unc`:
the read meets a word with an uncorrectable error. An access that crosses a 4 KB boundary or is larger than the largest
payload is malformed: it is reported through AER and has no effect. -/
def execApertureAccess (off : BitVec 23) (data : Option (List (Option Byte))) (len : Fin 513) (unc : Bool) (s : State) :
    Host.Outcome State Fault Refusal :=
  s.act (fun s =>
    if !s.fnLive 0 then s
    else
      let n := match data with | some l => l.length | none => len.val
      let a := 0x800000 * bitsOf (s.rget 0x18) 0 0 + off.toNat
      if n = 0 then s
      else if n > 512 ∨ off.toNat % 4096 + n > 4096 then s.aerUncorr 0
      else match data with
        | some l => s.apertureWrite (.host 0) a l
        | none =>
          let s := { s.emit (.ledgerData a (s.ledgerRead a n) unc) with freeCtr := s.freeCtr + n }
          if unc then s.raiseWith 129 false { addr := a, init := 0, acc := 0, unit := ledgerBank a } else s)

/-! ## Movers and vectors -/

/-- DMA_READ_TIMEOUT (R356): a read that a mover issued has not completed in 10 ms, and is handled as an error completion. -/
def execDmaReadTimeout (r : DmaRead) (s : State) : Host.Outcome State Fault Refusal :=
  s.act (fun s =>
    match r with
    | .digest f i => s.digestDone f i [] true
    | .command f g => s.fetchCmd (ringId f g) 0 true
    | .ply => (match s.plyNext with
        | some (_, c) => if c.opc = 0x18 then s.ply 0 true false none none none else s
        | none => s)
    | .load => if s.ldr.src = 2 then s.loadPly 0 false true true else s)

/-- The mask bit of vector `v` of function `f` written. -/
def State.vecMask (f v : Nat) (m : Bool) (s : State) : State :=
  ({ s with hl.vmask := mput true s.hl.vmask (32 * f + v) m }).unmasked f v
/-- MSIX_UNMASK (R374): vector `v` of function `f` is unmasked, and a pending event is signalled once. -/
def execMsixUnmask (f : Fn) (v : Fin 32) (s : State) : Host.Outcome State Fault Refusal :=
  s.act (fun s => if s.fnLive f then (s.rfield (fnAddr f (0x300C + 16 * v.val)) 0 0 0).vecMask f v false else s)

end Sys2Proof.Machine
end

