-- ==== Sys2Proof/Machine/TimeOps.lean ====
section
/-! DEFINITION. The time unit (R587 to R606): the servo and its states, steps, triggers, captures and PTP ports. -/

namespace Sys2Proof.Machine
open Sys2Proof

/-! ## Rate and steps (R588, R593, R595, R599) -/

/-- Device time reckoned from the present AO cycle. -/
def State.tmRebase (s : State) : State := { s with tm.base := s.devNow, tm.at_ := s.ao }
/-- RATE set; in LOCKED, how long the old one was held is kept (R593). -/
def State.setRate (r : Int) (s : State) : State :=
  let s := s.tmRebase
  if s.tm.sync = .locked then
    { s with tm.rates := (s.ao - s.tm.lockedAt, s.tm.rate) :: s.tm.rates, tm.lockedAt := s.ao, tm.rate := r }
  else { s with tm.rate := r }
/-- The value that the PI servo gives RATE, within 500 ppm: the spec states no gains (log entry 3). -/
def State.servo (s : State) : State :=
  ({ s with freeCtr := s.freeCtr + 1 }).setRate ((((s.fresh 32).toNat % (2 * 2147483 + 1) : Nat) : Int) - 2147483)
/-- Sums over the last `left` AO cycles of the rates held: cycles, and cycles times RATE. -/
def rateSum : Nat → List (Nat × Int) → Nat × Int
  | _, [] => (0, 0)
  | left, (d, r) :: t =>
    let k := min d left
    let x := rateSum (left - k) t
    (k + x.1, (k : Int) * r + x.2)
/-- RATE in HOLDOVER (R593): its mean over the last 16 s in LOCKED, or its present value where it was locked for less. -/
def State.holdRate (s : State) : Int :=
  let l := if s.tm.sync = .locked then (s.ao - s.tm.lockedAt, s.tm.rate) :: s.tm.rates else s.tm.rates
  let x := rateSum (16 * Config.aoPerS) l
  if x.1 < 16 * Config.aoPerS then s.tm.rate else x.2 / (x.1 : Int)

/-- A trigger's registers (R597). -/
def trigAddr (n off : Nat) : Nat := 0x50200 + 32 * n + off
/-- MODE of trigger `n`: 0 OFF, 1 TIME, 2 SLOT, 3 PPS. -/
def State.trigMode (s : State) (n : Nat) : Nat := bitsOf (s.rget (trigAddr n 0)) 1 0
/-- A value clamped to a range. -/
def clamp (lo hi v : Nat) : Nat := if v < lo then lo else if v > hi then hi else v
/-- START and PERIOD of trigger `n` in device time; PPS runs on whole seconds. -/
def State.trigGrid (s : State) (n : Nat) : Nat × Nat :=
  if s.trigMode n = 3 then (0, 1000000000 * tmNs)
  else ((s.rget64 (trigAddr n 12) * 1000000000 + (s.rget (trigAddr n 8)).toNat) * tmNs,
        clamp 1000 4000000000 (s.rget (trigAddr n 20)).toNat * tmNs)
/-- The first scheduled edge strictly later than `t` (R599). -/
def firstAfter (g : Nat × Nat) (t : Nat) : Nat := if t < g.1 then g.1 else g.1 + ((t - g.1) / g.2 + 1) * g.2
/-- Scheduled edges up to and at `t`. -/
def edgesTo (g : Nat × Nat) (t : Nat) : Nat := if t < g.1 then 0 else (t - g.1) / g.2 + 1
/-- Trigger `n`. -/
def State.trig (s : State) (n : Nat) : Trigger := mget Trigger.reset s.tm.trigs n
/-- Trigger `n` set. -/
def State.setTrig (n : Nat) (t : Trigger) (s : State) : State := { s with tm.trigs := mput Trigger.reset s.tm.trigs n t }
/-- Trigger `n` after a step of device time from `old` to `new` (R599): its next edge is placed again, and edges passed over
are counted in SKIP. -/
def State.trigStep (n old new : Nat) (s : State) : State :=
  if s.trigMode n = 1 ∨ s.trigMode n = 3 then
    let g := s.trigGrid n
    let t := s.trig n
    let k := edgesTo g new - edgesTo g old
    let s := s.setTrig n { t with next := some (firstAfter g new), skip := satAdd 65535 t.skip k }
    if k = 0 then s else s.revt 0x50008 4
  else s
/-- Device time stepped to `t` (R594, R595, R599). -/
def State.stepTo (t : Nat) (s : State) : State :=
  let old := s.devNow
  let s := { s with tm.base := t, tm.at_ := s.ao, tm.xStart := s.ao, tm.xBase := t }
  let s := (s.rincSat 0x50004 21 6 1).revt 0x50008 2
  forAll (List.range 16) (fun n s => s.trigStep n old t) s

/-! ## Ports (R590 to R594) -/

/-- TM_CFG.SRC as it acts: 0 FREE, 1 IEEE 1588, 2 gPTP; 3 acts as FREE. -/
def State.tmSrc (s : State) : Nat := bitsOf (s.rget 0x5000C) 1 0 % 3
/-- MODE of PTP port `p`. -/
def State.ptpMode (s : State) (p : Nat) : Nat := bitsOf (s.rget (0x50010 + 4 * p)) 1 0
/-- The port's mode is one that SRC selects. -/
def State.ptpSelected (s : State) (p : Nat) : Bool :=
  (s.tmSrc == 1 && (s.ptpMode p == 1 || s.ptpMode p == 2)) || (s.tmSrc == 2 && s.ptpMode p == 3)
/-- The port carries PTP: the time unit is ON, the port has link and a mode. -/
def State.ptpUp (s : State) (p : Nat) : Bool :=
  s.dom 0x4F == .on && s.bsc.linkUp.toNat.testBit p && s.ptpMode p != 0
/-- A port's sync interval in AO cycles: LOGSYNC from -7 to 1, other values act as 0. -/
def State.syncInterval (s : State) (p : Nat) : Nat :=
  match bitsOf (s.rget (0x50010 + 4 * p)) 5 2 with
  | 1 => 2 * Config.aoPerS
  | 0 => Config.aoPerS
  | v => if 9 ≤ v then Config.aoPerS / 2 ^ (16 - v) else Config.aoPerS
/-- HOLDOVER entered from LOCKING or LOCKED (R593, R594). -/
def State.holdover (s : State) : State :=
  if s.tm.sync = .locking ∨ s.tm.sync = .locked then
    let r := s.holdRate
    let s := s.tmRebase
    (({ s with tm.rate := r, tm.sync := .holdover, tm.rates := [] }).revt 0x50008 1).raise 78
  else s
/-- No port is in SLAVE state: no grandmaster is selected (R593). -/
def State.noSlave (s : State) : State := (({ s with tm.slave := none }).rset64 0x50068 0).holdover
/-- |offset| > STEP: device time is stepped by -offset; STEP = 0 never steps (R593). -/
def State.offsetStep (offset : Int) (s : State) : State :=
  let st := bitsOf (s.rget 0x50020) 31 16
  if st ≠ 0 ∧ offset.natAbs > 1000 * st then s.stepTo ((s.devNow : Int) - offset * (tmNs : Int)).toNat else s
/-- An accepted Sync with its offset in nanoseconds (R593). -/
def State.syncIn (offset : Int) (s : State) : State :=
  let lock := max 1 (bitsOf (s.rget 0x50020) 15 0)
  let inLock := decide (offset.natAbs ≤ lock)
  let o := if offset > 0x7FFFFFFF then 0x7FFFFFFF else if offset < -0x80000000 then -0x80000000 else offset
  let s := ({ s with tm.lastSync := s.ao }).rset 0x50060 (BitVec.ofInt 32 o)
  match s.tm.sync with
  | .freerun => ({ s with tm.sync := .locking, tm.good := 0, tm.bad := 0 }.offsetStep offset).servo
  | .holdover => ({ s with tm.sync := .locking, tm.good := 0, tm.bad := 0 }.offsetStep offset).servo
  | .locking =>
    let k := if inLock then s.tm.good + 1 else 0
    if k ≥ 16 then
      (({ s with tm.sync := .locked, tm.good := 0, tm.bad := 0, tm.rates := [], tm.lockedAt := s.ao }).revt 0x50008 0).servo
    else ({ s with tm.good := k }).servo
  | .locked =>
    let k := if inLock then 0 else s.tm.bad + 1
    if k ≥ 4 then
      ((s.tmRebase.offsetStep offset |> fun (s : State) => { s with tm.sync := .locking, tm.good := 0, tm.bad := 0 })).servo
    else ({ s with tm.bad := k }).servo
/-- PTP_SYNC (R593, R594): the port in SLAVE state accepts a Sync at AO count `at_`, at the offset in nanoseconds that it
measures. -/
def execPtpSync (port : Port) (offset : Int) (at_ : Nat) (s : State) : Host.Outcome State Fault Refusal :=
  s.act (fun s =>
    if s.tm.slave = some port.val ∧ s.ptpUp port ∧ s.ptpSelected port then (s.advance at_).syncIn offset else s)
/-- The role that the best master algorithm gives port `p`: TM_PORT_p.ROLE, and the port that disciplines device time. A
slave-only device is never master, and a port in a mode that SRC does not select is never the slave (R590). -/
def State.ptpRole (p role : Nat) (gm : W64) (s : State) : State :=
  if role = 2 ∧ bitAt (s.rget 0x5000C) 9 then s
  else if role = 3 then
    (if s.ptpSelected p then
      (({ s with tm.slave := some p, tm.announceAt := s.ao }).rfield (0x50010 + 4 * p) 8 6 3).rset64 0x50068 gm.toNat
    else s)
  else
    let s := s.rfield (0x50010 + 4 * p) 8 6 role
    if s.tm.slave = some p then s.noSlave else s
/-- PTP_MESSAGE (R590, R591): a message other than a Sync reaches port `p` at AO count `at_`. `announce`: an Announce of its
master; `role`: the role that the port's best master algorithm takes with it, and that grandmaster; `reply`: the port
answers, with the time of its answer stamped. -/
def execPtpMessage (port : Port) (announce : Bool) (role : Option (Fin 6)) (gm : W64) (reply : Bool) (at_ : Nat) (s : State) :
    Host.Outcome State Fault Refusal :=
  s.act (fun s =>
    if !s.ptpUp port then s
    else
      let s := s.advance at_
      let s := if announce ∧ s.tm.slave = some port.val then { s with tm.announceAt := s.ao } else s
      let s := match role with | some r => s.ptpRole port r gm | none => s
      let t := secNs s.devNow
      if reply then s.emit (.ptpTx port t.1 t.2) else s)
/-- ANNOUNCE_RECEIPT_TIMEOUT (R590, R593): 3 announce intervals (2 s under IEEE 1588; 1 s under gPTP, PRESUMED from its
standard) without an Announce: the port leaves SLAVE. -/
def execAnnounceReceiptTimeout (port : Port) (s : State) : Host.Outcome State Fault Refusal :=
  s.act (fun s =>
    if s.tm.slave = some port.val then
      let s := s.advance (s.tm.announceAt + (if s.ptpMode port = 3 then 3 else 6) * Config.aoPerS)
      (s.rfield (0x50010 + 4 * port.val) 8 6 1).noSlave
    else s)
/-- SYNC_LOSS_TIMEOUT (R593, R594): no Sync accepted for 4 sync intervals of the selected port. -/
def execSyncLossTimeout (s : State) : Host.Outcome State Fault Refusal :=
  s.act (fun s =>
    match s.tm.slave with
    | some p =>
      if s.tm.sync = .locking ∨ s.tm.sync = .locked then
        (s.advance (s.tm.lastSync + 4 * s.syncInterval p)).holdover
      else s
    | none => s)
/-- The PDU last sent on port `p`. -/
def lastBsc (p : Nat) : List OutEv → Option (List Byte)
  | [] => none
  | .bsc _ q b :: t => if q = p then some b else lastBsc p t
  | _ :: t => lastBsc p t
/-- A BSC PDU is a VERDICT of the P0 stream (R86, R557). -/
def pduP0 (b : List Byte) : Bool := leField b 3 1 = 1 && (leField b 22 1).testBit 6
/-- TX_TIMESTAMP_WRITEBACK (R592, R94): port `p` writes back the stamp of the frame it sent at AO count `at_`: of a PTP event
message into TM_TXTS_p, of a BSC frame to the verdict engine, which measures the P0 interval (log entry 3). -/
def execTxTimestampWriteback (port : Port) (ptp : Bool) (at_ : Nat) (s : State) : Host.Outcome State Fault Refusal :=
  s.act (fun s =>
    let s := s.advance at_
    if ptp then
      (if s.ptpUp port then
        let a := 0x50080 + 16 * port.val
        let t := secNs s.devNow
        ((s.rset a (BitVec.ofNat 32 t.2)).rset (a + 4) (BitVec.ofNat 32 t.1)).rset64 (a + 8) s.ao
      else s)
    else match lastBsc port s.out with
      | some b => if pduP0 b then s.rmaxFree 0xA0050 0xFFFFFFFF else s
      | none => s)
/-- TIME_CROSS_CHECK (R595): 2^26 AO cycles have passed, in which device time less any step has measured `elapsed`
nanoseconds. -/
def execTimeCrossCheck (elapsed : Nat) (s : State) : Host.Outcome State Fault Refusal :=
  s.act (fun s =>
    if s.dom 0x4F != .on then s
    else
      let s := s.advance (s.tm.xStart + 2 ^ 26)
      let s := { s with tm.xStart := s.ao, tm.xBase := s.devNow }
      let want := 20 * 2 ^ 26
      if (((elapsed : Int) - (want : Int)).natAbs) * 1000 > want then (s.revt 0x50008 3).raise 79 else s)

/-! ## Register actions (R593, R596, R597) -/

/-- A write of TM_CFG (R593): SRC set to FREE leads to FREERUN with RATE 0; a slave port that SRC no longer selects
disciplines nothing. -/
def State.tmCfg (v : W32) (s : State) : State :=
  let s := s.rfield 0x5000C 26 0 (bitsOf v 26 0)
  if s.tmSrc = 0 then
    let s := s.tmRebase
    (({ s with tm.rate := 0, tm.sync := .freerun, tm.slave := none, tm.rates := [] }).rset64 0x50068 0)
  else match s.tm.slave with
    | some p => if s.ptpSelected p then s else s.noSlave
    | none => s
/-- A write of TM_PORT_p: a port that is switched off is DISABLED. -/
def State.tmPort (p : Nat) (v : W32) (s : State) : State :=
  let a := 0x50010 + 4 * p
  let s := s.rfield a 5 0 (bitsOf v 5 0)
  let s := if s.ptpMode p = 0 then s.rfield a 8 6 0 else s
  let s := if s.tm.slave = some p ∧ !s.ptpSelected p then s.noSlave else s
  s.ownDoms
/-- A write of TM_CTL.LOAD (R596): with SRC = FREE, device time steps to TM_SET; otherwise the LOAD is discarded. -/
def State.tmLoad (s : State) : State :=
  if s.tmSrc = 0 then
    s.stepTo ((s.rget64 0x50054 * 1000000000 + bitsOf (s.rget 0x50050) 29 0) * tmNs)
  else s.revt 0x50008 7
/-- A write of TM_SET's NS (R596): beyond 999 999 999 it is discarded. -/
def State.tmSetNs (v : W32) (s : State) : State :=
  if bitsOf v 29 0 > 999999999 then s.revt 0x50008 7 else s.rfield 0x50050 29 0 (bitsOf v 29 0)
/-- A write of a trigger's MODE (R597, R599): the trigger is armed in the new mode. -/
def State.tmTrig (n : Nat) (v : W32) (s : State) : State :=
  let s := s.rfield (trigAddr n 0) 8 0 (bitsOf v 8 0)
  let t := s.trig n
  let s := match s.trigMode n with
    | 0 => s.setTrig n { t with active := false, next := none }
    | 2 => s.setTrig n { t with next := some s.ao }
    | _ => s.setTrig n { t with next := some (firstAfter (s.trigGrid n) s.devNow) }
  s.ownDoms

/-! ## Triggers (R597 to R601) -/

/-- AO cycles until device time has reached `t`, counted from AO count 0. -/
def State.aoOf (s : State) (t : Nat) : Nat :=
  if t ≤ s.devNow then s.ao else s.tm.at_ + ceilDiv (t - s.tm.base) ((20 * tmNs : Nat) + 20 * s.tm.rate * 65536).toNat
/-- The AO count of the first SLOT edge of trigger `n` after `last` (R597, R600). -/
def State.slotEdge (s : State) (n last : Nat) : Option Nat :=
  match s.run with
  | none => none
  | some r =>
    match r.img.slots[bitsOf (s.rget (trigAddr n 0)) 8 3]? with
    | none => none
    | some sl =>
      let first := r.anchor + sl.start + bitsOf (s.rget (trigAddr n 8)) 15 0
      let t := if last < first then first else first + ((last - first) / r.img.hper + 1) * r.img.hper
      if s.pastSwitch r t then none else some t
/-- An edge of trigger `n` at the present AO cycle: counted, and its pulse starts or is extended (R597, R601). -/
def State.edge (n : Nat) (next : Option Nat) (s : State) : State :=
  let t := s.trig n
  s.setTrig n { t with edges := (t.edges + 1) % 65536, active := true, next := next,
                       pulseEnd := 20 * s.ao + clamp 20 1000000 (bitsOf (s.rget (trigAddr n 4)) 19 0) }
/-- TRIGGER_EDGE (R597 to R601): the next scheduled edge of trigger `n` is emitted. -/
def execTriggerEdge (n : Fin 16) (s : State) : Host.Outcome State Fault Refusal :=
  s.act (fun s =>
    match s.trigMode n, (s.trig n).next with
    | 0, _ => s
    | _, none => s
    | 2, some last => match s.slotEdge n last with
      | some t => let s := s.advance t; s.edge n (some t)
      | none => s
    | _, some t => let s := s.advance (s.aoOf t); s.edge n (some (firstAfter (s.trigGrid n) t)))
/-- TRIGGER_PULSE_END (R601): WIDTH after its last edge the pin is inactive. -/
def execTriggerPulseEnd (n : Fin 16) (s : State) : Host.Outcome State Fault Refusal :=
  s.act (fun s =>
    let t := s.trig n
    if t.active then (s.advance (ceilDiv t.pulseEnd 20)).setTrig n { t with active := false } else s)

/-! ## Captures (R602 to R605) -/

/-- CAPTURE_EDGE (R602, R605): an edge at capture input `n` at AO count `at_`; a selected one is stamped and held pending. -/
def execCaptureEdge (n : Fin 16) (rise : Bool) (at_ : Nat) (s : State) : Host.Outcome State Fault Refusal :=
  s.act (fun s =>
    let s := s.advance at_
    let e := bitsOf (s.rget (0x50400 + 32 * n.val)) 1 0
    if s.dom 0x4F == .on && e.testBit (if rise then 0 else 1) then
      let c := mget Capture.reset s.tm.caps n
      let t := secNs s.devNow
      let r : CapRec := { ns := t.2, sec := t.1 % 2 ^ 32, ao := s.ao, rise := rise, sync := s.tm.sync == .locked }
      { s with tm.caps := mput Capture.reset s.tm.caps n { c with pend := c.pend ++ [(r, 0)] } }
    else s)
/-- The oldest record of capture input `n` taken from its queue (R604). -/
def State.capPop (n : Nat) (s : State) : State :=
  let c := mget Capture.reset s.tm.caps n
  { s with tm.caps := mput Capture.reset s.tm.caps n { c with queue := c.queue.drop 1 } }

end Sys2Proof.Machine
end

