-- ==== Sys2Proof/Machine/Pins.lean ====
section
/-! DEFINITION. The levels of the output pins that the boundary scan instructions bear on (R509, R538, R601, R672, R687). -/

namespace Sys2Proof.Machine
open Sys2Proof

/-- A pin is driven to a level, or released to its pull-down. -/
inductive PinLevel where
  | driven (high : Bool)
  | released
  deriving DecidableEq, Repr

/-- The TAP instructions of R670 by their code, where they are not the register selection alone. -/
def irExtest : BitVec 6 := 0
def irClamp : BitVec 6 := 4
def irHighz : BitVec 6 := 5

/-- A safety pin (SO, H, BTQ): split mode's EXTEST and CLAMP drive it low and HIGHZ releases it; else its functional level,
low in COLD. -/
def State.safetyPin (level : Bool) (s : State) : PinLevel :=
  if s.dev.state = .cold then .driven false
  else if s.dev.split && (s.dbg.ir == irExtest || s.dbg.ir == irClamp) then .driven false
  else if s.dev.split && s.dbg.ir == irHighz then .released
  else .driven level
/-- A trigger or error pin: split mode's EXTEST and CLAMP drive the boundary cell `cell`. -/
def State.cellPin (cell : Nat) (level : Bool) (s : State) : PinLevel :=
  if s.dev.state = .cold then .driven false
  else if s.dev.split && (s.dbg.ir == irExtest || s.dbg.ir == irClamp) then .driven (s.dbg.bsr.getLsbD cell)
  else if s.dev.split && s.dbg.ir == irHighz then .released
  else .driven level
/-- Both pins of output pair or hold channel `k` (R538). -/
def State.chanPin (k : Nat) (s : State) : PinLevel := s.safetyPin (s.chan k).energised
/-- BTQ of hold channel `h`. -/
def State.btqPin (h : Nat) (s : State) : PinLevel := s.safetyPin (s.sio.btq.getLsbD h)
/-- TRIG pin `n` (R601): active while its pulse lasts, with the polarity of POL. -/
def State.trigPin (n : Nat) (s : State) : PinLevel :=
  s.cellPin n ((s.trig n).active != bitAt (s.rget (trigAddr n 0)) 2)
/-- ERR_S (R509), boundary cell 16. -/
def State.errSPin (s : State) : PinLevel := s.cellPin 16 (!s.errSLow)
/-- ERR_P (R510), boundary cell 17. -/
def State.errPPin (s : State) : PinLevel := s.cellPin 17 s.flt.errP

end Sys2Proof.Machine
end

