-- ==== Sys2Proof/Machine/PowerEvents.lean ====
section
/-! DEFINITION. Clocks, temperature and host-less operation (R615, R619 to R622, R625, R632, R633), and the requests of
PM_REQ (R608). -/

namespace Sys2Proof.Machine
open Sys2Proof

/-! ## Clock monitors (R619 to R622) -/

/-- The bit of PM_PLL; the AO oscillator has none. -/
def pllBit : Pll → Option Nat
  | .ao => none
  | .reeve => some 0
  | .mesh => some 1
  | .array => some 2
  | .porter => some 3
  | .pcie => some 5
  | .eth p => some (6 + p.val)
  | .dphy p => some (10 + p.val)
  | .time => some 12
  | .xspi => some 13
/-- The monitor source of a clock (R619). -/
def pllSource : Pll → Nat
  | .ao => 68
  | .reeve => 70
  | .mesh => 69
  | .array => 69
  | .porter => 71
  | _ => 72
/-- Some quad is ON or CLOCK_GATED. -/
def State.quadLive (s : State) : Bool := (List.range 48).any (fun q => s.dom q != .off)
/-- The clock runs (R619): its owner requires it. -/
def State.clockRuns (s : State) : Pll → Bool
  | .ao => true
  | .reeve => s.dom 0x40 == .on
  | .mesh => s.dom 0x5B == .on
  | .array => s.quadLive
  | .porter => s.dev.porterUp
  | .pcie => s.dom 0x46 == .on
  | .eth p => s.dom (0x47 + p.val) == .on
  | .dphy p => s.dom (0x4B + p.val) == .on
  | .time => s.dom 0x4F == .on
  | .xspi => s.dom 0x5B == .on
/-- The block that a clock's fault holds in block reset (R622), by a source that names it. -/
def pllBlock : Pll → Option Nat
  | .porter => some 71
  | .pcie => some 198
  | .eth p => some (164 + p.val)
  | .dphy p => some (160 + p.val)
  | _ => none
/-- PLL_MONITOR_FAULT (R620, R622): a clock that runs loses lock or leaves its band; its monitor source is raised and stays
asserted, and a porter or interface block is held in block reset. -/
def execPllMonitorFault (pll : Pll) (s : State) : Host.Outcome State Fault Refusal :=
  s.act (fun s =>
    if s.clockRuns pll then
      let s := match pllBit pll with
        | some b => { s with pm.pllBad := s.pm.pllBad ||| BitVec.ofNat 16 (2 ^ b) }
        | none => s
      let s := match pllBlock pll with | some n => s.blockReset n | none => s
      (s.revt 0x60008 3).raiseLevel (pllSource pll) 0xFFFF
    else s)
/-- ARRAY_RELOCK (R621): an attempt to relock the array and mesh PLLs ends. -/
def execArrayRelock (ok : Bool) (s : State) : Host.Outcome State Fault Refusal :=
  s.act (fun s =>
    if ok ∧ (s.pm.pllBad &&& 6) ≠ 0 then
      (({ s with pm.pllBad := s.pm.pllBad &&& 0xFFF9 }).revt 0x60008 4).lower 69
    else s)
/-- PLL_RELOCK (R622): an attempt to relock the porter PLL or an interface PLL ends. -/
def execPllRelock (pll : Pll) (ok : Bool) (s : State) : Host.Outcome State Fault Refusal :=
  s.act (fun s =>
    match pllBit pll with
    | some b =>
      if ok ∧ (pllSource pll = 71 ∨ pllSource pll = 72) ∧ s.pm.pllBad.toNat.testBit b then
        let s := ({ s with pm.pllBad := s.pm.pllBad &&& ~~~(BitVec.ofNat 16 (2 ^ b)) }).revt 0x60008 4
        if pllSource pll = 71 ∨ (s.pm.pllBad &&& 0x3FE0) = 0 then s.lower (pllSource pll) else s
      else s
    | none => s)

/-! ## Temperature (R625) -/

/-- The hottest of the readings and its sensor, from sensor `i` on. -/
def hottest : Nat → List Int → Option (Int × Nat)
  | _, [] => none
  | i, t :: r => match hottest (i + 1) r with
    | some x => if t < x.1 then some x else some (t, i)
    | none => some (t, i)
/-- A level source with a hysteresis of 3 degrees: raised above `limit`, lowered at 3 degrees below it. -/
def State.hotSource (n : Nat) (limit t : Int) (s : State) : State :=
  if t > limit then s.raiseLevel n 0xFFFF else if t ≤ limit - 3 then s.lower n else s
/-- TEMPERATURE_READ (R625): the eight junction sensors are read, and the hottest reading is compared with the configured
warning and with 110 degrees. -/
def execTemperatureRead (r : List Int) (s : State) : Host.Outcome State Fault Refusal :=
  s.act (fun s =>
    match hottest 0 (r.take 8) with
    | some (t, i) =>
      let v : Int := if t > 255 then 255 else if t < -256 then -256 else t
      let s := s.rfield 0x60054 11 0 (lowBits 9 v + 512 * i)
      (s.hotSource 75 (s.tempWarn : Int) t).hotSource 76 110 t
    | none => s)

/-! ## Host-less operation (R632, R633) -/

/-- The next hyperperiod boundary of the running plan. -/
def Running.nextBound (r : Running) : Nat := r.anchor + (if r.struck then r.hyper + 1 else r.hyper) * r.img.hper
/-- HOSTLESS_ENTRY (R632, R635): the first hyperperiod boundary after the host link's domains were switched off. -/
def execHostlessEntry (s : State) : Host.Outcome State Fault Refusal :=
  s.act (fun s =>
    match s.run with
    | some r =>
      if !s.pm.hostless && !s.hl.powered then
        let s := s.advance r.nextBound
        let s := { s with pm.hostless := true }
        (forAll [0x56, 0x57, 0x58, 0x59] State.releaseDom (s.revt 0x60008 5)).reqReset
      else s
    | none => s)
/-- HOSTLESS_EXIT (R633): the first hyperperiod boundary after PERST_N is released. -/
def execHostlessExit (s : State) : Host.Outcome State Fault Refusal :=
  s.act (fun s =>
    match s.run with
    | some r =>
      if s.pm.hostless && s.hl.powered then ({ s.advance r.nextBound with pm.hostless := false }).revt 0x60008 5 else s
    | none => s)

/-! ## Power requests (R608, R615) -/

/-- A write of PM_REQ taken: a cap above 960 keeps the old one; check-value pairs 2 and 3 go on or off as requested. -/
def State.pmReq (v : W32) (s : State) : State :=
  let o := s.rget 0x6000C
  let s := if bitsOf v 9 0 > 960 then s else s.rfield 0x6000C 9 0 (bitsOf v 9 0)
  let s := s.rfield 0x6000C 11 10 (bitsOf v 11 10)
  let s := if bitAt v 10 = bitAt o 10 then s else s.cvPower 2 (bitAt v 10)
  if bitAt v 11 = bitAt o 11 then s else s.cvPower 3 (bitAt v 11)

end Sys2Proof.Machine
end

