-- ==== Sys2Proof/Machine/SafetyIo.lean ====
section
/-! DEFINITION. Safety I/O events (R528 to R546): agreement rounds as they reach the pairs, the timers of pairs, test pulses
and read-back, feedback, and the brake tests. -/

namespace Sys2Proof.Machine
open Sys2Proof

/-- A capture record is committed to its queue of 16, or counted in OVF (R602, R604). -/
def State.capCommit (n : Nat) (r : CapRec) (s : State) : State :=
  let c := mget Capture.reset s.tm.caps n
  if c.queue.length < 16 then
    { s with tm.caps := mput Capture.reset s.tm.caps n { c with queue := c.queue ++ [r] } }
  else ({ s with tm.caps := mput Capture.reset s.tm.caps n { c with ovf := satAdd 255 c.ovf 1 } }).revt 0x50008 5
/-- One round of capture input `n`, whose adopted level is `v` and was `u` (R602): the oldest pending stamp of the change is
committed; a stamp whose change is not adopted within 2 rounds is discarded. -/
def State.capRound (n : Nat) (u v : Bool) (s : State) : State :=
  let c := mget Capture.reset s.tm.caps n
  if c.pend.isEmpty then s
  else
    let hit := if u = v then none else c.pend.find? (fun p => p.1.rise = v)
    let rest := match hit with | some p => c.pend.erase p | none => c.pend
    let late := rest.filter (fun p => decide (1 ≤ p.2))
    let keep := (rest.filter (fun p => decide (p.2 < 1))).map (fun p => (p.1, p.2 + 1))
    let c : Capture := { c with pend := keep, unconf := satAdd 65535 c.unconf late.length }
    let s := { s with tm.caps := mput Capture.reset s.tm.caps n c }
    let s := if late.isEmpty then s else s.revt 0x50008 6
    match hit with | some p => s.capCommit n p.1 | none => s

/-- What an adopted vector does: the pairs follow their patterns, a changed MODE_SPLIT pin is noted, any change brings the
reeve back to 400 MHz (R474 to R476, R480, R528, R530). -/
def State.adopted (old : W64) (s : State) : State :=
  let s := if s.rv.adopted = old then s else { s with rv.slow := false }
  let s := if s.rv.adopted.toNat.testBit 50 != s.dev.split then { s with rv.strapChg := true } else s
  let s := forAll (List.range 16) (fun n s =>
    s.capRound n (old.toNat.testBit (32 + n)) (s.rv.adopted.toNat.testBit (32 + n))) s
  s.evalPairs

/-- AGREEMENT_ROUND (R473 to R479): the three cores' samples of the 64 inputs and the feedback pins at AO count `at_`. While
the cores are stopped no round reaches them (R706); during a recovery pause an input change waits (R471). -/
def execAgreementRound (a b c : W64) (fb : BitVec 20) (at_ : Nat) (s : State) : Host.Outcome State Fault Refusal :=
  s.act (fun s =>
    let s := s.advance at_
    let s := forAll (List.range 10) State.fbWatch { s with sio.feedback := fb }
    if s.rv.stopped then s
    else
      let old := s.rv.adopted
      let t := s.adopt (inputs52 a) (inputs52 b) (inputs52 c)
      if s.rv.pause.isSome then { t with rv.adopted := old } else t.adopted old)

/-- DISCREPANCY_TIMEOUT (R530): the pair's EQUAL pattern has lasted longer than its discrepancy time. -/
def execDiscrepancyTimeout (p : Fin 16) (s : State) : Host.Outcome State Fault Refusal :=
  s.act (fun s =>
    if (s.pair p).pat = .equal ∧ ((s.pair p).st = .demand ∨ (s.pair p).st = .testPending) then
      (s.advance ((s.pair p).patAt + (pairCfg s.sio.body p).disc + 1)).evalPair p
    else s)

/-- RELEASE_FILTER_END (R530): the pair's RELEASE pattern has lasted its filter time. -/
def execReleaseFilterEnd (p : Fin 16) (s : State) : Host.Outcome State Fault Refusal :=
  s.act (fun s =>
    if (s.pair p).pat = .release ∧ ((s.pair p).st = .demand ∨ (s.pair p).st = .testPending) then
      (s.advance ((s.pair p).patAt + (pairCfg s.sio.body p).filt)).evalPair p
    else s)

/-- The read-back source of a channel: SO_RB0 to SO_RB7, HOLD_RB0 and HOLD_RB1 (R540). -/
def rbSrc (k : Nat) : Nat := 48 + k
/-- The pair or hold channel number of a channel (R513). -/
def chanUnit (k : Nat) : Nat := if k < 8 then k else k - 8

/-- TEST_PULSE (R539, R540): pin A or pin B of an energised channel is driven low for its pulse time; a failed read-back
raises SO_RBn or HOLD_RBn. A de-energised channel is never pulsed. -/
def execTestPulse (ch : Fin 10) (_pinB ok : Bool) (s : State) : Host.Outcome State Fault Refusal :=
  s.act (fun s =>
    if (s.chan ch).energised && !ok then
      s.raiseU (rbSrc ch) (chanUnit ch)
    else s)

/-- FEEDBACK_TIMEOUT (R541): a feedback pin has stood other than commanded for longer than T_fb. -/
def execFeedbackTimeout (ch : Fin 10) (s : State) : Host.Outcome State Fault Refusal :=
  s.act (fun s =>
    let c := chanCfg s.sio.body ch
    let w := mget 0 s.sio.fbWrong ch
    if c.fbEn ∧ w ≠ 0 then (s.advance (w + c.tfb)).raiseU (rbSrc ch) (chanUnit ch) else s)

/-! ## Brake tests (R543 to R546) -/

/-- BRAKE_APPLY_END (R544 steps 2 and 3): the feedback pins are checked for the de-energised level, and the torque is asked
for. -/
def execBrakeApplyEnd (h : Fin 2) (s : State) : Host.Outcome State Fault Refusal :=
  s.act (fun s =>
    let k := 8 + h.val
    let c := s.chan k
    if c.bt = .apply then
      let s := s.advance (c.btStart + (brakeCfg s.sio.body h).apply)
      if (chanCfg s.sio.body k).fbEn && s.fbBad k then s.brakeFail h 2
      else { s.setChan k { c with bt := .torque } with sio.btq := s.sio.btq ||| BitVec.ofNat 2 (2 ^ h.val) }
    else s)

/-- BRAKE_TORQUE_END (R544 step 4): the torque falls and the test has passed. -/
def execBrakeTorqueEnd (h : Fin 2) (s : State) : Host.Outcome State Fault Refusal :=
  s.act (fun s =>
    let k := 8 + h.val
    let c := s.chan k
    if c.bt = .torque then
      let b := brakeCfg s.sio.body h
      let s := s.advance (c.btStart + b.apply + b.torque)
      let s := { s with sio.btq := s.sio.btq &&& ~~~(BitVec.ofNat 2 (2 ^ h.val)) }
      let due := if b.interval = 0 then none else some (s.ao + b.interval)
      (s.setChan k { c with bt := .wait, btLast := 1, btPassAt := some s.ao, btDue := false, btDueAt := due }).revt 0x70008 4
    else s)

/-- BRAKE_REENERGISE (R544 step 5): 100 ms later the channel is energised without a restart. -/
def execBrakeReenergise (h : Fin 2) (s : State) : Host.Outcome State Fault Refusal :=
  s.act (fun s =>
    let k := 8 + h.val
    let c := s.chan k
    if c.bt = .wait then
      let b := brakeCfg s.sio.body h
      let s := s.advance (c.btStart + b.apply + b.torque + 100 * Config.aoPerMs)
      let s := s.setChan k { c with bt := .idle }
      if s.conds k then s.drive k true else s
    else s)

/-- BRAKE_TEST_DUE (R546): the interval since the last passed test has run out. -/
def execBrakeTestDue (h : Fin 2) (s : State) : Host.Outcome State Fault Refusal :=
  s.act (fun s =>
    let k := 8 + h.val
    match (s.chan k).btDueAt with
    | some t => let s := s.advance t; s.setChan k { s.chan k with btDue := true }
    | none => s)

/-- BRAKE_TEST_OVERDUE (R546): no test has passed within the grace time after it fell due. -/
def execBrakeTestOverdue (h : Fin 2) (s : State) : Host.Outcome State Fault Refusal :=
  s.act (fun s =>
    let k := 8 + h.val
    match (s.chan k).btDueAt with
    | some t =>
      if (s.chan k).btDue then (s.advance (t + (brakeCfg s.sio.body h).grace)).brakeFail h 3 else s
    | none => s)

end Sys2Proof.Machine
end

