-- ==== Sys2Proof/Machine/ReeveCmds.lean ====
section
/-! DEFINITION. The reeve's commands (R494, R496 to R498, R523, R547 to R552, R572): what each does once the shared checks of
R487 have passed, and the ends of lease and lockout. -/

namespace Sys2Proof.Machine
open Sys2Proof

/-- A command whose operands have no range beyond their bits. -/
def anyOk (_ : BitVec 512) : Bool := true
/-- No privilege needed. -/
def noPriv (_ : BitVec 512) : Bool := false
/-- Privilege needed. -/
def needPriv (_ : BitVec 512) : Bool := true
/-- OK with INFO. -/
def okInfo (info : Nat) (s : State) : Nat × Nat × State := (0, info, s)

/-! ## Privilege (R496 to R498) -/

/-- The salted password hash H: bytes 0x50 to 0x7F of the body; in a factory configuration that of the unit's label, which the
spec gives no value for (R553, log entry 4). -/
def State.pwdHash (s : State) : List Byte :=
  let h := bodyBytes s.sio.body 0x50 48
  if s.factory && h.all (fun b => b = 0) then (List.range 48).map (fun i => Config.fixedByte (0x50 + i)) else h

/-- SHA-384 of a nonce and the hash H. -/
def State.nonceHash (s : State) (n : W64) : List Byte := sha384 (leBytes 8 n.toNat ++ s.pwdHash)

/-- The token of R496 for a nonce. -/
def State.tokenOf (s : State) (n : W64) : Nat := leNat (slice 0 32 (s.nonceHash n))

/-- ECHO (R494): INFO := ARG1. -/
def execEcho (p : ReqPath) (s : State) : Host.Outcome State Fault Refusal :=
  s.reeveCmd p 0x0001 [all64] anyOk noPriv (fun r s => okInfo (reqArg r 1) s)

/-- PRIV_CHALLENGE (R494): INFO := a fresh nonce. -/
def execPrivChallenge (p : ReqPath) (s : State) : Host.Outcome State Fault Refusal :=
  s.reeveCmd p 0x0002 [] anyOk noPriv (fun _ s =>
    let n : W64 := s.fresh 64
    okInfo n.toNat { s.tickFree with rv.nonce := some (n, s.ao, s.rv.privHeld) })

/-- An AUTH refusal counted; the fifth in a row locks privilege out for 300 s (R497). -/
def State.authFail (s : State) : State :=
  let f := s.rv.fails + 1
  let s := { s with rv.fails := f }
  if f ≥ 5 then ({ s with rv.fails := 5, rv.lockEnd := some (s.ao + 300 * Config.aoPerS) }).revt 0x2000C 7 else s

/-- PRIV_ACQUIRE (R496, R497). -/
def execPrivAcquire (p : ReqPath) (s : State) : Host.Outcome State Fault Refusal :=
  s.reeveCmd p 0x0003 [all64, all64, all64, all64] anyOk noPriv (fun r s =>
    if s.rv.lockEnd.isSome then (8, 0, s)
    else
      let tok := reqField r 16 32
      let good := match s.rv.nonce with
        | some (n, t, _) => decide (s.ao ≤ t + 10 * Config.aoPerS) && decide (tok = s.tokenOf n)
        | none => false
      let s := { s with rv.nonce := none }
      if good then
        okInfo (s.lease / Config.aoPerS)
          (({ s with rv.privHeld := true, rv.leaseEnd := s.ao + s.lease, rv.fails := 0 }).revt 0x2000C 6)
      else (7, 0, s.authFail))

/-- PRIV_RELEASE (R498). -/
def execPrivRelease (p : ReqPath) (s : State) : Host.Outcome State Fault Refusal :=
  s.reeveCmd p 0x0004 [] anyOk noPriv (fun _ s => okInfo 0 s.endPriv)

/-- PRIV_LEASE_EXPIRY (R498). -/
def execPrivLeaseExpiry (s : State) : Host.Outcome State Fault Refusal :=
  s.act (fun s => if s.rv.privHeld then (s.advance s.rv.leaseEnd).endPriv else s)

/-- PRIV_LOCKOUT_END (R497). -/
def execPrivLockoutEnd (s : State) : Host.Outcome State Fault Refusal :=
  s.act (fun s => match s.rv.lockEnd with
    | some t => (s.advance t).lockCheck
    | none => s)

/-! ## Streams, tiles, holds (R494) -/

/-- STREAM_HOLD (R494): hold reason COMMAND set. -/
def execStreamHold (p : ReqPath) (s : State) : Host.Outcome State Fault Refusal :=
  s.reeveCmd p 0x0010 [63] anyOk noPriv (fun r s =>
    okInfo 0 (s.holdSet (reqArg r 1) (fun v => { v with hCommand := true })))

/-- STREAM_RELEASE (R494): hold reason COMMAND cleared. -/
def execStreamRelease (p : ReqPath) (s : State) : Host.Outcome State Fault Refusal :=
  s.reeveCmd p 0x0011 [63] anyOk needPriv (fun r s =>
    okInfo 0 (s.holdSet (reqArg r 1) (fun v => { v with hCommand := false })))

/-- The tile operand is 0 to 191. -/
def tileOk (r : BitVec 512) : Bool := decide (reqArg r 1 < 192)

/-- TILE_QUARANTINE (R190, R494): cause COMMAND; no effect on a tile already out of service. -/
def execTileQuarantine (p : ReqPath) (s : State) : Host.Outcome State Fault Refusal :=
  s.reeveCmd p 0x0020 [255] tileOk noPriv (fun r s => okInfo 0 (s.quarantineForm (reqArg r 1) 7))

/-- A tile's quarantine count and health entry cleared (R189). -/
def State.tileClear (t : Nat) (s : State) : State :=
  let v := s.tile t
  let role := if v.role == .failed || v.role == .failedRouter then Role.quarantined else v.role
  { s.setTile t { v with role := role, qcount := 0 } with store.thrDirty := true }

/-- TILE_CLEAR (R189, R494). -/
def execTileClear (p : ReqPath) (s : State) : Host.Outcome State Fault Refusal :=
  s.reeveCmd p 0x0021 [255] tileOk needPriv (fun r s => okInfo 0 (s.tileClear (reqArg r 1)))

/-- SAFE_HOLD_REQ (R494): CMD_HOLD is raised. -/
def execSafeHoldReq (p : ReqPath) (s : State) : Host.Outcome State Fault Refusal :=
  s.reeveCmd p 0x0030 [] anyOk noPriv (fun _ s => okInfo 0 (s.raise 11))

/-- VOTER_TEST (R464, R494): a run-time voter test; INFO := RV_VTEST. In split mode the voters are off (R481). -/
def execVoterTest (p : ReqPath) (s : State) : Host.Outcome State Fault Refusal :=
  s.reeveCmd p 0x0031 [] anyOk needPriv (fun _ s =>
    let s := if s.rv.mode == .split then s
      else (s.voterOutcome s.dev.phys.voterP s.dev.phys.voterS true).rmaxFree 0x20058 5
    okInfo (s.rget 0x20010).toNat s)

/-! ## Safety configuration (R547 to R552) -/

/-- A byte of the active body as it is read: salt and hash of a factory configuration are the unit's own. -/
def State.bodyRead (s : State) (o : Nat) : Byte :=
  if s.sio.bodyLen ≤ o then 0
  else if 0x40 ≤ o ∧ o < 0x80 ∧ s.factory ∧ (bodyBytes s.sio.body 0x40 64).all (fun b => b = 0) then Config.fixedByte o
  else BitVec.ofNat 8 (bodyByte s.sio.body o)

/-- CFG_READ (R547): 8 B of the active body; 0 beyond its end. -/
def execCfgRead (p : ReqPath) (s : State) : Host.Outcome State Fault Refusal :=
  s.reeveCmd p 0x0100 [0xFFFF] (fun r => reqArg r 1 % 8 = 0) noPriv (fun r s =>
    okInfo (leNat ((List.range 8).map (fun i => s.bodyRead (reqArg r 1 + i)))) s)

/-- CFG_BEGIN (R547): staging opened as a copy of the active body; INFO := the active CFGCRC. -/
def execCfgBegin (p : ReqPath) (s : State) : Host.Outcome State Fault Refusal :=
  s.reeveCmd p 0x0101 [] anyOk needPriv (fun _ s =>
    okInfo s.sio.cfgCrc.toNat { s with sio.staging := some (s.sio.body, s.sio.bodyLen) })

/-- CFG_WRITE (R547): 24 B written into staging, truncated at 65 536. -/
def execCfgWrite (p : ReqPath) (s : State) : Host.Outcome State Fault Refusal :=
  s.reeveCmd p 0x0102 [0xFFFF, all64, all64, all64] (fun r => reqArg r 1 % 8 = 0 && decide (reqArg r 1 ≤ 65512)) needPriv
    (fun r s => match s.sio.staging with
      | none => (6, 0, s)
      | some (b, n) =>
        let o := reqArg r 1
        let l := (leBytes 24 (reqField r 24 24)).take (65536 - o)
        okInfo 0 { s with sio.staging := some (bodyWrite b o l, max n (o + l.length)) })

/-- The time of a log entry: device time in the 64-bit form (R551). -/
def State.logTime (s : State) : W64 := vtimeOf s.devNow

/-- A change written to flash and logged (R548, R550, R551, R655): the record goes into the slot that does not hold the one in
force. None where the flash does not take it. -/
def State.writeCfg (b : FMap Byte) (opid : W32) (old new : W32) (kind : Byte) (s : State) : Option State :=
  if s.dev.phys.flashOk then
    let n := BitVec.ofNat 32 (s.store.lastLog + 1)
    let e : LogEntry := { seq := n, opid := opid, time := s.logTime, oldCrc := old, newCrc := new, kind := kind }
    let r : CfgRec := { seq := s.sio.cfgSeq + 1, len := cfgLen, logSeq := n, opid := opid, time := s.logTime, oldCrc := old,
                        kind := kind, body := b }
    let in1 := match s.store.cfg.1 with | some (_, x) => x | none => true
    let x := if in1 then { s.store with cfg0 := some r } else { s.store with cfg1 := some r }
    some { s with store := x.appendLog e, sio.cfgSeq := r.seq, sio.logSeq := n }
  else none

/-- CFG_COMMIT (R548 to R550, R553). -/
def execCfgCommit (p : ReqPath) (s : State) : Host.Outcome State Fault Refusal :=
  s.reeveCmd p 0x0103 [all64, all64] anyOk needPriv (fun r s =>
    match s.sio.staging with
    | none => (6, 0, s)
    | some (b, n) =>
      if s.factory then (6, 0, s)
      else if n ≠ cfgLen ∨ n ≠ reqArg r 1 / 2 ^ 32 ∨ (cfgCrcOf b).toNat ≠ reqArg r 1 % 2 ^ 32
          ∨ s.sio.cfgCrc.toNat ≠ reqArg r 2 / 2 ^ 32 ∨ !bodyOk b then (4, 0, s)
      else
        match s.writeCfg b (BitVec.ofNat 32 (reqArg r 2)) s.sio.cfgCrc (cfgCrcOf b) 1 with
        | none => (4, 0, s.raise 63)
        | some s => okInfo s.sio.cfgSeq.toNat (({ s with sio.staging := none }).takeCfg b))

/-- CFG_ABORT (R547): staging closed. -/
def execCfgAbort (p : ReqPath) (s : State) : Host.Outcome State Fault Refusal :=
  s.reeveCmd p 0x0104 [] anyOk needPriv (fun _ s => okInfo 0 { s with sio.staging := none })

/-- PWD_NEWSALT (R547): a fresh pending salt; INFO := its bytes 0 to 7. -/
def execPwdNewsalt (p : ReqPath) (s : State) : Host.Outcome State Fault Refusal :=
  s.reeveCmd p 0x0110 [] anyOk needPriv (fun _ s =>
    let x : BitVec 128 := s.fresh 128
    okInfo (x.toNat % 2 ^ 64) { s.tickFree with sio.newSalt := some x })

/-- PWD_SET (R552): the pending salt and the unmasked new hash replace the current ones. -/
def execPwdSet (p : ReqPath) (s : State) : Host.Outcome State Fault Refusal :=
  s.reeveCmd p 0x0111 [0xFFFFFFFF] anyOk needPriv (fun r s =>
    match s.sio.newSalt, s.sio.staging with
    | some salt, some (st, _) =>
      let good := match s.rv.nonce with
        | some (n, t, held) => if held && decide (s.ao ≤ t + 10 * Config.aoPerS) then some n else none
        | none => none
      let s := { s with rv.nonce := none }
      match good with
      | none => (7, 0, s.authFail)
      | some n =>
        let mask := s.nonceHash n
        let h := (List.range 48).map (fun i => BitVec.ofNat 8 (bodyByte st i) ^^^ lget 0 mask i)
        let b := bodyWrite (bodyWrite s.sio.body 0x40 (leBytes 16 salt.toNat)) 0x50 h
        let b := bodySet b 2 (bodyByte b 2 / 2 * 2)
        (match s.writeCfg b (BitVec.ofNat 32 (reqArg r 1)) s.sio.cfgCrc s.sio.cfgCrc 2 with
         | none => (4, 0, s.raise 63)
         | some s => okInfo 0 (({ s with sio.body := b, sio.newSalt := none }).revt 0x70008 7))
    | _, _ => (6, 0, s))

/-! ## Outputs, brakes, log (R537, R544, R547) -/

/-- OUT_RESTART (R537, R547): the named channels in mode CMD whose conditions hold are energised. -/
def execOutRestart (p : ReqPath) (s : State) : Host.Outcome State Fault Refusal :=
  s.reeveCmd p 0x0120 [0x3FF] anyOk needPriv (fun r s =>
    okInfo 0 (forAll (List.range 10) (fun k s =>
      if (reqArg r 1).testBit k ∧ (chanCfg s.sio.body k).restart = 1 ∧ !(s.chan k).energised ∧ (s.chan k).bt = .idle
          ∧ s.conds k ∧ !(s.dev.state = .planLoad) then s.drive k true else s) s))

/-- BRAKE_TEST (R544): started where the channel is ON and its standstill pair RELEASE; else refused BUSY. -/
def execBrakeTest (p : ReqPath) (s : State) : Host.Outcome State Fault Refusal :=
  s.reeveCmd p 0x0121 [1] anyOk noPriv (fun r s =>
    let k := 8 + reqArg r 1
    if (s.chan k).energised && (s.pair (brakeCfg s.sio.body (reqArg r 1)).standstill).st == .release then
      let s := s.drive k false
      okInfo 0 (s.setChan k { s.chan k with bt := .apply, btStart := s.ao })
    else (9, 0, s))

/-- The 32 bytes of a change-log entry (R551). -/
def LogEntry.bytes (e : LogEntry) : List Byte :=
  let b := leBytes 4 e.seq.toNat ++ leBytes 4 e.opid.toNat ++ leBytes 8 e.time.toNat ++ leBytes 4 e.oldCrc.toNat
    ++ leBytes 4 e.newCrc.toNat ++ [e.kind] ++ leBytes 3 0
  b ++ leBytes 4 (crc32c b)

/-- LOG_READ (R547): 8 B of a change-log entry; refused FIELD where it is no longer held. -/
def execLogRead (p : ReqPath) (s : State) : Host.Outcome State Fault Refusal :=
  s.reeveCmd p 0x0122 [0x3FFFFFFFF] anyOk noPriv (fun r s =>
    match s.store.log.find? (fun e => e.seq.toNat = reqArg r 1 % 2 ^ 32) with
    | some e => okInfo (leField e.bytes (8 * (reqArg r 1 / 2 ^ 32)) 8) s
    | none => (4, 0, s))

/-! ## Supervisors (R572) -/

/-- HWD_ARM (R566, R572): the host watchdog armed or re-armed; INFO := the first challenge. -/
def execHwdArm (p : ReqPath) (s : State) : Host.Outcome State Fault Refusal :=
  s.reeveCmd p 0x0200 [all64, all64, all64]
    (fun r => let o := reqArg r 1 % 2 ^ 32; let c := reqArg r 1 / 2 ^ 32; inR 10 60000 c && decide (2 * o ≤ c)) needPriv
    (fun r s =>
      let c := s.draw32
      let o := reqArg r 1 % 2 ^ 32
      let cl := reqArg r 1 / 2 ^ 32
      let s := { c.2 with sv.hwd := { Dog.reset with st := .first, chal := c.1, seed := BitVec.ofNat 128 (reqField r 24 16),
                                                     prev := s.ao, tOpen := o * Config.aoPerMs,
                                                     tClose := cl * Config.aoPerMs } }
      okInfo c.1.toNat ((s.rset 0x30028 (BitVec.ofNat 32 (o + 65536 * cl))).lower 64))

/-- HWD_DISARM (R570, R572). -/
def execHwdDisarm (p : ReqPath) (s : State) : Host.Outcome State Fault Refusal :=
  s.reeveCmd p 0x0201 [] anyOk needPriv (fun _ s => okInfo 0 (({ s with sv.hwd := Dog.reset }).lower 64))

/-- TASK_SET (R572, R575): a task monitor set. -/
def execTaskSet (p : ReqPath) (s : State) : Host.Outcome State Fault Refusal :=
  s.reeveCmd p 0x0202 [0x1FFF, all64] (fun r => reqArg r 1 / 1024 % 4 != 3) needPriv (fun r s =>
    let a := reqArg r 1
    let m := a % 16
    let o := mget TaskMon.reset s.sv.tasks m
    let t : TaskMon := { o with en := a / 4096 % 2 = 1, stream := a / 16 % 64, chk := a / 1024 % 4,
                                lo := reqArg r 2 % 2 ^ 32, hi := reqArg r 2 / 2 ^ 32, refs := [] }
    okInfo 0 { s with sv.tasks := mput TaskMon.reset s.sv.tasks m t })

/-! ## Faults (R523, R524) -/

/-- A class S source needs privilege to clear (R523). -/
def clearPriv (r : BitVec 512) : Bool := let c := romCfg (reqArg r 1); !c.reserved && !c.clsD

/-- FAULT_CLEAR (R507, R523): LATCHED becomes CLEAR where the line is not asserted. -/
def execFaultClear (p : ReqPath) (s : State) : Host.Outcome State Fault Refusal :=
  s.reeveCmd p 0x0300 [255] anyOk clearPriv (fun r s =>
    let n := reqArg r 1
    let o := s.src n
    if o.st == .latched then
      (if o.asserted then (9, 0, s) else okInfo 0 ((s.setSrc n { o with st := .clear, units := [] }).cleared n))
    else okInfo o.st.code s)

/-- FAULT_INJECT (R514, R523). -/
def execFaultInject (p : ReqPath) (s : State) : Host.Outcome State Fault Refusal :=
  s.reeveCmd p 0x0301 [0xFFFF03FF] anyOk needPriv (fun r s =>
    okInfo 0 (s.arm (reqArg r 1 % 256) (reqArg r 1 / 256 % 4) (reqArg r 1 / 65536) false))

/-- FAULT_RAISE (R523): the source raised as if its line were asserted for one AO cycle. -/
def execFaultRaise (p : ReqPath) (s : State) : Host.Outcome State Fault Refusal :=
  s.reeveCmd p 0x0302 [255] (fun r => !(romCfg (reqArg r 1)).reserved && !(231 ≤ reqArg r 1 && reqArg r 1 ≤ 235)) needPriv
    (fun r s => okInfo 0 ((s.raise (reqArg r 1)).raiseSeen (reqArg r 1)))

/-- CAP_REARM (R512, R523): FC_CAPg.VALID cleared for each set bit. -/
def execCapRearm (p : ReqPath) (s : State) : Host.Outcome State Fault Refusal :=
  s.reeveCmd p 0x0303 [255] anyOk noPriv (fun r s =>
    okInfo 0 (forAll (List.range 8) (fun g s => if (reqArg r 1).testBit g then s.rfield (0x10100 + 32 * g) 8 8 0 else s) s))

end Sys2Proof.Machine
end

