-- ==== Sys2Proof/Machine/VaultOps.lean ====
section
/-! DEFINITION. The key vault at run time (R663 to R668): attestation, the random source, and tamper sensors. -/

namespace Sys2Proof.Machine
open Sys2Proof

/-- PLAN_ID of the running plan, or 0. -/
def State.runPlanId (s : State) : Nat := match s.run with | some r => r.img.planId.toNat | none => 0
/-- The message that an attestation signs (R664). -/
def State.attMessage (s : State) : List Byte :=
  leBytes 8 (s.rget64 0xD0030) ++ leBytes 16 Config.uid.toNat ++ leBytes 4 s.rv.buildR.toNat ++ leBytes 4 s.rv.buildP.toNat
  ++ leBytes 8 s.runPlanId ++ leBytes 4 s.sio.cfgCrc.toNat ++ leBytes 1 s.dev.state.code ++ leBytes 3 0 ++ leBytes 8 s.ao
/-- KV_ATTN's high word written (R664): an attestation is requested, unless one is busy. -/
def State.attRequest (hi : W32) (s : State) : State :=
  let s := s.rset 0xD0034 hi
  if s.kv.attBusy then s else { s with kv.attBusy := true, kv.attDone := false, kv.attMsg := s.attMessage }
/-- ATTESTATION_DONE (R664): the signature stands in KV_ATTS. The spec gives no value for it (log entry 3). -/
def execAttestationDone (s : State) : Host.Outcome State Fault Refusal :=
  s.act (fun s =>
    if s.kv.attBusy then
      let s := { s with kv.attBusy := false, kv.attDone := true }
      let s := s.rset64 0xD0038 (leField s.kv.attMsg 48 8)
      (forAll (List.range 24) (fun i s => s.rsetFree (0xD0200 + 4 * i) 0xFFFFFFFF) s).revt 0xD0008 4
    else s)
/-- DRBG_RESEED (R663): the DRBG is reseeded, or a health test of the entropy source fails and reseeding stops. -/
def execDrbgReseed (ok : Bool) (s : State) : Host.Outcome State Fault Refusal :=
  s.act (fun s =>
    if ok then ({ s with kv.entropyOk := true, kv.reseeds := s.kv.reseeds + 1 }).lower 230
    else (({ s with kv.entropyOk := false }).revt 0xD0008 2).raiseLevel 230 0xFFFF)
/-- Key erasure (R667). -/
def State.eraseKeys (s : State) : State :=
  ({ s with kv.idKey := false, kv.impKey := false, kv.pkey := 0, kv.session := none, kv.erased := true }).revt 0xD0008 1
/-- TAMPER_ASSERT (R665 to R667): sensor `n` asserts. -/
def execTamperAssert (n : Fin 4) (s : State) : Host.Outcome State Fault Refusal :=
  s.act (fun s =>
    if (s.src (231 + n.val)).asserted then s
    else
      let s := { s with kv.tcnt := mput 0 s.kv.tcnt n (satAdd 255 (mget 0 s.kv.tcnt n) 1) }
      let erase := decide (s.kv.policy.toNat / 4 ^ n.val % 4 = 2)
      let s := (s.revt 0xD0008 0).raiseLevel (231 + n.val) 0xFFFF
      if erase then s.eraseKeys else s)

end Sys2Proof.Machine
end

