-- ==== Sys2Proof/Machine/DebugOps.lean ====
section
/-! DEFINITION. The debug block's own operations (R670 to R683): sessions, authentication, test-unlock, halts of the reeve, and
the trace controls. The register accesses of a session stand in DebugLink.lean. -/

namespace Sys2Proof.Machine
open Sys2Proof

/-! ## Sessions (R673) -/

/-- Bench debugging is allowed (R681): BENCH at reset, no channel enabled and no produced connection configured. -/
def State.benchOk (s : State) : Bool :=
  s.dev.bench && (List.range 10).all (fun k => !(chanCfg s.sio.body k).enable)
  && (List.range 16).all (fun c => (pconCfg s.sio.body c).ports == 0)
/-- DB_AUTH is locked (R674). -/
def State.dbLocked (s : State) : Bool := match s.dbg.lockEnd with | some t => decide (s.ao < t) | none => false

/-- Core A runs again after a halt in lockstep or in split mode (R677). -/
def State.haltEnd (s : State) : State :=
  let s := { s with dbg := { s.dbg with halted := false, coreA := s.dbg.coreA.filter (fun p => decide (2 ^ 33 ≤ p.1)) } }
  let s := if s.rv.mode = .split then { s with rv.coreA := .independent } else s
  s.dogRelease.drain.reeveFlush
/-- The session ends (R673, R676, R684): test-unlock mode ends, a lockstep halt resumes, a forced one stands; domain 0x5A goes
OFF and its registers stand at reset. -/
def State.sessionEnd (s : State) : State :=
  if !s.dbg.sessionOpen then s
  else
    let s := { s with dbg := { s.dbg with sessionOpen := false, auth := false, haltPend := false, waiting := none,
                                          traceOn := false, nonce := none } }
    let s := if s.dbg.halted && !s.dbg.forced then s.haltEnd else s
    let s := { s with regs := mdrop 0xE0000 0x8000 s.regs, fregs := mdrop 0xE0000 0x8000 s.fregs }
    s.releaseDom 0x5A
/-- DEBUG_SESSION_END (R673): a TAP reset, which also selects IDCODE, or 10 ms without TCK. -/
def execDebugSessionEnd (tapReset : Bool) (s : State) : Host.Outcome State Fault Refusal :=
  s.act (fun s =>
    let s := s.sessionEnd
    if tapReset then { s with dbg.ir := 1 } else s)

/-! ## Authentication (R674) -/

/-- DB_CHAL.NEW written with 1: a new nonce, valid for 10 s. -/
def State.dbChal (s : State) : State :=
  { s with dbg.nonce := some (s.fresh 64, s.ao), freeCtr := s.freeCtr + 1 }
/-- Token word `i` written; the last one submits the token. A locked DB_AUTH takes nothing. -/
def State.dbAuth (i : Nat) (v : W32) (s : State) : State :=
  if s.dbLocked || !s.dbg.sessionOpen then s
  else
    let t := s.dbg.token.toNat
    let t := t - t / 2 ^ (32 * i) % 2 ^ 32 * 2 ^ (32 * i) + v.toNat * 2 ^ (32 * i)
    let s := { s with dbg.token := BitVec.ofNat 256 t }
    if i ≠ 7 then s
    else
      let good := match s.dbg.nonce with
        | some (n, at_) => decide (s.ao ≤ at_ + 10 * Config.aoPerS) && s.tokenOf n == s.dbg.token.toNat
        | none => false
      if good then { s with dbg := { s.dbg with auth := true, wrong := 0, token := 0 } }
      else
        let s := ({ s with dbg := { s.dbg with wrong := s.dbg.wrong + 1, token := 0 } }).revt 0xE0008 3
        if s.dbg.wrong ≥ 5 then { s with dbg.lockEnd := some (s.ao + 300 * Config.aoPerS) } else s
/-- DEBUG_AUTH_LOCKOUT_END (R674): 300 s after the fifth wrong token. -/
def execDebugAuthLockoutEnd (s : State) : Host.Outcome State Fault Refusal :=
  s.act (fun s => match s.dbg.lockEnd with
    | some t => { s.advance t with dbg.lockEnd := none, dbg.wrong := 0 }
    | none => s)

/-- A write of DB_CTL through the debug access port (R676). -/
def State.dbCtl (v : W32) (s : State) : State :=
  let s := s.rfield 0xE0000 0 0 (bitsOf v 0 0)
  if !bitAt v 1 then s.rfield 0xE0000 1 1 0
  else if s.dbg.auth && s.dev.bench then s.rfield 0xE0000 1 1 1
  else s.revt 0xE0008 0
/-- Test-unlock mode (R676). -/
def State.testUnlock (s : State) : Bool := bitAt (s.rget 0xE0000) 1

/-! ## Halts of the reeve (R677 to R681) -/

/-- Core A halts at a free boundary, and the reeve watchdog holds its count (R679, R680). -/
def State.haltNow (s : State) : State :=
  let s := { s with dbg := { s.dbg with haltPend := false, halted := true } }
  let s := if s.rv.mode = .split then { s with rv.coreA := .halted } else s
  s.dogHold
/-- A forced halt (R681): outside split mode lockstep is broken, and without bench debugging the device goes to SAFE_HOLD. -/
def State.forceHalt (s : State) : State :=
  if s.rv.mode = .split then s.haltNow
  else
    let s := ({ s with dbg := { s.dbg with haltPend := false, halted := true, forced := true } }).revt 0xE0008 2
    if s.benchOk then s else s.raise 235
/-- HALT written with 1 (R678): latched where a lockstep halt is accepted. -/
def State.dbHalt (s : State) : State :=
  if s.dbg.halted || s.dbg.haltPend then s
  else if s.rv.mode = .split || s.benchOk then { s with dbg := { s.dbg with haltPend := true, haltAt := s.ao } }
  else s.revt 0xE0008 0
/-- RESUME written with 1: a halt in lockstep or in split mode ends. Core A released alone by a forced halt under bench
debugging runs on too. -/
def State.dbResume (s : State) : State :=
  if s.dbg.halted && (!s.dbg.forced || s.benchOk) then s.haltEnd else s
/-- STEP written with 1 (R677): one instruction is executed; what it leaves in the cores and the safety SRAM is open. -/
def State.dbStep (s : State) : State :=
  if s.dbg.halted && (!s.dbg.forced || s.benchOk) then
    { s with dbg.coreA := s.dbg.coreA.filter (fun p => decide (2 ^ 33 ≤ p.1)) }
  else s
/-- A write of DB_REEVE. -/
def State.dbReeve (v : W32) (s : State) : State :=
  let s := s.rfield 0xE0040 3 3 (bitsOf v 3 3)
  let s := if bitAt v 4 then s.forceHalt else if bitAt v 0 then s.dbHalt else s
  let s := if bitAt v 2 then s.dbStep else s
  if bitAt v 1 then s.dbResume else s
/-- HALT_AT_BOUNDARY (R679, R684): a pending halt meets a free boundary. A halt asked for in a recovery pause waits for its
end. -/
def execHaltAtBoundary (s : State) : Host.Outcome State Fault Refusal :=
  s.act (fun s => if s.dbg.haltPend && s.rv.pause.isNone then s.haltNow else s)
/-- HALT_DEFERRAL_EXPIRY (R679): 256 reeve cycles after the request core A is still inside a locked sequence. -/
def execHaltDeferralExpiry (s : State) : Host.Outcome State Fault Refusal :=
  s.act (fun s =>
    if s.dbg.haltPend && s.rv.pause.isNone then
      let s := s.advance (s.dbg.haltAt + (if s.rv.slow then 256 else 32))
      if bitAt (s.rget 0xE0040) 3 then s.forceHalt
      else ({ s with dbg.haltPend := false }).revt 0xE0008 1
    else s)

/-- A write of DB_TR_CFG (R682): EN set or cleared starts the trace afresh. -/
def State.trCfg (v : W32) (s : State) : State :=
  let was := bitAt (s.rget 0xE0080) 15
  let s := s.rfield 0xE0080 21 0 (bitsOf v 21 0)
  if bitAt v 15 = was then s
  else
    let s := { s with dbg.traceOn := false, dbg.traceN := 0 }
    if bitAt v 15 then s.rfield 0xE0084 8 0 0 else s

end Sys2Proof.Machine
end

