-- ==== Sys2Proof/Machine/Mailboxes.lean ====
section
/-! DEFINITION. Mailbox commands (R446 to R457, R399, R499): sends, timeouts, crossings, and the messages that the porter
and the reeve take. Reads of the mailbox registers stand with the other register reads. -/

namespace Sys2Proof.Machine
open Sys2Proof

/-- MAILBOX_SEND (R446 to R448): function `f` writes `v` to MB_OUT_HDR of its porter channel (0) or F00 of its reeve channel
(1). -/
def execMailboxSend (f : Fn) (ch : Fin 2) (v : W32) (s : State) : Host.Outcome State Fault Refusal :=
  s.act (fun s => if s.fnLive f && s.hasChan f ch then s.mbSend f ch v else s)
/-- MAILBOX_TIMEOUT (R452): the message of the function, or of the far side (`far`), has not been taken within MB_TMO and is
withdrawn. -/
def execMailboxTimeout (f : Fn) (ch : Fin 2) (far : Bool) (s : State) : Host.Outcome State Fault Refusal :=
  s.act (fun s =>
    let c := s.chan2 f ch
    let t := mbValue (s.rget (mbAddr f ch 0xD0)) * Config.aoPerMs
    if far then
      (if c.inb.full then
        let s := s.advance (c.inb.sentAt + t)
        let s := s.setChan2 f ch { c with inb := { c.inb with full := false }, farPoll := none, cross := false }
        if ch.val = 1 then s.reeveFlush else s
      else s)
    else if c.outb.full then
      let s := s.advance (c.outb.sentAt + t)
      let s := s.setChan2 f ch { c with outb := { c.outb with full := false }, fnPoll := none, cross := false }
      ((s.revt (mbAddr f ch 0x48) 2).rincSat (mbAddr f ch 0xD8) 31 16 1).bells f (bellBit ch 2)
    else s)
/-- CROSSING (R455): both boxes of a channel are FULL and both sides have polled for MB_XTIME. -/
def execCrossing (f : Fn) (ch : Fin 2) (s : State) : Host.Outcome State Fault Refusal :=
  s.act (fun s =>
    let c := s.chan2 f ch
    match c.fnPoll, c.farPoll with
    | some a, some b =>
      if c.outb.full && c.inb.full && !c.cross then
        let s := s.advance (max a b + mbValue (s.rget (mbAddr f ch 0xD4)) * Config.aoPerUs)
        (s.setChan2 f ch { c with cross := true }).bells f 0x80000000
      else s
    | _, _ => s)

/-! ## Messages to and from the porter (R451, R453) -/

/-- A running porter takes function `f`'s message where its TYPE passes `t`, and `act` follows. -/
def State.porterMsg (f : Nat) (t : Nat → Bool) (act : Box → State → State) (s : State) : State :=
  let b := (s.chan2 f 0).outb
  if s.porterLive && s.hasChan f 0 && b.full && t b.type then act b (s.farTake f 0) else s
/-- The porter's STATUS answer to message `b` (R453). -/
def State.porterStatus (f : Nat) (b : Box) (st : Nat) (s : State) : State :=
  s.porterSay f (BitVec.ofNat 512 (st + 256 * b.type + 65536 * b.seq)) 0x81 4
/-- DOORBELL (R453): the porter takes a DOORBELL message of function `f`, or sends it one that rings the bits `far`. -/
def execDoorbell (f : Fn) (far : Option W32) (s : State) : Host.Outcome State Fault Refusal :=
  s.act (fun s => match far with
    | none => s.porterMsg f (fun t => t = 0) (fun b s => if b.len = 0 then s else s.porterStatus f b 2)
    | some bits =>
      if s.porterLive && s.hasChan f 0 && !(s.chan2 f 0).inb.full then s.farSend f 0 0 0 0 bits else s)
/-- Bytes of a body. -/
def bodyField (b : BitVec 512) (off n : Nat) : Nat := b.toNat / 2 ^ (8 * off) % 2 ^ (8 * n)
/-- The operands of ring `i` in a RING_BOOT body (R399). -/
def bootArgs (b : BitVec 512) (i : Nat) : RingArgs :=
  RingArgs.of (bodyField b (24 * i) 8) (bodyField b (24 * i + 8) 8) (bodyField b (24 * i + 16) 8)
/-- The status of a RING_BOOT, and the state after it (R399). -/
def State.ringBoot (f : Nat) (b : Box) (s : State) : Nat × State :=
  let a := bootArgs b.body 0
  let c := bootArgs b.body 1
  let zeros := bodyField b.body 0 8 / 1024 % 64 = 0 && bodyField b.body 0 8 / 2 ^ 32 = 0
    && bodyField b.body 24 8 / 1024 % 64 = 0 && bodyField b.body 24 8 / 2 ^ 32 = 0
  if b.len ≠ 48 || a.ring ≠ 0 || c.ring ≠ 1 || a.type ≠ 1 || a.bind ≠ 1 || c.type ≠ 2 || a.size = 0 || c.size = 0
      || !a.ok || !c.ok || !zeros then (2, s)
  else if (s.ring (ringId f 0)).size ≠ 0 || (s.ring (ringId f 1)).size ≠ 0 then (6, s)
  else (0, ((s.ringConfig f c).2.ringConfig f a).2)
/-- RING_BOOT (R399): the porter configures rings 1 and 0 of function `f`. -/
def execRingBoot (f : Fn) (s : State) : Host.Outcome State Fault Refusal :=
  s.act (fun s => s.porterMsg f (fun t => t = 1) (fun b s => let r := s.ringBoot f b; r.2.porterStatus f b r.1))
/-- PORTER_PING (R453): answered ECHO with the same body. -/
def execPorterPing (f : Fn) (s : State) : Host.Outcome State Fault Refusal :=
  s.act (fun s => s.porterMsg f (fun t => t = 2) (fun b s => s.porterSay f b.body 0x82 b.len))
/-- PORTER_ANSWER_SEND (R448, R451): the oldest answer waiting for function `f` is sent into its free inbox. -/
def execPorterAnswerSend (f : Fn) (s : State) : Host.Outcome State Fault Refusal :=
  s.act (fun s =>
    match s.dev.porterQ.find? (fun q => q.1 = f.val) with
    | some q =>
      if s.porterLive && !(s.chan2 f 0).inb.full then
        let s := { s with dev.porterQ := s.dev.porterQ.erase q }.farSend f 0 q.2.1 q.2.2.1 q.2.2.2 0
        if s.dev.porterQ.any (fun q => q.1 = f.val) then s.setChan2 f 0 { s.chan2 f 0 with farPoll := some s.ao } else s
      else s
    | none => s)

/-! ## Messages to and from the reeve (R499) -/

/-- The reeve takes F00's message where its TYPE passes `t`, and `act` follows. -/
def State.reeveMsg (t : Nat → Bool) (act : Box → State → State) (s : State) : State :=
  let b := (s.chan2 0 1).outb
  if s.reeveUp && b.full && t b.type then act b ({ s with rv.slow := false }.farTake 0 1) else s
/-- The reeve's NAK to message `b` (R499). -/
def State.reeveNak (b : Box) (st : Nat) (s : State) : State :=
  s.reeveSay (BitVec.ofNat 512 (st + 256 * b.type + 65536 * b.seq)) 0x81 4
/-- REEVE_DOORBELL (R499): the reeve takes a DOORBELL message, or sends F00 one that rings the bits `far`. -/
def execReeveDoorbell (far : Option W32) (s : State) : Host.Outcome State Fault Refusal :=
  s.act (fun s => match far with
    | none => s.reeveMsg (fun t => t = 0) (fun b s => if b.len = 0 then s else s.reeveNak b 4)
    | some bits => if s.reeveUp && !(s.chan2 0 1).inb.full && s.rv.ansQ.isEmpty then s.farSend 0 1 0 0 0 bits else s)
/-- REEVE_PING (R499): answered ECHO with the same body. -/
def execReevePing (s : State) : Host.Outcome State Fault Refusal :=
  s.act (fun s => s.reeveMsg (fun t => t = 2) (fun b s => s.reeveSay b.body 0x82 b.len))
/-- SAFE_REQ (R499): a request of 64 B waits to be checked on the mailbox path; another length is answered NAK FIELD. -/
def execSafeReq (s : State) : Host.Outcome State Fault Refusal :=
  s.act (fun s =>
    if s.rv.mbReq.isSome then s
    else s.reeveMsg (fun t => t = 0x20) (fun b s =>
      if b.len = 64 then ({ s with rv.mbReq := some (b.body, b.seq) }).drain else s.reeveNak b 4))
/-- RESERVED_MAILBOX_MESSAGE (R453, R499): a message of a reserved type is answered STATUS BAD_OPCODE or NAK CODE. -/
def execReservedMailboxMessage (f : Fn) (ch : Fin 2) (s : State) : Host.Outcome State Fault Refusal :=
  s.act (fun s =>
    if ch.val = 0 then
      s.porterMsg f (fun t => t ≠ 0 ∧ t ≠ 1 ∧ t ≠ 2) (fun b s => s.porterStatus f b 1)
    else if f.val = 0 then s.reeveMsg (fun t => t ≠ 0 ∧ t ≠ 2 ∧ t ≠ 0x20) (fun b s => s.reeveNak b 3)
    else s)

end Sys2Proof.Machine
end

