-- ==== Sys2Proof/Machine/SafeChannel.lean ====
section
/-! DEFINITION. The Bolrax Safe Channel (R554 to R563): sending and refreshing on produced connections, receiving on consumed
ones, and the listener's elimination. -/

namespace Sys2Proof.Machine
open Sys2Proof

/-! ## Produced connections (R559, R560) -/

/-- The ports of connection `c` that are up. -/
def State.upPorts (s : State) (c : Nat) : List Nat :=
  (List.range 4).filter (fun p => (pconCfg s.sio.body c).ports.toNat.testBit p && s.bsc.linkUp.toNat.testBit p)

/-- The oldest queued PDU of connection `c` leaves on each of its ports that is up. -/
def State.sendOne (c : Nat) (s : State) : State :=
  let q := s.pcon c
  let ports := s.upPorts c
  match q.queue with
  | [] => s
  | p :: t =>
    if ports.isEmpty then s
    else
      let s := s.setPcon c { q with queue := t, lastAt := s.ao, sentSeq := BitVec.ofNat 32 (beNat (slice 12 4 p.bytes)) }
      let s := s.rinc64 0x80010 ports.length
      forAll ports (fun n s => s.emit (.bsc c n p.bytes)) s

/-- BSC_PDU_TRANSMIT (R555 to R559): the oldest queued PDU of the connection leaves. -/
def execBscPduTransmit (c : Fin 16) (s : State) : Host.Outcome State Fault Refusal :=
  s.act (fun s => s.sendOne c)

/-- The payload of STATE and SAFE_STATE (R557). -/
def State.stateLoad (s : State) (cause : Nat) : List Byte :=
  beBytes 4 (match s.run with | some r => r.img.planId.toNat % 2 ^ 32 | none => 0) ++ beBytes 2 s.standing.length
  ++ beBytes 1 cause ++ beBytes 1 0

/-- BSC_REFRESH (R559): P after the connection's last PDU, a STATE PDU, or a SAFE_STATE PDU in SAFE_HOLD and ALARM. -/
def execBscRefresh (c : Fin 16) (s : State) : Host.Outcome State Fault Refusal :=
  s.act (fun s =>
    let k := pconCfg s.sio.body c
    if k.ports = 0 then s
    else
      let s := s.advance ((s.pcon c).lastAt + k.period)
      let cause := match s.dev.state, s.dev.holdSrc with | .safeHold, some n => n | _, _ => 0xFF
      let s := if s.safeOnly then s.formPdu c 5 (s.stateLoad cause) else s.formPdu c 4 (s.stateLoad 0xFF)
      if (s.pcon c).queue.length = 1 then s.sendOne c else s)

/-- BSC_QUEUE_TIMEOUT (R560): a PDU that no port took within P is dropped; BSC_PRODUCER is raised. -/
def execBscQueueTimeout (c : Fin 16) (s : State) : Host.Outcome State Fault Refusal :=
  s.act (fun s =>
    let q := s.pcon c
    match q.queue with
    | [] => s
    | p :: t =>
      if (s.upPorts c).isEmpty then
        let s := s.advance (p.queuedAt + (pconCfg s.sio.body c).period)
        ((s.setPcon c { q with queue := t, drop := satAdd 0xFFFFFFFF q.drop 1 }).revt 0x80008 3).raise 61
      else s)

/-! ## Consumed connections (R561 to R563) -/

/-- Consumed connection `c` set; BSC_CONSUMER follows the connections in TIMEOUT, and the channels their permits. -/
def State.setCcon (c : Nat) (v : CCon) (s : State) : State :=
  let s := { s with bsc.ccon := mput CCon.reset s.bsc.ccon c v }
  let s := if (List.range 8).any (fun i => (s.ccon i).st == .timeout) then s.raiseLevel 60 0xFFFF else s.lower 60
  s.evalChans

/-- Entry into TIMEOUT (R563). -/
def State.consumerTimeout (c : Nat) (v : CCon) (s : State) : State :=
  (s.revt 0x80008 0).setCcon c { v with st := .timeout, permits := 0, badRun := 0, goodRun := 0, tmo := satAdd 65535 v.tmo 1 }

/-- A PDU that is accepted (R562, R563). -/
def State.acceptPdu (c : Nat) (v : CCon) (seq : W32) (texp : Nat) (permits : W16) (s : State) : State :=
  let near := decide (s.ao ≤ v.acceptAt + v.texp * Config.aoPerMs)
  let g := if v.goodRun = 0 then 1 else if near then v.goodRun + 1 else 1
  let v' := { v with last := seq, texp := texp, acceptAt := s.ao, badRun := 0 }
  match v.st with
  | .timeout =>
    if g ≥ 2 then s.setCcon c { v' with st := .run, permits := permits, goodRun := 0 }
    else s.setCcon c { v' with goodRun := g }
  | _ => s.setCcon c { v' with st := .run, permits := permits }

/-- A PDU discarded as an error. -/
def CCon.bad (v : CCon) : CCon := { v with err := satAdd 65535 v.err 1 }

/-- A received PDU (R561 to R563). -/
def State.takePdu (c : Nat) (pdu : List Byte) (s : State) : State :=
  let k := cconCfg s.sio.body c
  let v := s.ccon c
  let body := slice 0 (pdu.length - 4) pdu
  let lenOk := decide (pdu.length ≥ 24) && (pdu.length = 24 + beNat (slice 18 1 pdu))
  let cidOk := decide (beNat (slice 4 8 pdu) = k.cid.toNat)
  let crcOk := lenOk && decide (beNat (slice (pdu.length - 4) 4 pdu) = crcBsc (beBytes 8 k.vcid.toNat ++ body))
  let texp := beNat (slice 16 2 pdu)
  let formOk := beNat (slice 0 3 pdu) = 0x425301 && beNat (slice 3 1 pdu) = 0x10 && beNat (slice 18 1 pdu) = 4
    && 1 ≤ texp && texp ≤ k.texpMax
  let seq : W32 := BitVec.ofNat 32 (beNat (slice 12 4 pdu))
  let ds := beNat (slice 19 1 pdu)
  let d := (seq - v.last).toNat
  let permits : W16 := if ds % 32 = 3 then BitVec.ofNat 16 (beNat (slice 20 4 pdu)) else 0
  if !cidOk || !crcOk then
    let s := s.revt 0x80008 2
    let n := v.badRun + 1
    if v.st == .run && decide (n ≥ 4) then s.consumerTimeout c v.bad else s.setCcon c { v.bad with badRun := n }
  else if !formOk then (s.revt 0x80008 2).setCcon c { v.bad with badRun := 0 }
  else if v.st == .idle then s.acceptPdu c v seq texp permits
  else if d = 0 then s.setCcon c { v with dup := satAdd 65535 v.dup 1, badRun := 0 }
  else if d < 2 ^ 31 then s.acceptPdu c v seq texp permits
  else
    let s := s.revt 0x80008 2
    if ds / 64 % 2 = 1 then
      let s := s.revt 0x80008 1
      let w := { v.bad with last := seq, texp := texp, acceptAt := s.ao, badRun := 0, goodRun := 0,
                            resync := satAdd 65535 v.resync 1 }
      if v.st == .run then s.consumerTimeout c w else s.setCcon c w
    else s.setCcon c { v.bad with badRun := 0 }

/-- The history shifted by `n` places with the newest marked (802.1CB vector recovery, R554). -/
def histShift (h : W32) (n : Nat) : W32 := BitVec.ofNat 32 (h.toNat * 2 ^ n + 1)

/-- Listener elimination by the vector recovery algorithm, history length 32 (R554): whether the frame passes, and the new
recovery state. -/
def eliminate (v : CCon) (rtag : W16) (ao : Nat) : Bool × CCon :=
  match v.rtagSeq with
  | none => (true, { v with rtagSeq := some rtag, rtagHist := 1, rtagAt := ao })
  | some r =>
    let d := (rtag - r).toInt
    if d ≥ 32 ∨ d ≤ -32 then (false, v)
    else if d > 0 then
      (true, { v with rtagSeq := some rtag, rtagHist := histShift v.rtagHist d.toNat, rtagAt := ao })
    else if v.rtagHist.toNat.testBit (-d).toNat then (false, v)
    else (true, { v with rtagHist := v.rtagHist ||| BitVec.ofNat 32 (2 ^ (-d).toNat), rtagAt := ao })

/-- BSC_PDU_RECEIVE (R554, R561 to R563): a PDU of consumed connection `con` arrives on a port. -/
def execBscPduReceive (port : Port) (con : Fin 8) (rtag : Option W16) (pdu : List Byte) (s : State) :
    Host.Outcome State Fault Refusal :=
  s.act (fun s =>
    let k := cconCfg s.sio.body con
    if k.ports.toNat.testBit port && s.bsc.linkUp.toNat.testBit port then
      match rtag with
      | none => s.takePdu con pdu
      | some r =>
        let e := eliminate (s.ccon con) r s.ao
        let s := { s with bsc.ccon := mput CCon.reset s.bsc.ccon con e.2 }
        if e.1 then s.takePdu con pdu else s
    else s)

/-- BSC_CONSUMER_TIMEOUT (R563): no PDU was accepted within the TEXP of the last one. -/
def execBscConsumerTimeout (c : Fin 8) (s : State) : Host.Outcome State Fault Refusal :=
  s.act (fun s =>
    let v := s.ccon c
    if v.st == .run then (s.advance (v.acceptAt + v.texp * Config.aoPerMs)).consumerTimeout c v else s)

/-- LISTENER_ELIMINATION_RESET (R554): 100 ms without an accepted frame, the recovery takes any sequence number. -/
def execListenerEliminationReset (c : Fin 8) (s : State) : Host.Outcome State Fault Refusal :=
  s.act (fun s =>
    let v := s.ccon c
    if v.rtagSeq.isSome then
      let s := s.advance (v.rtagAt + 100 * Config.aoPerMs)
      { s with bsc.ccon := mput CCon.reset s.bsc.ccon c { v with rtagSeq := none, rtagHist := 0 } }
    else s)

/-- ARP_REQUEST (R554): answered for the port's own BSC address. -/
def execArpRequest (port : Port) (ip : W32) (s : State) : Host.Outcome State Fault Refusal :=
  s.act (fun s =>
    let own := beNat (bodyBytes s.sio.body (0xB80 + 32 * port) 4)
    if own ≠ 0 ∧ ip.toNat = own ∧ s.bsc.linkUp.toNat.testBit port then s.emit (.arp port ip) else s)

end Sys2Proof.Machine
end

