-- ==== Sys2Proof/Machine/Supervisors.lean ====
section
/-! DEFINITION. Watchdogs (R565 to R571), task monitors (R575 to R577) and check-value engines (R578 to R585). -/

namespace Sys2Proof.Machine
open Sys2Proof

/-! ## Watchdogs -/

/-- The token that serves a watchdog: CRC-32C over challenge and seed (R565). -/
def Dog.token (d : Dog) : Nat := crc32c (leBytes 4 d.chal.toNat ++ leBytes 16 d.seed.toNat)

/-- The watchdog takes services. -/
def Dog.armed (d : Dog) : Bool := (d.st == .first || d.st == .run) && d.heldAt.isNone

/-- The outcome of a service at AO count `ao` (R566, R567): 0 accepted, 1 wrong token, 2 early, 3 late. -/
def Dog.judge (d : Dog) (token ao : Nat) : Nat :=
  if ao > d.prev + d.tClose then 3
  else if token ≠ d.token then 1
  else if ao < d.prev + d.tOpen then 2
  else 0

/-- A reeve watchdog violation (R567). -/
def State.rwdViolate (s : State) : State := ({ s with sv.rwd.st := .violated }).raise 6

/-- REEVE_WDOG_SERVICE (R566 to R569): a voted write of the reeve firmware at AO count `at_`. A reeve that is paused, stopped
or halted writes nothing. -/
def execReeveWdogService (token : W32) (at_ : Nat) (s : State) : Host.Outcome State Fault Refusal :=
  s.act (fun s =>
    let d := s.sv.rwd
    if !d.armed || s.rv.stopped || s.rv.pause.isSome || s.dbg.halted then s
    else
      let s := s.advance at_
      if d.judge token.toNat s.ao = 0 then
        let us := ceilDiv (s.ao - d.prev) Config.aoPerUs
        let c := s.draw32
        let s := { c.2 with sv.rwd := { d with st := .run, chal := c.1, prev := s.ao, tOpen := 250 * Config.aoPerUs,
                                               tClose := 1000 * Config.aoPerUs } }
        (s.rfield 0x30010 13 0 (min us 0x3FFF)).rmax 0x30010 27 14 us
      else s.rwdViolate)

/-- A host watchdog violation (R567, R570): `why` is the SV_EVT bit. -/
def State.hwdViolate (why : Nat) (s : State) : State :=
  ((({ s with sv.hwd.st := .violated }).revt 0x30008 why).rincSat 0x30030 23 16 1).raiseLevel 64 0xFFFF

/-- A pair completed at SV_HWD_TOKEN (R571): a service attempt only from F00 over the host link while it holds safety
privilege. -/
def State.hwdService (who : Initiator) (token : W32) (s : State) : State :=
  let s := s.leaseCheck
  if who = .host 0 ∧ s.rv.privHeld then
    let d := s.sv.hwd
    if !d.armed then s
    else
      match d.judge token.toNat s.ao with
      | 0 =>
        let c := s.draw32
        let s := { c.2 with sv.hwd := { d with st := .run, chal := c.1, prev := s.ao } }
        (s.rincSat 0x30030 15 0 1).rset 0x30024 token
      | 1 => s.hwdViolate 2
      | 2 => s.hwdViolate 1
      | _ => s.hwdViolate 0
  else ((s.revt 0x30008 3).rincSat 0x30030 31 24 1).raiseWith 9 false
      { addr := 0x30024, init := who.num, acc := 1, unit := 0xFFFF }

/-- WATCHDOG_CLOSE (R567): t_close passed with no accepted service. -/
def execWatchdogClose (host : Bool) (s : State) : Host.Outcome State Fault Refusal :=
  s.act (fun s =>
    let d := if host then s.sv.hwd else s.sv.rwd
    if !d.armed then s
    else
      let s := s.advance (d.prev + d.tClose + 1)
      if host then s.hwdViolate 0 else s.rwdViolate)

/-! ## Task monitors -/

/-- TASK_LATE (R576): the oldest reference of monitor `m` has reached hi without its event. -/
def execTaskLate (m : Fin 16) (s : State) : Host.Outcome State Fault Refusal :=
  s.act (fun s =>
    let t := s.task m
    match t.refs with
    | [] => s
    | r :: l =>
      if t.en && s.isBound t.stream then
        let s := s.advance (r.2.2 + t.hi * Config.aoPerUs)
        ((s.setTask m { t with refs := l, late := satAdd 65535 t.late 1 }).revt 0x30008 6).raise 66
      else s)

/-! ## Check-value engines -/

/-- Width, polynomial, initial value, reflection and final XOR of an algorithm (R578). -/
def cvAlg (a : Nat) : Option (Nat × Nat × Nat × Bool × Nat) := match a with
  | 0 => some (8, 0x2F, 0xFF, false, 0xFF)
  | 1 => some (16, 0x1021, 0xFFFF, false, 0)
  | 2 => some (32, 0x04C11DB7, 0xFFFFFFFF, true, 0xFFFFFFFF)
  | 3 => some (32, 0x1EDC6F41, 0xFFFFFFFF, true, 0xFFFFFFFF)
  | 4 => some (64, 0x42F0E1EBA9EA3693, 2 ^ 64 - 1, true, 2 ^ 64 - 1)
  | _ => none

/-- Eight steps of a reflected register, with the reversed polynomial `rp` (R579). -/
def cvStepR (rp : Nat) : Nat → Nat → Nat
  | 0, r => r
  | n + 1, r => cvStepR rp n (if r % 2 = 1 then (r / 2) ^^^ rp else r / 2)

/-- `n` steps of a plain register of width `w` (R579). -/
def cvStep (w p : Nat) : Nat → Nat → Nat
  | 0, r => r
  | n + 1, r => cvStep w p n (if r.testBit (w - 1) then (2 * r % 2 ^ w) ^^^ p else 2 * r % 2 ^ w)

/-- RUN after one byte (R579). -/
def cvByte (a run : Nat) (b : Byte) : Nat := match cvAlg a with
  | none => run
  | some (w, p, _, refl, _) =>
    if refl then cvStepR (reflect w p) 8 (run ^^^ b.toNat) else cvStep w p 8 (run ^^^ (b.toNat * 2 ^ (w - 8)))

/-- Engine `e`. -/
def State.cv (s : State) (e : Nat) : CvEng := mget CvEng.reset s.sv.cv e
/-- Engine `e` set. -/
def State.setCv (e : Nat) (v : CvEng) (s : State) : State := { s with sv.cv := mput CvEng.reset s.sv.cv e v }
/-- Address of a register of engine `e`. -/
def cvAddr (e off : Nat) : Nat := 0x40100 + 0x40 * e + off
/-- CV_RES (R579). -/
def CvEng.res (v : CvEng) : Nat := match cvAlg v.alg with | some (_, _, _, _, x) => v.run ^^^ x | none => 0
/-- Pair `k` is reserved (R585). -/
def State.cvReserved (s : State) (k : Nat) : Bool :=
  k = 0 || (k = 1 && (match s.run with | some r => !r.img.regions.isEmpty | none => false))
/-- Pair `k` is in SPLIT (CV_PAIRCTL_k.MODE). -/
def State.cvSplit (s : State) (k : Nat) : Bool := bitAt (s.rget (0x40010 + 4 * k)) 0
/-- A locked pair whose RUN values differ raises CV_PAIR while they do (R584). -/
def State.cvCompare (k : Nat) (s : State) : State :=
  if !s.cvSplit k && (s.cv (2 * k)).run != (s.cv (2 * k + 1)).run then s.raiseLevel 237 k
  else if (List.range 4).all (fun j => s.cvSplit j || (s.cv (2 * j)).run = (s.cv (2 * j + 1)).run) then s.lower 237
  else s

/-- A write to a register of engine `e` (R584, R585): discarded for a reserved pair and for the odd engine of a locked one,
fed to both engines of a locked pair, else to the one. -/
def State.cvWrite (e : Nat) (f : Nat → State → State) (s : State) : State :=
  let k := e / 2
  if s.cvReserved k then s.revt (cvAddr e 0x30) 1
  else if s.cvSplit k then f e s
  else if e % 2 = 1 then s.revt (cvAddr e 0x30) 1
  else (f (e + 1) (f e s)).cvCompare k

/-- An algorithm selected, or the engine initialised (R580). -/
def State.cvInit (alg e : Nat) (s : State) : State :=
  s.setCv e { alg := alg, run := match cvAlg alg with | some (_, _, i, _, _) => i | none => 0, runLo := 0, cnt := 0 }

/-- Bytes absorbed (R579, R582); a stopped engine discards them. -/
def State.cvFeed (l : List Byte) (e : Nat) (s : State) : State :=
  let v := s.cv e
  if (cvAlg v.alg).isNone then s
  else s.setCv e { v with run := l.foldl (cvByte v.alg) v.run, cnt := satAdd 0xFFFFFFFF v.cnt l.length }

/-- A write to CV_RUN (R581): bits above the algorithm's width are ignored; for CRC64 the HI word commits. -/
def State.cvRun (hi : Bool) (x : W32) (e : Nat) (s : State) : State :=
  let v := s.cv e
  match cvAlg v.alg with
  | none => s
  | some (w, _, _, _, _) =>
    if w ≤ 32 then (if hi then s else s.setCv e { v with run := x.toNat % 2 ^ w })
    else if hi then s.setCv e { v with run := x.toNat * 2 ^ 32 + v.runLo.toNat } else s.setCv e { v with runLo := x }

/-- CV_RES of engine `e` differs from CV_EXP in the low bits that its algorithm has (R583). -/
def State.cvBad (s : State) (e : Nat) : Bool :=
  let v := s.cv e
  match cvAlg v.alg with
  | none => false
  | some (w, _, _, _, _) => v.res % 2 ^ w != s.rget64 (cvAddr e 0x18) % 2 ^ w
/-- CV_CMD.CMP (R583). Of a locked pair that compares twice in one cycle the source is raised once. -/
def State.cvCmp (e : Nat) (s : State) : State :=
  if !s.cvBad e then s
  else
    let t := s.revt (cvAddr e 0x30) 0
    if e % 2 = 1 && !s.cvSplit (e / 2) && s.cvBad (e - 1) then t else t.raise 67

/-- CV_PAIRCTL_k.MODE written (R584, R585). -/
def State.cvPairctl (k : Nat) (x : W32) (s : State) : State :=
  if s.cvReserved k then (s.revt (cvAddr (2 * k) 0x30) 1).revt (cvAddr (2 * k + 1) 0x30) 1
  else (s.rset (0x40010 + 4 * k) (x &&& 1)).cvCompare k

end Sys2Proof.Machine
end

