-- ==== Sys2Proof/Machine/RegViews.lean ====
section
/-! DEFINITION. What registers read as where the value is the machine's own state (R8, R17, R365): one function per register
block, by the offset in the block; none where the register file holds the value itself. -/

namespace Sys2Proof.Machine
open Sys2Proof

/-- The word at byte 4 `k` of a number. -/
def wordOf (v k : Nat) : Nat := v / 2 ^ (32 * k) % 2 ^ 32
/-- Index of an offset in a row of registers with a stride, where it lies in it. -/
def inRow (o base stride n : Nat) : Option (Nat × Nat) :=
  if base ≤ o ∧ o < base + stride * n then some ((o - base) / stride, (o - base) % stride) else none
/-- A number with bit n set for every n below `k` that passes `p`. -/
def maskOf (k : Nat) (p : Nat → Bool) : Nat := (List.range k).foldl (fun m n => if p n then m + 2 ^ n else m) 0
/-- A number packed from `n` fields of `w` bits. -/
def packOf (n w : Nat) (f : Nat → Nat) : Nat := (List.range n).foldl (fun m i => m + f i % 2 ^ w * 2 ^ (w * i)) 0
/-- A function that fixes bytes by their address, as a word. -/
def fixedWord (a : Nat) : Nat := leNat ((List.range 4).map (fun i => Config.fixedByte (a + i)))

/-! ## ID_, FC_, RV_, SV_ -/

/-- Virtual functions enabled. -/
def State.vfCount (s : State) : Nat := if s.hl.vfEnable then s.hl.numVfs else 0
/-- ID_ registers. -/
def State.idView (s : State) (o : Nat) : Option Nat :=
  match o with
  | 0x04 => some ((Config.fixedByte 4).toNat + 0xC000)
  | 0x08 => some s.rv.ifvR.toNat
  | 0x0C => some s.rv.ifvP.toNat
  | 0x10 => some (b2n s.rv.untested)
  | 0x14 => some (s.hl.speed.toNat + 8 * s.hl.width.toNat + 256 * b2n s.hl.dlUp + 512 * s.vfCount
                  + 32768 * b2n (s.dom 0x45 == .on && s.dom 0x46 == .on))
  | 0x40 => some (512 - s.heldTags.length + 65536 * s.heldTags.length)
  | 0x44 => some 0
  | _ => match inRow o 0x100 4 64 with
    | some (f, _) => some (s.tagsOf f + 256 * ((s.plyTags.take 8).filter (fun p => p.2.fn = f)).length)
    | none => none

/-- FC_ registers. -/
def State.fcView (s : State) (o : Nat) : Option Nat :=
  if o = 4 then
    some (b2n s.errSLow + 2 * b2n s.flt.errP + 4 * b2n s.flt.defaults + 8 * b2n s.testUnlock
          + 16 * s.standing.length + 2 ^ 13 * s.latchedSrcs.length)
  else if o = 0x20 then some (mget 0 s.fregs 0x10020).toNat
  else match inRow o 0x40 4 8, inRow o 0x60 4 8, inRow o 0x1000 16 256, inRow o 0x2000 8 256 with
    | some (g, _), _, _, _ => some (maskOf 32 (fun n => s.notClear (32 * g + n)))
    | _, some (g, _), _, _ => some (maskOf 32 (fun n => (s.src (32 * g + n)).st == .latched))
    | _, _, some (n, k), _ => some (lget 0 (s.srcCfg n).words (k / 4))
    | _, _, _, some (n, k) =>
      let v := s.src n
      let rec_ := (v.recov.filter (fun t => decide (s.ao < t + (s.srcCfg n).windowS * Config.aoPerS))).length
      some (if k = 0 then v.st.code + 256 * min 255 rec_ + 65536 * v.occ else v.depAo % 2 ^ 32)
    | _, _, _, _ => none

/-- Seconds left until AO count `t`, rounded up. -/
def State.secsTo (s : State) (t : Nat) : Nat := min 65535 (ceilDiv (t - s.ao) Config.aoPerS)
/-- RV_ registers. -/
def State.rvView (s : State) (o : Nat) : Option Nat :=
  let r := s.rv
  let day (l : List Nat) : Nat := min 255 (l.filter (fun t => decide (s.ao < t + 24 * Config.aoPerH))).length
  match o with
  | 0x04 => some (s.dev.state.code + 16 * r.mode.code + 64 * b2n r.onShadow + 128 * b2n r.shadowFail
                  + 256 * b2n r.pause.isSome + 512 * b2n r.slow + 1024 * b2n r.strapChg + 2048 * b2n r.untested
                  + 4096 * b2n r.loss)
  | 0x08 => some (r.coreA.code + 16 * r.coreB.code + 256 * r.coreC.code + 4096 * bitsOf (s.rget 0x20008) 14 12)
  | 0x20 => some (day r.transA + 256 * day r.transB + 65536 * day r.transC + 2 ^ 24 * s.transLimit)
  | 0x38 => some r.buildR.toNat
  | 0x3C => some r.buildP.toNat
  | 0x40 => some (r.pairSrc.toNat + 4 * b2n s.allowUntested)
  | 0x48 => some r.sseq.toNat
  | 0x4C =>
    let held := r.privHeld && decide (s.ao < r.leaseEnd)
    let lock := match r.lockEnd with | some t => decide (s.ao < t) | none => false
    let left := if held then s.secsTo r.leaseEnd else match r.lockEnd with | some t => s.secsTo t | none => 0
    some (b2n held + 2 * b2n lock + 4 * min 5 r.fails + 65536 * left)
  | 0x58 => some (max (bitsOf (s.rget 0x20058) 6 0) (bitsOf (mget 0 s.fregs 0x20058) 6 0))
  | _ => none

/-- SV_ registers. -/
def State.svView (s : State) (o : Nat) : Option Nat :=
  let h := s.sv.hwd
  match o with
  | 0x04 => some (s.sv.rwd.st.code + 4 * h.st.code + 16 * maskOf 16 (fun m => (s.task m).en))
  | 0x20 => some h.chal.toNat
  | 0x2C => some (if h.st = .disarmed then 0 else min 0xFFFF ((s.ao - h.prev) / Config.aoPerMs))
  | _ => match inRow o 0x300 16 16 with
    | some (m, k) =>
      let t := s.task m
      some (if k = 0 then b2n t.en + 2 * t.stream + 128 * t.chk else if k = 4 then t.lo else if k = 8 then t.hi
            else t.early + 65536 * t.late)
    | none => none

/-! ## CV_, TM_, PM_ -/

/-- CV_ registers. -/
def State.cvView (s : State) (o : Nat) : Option Nat :=
  match inRow o 0x10 4 4, inRow o 0x100 0x40 8 with
  | some (k, _), _ => some (b2n (s.cvSplit k) + 2 * b2n (s.cvReserved k))
  | _, some (e, k) =>
    let v := s.cv e
    match k with
    | 0x00 => some v.alg
    | 0x08 => some (v.run % 2 ^ 32)
    | 0x0C => some (v.run / 2 ^ 32)
    | 0x10 => some (v.res % 2 ^ 32)
    | 0x14 => some (v.res / 2 ^ 32)
    | 0x34 => some v.cnt
    | _ => none
  | _, _ => none

/-- A word of the oldest record of a capture input (R604, R605). -/
def capWord (c : Capture) (k : Nat) : Nat := match c.queue with
  | [] => 0
  | r :: _ => match k with
    | 2 => r.ns + 2 ^ 30 * b2n r.rise + 2 ^ 31
    | 3 => r.sec % 2 ^ 32
    | 4 => r.ao % 2 ^ 32
    | 5 => r.ao / 2 ^ 32
    | _ => b2n r.sync
/-- TM_ registers. -/
def State.tmView (s : State) (o : Nat) : Option Nat :=
  let t := s.devNow
  match o with
  | 0x04 => some (s.tm.sync.code + 4 * b2n (s.tm.sync == .locked) + 8 * (s.tm.slave.getD 7)
                  + 64 * bitsOf (s.rget 0x50004) 21 6)
  | 0x30 => some (secNs t).2
  | 0x34 => some (t % tmNs / 2 ^ 32)
  | 0x38 => some (wordOf (secNs t).1 0)
  | 0x3C => some (wordOf (secNs t).1 1)
  | 0x40 => some (wordOf s.ao 0)
  | 0x44 => some (wordOf s.ao 1)
  | 0x64 => some (lowBits 32 s.tm.rate)
  | _ => match inRow o 0x200 32 16, inRow o 0x400 32 16 with
    | some (n, k), _ => if k = 24 then some ((s.trig n).edges + 65536 * (s.trig n).skip) else none
    | _, some (n, k) =>
      let c := mget Capture.reset s.tm.caps n
      if k = 0 then none
      else if k = 4 then some (c.queue.length + 256 * c.ovf + 65536 * c.unconf)
      else if k = 28 then none
      else some (capWord c (k / 4))
    | _, _ => none

/-- PM_PLL: what is locked. -/
def State.pllView (s : State) : Nat :=
  let up (p : Pll) : Bool := s.clockRuns p && (match pllBit p with | some b => !s.pm.pllBad.toNat.testBit b | none => true)
  b2n (up .reeve) + 2 * b2n (up .mesh) + 4 * b2n (up .array) + 8 * b2n (up .porter)
    + 16 * b2n (up .porter && s.pm.hostless) + 32 * b2n (up .pcie) + 64 * maskOf 4 (fun n => up (.eth (Fin.ofNat 4 n)))
    + 1024 * maskOf 2 (fun n => up (.dphy (Fin.ofNat 2 n))) + 4096 * b2n (up .time) + 8192 * b2n (up .xspi)
/-- PM_ registers. -/
def State.pmView (s : State) (o : Nat) : Option Nat :=
  match o with
  | 0x04 =>
    let count (d : DomSt) : Nat := ((List.range 48).filter (fun q => s.dom q == d)).length
    some (b2n s.pm.hostless + 2 * b2n (s.notClear 75) + 4 * b2n s.pm.throttled + 8 * count .on + 1024 * count .gated)
  | 0x30 => some s.pllView
  | 0x54 => some (bitsOf (s.rget 0x60054) 11 0 + 4096 * s.tempWarn)
  | 0x60 => some (wordOf s.ao 0)
  | 0x64 => some (wordOf s.ao 1)
  | _ => match inRow o 0x10 4 6 with
    | some (k, _) => some (packOf 16 2 (fun n => (s.dom (16 * k + n)).code))
    | none => none

/-! ## SIO_, SL_ -/

/-- The state of channel `k` as it is shown (R542). -/
def State.chanShow (s : State) (k : Nat) : Nat :=
  if (s.chan k).bt != .idle then 5
  else if s.notClear (48 + k) then 4
  else if s.tripped.testBit k then 3
  else if (s.chan k).energised then 1
  else if s.conds k then 2
  else 0
/-- SIO_ registers. -/
def State.sioView (s : State) (o : Nat) : Option Nat :=
  match o with
  | 0x04 => some (b2n s.factory + 2 * b2n s.sio.staging.isSome + 4 * b2n s.sio.newSalt.isSome)
  | 0x10 => some (s.rv.adopted.toNat % 2 ^ 32)
  | 0x14 => some (packOf 8 4 (fun k => (s.pair k).st.code))
  | 0x18 => some (packOf 8 4 (fun k => (s.pair (8 + k)).st.code))
  | 0x20 => some (packOf 8 4 s.chanShow)
  | 0x24 => some (packOf 2 4 (fun k => s.chanShow (8 + k)))
  | 0x30 => some s.sio.cfgCrc.toNat
  | 0x34 => some s.sio.cfgSeq.toNat
  | 0x38 => some s.sio.logSeq.toNat
  | _ => match inRow o 0x40 16 2, inRow o 0x60 4 4, inRow o 0x70 4 4 with
    | some (n, k), _, _ =>
      let c := s.chan (8 + n)
      if k = 0 then some (c.btLast.toNat + 4 * b2n c.btDue + 8 * b2n (c.bt != .idle))
      else match c.btPassAt with
        | some t => some (min 0xFFFFFFFF ((s.ao - t) / (60 * Config.aoPerS)))
        | none => some 0xFFFFFFFF
    | _, some (k, _), _ => some (leNat ((List.range 4).map (fun i => s.bodyRead (0x40 + 4 * k + i))))
    | _, _, some (k, _) => some (wordOf (match s.sio.newSalt with | some v => v.toNat | none => 0) k)
    | _, _, _ => none

/-- SL_ registers. -/
def State.slView (s : State) (o : Nat) : Option Nat :=
  let pp (c : Nat) : BitVec 4 := (pconCfg s.sio.body c).ports
  let cp (c : Nat) : BitVec 4 := (cconCfg s.sio.body c).ports
  if o = 4 then
    some (((List.range 16).filter (fun c => pp c != 0)).length + 32 * ((List.range 8).filter (fun c => cp c != 0)).length
      + 512 * maskOf 4 (fun n => s.bsc.linkUp.toNat.testBit n
          && ((List.range 16).any (fun c => (pp c).toNat.testBit n) || (List.range 8).any (fun c => (cp c).toNat.testBit n))))
  else match inRow o 0x100 16 16, inRow o 0x200 16 8 with
    | some (c, k), _ =>
      let p := s.pcon c
      let st := if pp c = 0 ∨ (s.upPorts c).isEmpty then 0 else if s.safeOnly then 3 else if p.sent < 16 then 1 else 2
      some (if k = 0 then st + 4 * (pp c).toNat else if k = 4 then p.sentSeq.toNat else p.drop)
    | _, some (c, k) =>
      let v := s.ccon c
      some (if k = 0 then v.st.code + 65536 * (s.permits c).toNat else if k = 4 then v.last.toNat
            else if k = 8 then v.err + 65536 * v.dup else v.tmo + 65536 * v.resync)
    | _, _ => none

/-! ## SG_, VD_, PL_ -/

/-- Source `n` is up (SG_STAT.SRC_UP). -/
def State.srcUp (s : State) (n : Nat) : Bool :=
  s.dom (0x4B + n) == .on && (if n < 2 then !s.pm.pllBad.toNat.testBit (10 + n) else s.bsc.linkUp != 0)
/-- Buffers of frames in the hands of owner `k` (R353). -/
def State.bufsOf (s : State) (k : Nat) : Nat :=
  (s.vd.frames.map (fun f => if f.owner = k then f.buffers.length + f.mirror.length else 0)).sum
/-- The owners' counts of R438: free, ingress, forward, assay, journal. -/
def State.bufCounts (s : State) : Nat × Nat × Nat × Nat × Nat :=
  let used := s.ldg.used.length
  let fwd := s.bufsOf 2
  let gold := (s.gate.map (fun p => (p.2.goldCopies.map List.length).sum)).sum
  let dig := (s.vd.digests.map (fun p => match p.2.flying with | some l => l.length | none => 0)).sum
  let assay := s.bufsOf 3 + gold + dig
  let jrn := s.bufsOf 4
  (2048 - used, used - fwd - assay - jrn, fwd, assay, jrn)
/-- Free buffers in failed banks (R440). -/
def State.unusable (s : State) : Nat :=
  ((List.range 16).map (fun b => if s.ldg.failed.toNat.testBit b then
    128 - (s.ldg.used.filter (fun p => p.1 / 128 = b)).length else 0)).sum
/-- SG_SINFO of stream `n`. -/
def State.sgInfo (s : State) (n : Nat) : Nat :=
  let g := s.gs n
  let hist := g.ltaint % 16 * 2 ^ 14 + g.ldrop % 8 * 2 ^ 18
  match s.pstream n with
  | none => hist
  | some p => p.src + 4 * p.fn + 256 + 512 * b2n p.mirror + 1024 * b2n g.resv.isSome + 2048 * min 2 g.credits
      + 2 ^ 13 * b2n (s.openFrame n).isSome + hist
/-- SG_ registers. -/
def State.sgView (s : State) (o : Nat) : Option Nat :=
  let c := s.bufCounts
  match o with
  | 0x04 => some (maskOf 4 s.srcUp + 16 * b2n (s.tm.sync == .locked)
                  + 32 * (match s.run with | some r => r.img.streams.length | none => 0))
  | 0x20 => some (c.1 + 65536 * c.2.1)
  | 0x24 => some (c.2.2.1 + 65536 * c.2.2.2.1)
  | 0x28 => some c.2.2.2.2
  | 0x2C => some s.unusable
  | _ => match inRow o 0x400 4 64 with
    | some (n, _) => some (s.sgInfo n)
    | none => none

/-- The P0 stream of the running plan. -/
def State.p0Stream (s : State) : Option Nat := s.run.bind (fun r => (r.img.streams.find? (fun p => p.p0)).map (fun p => p.num))
/-- VD_ registers. -/
def State.vdView (s : State) (o : Nat) : Option Nat :=
  let last := s.vd.jseq - 1
  match o with
  | 0x04 => some (s.dev.state.code + 16 * ([0, 1, 2, 3].filter (fun i => (s.dis i).busy)).length
                  + 128 * b2n s.p0Stream.isSome + 256 * s.p0Stream.getD 0)
  | 0x10 => some (wordOf last 0)
  | 0x14 => some (wordOf last 1)
  | 0x18 => some (s.vd.jseq % journalDepth)
  | 0x50 => some (mget 0 s.fregs 0xA0050).toNat
  | _ => match inRow o 0x60 4 4, inRow o 0x100 4 64, inRow o 0x200 4 64, inRow o 0x300 8 4 with
    | some (k, _), _, _, _ => some (packOf 16 2 (fun n => (s.stream (16 * k + n)).code))
    | _, some (n, _), _, _ => some ((s.stream n).score % 65536 + 65536 * (s.stream n).run)
    | _, _, some (n, _), _ =>
      let v := s.stream n
      some (v.holdCode + 16 * v.under.code + 64 * b2n (s.p0Stream = some n) + 128 * b2n v.hStale
            + 256 * b2n (match s.pstream n with | some p => p.dual | none => false))
    | _, _, _, some (i, k) =>
      let d := s.dis i
      some (if k = 0 then b2n d.busy + 2 * d.stream + 128 * b2n d.repeatDone + 256 * b2n d.freshDone + 512 * b2n d.stDone
              + 1024 * d.outcome + 4096 * d.tile
            else d.jseq % 2 ^ 32)
    | _, _, _, _ => none

/-- PL_ registers. -/
def State.plView (s : State) (o : Nat) : Option Nat :=
  let l := s.ldr
  let img (f : PlanImage → Nat) : Nat := match s.run with | some r => f r.img | none => 0
  let stg : Nat := if l.phase = .idle ∨ l.phase = .header then 0 else match l.img with | some i => i.planId.toNat | none => 0
  match o with
  | 0x04 => some (l.phase.code + 16 * b2n s.run.isSome + 32 * b2n l.staged + 64 * b2n l.armed + 128 * l.src + 65536 * l.refuse)
  | 0x10 => some (wordOf s.runPlanId 0)
  | 0x14 => some (wordOf s.runPlanId 1)
  | 0x18 => some (wordOf stg 0)
  | 0x1C => some (wordOf stg 1)
  | 0x20 => some (img (fun i => i.ifvMinor + 65536 * i.ifvMajor))
  | 0x24 => some s.rv.rangeR.1
  | 0x28 => some s.rv.rangeR.2
  | 0x2C => some s.rv.rangeP.1
  | 0x30 => some s.rv.rangeP.2
  | 0x34 => some (l.bytes / 64 % 2 ^ 21)
  | 0x38 => some l.secDetail
  | 0x3C => some (mget 0 s.fregs 0xB003C).toNat
  | 0x40 => some l.tplace
  | 0x4C => some (img (fun i => i.hper) + 2 ^ 23 * img (fun i => i.slots.length))
  | 0x50 => some (img (fun i => i.tiles.length)
      + 256 * (match s.run with | some r => r.spares | none => 0) + 65536 * img (fun i => i.streams.length)
      + 2 ^ 24 * min 127 (match s.run with | some r => r.pwovr | none => 0))
  | _ => none

/-! ## ST_, KV_, DB_ -/

/-- SVN of the firmware image in force of a kind. -/
def Store.svnOf (x : Store) (k : Nat) : Nat :=
  if k = 2 then 0 else match x.fw k (x.selOr.entry k).bank with | some i => i.svn | none => 0
/-- ST_ registers. -/
def State.stView (s : State) (o : Nat) : Option Nat :=
  let x := s.store
  let b := x.selOr
  match o with
  | 0x04 => some (x.density.toNat + 8 * b2n x.noSel + 16 * b2n x.thrReset + 32 * b2n (!x.busy.isEmpty)
                  + 64 * (match x.busy with | [] => 0 | p :: _ => p.1))
  | 0x10 => some (if x.noSel then 0 else b.seq.toNat)
  | 0x30 => some (min 64 b.marks)
  | 0x34 => some (planBank x.density.toNat / 65536)
  | 0x38 => some (x.svnR + 256 * x.svnP + 65536 * Config.revoked.toNat)
  | _ => match inRow o 0x20 4 3 with
    | some (k, _) =>
      let e := b.entry k
      some (b2n e.bank + 2 * b2n e.trial + 4 * b2n e.prev + 8 * b2n (x.verified.toNat.testBit k) + 256 * (x.svnOf k % 256))
    | none => none

/-- KV_ registers. -/
def State.kvView (s : State) (o : Nat) : Option Nat :=
  let k := s.kv
  match o with
  | 0x04 => some (b2n k.idKey + 2 * b2n k.impKey + 4 * k.pkey.toNat + 16 * b2n k.erased + 32 * b2n k.entropyOk
                  + 64 * b2n k.attBusy + 128 * b2n k.attDone)
  | 0x0C => some (k.policy.toNat + 256 * maskOf 4 (fun n => (s.src (231 + n)).asserted))
  | 0x10 => some (packOf 4 8 (fun n => mget 0 k.tcnt n))
  | _ => match inRow o 0x18 4 4, inRow o 0x100 4 24, inRow o 0x180 4 24, inRow o 0x200 4 24 with
    | some (i, _), _, _, _ => some (wordOf Config.uid.toNat i)
    | _, some _, _, _ => some (fixedWord (0xD0000 + o))
    | _, _, some _, _ => some (fixedWord (0xD0000 + o))
    | _, _, _, some _ => some (mget 0 s.fregs (0xD0000 + o)).toNat
    | _, _, _, _ => none

/-- DB_ registers. -/
def State.dbView (s : State) (o : Nat) : Option Nat :=
  let d := s.dbg
  match o with
  | 0x04 => some (b2n d.sessionOpen + 2 * b2n d.auth + 4 * b2n s.dev.bench + 8 * b2n s.benchOk + 16 * b2n d.forced
                  + 32 * b2n s.dbLocked)
  | 0x10 => some (match d.nonce with | some (n, _) => wordOf n.toNat 0 | none => 0)
  | 0x14 => some (match d.nonce with | some (n, _) => wordOf n.toNat 1 | none => 0)
  | 0x40 => some (32 * b2n d.haltPend + 64 * b2n d.halted)
  | _ => match inRow o 0x1000 16 256 with
    | some (_, k) => if k < 8 then some (mget 0 s.fregs (0xE0000 + o)).toNat else none
    | none => none

/-! ## Tile windows and function pages -/

/-- The hole index of a position (TW_ROLE.HOLE). -/
def State.holeOf (s : State) (t : Nat) : Nat := match s.run with
  | none => 0xF
  | some r => match r.img.holes.findIdx? (fun h => h = t) with | some i => min 8 i | none => 0xF
/-- Registers of the window of tile `t`. -/
def State.twView (s : State) (t o : Nat) : Option Nat :=
  let v := s.tile t
  let run (c : Nat) : Bool := let x := (s.ctx t c).st; x == .run || x == .waitSlot || x == .waitArr
  let halt (c : Nat) : Bool := (s.ctx t c).st == .halted
  match o with
  | 0x00 => some (t + 256 * quadOf t + 65536 * (t % 16) + 2 ^ 20 * (t / 16) + 2 ^ 24 * (t % 16 / 4))
  | 0x04 => some (v.role.code + 16 * (v.logical.getD 0xFF) + 4096 * s.holeOf t + 65536 * v.qcount + 2 ^ 24 * v.qcause)
  | 0x0C => some ((s.dom (quadOf t)).code + 4 * b2n v.stBusy + 8 * v.stStep + 512 * b2n (v.role == .deepTest)
                  + 1024 * s.slot)
  | 0x40 => some (maskOf 32 run)
  | 0x44 => some (maskOf 16 (fun c => run (32 + c)))
  | 0x48 => some (maskOf 32 halt)
  | 0x4C => some (maskOf 16 (fun c => halt (32 + c)))
  | _ => match inRow o 0x100 8 48, inRow o 0x400 4 12 with
    | some (c, k), _ =>
      let x := s.ctx t c
      let p := s.tileCfg t
      some (if k = 0 then x.pc % 65536 + 65536 * x.st.code + 2 ^ 24 * x.flags.toNat
            else match p with
              | some p => (p.wheel.filter (fun w => w = c)).length + 64 * maskOf 6 (fun i =>
                  (((List.range 32).filter (fun w => (ptileCtx p c).twins.toNat.testBit w)).length).testBit i)
              | none => 0)
    | _, some (k, _) => some (packOf 4 8 (fun j => match s.tileCfg t with | some p => lget 0xFF p.wheel (4 * k + j) | none => 0xFF))
    | _, _ => none

/-- The oldest record of function `f` not yet read through its window (R91). -/
def State.vrwHead (s : State) (f : Nat) : Option JRec :=
  (s.vd.journal.filter (fun r => r.fn = f && decide (mget 0 s.vd.cursor f ≤ r.seq))).getLast?
/-- Mailbox registers of channel `ch` of function `f`, by their offset from the channel base. -/
def State.mbView (s : State) (f ch o : Nat) : Option Nat :=
  let c := s.chan2 f ch
  match o with
  | 0x48 => some (b2n c.outb.full + 8 * b2n c.cross + 256 * c.seqOut)
  | 0xC0 => some c.inb.hdr.toNat
  | 0xC4 => some c.inb.hdr.toNat
  | 0xC8 => some (b2n c.inb.full)
  | _ => match inRow o 0x80 4 16 with | some (k, _) => some (wordOf c.inb.body.toNat k) | none => none
/-- Registers of the page of function `f`. -/
def State.fnView (s : State) (f o : Nat) : Option Nat :=
  match o with
  | 0x00 => some (f + 64 * b2n (f = 0))
  | 0x04 => some (s.dev.state.code + 16 * bitsOf (s.rget (fnAddr f 4)) 5 4
      + 64 * b2n (f = 0 && s.rv.privHeld && decide (s.ao < s.rv.leaseEnd)) + 128 * b2n s.run.isSome + 256 * b2n s.rv.untested
      + 512 * b2n (mget false s.hl.flr f)
      + 1024 * (match s.run with | some r => (r.img.streams.filter (fun p => p.fn = f)).length | none => 0))
  | 0x08 => some (s.rv.abi.1 + 65536 * s.rv.abi.2)
  | 0x30 => some (packOf 4 2 (fun k => match (s.lane f k).st with | .idle => 0 | .opened => 1 | .skip => 2))
  | 0x3800 => some (maskOf 32 (fun v => mget false s.hl.vpend (32 * f + v)))
  | 0x3804 => some 0
  | 0xC044 => some (s.vrwPend f % 2 ^ 15)
  | 0xC048 => some (mget 0 s.vd.lost f)
  | _ => match inRow o 0x1000 0x800 2, inRow o 0x4000 16 1024, inRow o 0x8000 16 1024, inRow o 0xC000 4 16 with
    | some (ch, k), _, _, _ => s.mbView f ch k
    | _, some (i, k), _, _ =>
      let r := s.ring (ringId f i)
      if k = 8 then some (b2n (r.size != 0) + 2 * r.type + 512 * r.err + 8192 * r.errCnt
        + 2 ^ 21 * b2n (mget false s.q.paused (ringId f i)))
      else if k = 12 then some (if r.type = 2 then r.pi.toNat else r.ci.toNat)
      else none
    | _, _, some (t, k), _ => if k = 0 ∨ k = 8 then some (s.tally (ringId f t)).toNat else none
    | _, _, _, some (k, _) => some (match s.vrwHead f with | some r => leField r.bytes (4 * k) 4 | none => 0)
    | _, _, _, _ => none

/-! ## One register -/

/-- The machine's own value of the register at `a`. -/
def State.viewOf (s : State) (a : Nat) : Option Nat :=
  let o := a % 0x10000
  if a ≥ 0x100000000 then s.fnView ((a - 0x100000000) / 0x10000) o
  else if a ≥ 0x100000 then (if a < 0x400000 then s.twView ((a - 0x100000) / 0x4000) (a % 0x4000) else none)
  else match a / 0x10000 with
    | 0 => s.idView o | 1 => s.fcView o | 2 => s.rvView o | 3 => s.svView o | 4 => s.cvView o | 5 => s.tmView o
    | 6 => s.pmView o | 7 => s.sioView o | 8 => s.slView o | 9 => s.sgView o | 10 => s.vdView o | 11 => s.plView o
    | 12 => s.stView o | 13 => s.kvView o | 14 => s.dbView o | _ => none
/-- Registers whose writable bits are the machine's state and not the register file's. -/
def fullView (a : Nat) : Nat :=
  if a / 0x10000 = 4 then
    (if (a - 0x40000) < 0x20 then 1 else match (a - 0x40100) % 0x40 with | 0x00 => 7 | 0x08 => 0xFFFFFFFF | 0x0C => 0xFFFFFFFF | _ => 0)
  else 0
/-- The live value of the register at `a`: the machine's own bits, and those that a write has left (R8). FC_INJ reads the
injection that it has armed (R514), and a virtual function's DB_EN has no bits 4 to 7. -/
def State.regLive (s : State) (a : Nat) : W32 :=
  if a = 0x10010 then
    (if s.flt.injReg then BitVec.ofNat 32 (s.flt.injTarget.toNat + 256 * s.flt.injMode.toNat + 65536 * s.flt.injUnit.toNat)
     else 0)
  else if a ≥ 0x100010000 ∧ a % 0x10000 = 0x2004 then s.rget a &&& 0xFFFFFF0F
  else match regRow a with
    | none => 0
    | some r =>
      let st := s.rget a &&& ~~~(BitVec.ofNat 32 r.wo)
      match s.viewOf a with
      | some v =>
        let m := BitVec.ofNat 32 (r.rw ||| r.w1c ||| r.xp) &&& ~~~(BitVec.ofNat 32 (fullView a))
        (BitVec.ofNat 32 v &&& ~~~m) ||| (st &&& m)
      | none => st

end Sys2Proof.Machine
end

