-- ==== Sys2Proof/Machine/RegAccess.lean ====
section
/-! DEFINITION. Register access (R8 to R12, R16, R357, R364, R365, R375 to R384): which addresses exist for whom, what a write
does by the access codes and by the register, and what a read returns and does besides. -/

namespace Sys2Proof.Machine
open Sys2Proof

/-! ## Addresses -/

/-- The address of a register in the register file. -/
def regAt : RegAddr → Nat
  | .page f o => fnAddr f.val o.toNat
  | .dev o => o.toNat
/-- The offset that an access error captures. -/
def offOf (a : Nat) : Nat := if a ≥ 0x100000000 then a % 0x10000 else a
/-- The initiator of a number of R513. -/
def initOf (n : Nat) : Initiator := if n = 0x40 then .porter else if n = 0x42 then .debug else .host (Fin.ofNat 64 n)
/-- The initiator reaches the address at all: a live function its own page, F00 the device registers too; a running porter all;
an open debug session with its domain awake the device registers (R363, R673, R675). -/
def State.reaches (s : State) (who : Initiator) (p : RegAddr) : Bool :=
  match who, p with
  | .host f, .page g _ => decide (f = g) && s.fnLive f
  | .host f, .dev o => f.val = 0 && s.fnLive 0 && decide (o.toNat < 0x800000)
  | .porter, .page _ _ => s.porterLive
  | .porter, .dev o => s.porterLive && decide (o.toNat < 0x800000)
  | .debug, .page _ _ => false
  | .debug, .dev o => s.dbg.sessionOpen && s.dom 0x5A == .on && decide (o.toNat < 0x800000)
      && s.dev.state != .cold && s.dev.state != .alarm
/-- The address lies where reads return 0 and writes are discarded without an error (R364, R365). -/
def silentArea (a : Nat) : Bool :=
  if a ≥ 0x100000000 then
    let o := a % 0x10000
    !(decide (o < 0x3200) || (decide (0x3800 ≤ o) && decide (o < 0x3808)) || (decide (0x4000 ≤ o) && decide (o < 0xC04C)))
      || (decide (a ≥ 0x100010000) && decide (0x1800 ≤ o) && decide (o < 0x2000))
  else (decide (0xF0000 ≤ a) && decide (a < 0x100000)) || decide (0x400000 ≤ a)
/-- A register occupies the address; the last 16 ring slots of F00 hold none (R364). -/
def regMapped (a : Nat) : Bool :=
  (regRow a).isSome && !(decide (fnAddr 0 (0x4000 + 16 * 1008) ≤ a) && decide (a < fnAddr 0 0x8000))
/-- The complement of SV_HWD_TOKEN, the one DX register. -/
def dxToken : Nat := 0x30024
/-- The blocks whose registers are copies of safety-domain state (R365). -/
def copiesBlock (a : Nat) : Bool :=
  decide (a < 0x100000) && ([1, 2, 3, 6, 7, 8, 10, 13] : List Nat).contains (a / 0x10000)
/-- The register has a field that a write may act on; FC_INJ has, though its fields are XP. -/
def regWritable (a : Nat) : Bool :=
  a = 0x10010 || a = dxToken + 0x8000
    || match regRow a with | some r => (r.rw ||| r.w1c ||| r.wo ||| r.rs ||| r.dx) != 0 | none => false
/-- The power domain that a register lies in, where it lies in one that can be OFF (R379). -/
def State.regDom (s : State) (a : Nat) : Option Nat :=
  let src (n : Nat) : Option Nat := (s.pstream n).map (fun p => 0x4B + p.src)
  if a ≥ 0x100000000 then none
  else if inTileWindow a then (if a % 0x4000 < 8 then none else some (quadOf ((a - 0x100000) / 0x4000)))
  else
    let o := a % 0x10000
    match a / 0x10000 with
    | 4 => if o < 0x20 then some (0x51 + (o - 0x10) / 4) else some (0x51 + (o - 0x100) / 0x80)
    | 5 => some 0x4F
    | 9 => match inRow o 0x100 32 4, inRow o 0x400 4 64, inRow o 0x600 8 64, inRow o 0x1000 32 64 with
      | some (n, _), _, _, _ => some (0x4B + n)
      | _, some (n, _), _, _ => src n
      | _, _, some (n, _), _ => src n
      | _, _, _, some (n, _) => src n
      | _, _, _, _ => none
    | 14 => some 0x5A
    | _ => none
/-- The domain of a register that is OFF. -/
def State.absentDom (s : State) (a : Nat) : Option Nat :=
  match s.regDom a with
  | some d => if s.dom d == .off then some d else none
  | none => none
/-- What a debug session reaches through window 0: all once authenticated, else and in BOOT the ID_ block, DB_STAT, DB_CHAL and
DB_AUTH (R674, R675). -/
def State.debugMay (s : State) (a : Nat) : Bool :=
  (s.dbg.auth && s.dev.state != .boot) || decide (a < 0x10000) || a = 0xE0004
    || (decide (0xE0010 ≤ a) && decide (a < 0xE001C)) || (decide (0xE0020 ≤ a) && decide (a < 0xE0040))
/-- An access to an absent domain (R379). -/
def State.absentErr (d : Nat) (who : Initiator) (a : Nat) (write : Bool) (s : State) : State :=
  (s.accErr .absent who (offOf a) write).rfield 0x20 7 0 d

/-! ## Snapshots (R383) -/

/-- The registers that a block's SNAP captures, by offset in the block. -/
def snapOffs (blk : Nat) : List Nat :=
  let row (base stride n : Nat) : List Nat := (List.range n).map (fun i => base + stride * i)
  let words (base stride n w : Nat) : List Nat := (List.range n).flatMap (fun i => (List.range w).map (fun k => base + stride * i + 4 * k))
  match blk with
  | 1 => 4 :: row 0x40 4 16 ++ row 0x2000 4 512
  | 2 => [0x04, 0x08, 0x20, 0x24, 0x28, 0x30]
  | 3 => 0x04 :: 0x20 :: 0x2C :: row 0x300 4 64
  | 5 => 0x04 :: 0x60 :: 0x64 :: row 0x218 32 16
  | 6 => 0x04 :: 0x30 :: 0x38 :: 0x3C :: row 0x10 4 6
  | 7 => [0x10, 0x14, 0x18, 0x20, 0x24]
  | 8 => words 0x100 16 16 3 ++ words 0x200 16 8 4
  | 9 => row 0x400 4 64 ++ row 0x1000 4 512
  | 10 => row 0x60 4 4 ++ row 0x100 4 64 ++ row 0x200 4 64
  | 11 => [0x04, 0x34, 0x38, 0x3C, 0x40]
  | 12 => [0x04, 0x20, 0x24, 0x28, 0x30]
  | 13 => [0x04, 0x0C, 0x10]
  | _ => []
/-- The registers that a tile window's SNAP captures. -/
def snapTile : List Nat := [0x0C, 0x40, 0x44, 0x48, 0x4C] ++ (List.range 96).map (fun i => 0x100 + 4 * i)
/-- The control register with SNAP and VIEW of an address's block. -/
def ctlOf (a : Nat) : Nat := if inTileWindow a then a / 0x4000 * 0x4000 + 8 else a / 0x10000 * 0x10000
/-- The registers captured by the SNAP of a control register; none for an address that is none. -/
def snapSet (ctl : Nat) : List Nat :=
  if ctlOf ctl ≠ ctl ∨ ctl ≥ 0x400000 then []
  else if inTileWindow ctl then snapTile.map (fun o => ctl - 8 + o)
  else (snapOffs (ctl / 0x10000)).map (fun o => ctl + o)
/-- SNAP written with 1: the registers are captured in one cycle. -/
def State.snapNow (ctl : Nat) (s : State) : State :=
  { s with hl.snap := (snapSet ctl).foldl (fun m a => mput (regReset a) m a (s.regLive a)) s.hl.snap }
/-- What a register shows: its snapshot where its block's VIEW is 1 and SNAP captures it, else its live value. -/
def State.shown (s : State) (a : Nat) : W32 :=
  if decide (a < 0x400000) && bitAt (s.rget (ctlOf a)) 1 && (snapSet (ctlOf a)).contains a then mget (regReset a) s.hl.snap a
  else s.regLive a

/-! ## High-word latches (R383) -/

/-- The words that a read of a low word latches. -/
def latchHighs (a : Nat) : List Nat :=
  let one (b : Bool) : List Nat := if b then [a + 4] else []
  let o := a % 0x10000
  if a ≥ 0x100000000 then one (o = 0x18)
  else if inTileWindow a then
    let w := a % 0x4000
    one (([0x18, 0x20, 0x28, 0x40, 0x48, 0x60] : List Nat).contains w || (decide (0x100 ≤ w) && decide (w < 0x280) && w % 8 = 0))
  else match a / 0x10000 with
    | 0 => one (o = 0x28 || o = 0x40)
    | 1 => one (([0x18, 0x80, 0x88, 0x90, 0x98] : List Nat).contains o || (decide (0x100 ≤ o) && decide (o < 0x200) && o % 32 = 16)
              || (decide (0x2000 ≤ o) && decide (o < 0x2800) && o % 8 = 0))
    | 2 => one (o = 0x18 || o = 0x24)
    | 4 => one (decide (0x100 ≤ o) && ([0x08, 0x10, 0x18] : List Nat).contains (o % 0x40))
    | 5 => if o = 0x30 then [a + 4, a + 8, a + 12, a + 16, a + 20]
           else if 0x80 ≤ o ∧ o < 0xC0 ∧ o % 16 = 0 then [a + 4, a + 8, a + 12]
           else if 0x400 ≤ o ∧ o < 0x600 ∧ o % 32 = 8 then [a + 4, a + 8, a + 12, a + 16]
           else one (o = 0x68)
    | 6 => one (([0x38, 0x40, 0x48, 0x60] : List Nat).contains o)
    | 7 => one (o = 0x40 || o = 0x50)
    | 8 => one (o = 0x10)
    | 9 => if o = 0x20 then [a + 4, a + 8, a + 12]
           else one ((decide (0x100 ≤ o) && decide (o < 0x180) && o % 32 = 0) || (decide (0x600 ≤ o) && decide (o < 0x800) && o % 8 = 0)
              || (decide (0x1000 ≤ o) && o % 32 = 0))
    | 10 => one (([0x10, 0x20, 0x28, 0x30, 0x38, 0x40, 0x48] : List Nat).contains o || (decide (0x300 ≤ o) && o % 8 = 0))
    | 11 => one (([0x10, 0x18, 0x24, 0x2C, 0x38] : List Nat).contains o)
    | 13 => one (o = 0x30 || o = 0x38)
    | 14 => one (o = 0x10)
    | _ => []
/-- The key of an initiator class's latch for an address. -/
def latchKey (who : Initiator) (a : Nat) : Nat := who.cls * 2 ^ 40 + a

/-! ## Maxima (R705) -/

/-- A clear-on-read maximum, with the bits that hold it. -/
def maxMask (a : Nat) : Option Nat :=
  if a = 0xA0050 then some 0xFFFFFFFF else if a = 0xB0048 then some 0xFFFF else if a = 0x10020 then some 0xFFF
  else if a = 0x20058 then some 0x7F else if a = 0x30010 then some 0xFFFC000 else if a = 0x60050 then some 0xFFFF
  else if 0x30200 ≤ a ∧ a < 0x30300 then some 0xFFFFFFFF else none
/-- The maximum set to 0; the register's other fields stay. -/
def State.clearMax (a m : Nat) (s : State) : State :=
  { s.rset a (s.rget a &&& ~~~(BitVec.ofNat 32 m)) with fregs := mput 0 s.fregs a (mget 0 s.fregs a &&& ~~~(BitVec.ofNat 32 m)) }

/-! ## Writes -/

/-- A write by the access codes alone (R8): RW and XP bits are set, W1C bits written with 1 are cleared. -/
def State.regStore (a : Nat) (v : W32) (s : State) : State :=
  match regRow a with
  | some r =>
    let m := BitVec.ofNat 32 (r.rw ||| r.xp)
    s.rset a (((s.rget a &&& ~~~m) ||| (v &&& m)) &&& ~~~(v &&& BitVec.ofNat 32 r.w1c))
  | none => s
/-- The XP bits of a write alone. -/
def State.xpStore (a : Nat) (v : W32) (s : State) : State :=
  match regRow a with
  | some r => let m := BitVec.ofNat 32 r.xp; s.rset a ((s.rget a &&& ~~~m) ||| (v &&& m))
  | none => s
/-- The write changes an XP field. -/
def State.xpChanges (s : State) (a : Nat) (v : W32) : Bool :=
  match regRow a with
  | some r => ((v ^^^ s.regLive a) &&& BitVec.ofNat 32 r.xp) != 0
  | none => false
/-- The pair at SV_HWD_TOKEN fails (R381): discarded, recorded and MINOR. -/
def State.dxFail (who : Initiator) (a : Nat) (s : State) : State := s.accErr .dxfail who (offOf a) true
/-- The open pair of block 3 closed. -/
def State.dxClose (s : State) : State := { s with hl.dx := mput none s.hl.dx 3 none }
/-- Another write to the block meets an open pair (R8, R381): the pair is discarded. -/
def State.dxBreak (who : Initiator) (a : Nat) (s : State) : State :=
  match mget none s.hl.dx 3 with
  | some _ => s.dxClose.dxFail who a
  | none => s
/-- The first write of a pair. -/
def State.dxOpen (who : Initiator) (v : W32) (s : State) : State :=
  { s with hl.dx := mput none s.hl.dx 3 (some { off := 0x24, val := v, who := who.num, at_ := s.ao }) }
/-- The complement of a pair: within 200 AO cycles of the first write, from the same initiator. -/
def State.dxComplement (who : Initiator) (v : W32) (s : State) : State :=
  match mget none s.hl.dx 3 with
  | none => s.dxFail who (dxToken + 0x8000)
  | some p =>
    if p.who = who.num ∧ s.ao ≤ p.at_ + 200 ∧ v = ~~~p.val then s.dxClose.hwdService who p.val
    else s.dxClose.dxFail who (dxToken + 0x8000)

/-- A write of FC_INJ (R514, R515): a command-only target arms nothing and raises REG_ACCESS. -/
def State.injWrite (who : Initiator) (v : W32) (s : State) : State :=
  let t := bitsOf v 7 0
  if t = 3 ∨ t = 9 then
    (if s.testUnlock then s.raiseWith 192 false { addr := 0x10010, init := who.num, acc := 1, unit := 0xFFFF } else s)
  else s.arm t (bitsOf v 9 8) (bitsOf v 31 16) true
/-- A write to a check-value engine's register (R580 to R585). -/
def State.cvReg (a : Nat) (v : W32) (s : State) : State :=
  if a < 0x40100 then s.cvPairctl ((a - 0x40010) / 4) v
  else
    let o := (a - 0x40100) % 0x40
    let take (f : Nat → State → State) (s : State) : State :=
      s.cvWrite ((a - 0x40100) / 0x40) (fun e s => f e (s.xpStore (cvAddr e o) v))
    match o with
    | 0x00 => take (State.cvInit (bitsOf v 2 0)) s
    | 0x08 => take (State.cvRun false v) s
    | 0x0C => take (State.cvRun true v) s
    | 0x20 => take (State.cvFeed (leBytes 4 v.toNat)) s
    | 0x24 => take (State.cvFeed (leBytes 4 v.toNat)) s
    | 0x38 => take (State.cvFeed (leBytes 2 v.toNat)) s
    | 0x3C => take (State.cvFeed (leBytes 1 v.toNat)) s
    | 0x2C => take (fun e s =>
        let s := if bitAt v 0 then s.cvInit (s.cv e).alg e else s
        if bitAt v 1 then s.cvCmp e else s) s
    | _ => take (fun e s => s.regStore (cvAddr e o) v) s
/-- A write to a time-unit register with an effect of its own. -/
def State.tmReg (a : Nat) (v : W32) (s : State) : State :=
  if a = 0x50000 then
    let s := s.regStore a v
    let s := if bitAt v 0 then s.snapNow a else s
    if bitAt v 2 then s.tmLoad else s
  else if a = 0x5000C then ((s.xpStore a v).tmCfg v).ownDoms
  else if 0x50010 ≤ a ∧ a < 0x50020 then ((s.xpStore a v).tmPort ((a - 0x50010) / 4) v).ownDoms
  else if a = 0x50050 then (s.xpStore a v).tmSetNs v
  else if 0x50200 ≤ a ∧ a < 0x50400 ∧ a % 32 = 0 then ((s.xpStore a v).tmTrig ((a - 0x50200) / 32) v).ownDoms
  else if 0x50400 ≤ a ∧ a < 0x50600 ∧ a % 32 = 0 then (s.regStore a v).ownDoms
  else s.regStore a v
/-- A write to a debug register with an effect of its own (R674 to R682). -/
def State.dbReg (a : Nat) (v : W32) (s : State) : State :=
  if a = 0xE0000 then (s.xpStore a v).dbCtl v
  else if a = 0xE0018 then (if bitAt v 0 then (s.xpStore a v).dbChal else s.xpStore a v)
  else if 0xE0020 ≤ a ∧ a < 0xE0040 then s.dbAuth ((a - 0xE0020) / 4) v
  else if a = 0xE0040 then (s.xpStore a v).dbReeve v
  else if a = 0xE0080 then (s.xpStore a v).trCfg v
  else s.regStore a v
/-- VRW_POP written with 1 (R91): the cursor moves past the record it stands at. -/
def State.vrwPop (f : Nat) (s : State) : State :=
  match s.vrwHead f with
  | some r => { s with vd.cursor := mput 0 s.vd.cursor f (r.seq + 1) }
  | none => s
/-- A write to a register of a function page. -/
def State.fnReg (a : Nat) (v : W32) (s : State) : State :=
  let f := (a - 0x100000000) / 0x10000
  let o := a % 0x10000
  if o = 0x0C then s.drvWrite f v
  else if o = 0x1044 then s.mbSend f 0 v
  else if o = 0x1844 then s.mbSend f 1 v
  else if o = 0x2004 ∧ f ≠ 0 then s.regStore a (v &&& 0xFFFFFF0F)
  else if 0x3000 ≤ o ∧ o < 0x3200 ∧ o % 16 = 12 then (s.regStore a v).vecMask f ((o - 0x3000) / 16) (bitAt v 0)
  else if 0x4000 ≤ o ∧ o < 0x8000 then
    let g := ringId f ((o - 0x4000) / 16)
    match o % 16 with | 0 => s.ringPi g v | 4 => s.ringCi g v | _ => s.regStore a v
  else if 0x8000 ≤ o ∧ o < 0xC000 then
    let y := ringId f ((o - 0x8000) / 16)
    match o % 16 with | 4 => s.tallyPut y (s.tally y + v) | 12 => s.tallyPut y v | _ => s.regStore a v
  else if o = 0xC040 then (if bitAt v 0 then s.vrwPop f else s)
  else s.regStore a v
/-- What a write does at its register, once it is accepted. -/
def State.regEffect (who : Initiator) (a : Nat) (v : W32) (s : State) : State :=
  if a ≥ 0x100000000 then s.fnReg a v
  else if a = 0x10010 then s.injWrite who v
  else if a = 0x1000C then (s.xpStore a v).errPWrite v
  else if a = 0x6000C then (if s.rv.stopped then s else (s.xpStore a v).pmReq v)
  else if a = 0xD0034 then (if s.rv.stopped then s else s.attRequest v)
  else if a / 0x10000 = 4 then s.cvReg a v
  else if a / 0x10000 = 5 then s.tmReg a v
  else if a / 0x10000 = 14 then s.dbReg a v
  else if (snapSet a).isEmpty then s.regStore a v
  else
    let s := s.regStore a v
    if bitAt v 0 then s.snapNow a else s
/-- The write is discarded by the engine's pair (R584, R585). -/
def State.cvDiscards (s : State) (a : Nat) : Bool :=
  a / 0x10000 = 4 &&
    (let k := if a < 0x40100 then (a - 0x40010) / 4 else (a - 0x40100) / 0x80
     s.cvReserved k || (decide (0x40100 ≤ a) && !s.cvSplit k && (a - 0x40100) / 0x40 % 2 = 1))
/-- The access errors and discards that come before a write's effect, in order: nothing there, a safety-domain address, an
absent domain, a register that the initiator may not change. -/
def State.writeMapped (who : Initiator) (a : Nat) (v : W32) (s : State) : State :=
  if a = dxToken then (s.dxBreak who a).dxOpen who v
  else if a = dxToken + 0x8000 then s.dxComplement who v
  else
    let s := if a / 0x10000 = 3 then s.dxBreak who a else s
    if copiesBlock a && !regWritable a then s.firewall who (offOf a)
    else if !regMapped a then s.accErr .unmap who (offOf a) true
    else match s.absentDom a with
      | some d => s.absentErr d who a true
      | none =>
        if a = 0xE0000 && who.num ≠ 0x42 then s.accErr .unmap who (offOf a) true
        else match maxMask a with
          | some m => s.clearMax a m
          | none =>
            let chg := s.xpChanges a v && !s.cvDiscards a && !s.testUnlock
            let s := s.regEffect who a v
            if chg then s.accErr .xpchg who (offOf a) true else s
/-- A write of one word. -/
def State.writeWord (who : Initiator) (a : Nat) (v : W32) (s : State) : State :=
  if who.num = 0x42 && !s.debugMay a then s.accErr .unmap who (offOf a) true
  else if silentArea a then s
  else s.writeMapped who a v
/-- A write of `len` bytes by an initiator (R375): 4 or 8, aligned; 8 as two words, the lower address first. A posted write that
arrives poisoned or with a failed ECRC is discarded and reported through AER (R357). -/
def State.regWrite (who : Initiator) (p : RegAddr) (len : Nat) (v : W64) (bad : Bool) (s : State) : State :=
  let a := regAt p
  if !s.reaches who p then s
  else if bad then (match who with | .host f => s.aerUncorr f | _ => s)
  else if len = 4 ∧ a % 4 = 0 then s.writeWord who a (v.setWidth 32)
  else if len = 8 ∧ a % 8 = 0 then (s.writeWord who a (v.setWidth 32)).writeWord who (a + 4) ((v >>> 32).setWidth 32)
  else s.accErr .size who (offOf a) true

/-! ## Reads -/

/-- The side effect of a read (R8, R10, R384). -/
def State.readEffect (who : Initiator) (a : Nat) (s : State) : State :=
  if who.num = 0x42 && !bitAt (s.rget 0xE0000) 0 then s
  else match maxMask a with
    | some m => s.clearMax a m
    | none =>
      let f := (a - 0x100000000) / 0x10000
      let o := a % 0x10000
      if a ≥ 0x100000000 then
        (if o = 0x10C4 then s.mbTake f 0
         else if o = 0x18C4 then s.mbTake f 1
         else if o = 0x1048 && who.num < 64 then s.mbPoll f 0
         else if o = 0x1848 && who.num < 64 then s.mbPoll f 1
         else if 0x8000 ≤ o ∧ o < 0xC000 ∧ o % 16 = 8 then
           (let y := ringId f ((o - 0x8000) / 16)
            if s.tally y = 0 then s else s.tallyPut y (s.tally y - 1))
         else if o = 0xC048 then { s with vd.lost := mput 0 s.vd.lost f 0 }
         else s)
      else if inTileWindow a && a % 0x4000 = 0x50 then s.rfield a 15 0 0
      else if 0x50400 ≤ a ∧ a < 0x50600 ∧ a % 32 = 8 then s.capPop ((a - 0x50400) / 32)
      else s
/-- The value of a word that is there: latched for this class, or as shown. -/
def State.readValue (s : State) (who : Initiator) (a : Nat) : W32 :=
  match mget none s.hl.latches (latchKey who a) with
  | some v => v
  | none => s.shown a
/-- A low word's read latches its high words. -/
def State.latch (who : Initiator) (a : Nat) (s : State) : State :=
  { s with hl.latches := (latchHighs a).foldl (fun m h => mput none m (latchKey who h) (some (s.shown h))) s.hl.latches }
/-- A read of one word: what it returns, and the state after it. -/
def State.readWord (who : Initiator) (a : Nat) (s : State) : W32 × State :=
  if who.num = 0x42 && !s.debugMay a then (0, s.accErr .unmap who (offOf a) false)
  else if silentArea a then (0, s)
  else if a = dxToken + 0x8000 then (~~~(s.rget dxToken), s)
  else if !regMapped a then (0, s.accErr .unmap who (offOf a) false)
  else match s.absentDom a with
    | some d => (BitVec.ofNat 32 (0xBAD00000 + d), s.absentErr d who a false)
    | none => (s.readValue who a, (s.latch who a).readEffect who a)
/-- A read's value recorded as an output. -/
def State.readOut (who : Initiator) (a : Nat) (s : State) : State :=
  let r := s.readWord who a
  r.2.emit (.readData a r.1)
/-- A read of `len` bytes by an initiator (R375, R376). -/
def State.regRead (who : Initiator) (p : RegAddr) (len : Nat) (s : State) : State :=
  let a := regAt p
  if !s.reaches who p then s
  else if len = 4 ∧ a % 4 = 0 then s.readOut who a
  else if len = 8 ∧ a % 8 = 0 then (s.readOut who a).readOut who (a + 4)
  else (s.accErr .size who (offOf a) false).emit (.readData a 0)

end Sys2Proof.Machine
end

