-- ==== Sys2Proof/Machine/RegCmds.lean ====
section
/-! DEFINITION. The commands that are register accesses (R8 to R12, R375 to R384): each is the access by the path that every
access takes, for the registers that its row names; an access that is none of its row's changes nothing. -/

namespace Sys2Proof.Machine
open Sys2Proof

/-- A 4-byte write at an address. -/
def State.put (who : Initiator) (p : RegAddr) (v : W32) (s : State) : State := s.regWrite who p 4 (v.setWidth 64) false
/-- A 4-byte write to a device register. -/
def State.putDev (who : Initiator) (a : Nat) (v : W32) (s : State) : State := s.put who (.dev (BitVec.ofNat 24 a)) v
/-- The access where `p` holds, else no change. -/
def State.onlyIf (p : Bool) (f : State → State) (s : State) : State := if p then f s else s

/-! ## Accesses by code -/

/-- REGISTER_WRITE (R8, R16, R357, R375, R376, R379): a write of `len` bytes; `bad` where it arrives poisoned or with a failed
ECRC. -/
def execRegisterWrite (who : Initiator) (p : RegAddr) (len : Fin 65) (v : W64) (bad : Bool) (s : State) :
    Host.Outcome State Fault Refusal :=
  s.act (State.regWrite who p len.val v bad)
/-- W1C_WRITE (R8): a write to a register with W1C bits. -/
def execW1cWrite (who : Initiator) (p : RegAddr) (v : W32) (s : State) : Host.Outcome State Fault Refusal :=
  s.act (State.onlyIf (match regRow (regAt p) with | some r => r.w1c != 0 | none => false) (State.put who p v))
/-- SNAPSHOT (R383): SNAP written with 1. -/
def execSnapshot (who : Initiator) (p : RegAddr) (v : W32) (s : State) : Host.Outcome State Fault Refusal :=
  s.act (State.onlyIf (!(snapSet (regAt p)).isEmpty && bitAt v 0) (State.put who p v))
/-- LOW_WORD_READ (R383): the low word of a 64-bit register is read. -/
def execLowWordRead (who : Initiator) (p : RegAddr) (s : State) : Host.Outcome State Fault Refusal :=
  s.act (State.onlyIf (!(latchHighs (regAt p)).isEmpty) (State.regRead who p 4))
/-- REGISTER_READ_ACCESS_ERROR (R375, R376, R379): a read that is an access error. -/
def execRegisterReadAccessError (who : Initiator) (p : RegAddr) (len : Fin 65) (s : State) : Host.Outcome State Fault Refusal :=
  s.act (fun s =>
    let t := s.regRead who p len.val
    if t.rget64 0x28 = s.rget64 0x28 then s else t)
/-- MAXIMUM_READ (R705): a clear-on-read maximum is read. -/
def execMaximumRead (who : Initiator) (p : RegAddr) (s : State) : Host.Outcome State Fault Refusal :=
  s.act (State.onlyIf (maxMask (regAt p)).isSome (State.regRead who p 4))
/-- MAXIMUM_WRITE (R705): a clear-on-read maximum is written. -/
def execMaximumWrite (who : Initiator) (p : RegAddr) (v : W32) (s : State) : Host.Outcome State Fault Refusal :=
  s.act (State.onlyIf (maxMask (regAt p)).isSome (State.put who p v))

/-! ## Dual-complement pairs (R381) -/

/-- DX_WRITE (R8, R381): the first write of a pair at SV_HWD_TOKEN. -/
def execDxWrite (who : Initiator) (v : W32) (s : State) : Host.Outcome State Fault Refusal := s.act (State.putDev who dxToken v)
/-- DX_COMPLEMENT (R8, R381): the write at its complement. -/
def execDxComplement (who : Initiator) (v : W32) (s : State) : Host.Outcome State Fault Refusal :=
  s.act (State.putDev who (dxToken + 0x8000) v)
/-- DX_PAIR_TIMEOUT (R8, R381): 200 AO cycles have passed without the complement. -/
def execDxPairTimeout (s : State) : Host.Outcome State Fault Refusal :=
  s.act (fun s => match mget none s.hl.dx 3 with
    | some p => ((s.advance (p.at_ + 201)).dxClose).dxFail (initOf p.who) dxToken
    | none => s)
/-- HOST_WDOG_SERVICE (R565 to R567, R571): a token and its complement are written to SV_HWD_TOKEN. -/
def execHostWdogService (who : Initiator) (token : W32) (s : State) : Host.Outcome State Fault Refusal :=
  s.act (fun s => (s.putDev who dxToken token).putDev who (dxToken + 0x8000) (~~~token))

/-! ## Function pages -/

/-- VRW_POP (R91, R92): function `f` writes VRW_POP. -/
def execVrwPop (f : Fn) (v : W32) (s : State) : Host.Outcome State Fault Refusal := s.act (State.put (.host f) (.page f 0xC040) v)
/-- VRW_LOST_READ (R91, R93): function `f` reads VRW_LOST. -/
def execVrwLostRead (f : Fn) (s : State) : Host.Outcome State Fault Refusal :=
  s.act (State.regRead (.host f) (.page f 0xC048) 4)
/-- TW_OVR_READ (R197): TW_OVR of tile `t` is read, which clears its count. -/
def execTwOvrRead (who : Initiator) (t : Tile) (s : State) : Host.Outcome State Fault Refusal :=
  s.act (State.regRead who (.dev (BitVec.ofNat 24 (twAddr t.val 0x50))) 4)
/-- MAILBOX_TAKE (R449, R450): function `f` reads MB_IN_TAKE of a channel. -/
def execMailboxTake (f : Fn) (ch : Fin 2) (s : State) : Host.Outcome State Fault Refusal :=
  s.act (State.regRead (.host f) (.page f (BitVec.ofNat 16 (0x10C4 + 0x800 * ch.val))) 4)
/-- OUTBOX_POLL (R455): function `f` reads MB_OUT_STAT of a channel. -/
def execOutboxPoll (f : Fn) (ch : Fin 2) (s : State) : Host.Outcome State Fault Refusal :=
  s.act (State.regRead (.host f) (.page f (BitVec.ofNat 16 (0x1048 + 0x800 * ch.val))) 4)

/-! ## Requests on the copies of safety-domain state -/

/-- ERR_P_RELEASE (R510, R511): FC_ERRP.RELEASE is written with 1. -/
def execErrPRelease (who : Initiator) (v : W32) (s : State) : Host.Outcome State Fault Refusal :=
  s.act (State.onlyIf (bitAt v 0) (State.putDev who 0x1000C v))
/-- INJECTION_ARM (R514, R515): FC_INJ is written. -/
def execInjectionArm (who : Initiator) (v : W32) (s : State) : Host.Outcome State Fault Refusal := s.act (State.putDev who 0x10010 v)
/-- PM_CAP_REQUEST (R615): PM_REQ is written with a cap. -/
def execPmCapRequest (who : Initiator) (v : W32) (s : State) : Host.Outcome State Fault Refusal := s.act (State.putDev who 0x6000C v)
/-- CV_PAIR_REQUEST (R608): PM_REQ is written with requests of check-value pairs 2 and 3. -/
def execCvPairRequest (who : Initiator) (v : W32) (s : State) : Host.Outcome State Fault Refusal := s.act (State.putDev who 0x6000C v)
/-- ATTESTATION_REQUEST (R664): the high word of KV_ATTN is written. -/
def execAttestationRequest (who : Initiator) (hi : W32) (s : State) : Host.Outcome State Fault Refusal :=
  s.act (State.putDev who 0xD0034 hi)

/-! ## Check-value engines (R578 to R585) -/

/-- CV_CFG_WRITE (R580): an algorithm is selected for engine `e`. -/
def execCvCfgWrite (who : Initiator) (e : Fin 8) (v : W32) (s : State) : Host.Outcome State Fault Refusal :=
  s.act (State.putDev who (cvAddr e.val 0) v)
/-- CV_INIT (R580): CV_CMD.INIT of engine `e` is written with 1. -/
def execCvInit (who : Initiator) (e : Fin 8) (v : W32) (s : State) : Host.Outcome State Fault Refusal :=
  s.act (State.onlyIf (bitAt v 0) (State.putDev who (cvAddr e.val 0x2C) v))
/-- CV_CMP (R583): CV_CMD.CMP of engine `e` is written with 1. -/
def execCvCmp (who : Initiator) (e : Fin 8) (v : W32) (s : State) : Host.Outcome State Fault Refusal :=
  s.act (State.onlyIf (bitAt v 1) (State.putDev who (cvAddr e.val 0x2C) v))
/-- CV_RUN_WRITE (R581): a word of CV_RUN of engine `e` is written. -/
def execCvRunWrite (who : Initiator) (e : Fin 8) (hi : Bool) (v : W32) (s : State) : Host.Outcome State Fault Refusal :=
  s.act (State.putDev who (cvAddr e.val (if hi then 0x0C else 0x08)) v)
/-- The offsets of CV_DIN, CV_DINH, CV_DIN2 and CV_DIN1. -/
def dinOff (r : Fin 4) : Nat := match r with | 0 => 0x20 | 1 => 0x24 | 2 => 0x38 | 3 => 0x3C
/-- CV_DIN_WRITE (R582): data is written to one of engine `e`'s data registers. -/
def execCvDinWrite (who : Initiator) (e : Fin 8) (r : Fin 4) (v : W32) (s : State) : Host.Outcome State Fault Refusal :=
  s.act (State.putDev who (cvAddr e.val (dinOff r)) v)
/-- CV_PAIRCTL_WRITE (R584, R585): the mode of pair `k` is written. -/
def execCvPairctlWrite (who : Initiator) (k : Fin 4) (v : W32) (s : State) : Host.Outcome State Fault Refusal :=
  s.act (State.putDev who (0x40010 + 4 * k.val) v)

/-! ## Time unit -/

/-- TIME_LOAD (R587, R596): TM_CTL.LOAD is written with 1. -/
def execTimeLoad (who : Initiator) (v : W32) (s : State) : Host.Outcome State Fault Refusal :=
  s.act (State.onlyIf (bitAt v 2) (State.putDev who 0x50000 v))
/-- TIME_SOURCE_SELECT (R590, R596): TM_CFG is written. -/
def execTimeSourceSelect (who : Initiator) (v : W32) (s : State) : Host.Outcome State Fault Refusal :=
  s.act (State.putDev who 0x5000C v)
/-- TRIGGER_ARM (R597, R599): the mode of trigger `n` is written. -/
def execTriggerArm (who : Initiator) (n : Fin 16) (v : W32) (s : State) : Host.Outcome State Fault Refusal :=
  s.act (State.putDev who (trigAddr n.val 0) v)
/-- CAPTURE_POP (R604, R605): the NS word of TM_CAP_n is read. -/
def execCapturePop (who : Initiator) (n : Fin 16) (s : State) : Host.Outcome State Fault Refusal :=
  s.act (State.regRead who (.dev (BitVec.ofNat 24 (0x50408 + 32 * n.val))) 4)

/-! ## Debug block (R674 to R681) -/

/-- DEBUG_CHALLENGE (R674): DB_CHAL.NEW is written with 1. -/
def execDebugChallenge (who : Initiator) (v : W32) (s : State) : Host.Outcome State Fault Refusal :=
  s.act (State.onlyIf (bitAt v 0) (State.putDev who 0xE0018 v))
/-- DEBUG_AUTH (R674): word `i` of the token is written to DB_AUTH; word 7 submits it. -/
def execDebugAuth (who : Initiator) (i : Fin 8) (v : W32) (s : State) : Host.Outcome State Fault Refusal :=
  s.act (State.putDev who (0xE0020 + 4 * i.val) v)
/-- TEST_UNLOCK (R676): DB_CTL is written. -/
def execTestUnlock (who : Initiator) (v : W32) (s : State) : Host.Outcome State Fault Refusal := s.act (State.putDev who 0xE0000 v)
/-- REEVE_HALT (R678, R679): DB_REEVE.HALT is written with 1. -/
def execReeveHalt (who : Initiator) (v : W32) (s : State) : Host.Outcome State Fault Refusal :=
  s.act (State.onlyIf (bitAt v 0) (State.putDev who 0xE0040 v))
/-- REEVE_RESUME (R677): DB_REEVE.RESUME is written with 1. -/
def execReeveResume (who : Initiator) (v : W32) (s : State) : Host.Outcome State Fault Refusal :=
  s.act (State.onlyIf (bitAt v 1) (State.putDev who 0xE0040 v))
/-- REEVE_STEP (R677): DB_REEVE.STEP is written with 1. -/
def execReeveStep (who : Initiator) (v : W32) (s : State) : Host.Outcome State Fault Refusal :=
  s.act (State.onlyIf (bitAt v 2) (State.putDev who 0xE0040 v))
/-- FORCED_HALT (R679, R681): DB_REEVE.FHALT is written with 1. -/
def execForcedHalt (who : Initiator) (v : W32) (s : State) : Host.Outcome State Fault Refusal :=
  s.act (State.onlyIf (bitAt v 4) (State.putDev who 0xE0040 v))

end Sys2Proof.Machine
end

