-- ==== Sys2Proof/Machine/DebugLink.lean ====
section
/-! DEFINITION. The JTAG port and the debug link (R670 to R675, R681), and the end of a domain's wake, for which a request that
opens a session waits. -/

namespace Sys2Proof.Machine
open Sys2Proof

/-! ## JTAG instructions (R670, R672, R675) -/

/-- The state allows the instruction: all outside BOOT and ALARM. -/
def State.jtagMay (s : State) (boot alarm : Bool) : Bool :=
  match s.dev.state with
  | .cold => false
  | .boot => boot
  | .alarm => alarm
  | _ => true
/-- An instruction selected. -/
def State.selectIr (ir : BitVec 6) (boot alarm : Bool) (s : State) : State :=
  if s.jtagMay boot alarm then { s with dbg.ir := ir } else s
/-- An instruction selected with the boundary register's data shifted in. -/
def State.selectBsr (ir : BitVec 6) (data : BitVec 64) (boot : Bool) (s : State) : State :=
  if s.jtagMay boot false then { s with dbg := { s.dbg with ir := ir, bsr := data } } else s
/-- EXTEST (R670, R672). -/
def execExtest (data : BitVec 64) (s : State) : Host.Outcome State Fault Refusal := s.act (State.selectBsr irExtest data false)
/-- IDCODE (R670). -/
def execIdcode (s : State) : Host.Outcome State Fault Refusal := s.act (State.selectIr 1 true true)
/-- SAMPLE/PRELOAD (R670). -/
def execSamplePreload (data : BitVec 64) (s : State) : Host.Outcome State Fault Refusal := s.act (State.selectBsr 2 data true)
/-- CLAMP (R670, R672). -/
def execClamp (s : State) : Host.Outcome State Fault Refusal := s.act (State.selectIr irClamp false false)
/-- HIGHZ (R670, R672). -/
def execHighz (s : State) : Host.Outcome State Fault Refusal := s.act (State.selectIr irHighz false false)
/-- BYPASS (R670). -/
def execBypass (s : State) : Host.Outcome State Fault Refusal := s.act (State.selectIr 0x3F true true)
/-- The instruction code of DBGLINK. -/
def irDbglink : BitVec 6 := 0x10
/-- DBGLINK (R670, R671). -/
def execDbglink (s : State) : Host.Outcome State Fault Refusal := s.act (State.selectIr irDbglink true true)

/-! ## Debug windows (R674) -/

/-- A request of R671. -/
structure DbgReq where
  op : Nat
  win : Nat
  rsv : Nat
  addr : Nat
  data : W32
  deriving DecidableEq, Repr
/-- The request in a debug link register. -/
def DbgReq.of (v : BitVec 72) : DbgReq :=
  let n := v.toNat
  { op := n % 4, win := n / 4 % 8, rsv := n / 32 % 8, addr := n / 256 % 2 ^ 32, data := BitVec.ofNat 32 (n / 2 ^ 40) }
/-- The register of a request. -/
def DbgReq.word (r : DbgReq) : BitVec 72 :=
  BitVec.ofNat 72 (r.op % 4 + 4 * (r.win % 8) + 32 * (r.rsv % 8) + 256 * (r.addr % 2 ^ 32) + 2 ^ 40 * r.data.toNat)
/-- A capture of R671: 0 OK, 1 BUSY, 2 ERR. -/
def dbgResult (code : Nat) (r : DbgReq) (data : W32) : BitVec 72 :=
  BitVec.ofNat 72 (code + 4 * r.win + 256 * r.addr + 2 ^ 40 * data.toNat)
/-- A value that the spec leaves open: the contents of a core or of its memory. -/
def State.openWord (s : State) : W32 × State := (s.fresh 32, s.tickFree)
/-- A word of a halted core's registers or memory: as read or written since the halt, else open. -/
def State.coreWord (win addr : Nat) (keep : Bool) (s : State) : W32 × State :=
  let k := win * 2 ^ 32 + addr
  match mget none s.dbg.coreA k with
  | some v => (v, s)
  | none =>
    let r := s.openWord
    (r.1, if keep then { r.2 with dbg.coreA := mput none r.2.dbg.coreA k (some r.1) } else r.2)
/-- A word of a halted core set. -/
def State.coreSet (win addr : Nat) (v : W32) (s : State) : State :=
  { s with dbg.coreA := mput none s.dbg.coreA (win * 2 ^ 32 + addr) (some v) }
/-- An access that the debug port discards as an access error (R674). -/
def State.dbgErr (addr : Nat) (write : Bool) (s : State) : State := s.accErr .unmap .debug addr write
/-- Window 0: F00 BAR2 space and the ledger aperture, as initiator 0x42. -/
def State.window0 (r : DbgReq) (s : State) : W32 × State :=
  let write := r.op = 1
  if r.addr ≥ 0x1000000 then (0, s.dbgErr r.addr write)
  else if r.addr < 0x800000 then
    (if write then (r.data, s.regWrite .debug (.dev (BitVec.ofNat 24 r.addr)) 4 (r.data.setWidth 64) false)
     else if r.addr % 4 = 0 then s.readWord .debug r.addr
     else (0, s.accErr .size .debug r.addr false))
  else if !s.dbg.auth || s.dev.state == .boot then (0, s.dbgErr r.addr write)
  else
    let a := 0x800000 * bitsOf (s.rget 0x18) 0 0 + (r.addr - 0x800000)
    if write then (r.data, s.apertureWrite .debug a ((leBytes 4 r.data.toNat).map some))
    else (BitVec.ofNat 32 (leNat (s.ledgerRead a 4)), { s with freeCtr := s.freeCtr + 4 })
/-- Window 1: reeve core A and the safety SRAM (R18, R677): writes are taken while core A is halted. -/
def State.window1 (r : DbgReq) (s : State) : W32 × State :=
  if r.op = 1 then (r.data, if s.dbg.halted then s.coreSet 1 r.addr r.data else s.firewall .debug r.addr)
  else s.coreWord 1 r.addr s.dbg.halted
/-- Window 2: the porter cores (R681). What a core holds is kept while a core is halted. -/
def State.window2 (r : DbgReq) (s : State) : W32 × State :=
  if r.op = 1 then
    let s := s.coreSet 2 r.addr r.data
    (r.data, match Config.porterHaltReq (BitVec.ofNat 32 r.addr) r.data with
      | none => s
      | some h =>
        if h = 0 then
          { s with dbg := { s.dbg with
              porterHalt := 0, porterRunAt := if s.dbg.porterHalt = 0 then s.dbg.porterRunAt else s.ao,
              coreA := s.dbg.coreA.filter (fun p => decide (p.1 < 2 ^ 33) || decide (3 * 2 ^ 32 ≤ p.1)) } }
        else { s with dbg.porterHalt := h })
  else s.coreWord 2 r.addr (s.dbg.porterHalt != 0)
/-- Window 3: reeve cores B and C in split mode; else it reads 0 and discards writes (R481, R674). -/
def State.window3 (r : DbgReq) (s : State) : W32 × State :=
  if r.op = 1 then (r.data, s) else if s.rv.mode = .split then s.openWord else (0, s)
/-- Window 4: the trace ring, read only. -/
def State.window4 (r : DbgReq) (s : State) : W32 × State :=
  if r.op = 1 ∨ r.addr ≥ 0x1000 then (r.data, s.dbgErr r.addr (r.op = 1)) else (s.regLive (0xE1000 + r.addr), s)
/-- An access through a window. A session that is not authenticated, and one in BOOT, has window 0 alone (R674, R675). -/
def State.window (r : DbgReq) (s : State) : W32 × State :=
  if r.win = 0 then s.window0 r
  else if !s.dbg.auth || s.dev.state == .boot then (0, s.dbgErr r.addr (r.op = 1))
  else match r.win with
    | 1 => s.window1 r
    | 2 => s.window2 r
    | 3 => s.window3 r
    | _ => s.window4 r
/-- A request done (R671): its result stands for the next capture. STATUS makes no access. -/
def State.dbgRun (r : DbgReq) (s : State) : State :=
  if r.op ≥ 2 then s
  else if r.win > 4 ∨ r.rsv ≠ 0 ∨ r.addr % 4 ≠ 0 then { s with dbg.result := dbgResult 2 r r.data }
  else
    let t := s.window r
    let code := if t.2.rget64 0x28 = s.rget64 0x28 then 0 else 2
    { t.2 with dbg.result := dbgResult code r t.1 }

/-! ## Requests and sessions (R671, R673) -/

/-- The first request after a TAP reset opens a session: outside split mode DEBUG_ATTACH is raised, and domain 0x5A wakes. -/
def State.sessionBegin (s : State) : State :=
  let s := { s with dbg.sessionOpen := true }
  let s := if s.rv.mode = .split then s else s.raise 236
  s.wakeDom 0x5A
/-- One scan of the debug link register: the last result is captured, and the request shifted in is taken at Update-DR. -/
def State.dbgScan (r : DbgReq) (s : State) : State :=
  if s.dbg.ir ≠ irDbglink then s
  else if s.dev.state = .alarm then s.emit (.debug (dbgResult 2 r 0))
  else if s.dbg.waiting.isSome then s.emit (.debug (dbgResult 1 r 0))
  else
    let s := s.emit (.debug s.dbg.result)
    let s := if s.dbg.sessionOpen then s else s.sessionBegin
    if s.dom 0x5A == .on then s.dbgRun r else { s with dbg.waiting := some r.word }
/-- DBGLINK_READ (R671, R674). -/
def execDbglinkRead (win rsv : BitVec 3) (addr : W32) (s : State) : Host.Outcome State Fault Refusal :=
  s.act (State.dbgScan { op := 0, win := win.toNat, rsv := rsv.toNat, addr := addr.toNat, data := 0 })
/-- DBGLINK_WRITE (R671, R674). -/
def execDbglinkWrite (win rsv : BitVec 3) (addr data : W32) (s : State) : Host.Outcome State Fault Refusal :=
  s.act (State.dbgScan { op := 1, win := win.toNat, rsv := rsv.toNat, addr := addr.toNat, data := data })
/-- DBGLINK_STATUS (R671). -/
def execDbglinkStatus (s : State) : Host.Outcome State Fault Refusal :=
  s.act (State.dbgScan { op := 2, win := 0, rsv := 0, addr := 0, data := 0 })

/-- The end of the wake of domain `d`: it is ON, or lowered again where its owner has released it meanwhile (R608, R635). -/
def State.wakeEnd (d : Nat) (s : State) : State :=
  let t := mget 0 s.pm.wake d
  if t = 0 then s
  else
    let s := s.advance t
    let s := { s with pm.wake := mput 0 s.pm.wake d 0 }
    if !mget false s.pm.req d then s
    else
      let s := s.domsOn [d]
      match d, s.dbg.waiting with
      | 0x5A, some r => ({ s with dbg.waiting := none }).dbgRun (DbgReq.of r)
      | _, _ => s
/-- DOMAIN_WAKE (R607, R608): the wake of domain `d` completes; a debug request that waits for it is done (R673). -/
def execDomainWake (d : Fin 96) (s : State) : Host.Outcome State Fault Refusal := s.act (State.wakeEnd d.val)

end Sys2Proof.Machine
end

