-- ==== Sys2Proof/Machine/Evidence.lean ====
section
/-! DEFINITION. Verdict timers, evidence records, reveals and assay result records: rows 10 to 14, 16 to 21, 27 to 32 and
EVIDENCE_WRITE of the opcode table. -/

namespace Sys2Proof.Machine
open Sys2Proof

/-! ## Verdict timers (R45 to R47, R62, R96, R573, R709) -/

/-- The oldest admitted frame of stream `n` without a verdict that a test holds of. -/
def State.oldest (s : State) (n : Nat) (t : Frame → Bool) : Option Frame :=
  s.vd.frames.find? (fun f => f.stream = n && !f.golden && f.formed.isNone && t f)

/-- The result age limit of a frame without a counted result (R573): AGE_MON and its count, not in MISMATCH_HOLD (R574), and
the verdict ABSENT. -/
def State.ageFire (n : Nat) (f : Frame) (s : State) : State :=
  let s := if s.dev.state == .mismatchHold then s
    else ((s.raise 65).rincSat (0x30100 + 4 * n) 31 0 1).revt 0x30008 4
  s.form (s.frameNow f)

/-- RESULT_AGE_LIMIT (R573): A is reached for the stream's oldest frame without a counted result. -/
def execResultAgeLimit (n : Stream) (s : State) : Host.Outcome State Fault Refusal :=
  s.act (fun s => match s.oldest n (fun f => f.result.isNone), s.pstream n with
    | some f, some p => (s.advance (f.ingressAo + p.a)).ageFire n f
    | _, _ => s)

/-- VERDICT_DEADLINE (R47): D is reached for the stream's oldest frame without a verdict; without a counted result A, which
is no later, has been reached too. -/
def execVerdictDeadline (n : Stream) (s : State) : Host.Outcome State Fault Refusal :=
  s.act (fun s => match s.oldest n (fun _ => true), s.pstream n with
    | some f, some p =>
      let s := s.advance (f.ingressAo + p.d)
      if f.result.isNone then s.ageFire n f else s.form (s.frameNow f)
    | _, _ => s)

/-- Every evidence record of a frame is present: its result, its canary record where that assay is required, and for each
required layer its commit and the answer to its reveal (R96). -/
def State.evidenceWhole (s : State) (p : PStream) (f : Frame) : Bool :=
  f.result.isSome && (!(p.required &&& p.runs).toNat.testBit 2 || f.canaryRec.isSome)
  && p.layers.all (fun l => !(p.required &&& p.runs).toNat.testBit l.kind
      || (match f.fwd.bind (fun w => s.commitOf f.stream w l.layer) with
          | some c => c.count = 0 || c.st = 3
          | none => false))

/-- P0_COMPUTE_CUT (R96): the end of C after the evidence reached the tiles forms the P0 verdict by R51: PLAN_OVERRUN where
every evidence record is present, LATE where one is missing. -/
def execP0ComputeCut (s : State) : Host.Outcome State Fault Refusal :=
  s.act (fun s => match s.run.bind (fun r => r.img.streams.find? (fun p => p.p0)) with
    | some p =>
      (match s.oldest p.num (fun f => f.deliveredAo.isSome) with
       | some f =>
         let t := match f.deliveredAo with | some t => t | none => 0
         let s := s.advance (t + p.c)
         if s.ready f then s.form (s.frameNow f)
         else
           let f := { f with overrun := f.overrun || s.evidenceWhole p f }
           ((s.setFrame f).revt 0xA0008 8).form f
       | none => s)
    | none => s)

/-- RETENTION_END (R81, R709): the evidence retention of a stream's held REJECT ends; a procedure that is still open and
cannot be decided closes UNRESOLVED, and the buffers return. -/
def execRetentionEnd (n : Stream) (s : State) : Host.Outcome State Fault Refusal :=
  s.act (fun s => match s.vd.frames.find? (fun f => f.stream = n.val && f.keepUntil.isSome) with
    | some f =>
      let t := match f.keepUntil with | some t => t | none => 0
      let s := (s.advance t).pollAll
      let s := forAll [0, 1, 2, 3] (fun i s =>
        let d := s.dis i
        if d.busy && d.stream = f.stream && f.formed = some (3, d.jseq) then s.closeDis i 3 [] else s) s
      ((s.releaseFrame (s.frameNow f)).dropEvidence f.stream f.fwd).flushRange
    | none => s)

/-- FB_STALE (R62): the published fall-back value becomes older than F. -/
def execFbStale (n : Stream) (s : State) : Host.Outcome State Fault Refusal :=
  s.act (fun s => match (s.stream n).fb, s.pstream n with
    | some v, some p =>
      let s := s.advance (v.2 + p.f + 1)
      if (s.stream n).hStale then s else s.holdSet n (fun x => { x with hStale := true })
    | _, _ => s)

/-! ## Evidence writes (R368 to R371) -/

/-- A lane's record in progress discarded: a count, the event EVDROP, and the state that follows. -/
def State.laneDrop (f k reg : Nat) (st : LaneSt) (s : State) : State :=
  (((s.rincSat (fnAddr f reg) 31 0 1).fnEvt f 2)).setLane f k { st := st, bytes := [] }

/-- Bytes appended to an open lane (R368): the header is checked at 32 bytes, the record completes at LEN. -/
def State.laneAppend (f k : Nat) (data : List Byte) (s : State) : State :=
  let o := (s.lane f k).bytes
  let b := o ++ data
  let first := decide (o.length < 32) && decide (32 ≤ b.length)
  if first && !evHcrcOk b then s.laneDrop f k 0x20 .skip
  else if first && !evLenOk b then (s.setLane f k { st := .skip, bytes := [] }).evComplete f (b.take 32)
  else if first && decide (s.stagingUsed + evLen b > stagingSize) then (s.raise 137).laneDrop f k 0x28 .skip
  else if decide (32 ≤ b.length) && decide (evLen b ≤ b.length) then
    let s := if evLen b < b.length then s.rincSat (fnAddr f 0x24) 31 0 1 else s
    (s.setLane f k Lane.reset).evComplete f (b.take (evLen b))
  else s.setLane f k { st := .opened, bytes := b }

/-- A posted write to a lane at offset `o` (R368). -/
def State.laneWrite (f k o : Nat) (data : List Byte) (s : State) : State :=
  let s := if o = 0 then
      (if (s.lane f k).st = .opened then s.laneDrop f k 0x24 .opened else s.setLane f k { st := .opened, bytes := [] })
    else s
  let l := s.lane f k
  if l.st ≠ .opened ∨ o ≠ l.bytes.length then
    (if l.st = .opened then s.laneDrop f k 0x24 .skip else s.setLane f k { st := .skip, bytes := [] })
  else s.laneAppend f k data

/-- The function takes evidence: it is enabled, its link is up and no FLR is in progress (R357, R372). -/
def State.evOpen (s : State) (f : Nat) : Bool := s.hl.dlUp && s.fns.contains f && !mget false s.hl.flr f

/-- EVIDENCE_WRITE (R368, R371): a posted write to an evidence lane, its last byte stamped `at_`; `bad`: poisoned or failing
ECRC. -/
def execEvidenceWrite (f : Fn) (lane : Fin 4) (off : BitVec 20) (data : List Byte) (bad : Bool) (at_ : Nat) (s : State) :
    Host.Outcome State Fault Refusal :=
  s.act (fun s =>
    let s := s.advance at_
    if !s.evOpen f then s
    else if bad then
      (if (s.lane f lane).st = .opened then s.laneDrop f lane 0x2C .skip
       else (s.rincSat (fnAddr f 0x2C) 31 0 1).setLane f lane { st := .skip, bytes := [] })
    else s.laneWrite f lane off.toNat data)

/-! ## Evidence records (R108 to R121) -/

/-- The verdict deadline D of a frame has been reached. -/
def State.atD (s : State) (p : PStream) (f : Frame) : Bool := decide (f.ingressAo + p.d ≤ s.ao)

/-- The evidence of a P0 frame reaches the tiles (R96). -/
def State.delivered (p : PStream) (f : Frame) (s : State) : State :=
  if p.p0 then s.setFrame { s.frameNow f with deliveredAo := some s.ao } else s

/-- The indices of a commit's reveal (R114, R116, R124). -/
def State.drawFor (s : State) (p : PStream) (l : PLayer) (fwd count : Nat) : List Nat :=
  let want := match (s.stream p.num).under with | .trusted => l.nT | .watched => l.nW | .demoted => l.nD
  drawIndices (s.ksw 0 p.num l.layer (s.xfwd p.num fwd)) count (min want count)

/-- A COMMIT that passes its checks (R110, R113, R114, R116, R147). -/
def State.takeCommit (r : List Byte) (p : PStream) (f : Frame) (s : State) : State :=
  match s.commitOf p.num (evFwd r) (evLayer r) with
  | some c =>
    if c.cmt.toNat = evCmt r then s
    else if c.st = 2 || c.st = 3 || c.st = 4 then (s.setCommit { c with equivocated := true }).reLayer p f
    else s.setFrame { f with malformed := true }
  | none =>
    if s.atD p f || (!f.golden && f.result.isNone && decide (f.ingressAo + p.a ≤ s.ao)) then s
    else
      match planLayer p (evLayer r) with
      | none => s
      | some l =>
        let n := evCount r
        let c : Commit :=
          { stream := p.num, fwd := evFwd r, layer := evLayer r, cmt := BitVec.ofNat 64 (evCmt r), kind := evKind r,
            count := n, fmt := evFmt r, payload := r.drop 32, at_ := s.ao, idx := s.drawFor p l (evFwd r) n,
            st := if n = 0 then 5 else 1, issuedAo := 0, answered := 0, samples := [], outcome := 0, rows := 0,
            equivocated := false, reIdx := [], reSt := 0, reAo := 0, reAns := 0 }
        let s := { s with vd.commits := s.vd.commits ++ [c] }
        let s := if f.owner = 2 then s.setFrame { f with owner := 3 } else s
        if n = 0 then s.reLayer p f
        else s.queueReveal { stream := p.num, fwd := evFwd r, layer := evLayer r, round := 0, p0 := p.p0, at_ := s.ao }

/-- COMMIT (R110): the oldest completed record of a function, where it is a COMMIT. -/
def execCommit (f : Fn) (s : State) : Host.Outcome State Fault Refusal :=
  s.act (fun s => match s.evTake f 1 with
    | some (_, r, s) => s.evCheck f r (State.takeCommit r)
    | none => s)

/-- The entries of a SAMPLE part carry the revealed indices from position `k` on, each with the declared element count
(R104, R105). -/
def sampleOk (elems size : Nat) (idx : List Nat) (k : Nat) (r : List Byte) (n : Nat) : Bool :=
  (List.range n).all (fun i => leField r (32 + size * i) 4 = lget 0xFFFFFFFF idx (k + i)
    && leField r (36 + size * i) 4 = elems)
  && decide (k + n ≤ idx.length)

/-- A SAMPLE that passes the common checks (R104, R105, R109, R119, R121, R147), received with stamp `t`. -/
def State.takeSample (r : List Byte) (t : Nat) (p : PStream) (f : Frame) (s : State) : State :=
  let bad := s.setFrame { f with malformed := true }
  let re := evRound r = 1
  match s.commitOf p.num (evFwd r) (evLayer r), planLayer p (evLayer r) with
  | some c, some l =>
    let st := if re then c.reSt else c.st
    let idx := if re then c.reIdx else c.idx
    let done := if re then c.reAns else c.answered
    let ao := if re then c.reAo else c.issuedAo
    let n := evCount r
    if !re && s.atD p f then s
    else if st = 4 || (st = 2 && decide (ao + p.revealDeadline ≤ t)) then s
    else if evRound r > 1 || st ≠ 2 || decide (t < ao) || evCmt r ≠ c.cmt.toNat || evKind r ≠ c.kind
        || !sampleOk (sampleElems l) (sampleEntry l (evFmt r)) idx done r n || evLast r ≠ decide (done + n = idx.length)
    then bad
    else
      let st' := if evLast r then 3 else 2
      let c := if re then { c with reAns := done + n, reSt := st', samples := c.samples ++ r.drop 32 }
        else { c with answered := done + n, st := st', samples := c.samples ++ r.drop 32 }
      let s := s.setCommit c
      let s := if evLast r then s.taskEvent 2 p.num c.fwd (2 * c.layer + evRound r) t else s
      if evLast r && !re then s.delivered p f else s
  | _, _ => bad

/-- SAMPLE (R109): the oldest completed record of a function, where it is a SAMPLE. -/
def execSample (f : Fn) (s : State) : Host.Outcome State Fault Refusal :=
  s.act (fun s => match s.evTake f 3 with
    | some (t, r, s) => s.evCheck f r (State.takeSample r t)
    | none => s)

/-- A CANARY record that passes its checks (R106, R135, R147): the first one of the frame is kept for the tiles. -/
def State.takeCanary (r : List Byte) (p : PStream) (f : Frame) (s : State) : State :=
  if s.atD p f || f.canaryRec.isSome then s
  else (s.setFrame { f with canaryRec := some r }).delivered p f

/-- CANARY (R135): the oldest completed record of a function, where it is a CANARY record. -/
def execCanary (f : Fn) (s : State) : Host.Outcome State Fault Refusal :=
  s.act (fun s => match s.evTake f 4 with
    | some (_, r, s) => s.evCheck f r (State.takeCanary r)
    | none => s)

/-- A result discarded as late (R46). -/
def State.lateResult (s : State) : State := (s.rinc64 0xA0048 1).revt 0xA0008 7

/-- A RESULT that passes its checks, stamped `t` (R31, R46, R111, R137, R574). -/
def State.takeResultRec (r : List Byte) (t : Nat) (p : PStream) (f : Frame) (s : State) : State :=
  if f.result.isSome then (if r = f.resultRec then s else s.setFrame { f with malformed := true })
  else
    let v : BitVec 96 := BitVec.ofNat 96 (leField r 32 12)
    if f.golden then
      (s.setFrame { f with result := some v, resultRec := r, resultAo := t }).progress p f
    else if s.dev.state == .mismatchHold then s
    else if f.ingressAo + p.a ≤ t then s.lateResult
    else
      let env := if p.runs.toNat.testBit 3 then s.envelope p f v else 0
      let f := { f with result := some v, resultRec := r, resultAo := t, env := env }
      let s := (s.setFrame f).rmax (0x30200 + 4 * p.num) 31 0 ((t - f.ingressAo) / Config.aoPerUs)
      (s.delivered p f).progress p f

/-- A RESULT for a frame whose verdict is written arrives at A or later (R46). -/
def State.lateAfter (f t : Nat) (r : List Byte) (s : State) : State :=
  match s.frameFwd (evStream r) (evFwd r), s.pstream (evStream r) with
  | some x, some p => if x.formed.isSome && !x.golden && p.fn = f && decide (x.ingressAo + p.a ≤ t) then s.lateResult else s
  | _, _ => s

/-- RESULT (R111): the oldest completed record of a function, where it is a RESULT. -/
def execResult (f : Fn) (s : State) : Host.Outcome State Fault Refusal :=
  s.act (fun s => match s.evTake f 5 with
    | some (t, r, s) => (s.lateAfter f t r).evCheck f r (State.takeResultRec r t)
    | none => s)

/-! ## Reveals (R103, R117 to R121, R415, R416) -/

/-- The bytes of a REVEAL record (R98, R103). -/
def revealRec (c : Commit) (idx : List Nat) (round : Nat) : List Byte :=
  let body := idx.foldr (fun i l => leBytes 4 i ++ l) (if idx.length % 2 = 1 then leBytes 4 0xFFFFFFFF else [])
  let h := leBytes 1 2 ++ leBytes 1 c.stream ++ leBytes 2 c.layer ++ leBytes 4 c.fwd ++ leBytes 4 (32 + body.length)
    ++ leBytes 4 idx.length ++ leBytes 1 6 ++ leBytes 1 c.kind ++ leBytes 1 round ++ leBytes 1 0 ++ leBytes 8 c.cmt.toNat
  h ++ leBytes 4 (crc32c h) ++ body

/-- The fresh check of a procedure counts as not answered (R121). -/
def State.freshMissing (n fwd layer : Nat) (s : State) : State :=
  (forAll [0, 1, 2, 3] (fun i s =>
    let d := s.dis i
    if d.busy && d.stream = n && d.fwd = fwd && d.layer = layer && !d.freshDone
    then s.setDis i { d with freshDone := true, fresh := 1 } else s) s).pollAll

/-- REVEAL_ISSUE (R117, R415, R416): the first waiting reveal leaves to the stream's next registered slot; without a
registration or a link none is issued for it. -/
def execRevealIssue (s : State) : Host.Outcome State Fault Refusal :=
  s.act (fun s => match s.vd.reveals with
    | [] => s
    | r :: t =>
      let s := { s with vd.reveals := t }
      match s.commitOf r.stream r.fwd r.layer, s.pstream r.stream with
      | some c, some p =>
        let k := 64 * p.fn + r.stream
        (match mget none s.q.revReg k with
         | some g =>
           if !s.hl.dlUp then
             (if r.round = 0 then s.setCommit { c with st := 6 } else (s.setCommit { c with reSt := 4 }).freshMissing r.stream r.fwd r.layer)
           else
             let a := g.addr + BitVec.ofNat 64 (1024 * (g.k % g.slots))
             let s := s.taskRef 2 p.num c.fwd (2 * c.layer + r.round) s.ao
             let s := s.emit (.dma p.fn a (revealRec c (if r.round = 0 then c.idx else c.reIdx) r.round))
             let s := { s with q.revReg := mput none s.q.revReg k (some { g with k := g.k + 1 }) }
             let s := if r.round = 0 then s.setCommit { c with st := 2, issuedAo := s.ao }
               else s.setCommit { c with reSt := 2, reAo := s.ao }
             if g.tly then s.tallyInc p.fn g.tally else s
         | none =>
           if r.round = 0 then s.setCommit { c with st := 6 }
           else (s.setCommit { c with reSt := 4 }).freshMissing r.stream r.fwd r.layer)
      | _, _ => s)

/-- REVEAL_DEADLINE (R119, R121): the deadline of the stream's oldest unanswered reveal of a round passes. -/
def execRevealDeadline (n : Stream) (re : Bool) (s : State) : Host.Outcome State Fault Refusal :=
  s.act (fun s =>
    match s.vd.commits.find? (fun c => c.stream = n.val && (if re then c.reSt = 2 else c.st = 2)), s.pstream n with
    | some c, some p =>
      if re then
        let s := s.advance (c.reAo + p.revealDeadline)
        (s.setCommit { c with reSt := 4 }).freshMissing n c.fwd c.layer
      else (s.advance (c.issuedAo + p.revealDeadline)).setCommit { c with st := 4 }
    | _, _ => s)

/-! ## Assay result records (R276) -/

/-- ROW_CHECKSUM (R276). -/
def execRowChecksum (s : State) : Host.Outcome State Fault Refusal := s.act (State.assayResult 1)
/-- REEXEC (R276). -/
def execReexec (s : State) : Host.Outcome State Fault Refusal := s.act (State.assayResult 2)
/-- CANARY (R276): the outcome of the canary assay. -/
def execCanaryOutcome (s : State) : Host.Outcome State Fault Refusal := s.act (State.assayResult 3)

/-- The published fall-back value replaced by that of a completed run on a frame (R58, R62). -/
def State.publishFb (p : PStream) (f : Frame) (v : BitVec 96) (s : State) : State :=
  let s := s.setStream p.num { s.stream p.num with fb := some (v, f.ingressAo) }
  if (s.stream p.num).hStale && decide (s.ao - f.ingressAo ≤ p.f) then s.holdSet p.num (fun x => { x with hStale := false })
  else s

/-- FALLBACK (R58 to R62, R276): a completed run publishes its value; a run on a TAINTED frame, an inconclusive one, one that
a quarantined tile owes a part of, and a dual run whose groups differ are discarded. -/
def execFallback (s : State) : Host.Outcome State Fault Refusal :=
  s.act (fun s => match s.takeResult 4 with
    | none => s
    | some (l, sound, s) =>
      let n := leField l 0 1
      let t := leField l 10 2
      let good := sound && leField l 2 1 = 1 && leField l 3 1 % 2 = 1
      let v : BitVec 96 := BitVec.ofNat 96 (leField l 24 12)
      let s := match s.frameFwd n (leField l 4 4), s.pstream n with
        | some f, some p =>
          if f.golden || f.tainted || !good || s.quarOwes n 4 then s
          else if !p.dual then s.publishFb p f v
          else
            let f := if (leField l 3 1).testBit 1 then { f with fbB := some v } else { f with fbA := some v }
            let s := s.setFrame f
            (match f.fbA, f.fbB with
             | some a, some b => if a = b then s.publishFb p f a else s.raiseU 108 0xFFFF
             | _, _ => s)
        | _, _ => s
      if !recordCrcOk l && decide (t < 192) then s.crcFail t else s)

/-- A result record of the disagreement reserve for an open procedure: from a RESERVE tile disjoint from the original ones,
and sound (R81, R180). -/
def State.disResult (l : List Byte) (sound : Bool) (g : DisSlot → DisSlot) (s : State) : State :=
  let t := leField l 10 2
  let s := if sound && (s.tile t).role == .reserve then
      (forAll [0, 1, 2, 3] (fun i s =>
        let d := s.dis i
        if d.busy && d.stream = leField l 0 1 && d.fwd = leField l 4 4 && d.layer = leField l 8 2
            && !d.origTiles.contains t then s.setDis i (g d) else s) s).pollAll
    else s
  if !recordCrcOk l && decide (t < 192) then s.crcFail t else s

/-- REPEAT (R82, R276): the repeat check's record, compared with the original bit for bit. -/
def execRepeatRec (s : State) : Host.Outcome State Fault Refusal :=
  s.act (fun s => match s.takeResult 5 with
    | none => s
    | some (l, sound, s) => s.disResult l sound (fun d =>
        if d.repeatDone then d else { d with repeatDone := true, repeatSame := computed l = d.orig }))

/-- FRESH (R82, R121, R276): the fresh check's record; one that fails its CRC is inconclusive (R15). -/
def execFreshRec (s : State) : Host.Outcome State Fault Refusal :=
  s.act (fun s => match s.takeResult 6 with
    | none => s
    | some (l, sound, s) => s.disResult l sound (fun d =>
        if d.freshDone then d else { d with freshDone := true, fresh := if leField l 2 1 = 3 then 3 else 1 }))

end Sys2Proof.Machine
end

