-- ==== Sys2Proof/Machine/Dispatch.lean ====
section
/-! DEFINITION. The command dispatcher: one arm per row of the opcode table, each one direct call of its meaning. -/

namespace Sys2Proof.Machine
open Sys2Proof

/-- The effect of a command on everything but the queue. -/
def exec (i : Instr) (s : State) : Host.Outcome State Fault Refusal :=
  match i with
  -- Power, reset and Ethernet links
  | .porstNAssert ns => Sys2Proof.Machine.execPorstNAssert ns s
  | .porstNRelease split bench phys => Sys2Proof.Machine.execPorstNRelease split bench phys s
  | .supplyReset rail => Sys2Proof.Machine.execSupplyReset rail s
  | .supplyRestored split bench phys => Sys2Proof.Machine.execSupplyRestored split bench phys s
  | .supplyWarning rail => Sys2Proof.Machine.execSupplyWarning rail s
  | .updateReboot => Sys2Proof.Machine.execUpdateReboot s
  | .degradedLimit => Sys2Proof.Machine.execDegradedLimit s
  | .ethLinkDown p => Sys2Proof.Machine.execEthLinkDown p s
  | .ethLinkUp p => Sys2Proof.Machine.execEthLinkUp p s
  | .ethPortStable p => Sys2Proof.Machine.execEthPortStable p s
  -- Verdict and hold timers
  | .resultAgeLimit n => Sys2Proof.Machine.execResultAgeLimit n s
  | .verdictDeadline n => Sys2Proof.Machine.execVerdictDeadline n s
  | .p0ComputeCut => Sys2Proof.Machine.execP0ComputeCut s
  | .retentionEnd n => Sys2Proof.Machine.execRetentionEnd n s
  | .fbStale n => Sys2Proof.Machine.execFbStale n s
  | .holdRecord n => Sys2Proof.Machine.execHoldRecord n s
  -- Evidence, reveals, known answers and digests
  | .commit f => Sys2Proof.Machine.execCommit f s
  | .sample f => Sys2Proof.Machine.execSample f s
  | .canary f => Sys2Proof.Machine.execCanary f s
  | .result f => Sys2Proof.Machine.execResult f s
  | .revealIssue => Sys2Proof.Machine.execRevealIssue s
  | .revealDeadline n re => Sys2Proof.Machine.execRevealDeadline n re s
  | .knownAnswerIntervalEnd n descs => Sys2Proof.Machine.execKnownAnswerIntervalEnd n descs s
  | .goldenCopy n => Sys2Proof.Machine.execGoldenCopy n s
  | .digestStep f region => Sys2Proof.Machine.execDigestStep f region s
  | .digestStepDone f region data err => Sys2Proof.Machine.execDigestStepDone f region data err s
  | .digestIntervalEnd n => Sys2Proof.Machine.execDigestIntervalEnd n s
  -- Assay result records
  | .rowChecksum => Sys2Proof.Machine.execRowChecksum s
  | .reexec => Sys2Proof.Machine.execReexec s
  | .canaryOutcome => Sys2Proof.Machine.execCanaryOutcome s
  | .fallback => Sys2Proof.Machine.execFallback s
  | .repeatRec => Sys2Proof.Machine.execRepeatRec s
  | .freshRec => Sys2Proof.Machine.execFreshRec s
  -- Tile and mesh events
  | .slotStrobe => Sys2Proof.Machine.execSlotStrobe s
  | .residentStep t sigOk ecc at_ => Sys2Proof.Machine.execResidentStep t sigOk ecc at_ s
  | .meshDelivery route data coll link => Sys2Proof.Machine.execMeshDelivery route data coll link s
  | .awaitResume t c => Sys2Proof.Machine.execAwaitResume t c s
  | .deepTestStart => Sys2Proof.Machine.execDeepTestStart s
  | .deepTestEnd pass routerOk at_ => Sys2Proof.Machine.execDeepTestEnd pass routerOk at_ s
  | .tileHealthWrite => Sys2Proof.Machine.execTileHealthWrite s
  | .droopEvent q n => Sys2Proof.Machine.execDroopEvent q n s
  | .illegalWord t c w => Sys2Proof.Machine.execIllegalWord t c w s
  -- Tile instructions
  | .nop t c => Sys2Proof.Machine.execNop t c s
  | .br t c target => Sys2Proof.Machine.execBr t c target s
  | .bc t c cond target => Sys2Proof.Machine.execBc t c cond target s
  | .loop t c a target => Sys2Proof.Machine.execLoop t c a target s
  | .slotend t c => Sys2Proof.Machine.execSlotend t c s
  | .await t c a k => Sys2Proof.Machine.execAwait t c a k s
  | .fclr t c k => Sys2Proof.Machine.execFclr t c k s
  | .frd t c d => Sys2Proof.Machine.execFrd t c d s
  | .addW t c d a b => Sys2Proof.Machine.execAddW t c d a b s
  | .addS t c d a b => Sys2Proof.Machine.execAddS t c d a b s
  | .subW t c d a b => Sys2Proof.Machine.execSubW t c d a b s
  | .subS t c d a b => Sys2Proof.Machine.execSubS t c d a b s
  | .negW t c d a => Sys2Proof.Machine.execNegW t c d a s
  | .negS t c d a => Sys2Proof.Machine.execNegS t c d a s
  | .absW t c d a => Sys2Proof.Machine.execAbsW t c d a s
  | .absS t c d a => Sys2Proof.Machine.execAbsS t c d a s
  | .mulW t c d a b => Sys2Proof.Machine.execMulW t c d a b s
  | .mulS t c d a b => Sys2Proof.Machine.execMulS t c d a b s
  | .mulh t c d a b => Sys2Proof.Machine.execMulh t c d a b s
  | .mulhu t c d a b => Sys2Proof.Machine.execMulhu t c d a b s
  | .divW t c d a b => Sys2Proof.Machine.execDivW t c d a b s
  | .divS t c d a b => Sys2Proof.Machine.execDivS t c d a b s
  | .rem t c d a b => Sys2Proof.Machine.execRem t c d a b s
  | .divu t c d a b => Sys2Proof.Machine.execDivu t c d a b s
  | .remu t c d a b => Sys2Proof.Machine.execRemu t c d a b s
  | .and t c d a b => Sys2Proof.Machine.execAnd t c d a b s
  | .or t c d a b => Sys2Proof.Machine.execOr t c d a b s
  | .xor t c d a b => Sys2Proof.Machine.execXor t c d a b s
  | .andn t c d a b => Sys2Proof.Machine.execAndn t c d a b s
  | .shlW t c d a b => Sys2Proof.Machine.execShlW t c d a b s
  | .shlS t c d a b => Sys2Proof.Machine.execShlS t c d a b s
  | .shr t c d a b => Sys2Proof.Machine.execShr t c d a b s
  | .sar t c d a b => Sys2Proof.Machine.execSar t c d a b s
  | .cmp t c a b => Sys2Proof.Machine.execCmp t c a b s
  | .min t c d a b => Sys2Proof.Machine.execMin t c d a b s
  | .max t c d a b => Sys2Proof.Machine.execMax t c d a b s
  | .minu t c d a b => Sys2Proof.Machine.execMinu t c d a b s
  | .maxu t c d a b => Sys2Proof.Machine.execMaxu t c d a b s
  | .clz t c d a => Sys2Proof.Machine.execClz t c d a s
  | .popc t c d a => Sys2Proof.Machine.execPopc t c d a s
  | .addiW t c d a imm => Sys2Proof.Machine.execAddiW t c d a imm s
  | .addiS t c d a imm => Sys2Proof.Machine.execAddiS t c d a imm s
  | .subiW t c d a imm => Sys2Proof.Machine.execSubiW t c d a imm s
  | .subiS t c d a imm => Sys2Proof.Machine.execSubiS t c d a imm s
  | .muliW t c d a imm => Sys2Proof.Machine.execMuliW t c d a imm s
  | .muliS t c d a imm => Sys2Proof.Machine.execMuliS t c d a imm s
  | .andi t c d a imm => Sys2Proof.Machine.execAndi t c d a imm s
  | .ori t c d a imm => Sys2Proof.Machine.execOri t c d a imm s
  | .xori t c d a imm => Sys2Proof.Machine.execXori t c d a imm s
  | .shliW t c d a imm => Sys2Proof.Machine.execShliW t c d a imm s
  | .shliS t c d a imm => Sys2Proof.Machine.execShliS t c d a imm s
  | .shri t c d a imm => Sys2Proof.Machine.execShri t c d a imm s
  | .sari t c d a imm => Sys2Proof.Machine.execSari t c d a imm s
  | .cmpi t c a imm => Sys2Proof.Machine.execCmpi t c a imm s
  | .movi t c d imm => Sys2Proof.Machine.execMovi t c d imm s
  | .sel t c d a b cond => Sys2Proof.Machine.execSel t c d a b cond s
  | .mov t c d a => Sys2Proof.Machine.execMov t c d a s
  | .mova t c d a => Sys2Proof.Machine.execMova t c d a s
  | .movs t c d a => Sys2Proof.Machine.execMovs t c d a s
  | .ldai t c d imm => Sys2Proof.Machine.execLdai t c d imm s
  | .adda t c d a => Sys2Proof.Machine.execAdda t c d a s
  | .addai t c d imm => Sys2Proof.Machine.execAddai t c d imm s
  | .ctxid t c d => Sys2Proof.Machine.execCtxid t c d s
  | .ldW t c d bank ar disp ecc => Sys2Proof.Machine.execLdW t c d bank ar disp ecc s
  | .ldH t c d bank ar disp ecc => Sys2Proof.Machine.execLdH t c d bank ar disp ecc s
  | .ldHu t c d bank ar disp ecc => Sys2Proof.Machine.execLdHu t c d bank ar disp ecc s
  | .ldB t c d bank ar disp ecc => Sys2Proof.Machine.execLdB t c d bank ar disp ecc s
  | .ldBu t c d bank ar disp ecc => Sys2Proof.Machine.execLdBu t c d bank ar disp ecc s
  | .stW t c d bank ar disp ecc => Sys2Proof.Machine.execStW t c d bank ar disp ecc s
  | .stH t c d bank ar disp ecc => Sys2Proof.Machine.execStH t c d bank ar disp ecc s
  | .stB t c d bank ar disp ecc => Sys2Proof.Machine.execStB t c d bank ar disp ecc s
  | .stld t c stg row cnt bank ar disp hit ecc => Sys2Proof.Machine.execStld t c stg row cnt bank ar disp hit ecc s
  | .lopI8 t c tw stg neg fa fb bank ar sigma eoff rsel disp ecc res => Sys2Proof.Machine.execLopI8 t c tw stg neg fa fb bank ar sigma eoff rsel disp ecc res s
  | .lopF8 t c tw stg neg fa fb bank ar sigma eoff rsel disp ecc res => Sys2Proof.Machine.execLopF8 t c tw stg neg fa fb bank ar sigma eoff rsel disp ecc res s
  | .lopF16 t c tw stg neg fa fb bank ar sigma eoff rsel disp ecc res => Sys2Proof.Machine.execLopF16 t c tw stg neg fa fb bank ar sigma eoff rsel disp ecc res s
  | .lopF32 t c tw stg neg fa fb bank ar sigma eoff rsel disp ecc res => Sys2Proof.Machine.execLopF32 t c tw stg neg fa fb bank ar sigma eoff rsel disp ecc res s
  | .lopCx64 t c tw stg neg fa fb bank ar sigma eoff rsel disp ecc res => Sys2Proof.Machine.execLopCx64 t c tw stg neg fa fb bank ar sigma eoff rsel disp ecc res s
  | .lopCx128 t c tw stg neg fa fb bank ar sigma eoff rsel disp ecc res => Sys2Proof.Machine.execLopCx128 t c tw stg neg fa fb bank ar sigma eoff rsel disp ecc res s
  | .vadd t c tw neg fa eidx bank ar sigma disp ecc res => Sys2Proof.Machine.execVadd t c tw neg fa eidx bank ar sigma disp ecc res s
  | .vaddc t c tw neg eidx bank ar sigma disp ecc res => Sys2Proof.Machine.execVaddc t c tw neg eidx bank ar sigma disp ecc res s
  | .vaddc128 t c tw neg eidx bank ar sigma disp ecc res => Sys2Proof.Machine.execVaddc128 t c tw neg eidx bank ar sigma disp ecc res s
  | .vadds t c tw neg src sigma res => Sys2Proof.Machine.execVadds t c tw neg src sigma res s
  | .tclr t c tw anchor => Sys2Proof.Machine.execTclr t c tw anchor s
  | .tstore t c tw bank ar disp => Sys2Proof.Machine.execTstore t c tw bank ar disp s
  | .tjudge t c tw d bank ar disp ecc => Sys2Proof.Machine.execTjudge t c tw d bank ar disp ecc s
  | .tjudgey t c tw d bank1 ar1 bank2 ar2 disp1 disp2 hit ecc => Sys2Proof.Machine.execTjudgey t c tw d bank1 ar1 bank2 ar2 disp1 disp2 hit ecc s
  | .tcvt t c tw d sel => Sys2Proof.Machine.execTcvt t c tw d sel s
  | .tinfo t c tw d sel => Sys2Proof.Machine.execTinfo t c tw d sel s
  | .send t c bank ar route disp ecc => Sys2Proof.Machine.execSend t c bank ar route disp ecc s
  | .rpost t c bank ar route disp ecc => Sys2Proof.Machine.execRpost t c bank ar route disp ecc s
  | .arrd t c d k => Sys2Proof.Machine.execArrd t c d k s
  | .rxptr t c d k => Sys2Proof.Machine.execRxptr t c d k s
  -- Plan loads and switches
  | .planLoadPly n src build back => Sys2Proof.Machine.execPlanLoadPly n src build back s
  | .planFirstBoundary => Sys2Proof.Machine.execPlanFirstBoundary s
  | .planSwitchBoundary => Sys2Proof.Machine.execPlanSwitchBoundary s
  | .planSwitchPlaced at_ good => Sys2Proof.Machine.execPlanSwitchPlaced at_ good s
  | .planSwitchTimeout => Sys2Proof.Machine.execPlanSwitchTimeout s
  -- Stream gate
  | .bsfPacket e dport data formOk sumOk descs at_ => Sys2Proof.Machine.execBsfPacket e dport data formOk sumOk descs at_ s
  | .csiFrameStart port vc num descs at_ => Sys2Proof.Machine.execCsiFrameStart port vc num descs at_ s
  | .csiLongPacket port vc dt data crcOk => Sys2Proof.Machine.execCsiLongPacket port vc dt data crcOk s
  | .csiFrameEnd port vc descs at_ => Sys2Proof.Machine.execCsiFrameEnd port vc descs at_ s
  | .csiEccError port corrected => Sys2Proof.Machine.execCsiEccError port corrected s
  | .phyError port => Sys2Proof.Machine.execPhyError port s
  | .ingressWindowEnd n descs => Sys2Proof.Machine.execIngressWindowEnd n descs s
  | .creditEarn n => Sys2Proof.Machine.execCreditEarn n s
  | .forwardDone n err written => Sys2Proof.Machine.execForwardDone n err written s
  -- Host link and functions
  | .linkDown at_ => Sys2Proof.Machine.execLinkDown at_ s
  | .hostLinkPowerOff => Sys2Proof.Machine.execHostLinkPowerOff s
  | .perstNRelease at_ => Sys2Proof.Machine.execPerstNRelease at_ s
  | .linkUp speed width at_ => Sys2Proof.Machine.execLinkUp speed width at_ s
  | .configRequest f vfs fmask => Sys2Proof.Machine.execConfigRequest f vfs fmask s
  | .functionLevelReset f => Sys2Proof.Machine.execFunctionLevelReset f s
  | .vfDisable en n => Sys2Proof.Machine.execVfDisable en n s
  | .fnDrvWrite f v => Sys2Proof.Machine.execFnDrvWrite f v s
  | .apertureAccess off data len unc => Sys2Proof.Machine.execApertureAccess off data len unc s
  | .dmaReadTimeout r => Sys2Proof.Machine.execDmaReadTimeout r s
  | .msixUnmask f v => Sys2Proof.Machine.execMsixUnmask f v s
  | .vectorModerationEnd f ring => Sys2Proof.Machine.execVectorModerationEnd f ring s
  -- Register accesses
  | .registerWrite who p len v bad => Sys2Proof.Machine.execRegisterWrite who p len v bad s
  | .w1cWrite who p v => Sys2Proof.Machine.execW1cWrite who p v s
  | .snapshot who p v => Sys2Proof.Machine.execSnapshot who p v s
  | .lowWordRead who p => Sys2Proof.Machine.execLowWordRead who p s
  | .dxWrite who v => Sys2Proof.Machine.execDxWrite who v s
  | .dxComplement who v => Sys2Proof.Machine.execDxComplement who v s
  | .dxPairTimeout => Sys2Proof.Machine.execDxPairTimeout s
  | .maximumRead who p => Sys2Proof.Machine.execMaximumRead who p s
  | .maximumWrite who p v => Sys2Proof.Machine.execMaximumWrite who p v s
  | .vrwPop f v => Sys2Proof.Machine.execVrwPop f v s
  | .vrwLostRead f => Sys2Proof.Machine.execVrwLostRead f s
  | .twOvrRead who t => Sys2Proof.Machine.execTwOvrRead who t s
  -- Rings, commands and tallies
  | .rdPiWrite f r v => Sys2Proof.Machine.execRdPiWrite f r v s
  | .rdCiWrite f r v => Sys2Proof.Machine.execRdCiWrite f r v s
  | .commandFetch f ring desc err => Sys2Proof.Machine.execCommandFetch f ring desc err s
  | .completionCommit tag err => Sys2Proof.Machine.execCompletionCommit tag err s
  | .ply n err flash unc fw pl => Sys2Proof.Machine.execPly n err flash unc fw pl s
  | .cmdNop tag => Sys2Proof.Machine.execCmdNop tag s
  | .abort tag => Sys2Proof.Machine.execAbort tag s
  | .ringConfig tag => Sys2Proof.Machine.execRingConfig tag s
  | .revealSet tag => Sys2Proof.Machine.execRevealSet tag s
  | .digestSet tag => Sys2Proof.Machine.execDigestSet tag s
  | .tallyWait tag => Sys2Proof.Machine.execTallyWait tag s
  | .dmaOut tag => Sys2Proof.Machine.execDmaOut tag s
  | .planLoad tag host => Sys2Proof.Machine.execPlanLoad tag host s
  | .updDownload tag => Sys2Proof.Machine.execUpdDownload tag s
  | .updVerify tag => Sys2Proof.Machine.execUpdVerify tag s
  | .updActivate tag => Sys2Proof.Machine.execUpdActivate tag s
  | .updConfirm tag => Sys2Proof.Machine.execUpdConfirm tag s
  | .safe tag flip => Sys2Proof.Machine.execSafe tag flip s
  | .safeAnswer corrupt => Sys2Proof.Machine.execSafeAnswer corrupt s
  | .tyAdd f t v => Sys2Proof.Machine.execTyAdd f t v s
  | .tyTake f t => Sys2Proof.Machine.execTyTake f t s
  | .tySet f t v => Sys2Proof.Machine.execTySet f t v s
  | .tallyWaitTimeout tag => Sys2Proof.Machine.execTallyWaitTimeout tag s
  -- Mailboxes
  | .mailboxSend f ch v => Sys2Proof.Machine.execMailboxSend f ch v s
  | .mailboxTake f ch => Sys2Proof.Machine.execMailboxTake f ch s
  | .outboxPoll f ch => Sys2Proof.Machine.execOutboxPoll f ch s
  | .mailboxTimeout f ch far => Sys2Proof.Machine.execMailboxTimeout f ch far s
  | .crossing f ch => Sys2Proof.Machine.execCrossing f ch s
  | .doorbell f far => Sys2Proof.Machine.execDoorbell f far s
  | .ringBoot f => Sys2Proof.Machine.execRingBoot f s
  | .porterPing f => Sys2Proof.Machine.execPorterPing f s
  | .porterAnswerSend f => Sys2Proof.Machine.execPorterAnswerSend f s
  | .reeveDoorbell far => Sys2Proof.Machine.execReeveDoorbell far s
  | .reevePing => Sys2Proof.Machine.execReevePing s
  | .safeReq => Sys2Proof.Machine.execSafeReq s
  -- Reeve complex
  | .voteMismatch minority => Sys2Proof.Machine.execVoteMismatch minority s
  | .recoveryResume pass us => Sys2Proof.Machine.execRecoveryResume pass us s
  | .recoveryTimeout => Sys2Proof.Machine.execRecoveryTimeout s
  | .voterDisagreement prim shad => Sys2Proof.Machine.execVoterDisagreement prim shad s
  | .agreementRound a b c fb at_ => Sys2Proof.Machine.execAgreementRound a b c fb at_ s
  | .hourlyCoreSelftest core pass => Sys2Proof.Machine.execHourlyCoreSelftest core pass s
  -- Reeve commands
  | .echo p => Sys2Proof.Machine.execEcho p s
  | .privChallenge p => Sys2Proof.Machine.execPrivChallenge p s
  | .privAcquire p => Sys2Proof.Machine.execPrivAcquire p s
  | .privRelease p => Sys2Proof.Machine.execPrivRelease p s
  | .streamHold p => Sys2Proof.Machine.execStreamHold p s
  | .streamRelease p => Sys2Proof.Machine.execStreamRelease p s
  | .tileQuarantine p => Sys2Proof.Machine.execTileQuarantine p s
  | .tileClear p => Sys2Proof.Machine.execTileClear p s
  | .safeHoldReq p => Sys2Proof.Machine.execSafeHoldReq p s
  | .voterTest p => Sys2Proof.Machine.execVoterTest p s
  | .cfgRead p => Sys2Proof.Machine.execCfgRead p s
  | .cfgBegin p => Sys2Proof.Machine.execCfgBegin p s
  | .cfgWrite p => Sys2Proof.Machine.execCfgWrite p s
  | .cfgCommit p => Sys2Proof.Machine.execCfgCommit p s
  | .cfgAbort p => Sys2Proof.Machine.execCfgAbort p s
  | .pwdNewsalt p => Sys2Proof.Machine.execPwdNewsalt p s
  | .pwdSet p => Sys2Proof.Machine.execPwdSet p s
  | .outRestart p => Sys2Proof.Machine.execOutRestart p s
  | .brakeTest p => Sys2Proof.Machine.execBrakeTest p s
  | .logRead p => Sys2Proof.Machine.execLogRead p s
  | .hwdArm p => Sys2Proof.Machine.execHwdArm p s
  | .hwdDisarm p => Sys2Proof.Machine.execHwdDisarm p s
  | .taskSet p => Sys2Proof.Machine.execTaskSet p s
  | .faultClear p => Sys2Proof.Machine.execFaultClear p s
  | .faultInject p => Sys2Proof.Machine.execFaultInject p s
  | .faultRaise p => Sys2Proof.Machine.execFaultRaise p s
  | .capRearm p => Sys2Proof.Machine.execCapRearm p s
  -- Privilege timers
  | .privLeaseExpiry => Sys2Proof.Machine.execPrivLeaseExpiry s
  | .privLockoutEnd => Sys2Proof.Machine.execPrivLockoutEnd s
  -- Fault collector
  | .sourceRaise n level addr init acc unit => Sys2Proof.Machine.execSourceRaise n level addr init acc unit s
  | .sourceDeassert n => Sys2Proof.Machine.execSourceDeassert n s
  | .quietPeriodEnd n => Sys2Proof.Machine.execQuietPeriodEnd n s
  | .errPMinimumEnd => Sys2Proof.Machine.execErrPMinimumEnd s
  | .errPLowEnd => Sys2Proof.Machine.execErrPLowEnd s
  | .errPRelease who v => Sys2Proof.Machine.execErrPRelease who v s
  | .injectionArm who v => Sys2Proof.Machine.execInjectionArm who v s
  | .collectorRotation pass => Sys2Proof.Machine.execCollectorRotation pass s
  | .checkerRotation pass silent => Sys2Proof.Machine.execCheckerRotation pass silent s
  | .memoryScrub ledger sram => Sys2Proof.Machine.execMemoryScrub ledger sram s
  -- Safety I/O and brake tests
  | .discrepancyTimeout p => Sys2Proof.Machine.execDiscrepancyTimeout p s
  | .releaseFilterEnd p => Sys2Proof.Machine.execReleaseFilterEnd p s
  | .testPulse ch pinB ok => Sys2Proof.Machine.execTestPulse ch pinB ok s
  | .feedbackTimeout ch => Sys2Proof.Machine.execFeedbackTimeout ch s
  | .brakeApplyEnd h => Sys2Proof.Machine.execBrakeApplyEnd h s
  | .brakeTorqueEnd h => Sys2Proof.Machine.execBrakeTorqueEnd h s
  | .brakeReenergise h => Sys2Proof.Machine.execBrakeReenergise h s
  | .brakeTestDue h => Sys2Proof.Machine.execBrakeTestDue h s
  | .brakeTestOverdue h => Sys2Proof.Machine.execBrakeTestOverdue h s
  -- Bolrax Safe Channel
  | .bscPduTransmit c => Sys2Proof.Machine.execBscPduTransmit c s
  | .bscRefresh c => Sys2Proof.Machine.execBscRefresh c s
  | .bscQueueTimeout c => Sys2Proof.Machine.execBscQueueTimeout c s
  | .bscPduReceive port con rtag pdu => Sys2Proof.Machine.execBscPduReceive port con rtag pdu s
  | .bscConsumerTimeout c => Sys2Proof.Machine.execBscConsumerTimeout c s
  | .arpRequest port ip => Sys2Proof.Machine.execArpRequest port ip s
  -- Watchdogs, monitors and check-value engines
  | .reeveWdogService token at_ => Sys2Proof.Machine.execReeveWdogService token at_ s
  | .hostWdogService who token => Sys2Proof.Machine.execHostWdogService who token s
  | .watchdogClose host => Sys2Proof.Machine.execWatchdogClose host s
  | .taskLate m => Sys2Proof.Machine.execTaskLate m s
  | .cvCfgWrite who e v => Sys2Proof.Machine.execCvCfgWrite who e v s
  | .cvInit who e v => Sys2Proof.Machine.execCvInit who e v s
  | .cvCmp who e v => Sys2Proof.Machine.execCvCmp who e v s
  | .cvRunWrite who e hi v => Sys2Proof.Machine.execCvRunWrite who e hi v s
  | .cvDinWrite who e r v => Sys2Proof.Machine.execCvDinWrite who e r v s
  | .cvPairctlWrite who k v => Sys2Proof.Machine.execCvPairctlWrite who k v s
  -- Time, triggers and captures
  | .ptpSync port offset at_ => Sys2Proof.Machine.execPtpSync port offset at_ s
  | .ptpMessage port announce role gm reply at_ => Sys2Proof.Machine.execPtpMessage port announce role gm reply at_ s
  | .syncLossTimeout => Sys2Proof.Machine.execSyncLossTimeout s
  | .txTimestampWriteback port ptp at_ => Sys2Proof.Machine.execTxTimestampWriteback port ptp at_ s
  | .timeCrossCheck elapsed => Sys2Proof.Machine.execTimeCrossCheck elapsed s
  | .timeLoad who v => Sys2Proof.Machine.execTimeLoad who v s
  | .timeSourceSelect who v => Sys2Proof.Machine.execTimeSourceSelect who v s
  | .triggerArm who n v => Sys2Proof.Machine.execTriggerArm who n v s
  | .triggerEdge n => Sys2Proof.Machine.execTriggerEdge n s
  | .triggerPulseEnd n => Sys2Proof.Machine.execTriggerPulseEnd n s
  | .captureEdge n rise at_ => Sys2Proof.Machine.execCaptureEdge n rise at_ s
  | .capturePop who n => Sys2Proof.Machine.execCapturePop who n s
  -- Power, clocks and temperature
  | .domainWake d => Sys2Proof.Machine.execDomainWake d s
  | .pllMonitorFault pll => Sys2Proof.Machine.execPllMonitorFault pll s
  | .arrayRelock ok => Sys2Proof.Machine.execArrayRelock ok s
  | .pllRelock pll ok => Sys2Proof.Machine.execPllRelock pll ok s
  | .temperatureRead r => Sys2Proof.Machine.execTemperatureRead r s
  | .hostlessEntry => Sys2Proof.Machine.execHostlessEntry s
  | .hostlessExit => Sys2Proof.Machine.execHostlessExit s
  | .pmCapRequest who v => Sys2Proof.Machine.execPmCapRequest who v s
  | .cvPairRequest who v => Sys2Proof.Machine.execCvPairRequest who v s
  -- Key vault
  | .attestationRequest who hi => Sys2Proof.Machine.execAttestationRequest who hi s
  | .attestationDone => Sys2Proof.Machine.execAttestationDone s
  | .drbgReseed ok => Sys2Proof.Machine.execDrbgReseed ok s
  | .tamperAssert n => Sys2Proof.Machine.execTamperAssert n s
  -- JTAG and debug
  | .extest data => Sys2Proof.Machine.execExtest data s
  | .idcode => Sys2Proof.Machine.execIdcode s
  | .samplePreload data => Sys2Proof.Machine.execSamplePreload data s
  | .clamp => Sys2Proof.Machine.execClamp s
  | .highz => Sys2Proof.Machine.execHighz s
  | .bypass => Sys2Proof.Machine.execBypass s
  | .dbglink => Sys2Proof.Machine.execDbglink s
  | .dbglinkRead win rsv addr => Sys2Proof.Machine.execDbglinkRead win rsv addr s
  | .dbglinkWrite win rsv addr data => Sys2Proof.Machine.execDbglinkWrite win rsv addr data s
  | .dbglinkStatus => Sys2Proof.Machine.execDbglinkStatus s
  | .debugSessionEnd tapReset => Sys2Proof.Machine.execDebugSessionEnd tapReset s
  | .debugChallenge who v => Sys2Proof.Machine.execDebugChallenge who v s
  | .debugAuth who word v => Sys2Proof.Machine.execDebugAuth who word v s
  | .debugAuthLockoutEnd => Sys2Proof.Machine.execDebugAuthLockoutEnd s
  | .testUnlock who v => Sys2Proof.Machine.execTestUnlock who v s
  | .reeveHalt who v => Sys2Proof.Machine.execReeveHalt who v s
  | .haltAtBoundary => Sys2Proof.Machine.execHaltAtBoundary s
  | .haltDeferralExpiry => Sys2Proof.Machine.execHaltDeferralExpiry s
  | .reeveResume who v => Sys2Proof.Machine.execReeveResume who v s
  | .reeveStep who v => Sys2Proof.Machine.execReeveStep who v s
  | .forcedHalt who v => Sys2Proof.Machine.execForcedHalt who v s
  -- Further events
  | .perstNAssert at_ => Sys2Proof.Machine.execPerstNAssert at_ s
  | .announceReceiptTimeout port => Sys2Proof.Machine.execAnnounceReceiptTimeout port s
  | .evidenceWrite f lane off data bad at_ => Sys2Proof.Machine.execEvidenceWrite f lane off data bad at_ s
  | .functionLevelResetComplete f => Sys2Proof.Machine.execFunctionLevelResetComplete f s
  | .registerReadAccessError who p len => Sys2Proof.Machine.execRegisterReadAccessError who p len s
  | .reservedMailboxMessage f ch => Sys2Proof.Machine.execReservedMailboxMessage f ch s
  | .listenerEliminationReset c => Sys2Proof.Machine.execListenerEliminationReset c s

end Sys2Proof.Machine
end

