-- ==== Sys2Proof/Machine/Step.lean ====
section
/-! DEFINITION. One step of the block: the command at the front of the queue, or one AO cycle where none waits. -/

namespace Sys2Proof.Machine
open Sys2Proof

/-- What a step does on an empty queue: one cycle of the AO count passes, outside COLD, where the count does not run
(R22, R630; log entry 1). -/
def State.tick (s : State) : State := if s.dev.state = .cold then s else { s with ao := s.ao + 1 }

/-- One step: the command at the front of the queue is taken and executed with the queue's rest; an empty queue lets one
AO cycle pass. -/
def step (s : State) : Host.Outcome State Fault Refusal :=
  match s.pending with
  | [] => .next s.tick
  | c :: t => exec c { s with pending := t }

/-- The command that a word spells, put at the front of the queue; the opcode table gives no row any bits, so no word
spells one and the state is unchanged. -/
def State.withFetchWord (s : State) (nbits w : Nat) : State :=
  match decodeTableWord nbits w with
  | none => s
  | some c => { s with pending := c :: s.pending }

end Sys2Proof.Machine
end

