-- ==== Sys2Proof/WellFormed.lean ====
section
/-! DEFINITION. Well-formed commands: what the spec bounds in a command's operands and their types do not. -/

namespace Sys2Proof

/-- The link widths of R355. -/
def linkWidths : List Nat := [1, 2, 4, 8, 16]

/-- A command within the bounds that the spec gives its operands. Every other command's operands are bounded by their types:
an operand value that the spec calls an error (a wrong access size, a reserved code) is well formed, and its command has the
effect the spec gives it. -/
def Instr.wf : Instr → Bool
  -- a link trains at speed 1 to 5 and a width of R355
  | .linkUp speed width _ => decide (1 ≤ speed.toNat) && decide (speed.toNat ≤ 5) && linkWidths.contains width.toNat
  -- the eight sensors of R625
  | .temperatureRead r => r.length == 8
  -- a posted write of at most the largest payload, inside its lane (R355, R368)
  | .evidenceWrite _ _ off data _ _ =>
    decide (1 ≤ data.length) && decide (data.length ≤ 512) && decide (off.toNat + data.length ≤ 0x100000)
  -- the word count of a CSI-2 long packet has 16 bits (R326)
  | .csiLongPacket _ _ _ data _ => decide (data.length < 65536)
  -- a UDP datagram's length has 16 bits (R327)
  | .bsfPacket _ _ data _ _ _ _ => decide (data.length < 65536)
  -- a descriptor of R345 is 16 words of 2 B; a step of a digest pass is at most 64 KB
  | .digestStepDone _ _ data _ => decide (data.length ≤ 65536)
  | _ => true

end Sys2Proof
end

