-- ==== Sys2Proof/Safety.lean ====
section
/-! DEFINITION. What statements about runs are made of: the outcome of a command with what ends it, what a reaction to a
fault may change, and the outputs of a safe run. -/

namespace Sys2Proof.Machine
open Sys2Proof

/-- Command `i` answers a next state, whose own effect `e` on everything but the queue has `P`. What ends a command
(State.finish: an armed switch held against the tile health, a chip reset that the effect requested) follows `e`. -/
def Completes (i : Instr) (s : State) (P : State → Prop) : Prop :=
  ∃ e, exec i s = .next e.finish ∧ P e

/-- `s` with everything that a raised source and its reactions may change (R505 to R513, R536 to R538, R29, R32, R36, R37, R498)
as `e` has it: registers and outputs, the collector's sources and pins, the device's state, streams and channels, the frames
and tiles of a plan that stops, and what a block reset clears. -/
def State.withReact (s e : State) : State :=
  { s with
    regs := e.regs, fregs := e.fregs, freeCtr := e.freeCtr, out := e.out, streams := e.streams, gate := e.gate,
    tiles := e.tiles, flits := e.flits, run := e.run, ldr := e.ldr, pm := { e.pm with
      hostless := s.pm.hostless, account := s.pm.account, accAt := s.pm.accAt, lostSlot := s.pm.lostSlot,
      lostQuad := s.pm.lostQuad, pllBad := s.pm.pllBad },
    ldg.used := e.ldg.used,
    flt.src := e.flt.src, flt.errP := e.flt.errP, flt.errPMin := e.flt.errPMin, flt.errPRel := e.flt.errPRel,
    flt.errPRaise := e.flt.errPRaise,
    dev.state := e.dev.state, dev.holdSrc := e.dev.holdSrc, dev.blackout := e.dev.blackout,
    dev.bootHealthy := e.dev.bootHealthy, dev.chipReq := e.dev.chipReq, dev.holdAt := e.dev.holdAt,
    dev.porterQ := e.dev.porterQ,
    sio.chans := e.sio.chans, sio.btq := e.sio.btq, sio.fbWrong := e.sio.fbWrong,
    hl.vpend := e.hl.vpend, hl.lanes := e.hl.lanes, bsc.eccSeen := e.bsc.eccSeen, bsc.chkPass := e.bsc.chkPass,
    rv.slow := e.rv.slow, rv.privHeld := e.rv.privHeld, sv.hwd.st := e.sv.hwd.st,
    q.tags := e.q.tags, q.finished := e.q.finished, q.waits := e.q.waits,
    vd := { e.vd with records := s.vd.records, journal := s.vd.journal, jseq := s.vd.jseq, dis := s.vd.dis,
                      cursor := s.vd.cursor, lost := s.vd.lost } }

/-- `e` differs from `s` only in what a raised source and its reactions may change. -/
def Reacts (s e : State) : Prop := e = s.withReact e

/-- From `s` to `e` source `n` was raised once (R506, R507): its count of raises went up by one, saturating, and it is ACTIVE,
or LATCHED where it was LATCHED. -/
def RaisedIn (n : Nat) (s e : State) : Prop :=
  (e.src n).occ = satAdd 65535 (s.src n).occ 1 ∧ (e.src n).st = (if (s.src n).st = .latched then .latched else .active)

end Sys2Proof.Machine

namespace Sys2Proof
open Sys2Proof.Machine

/-- The step at `s` answers a next state. -/
def Runs (s : State) : Prop := ∃ s', step s = .next s'

end Sys2Proof
end

