-- ==== Sys2Proof/Certificates/Slice0/Obligations.lean ====
section
/-! DEFINITION. The statements for the provers, from the numbered rules of the spec, family by family of the command table. -/

open Sys2Proof Sys2Proof.Machine


/-- O1. A step takes the command at the front of the queue and executes it with the queue's rest; on an empty queue one AO cycle
passes outside COLD and nothing else changes (log entry 1). -/
def Obligations.StepTakesFront : Prop :=
  ∀ (c : Instr) (t : List Instr) (s : State),
    step { s with pending := c :: t } = exec c { s with pending := t } ∧
    step { s with pending := [] } = .next { s with
      pending := [], ao := if s.dev.state = .cold then s.ao else s.ao + 1 }

/-- O2. The machine at State.reset: COLD (R28), AO count 0 (R630), every register at its Reset column (R13), every fault source
CLEAR, every channel de-energised (R29), no plan, no verdict, no command waiting. The model's choices and readings in it: log
entries 2 and 49. -/
def Obligations.ResetState : Prop :=
  State.reset.dev.state = .cold ∧ State.reset.ao = 0 ∧ State.reset.run = none ∧ State.reset.vd.journal = [] ∧
  State.reset.pending = [] ∧ (∀ a, State.reset.rget a = regReset a) ∧ (∀ n, (State.reset.src n).st = .clear) ∧
  (∀ k, (State.reset.chan k).energised = false) ∧ State.reset.errSLow = true ∧
  (∀ c, State.reset.dom c = .off) ∧ State.reset.dbg.sessionOpen = false

/-- O3. PORST_N low for 1 us or more, and a rail in its reset band, take the device to COLD from every state: only the flash, the
fuses, the pins and the parts stay, and every register goes to its Reset column; a shorter pulse on PORST_N is ignored (R626, R628).
The model's choices and readings in it: log entry 2. -/
def Obligations.ColdEntry : Prop :=
  ∀ (s : State) (ns : Nat) (rail : Rail),
    let cold (t : State) : Prop :=
      t.dev.state = .cold ∧ t.ao = 0 ∧ t.run = none ∧ t.kv.session = none ∧ t.kv.idKey = false ∧ t.vd.journal = [] ∧
      (∀ a, t.rget a = regReset a) ∧ (∀ n, t.src n = .reset) ∧ (∀ k, t.chan k = .reset) ∧ (∀ d, t.dom d = .off) ∧
      t.q = .reset ∧ t.dbg = .reset ∧ t.tiles = [] ∧
      t.store.cfg0 = s.store.cfg0 ∧ t.store.cfg1 = s.store.cfg1 ∧ t.store.log = s.store.log ∧
      t.store.sel0 = s.store.sel0 ∧ t.store.sel1 = s.store.sel1 ∧ t.store.thr0 = s.store.thr0 ∧
      t.store.thr1 = s.store.thr1 ∧ t.store.reeveA = s.store.reeveA ∧ t.store.reeveB = s.store.reeveB ∧
      t.store.porterA = s.store.porterA ∧ t.store.porterB = s.store.porterB ∧ t.store.planA = s.store.planA ∧
      t.store.planB = s.store.planB ∧ t.store.svnR = s.store.svnR ∧ t.store.svnP = s.store.svnP ∧
      t.store.verified = 0 ∧ t.pending = s.pending
    (1000 ≤ ns → ∃ t, exec (.porstNAssert ns) s = .next t ∧ cold t ∧ t.dev.porstN = false) ∧
    (ns < 1000 → exec (.porstNAssert ns) s = .next s) ∧
    ∃ t, exec (.supplyReset rail) s = .next t ∧ cold t ∧ t.dev.railReset.getLsbD rail.num = true ∧
      t.dev.porstN = s.dev.porstN

/-- O4. A cold start: PORST_N released with every rail in range, or every rail back in range with PORST_N released, starts the
device with the AO count at 0 and the straps as all eight samples agree (R630, R688); BOOT ends in PLAN_LOAD, MISMATCH_HOLD or
SAFE_HOLD (R32), every channel is de-energised unless it ends in MISMATCH_HOLD (R29), and a failed AO oscillator check leads to
SAFE_HOLD. With a rail still in its reset band the device stays in COLD. The model's choices and readings in it: log entries 2, 16
and 20. -/
def Obligations.ColdStart : Prop :=
  ∀ (sp bn : BitVec 8) (ph : Phys) (s : State),
    let started (e : State) : Prop :=
      e.ao = 0 ∧ e.dev.split = decide (sp = 0xFF) ∧ e.dev.bench = decide (bn = 0xFF) ∧
      (e.dev.state = .planLoad ∨ e.dev.state = .mismatchHold ∨ e.dev.state = .safeHold) ∧
      (ph.aoOk = false → e.dev.state = .safeHold) ∧
      (e.dev.state ≠ .mismatchHold → ∀ k, (e.chan k).energised = false) ∧ e.run = none
    (s.dev.porstN = false → s.dev.railReset = 0 → Completes (.porstNRelease sp bn ph) s started) ∧
    (s.dev.porstN = false → s.dev.railReset ≠ 0 →
      exec (.porstNRelease sp bn ph) s = .next { s with dev.porstN := true }) ∧
    (s.dev.railReset ≠ 0 → s.dev.porstN = true → Completes (.supplyRestored sp bn ph) s started) ∧
    (s.dev.railReset ≠ 0 → s.dev.porstN = false →
      exec (.supplyRestored sp bn ph) s = .next { s with dev.railReset := 0, dev.railWarn := 0 })

/-- O5. A chip reset that a command's effect requested is carried out at its end, outside ALARM, and ends BOOT in PLAN_LOAD,
MISMATCH_HOLD or SAFE_HOLD; it keeps the AO count, the tamper state, the straps and the flash, records its cause and counts itself
in PM_RST, and clears the degraded-operation count of the state before, the session key and the tallies (R626, R627, R629, R631). In
ALARM the request is dropped. The model's choices and readings in it: log entry 20. -/
def Obligations.ChipReset : Prop :=
  ∀ (s : State) (c : Option Nat), s.ldr.phase ≠ .armed → s.dev.chipReq = some c →
    (s.dev.state ≠ .cold → s.dev.state ≠ .alarm →
      s.finish.ao = s.ao ∧
      (s.finish.dev.state = .planLoad ∨ s.finish.dev.state = .mismatchHold ∨ s.finish.dev.state = .safeHold) ∧
      (∀ n, 231 ≤ n → n ≤ 234 → s.finish.src n = s.src n) ∧ s.finish.kv.tcnt = s.kv.tcnt ∧
      s.finish.kv.erased = s.kv.erased ∧ s.finish.kv.session = none ∧ s.finish.q.tallies = [] ∧
      s.finish.dev.split = s.dev.split ∧ s.finish.dev.bench = s.dev.bench ∧ s.finish.run = none ∧
      s.finish.rget 0x60058 = BitVec.ofNat 32 ((if c.isSome then 2 else 3) +
        8 * (match c with | some x => x | none => 0xFF) + 65536 * satAdd 65535 (bitsOf (s.rget 0x60058) 31 16) 1) ∧
      (s.finish.dev.state ≠ .mismatchHold → ∀ k, (s.finish.chan k).energised = false)) ∧
    (s.dev.state = .alarm → s.finish = { s with dev.chipReq := none })

/-- SUPPLY_WARNING: the rail is recorded, and the warning source is raised: SIO_SUPPLY (FS062) for VDDIO33, SUPPLY_WARN (FS074) for
every other rail (R623); everything else is what reactions may change. -/
def supplyWarningPart : Prop :=
  ∀ (rail : Rail) (s : State), s.dev.state ≠ .cold →
    let s0 := { s with dev.railWarn := s.dev.railWarn ||| BitVec.ofNat 7 (2 ^ rail.num) }
    let n := if rail = .vddio33 then 62 else 74
    ((s.src n).asserted = false → Completes (.supplyWarning rail) s (fun e => RaisedIn n s e ∧ Reacts s0 e)) ∧
    ((s.src n).asserted = true → Completes (.supplyWarning rail) s (fun e => e = s0))

/-- UPDATE_REBOOT requests the chip reset of an activation where one is due (R650), and DEGRADED_LIMIT moves the device to SAFE_HOLD
(R33, R35), with the AO count at or past the limit, source 12 raised and every channel de-energised (R29). -/
def rebootAndDegradedLimitPart : Prop :=
  ∀ (s : State), s.dev.state ≠ .cold →
    (s.dev.rebootDue = true → Completes .updateReboot s (fun e =>
      e = { s with dev.rebootDue := false, dev.chipReq := some none })) ∧
    (s.dev.rebootDue = false → Completes .updateReboot s (fun e => e = s)) ∧
    (∀ t l, s.dev.degrStart = some t → s.degLimit = some l → s.dev.state = .degraded ∨ s.dev.state = .mismatchHold →
      Completes .degradedLimit s (fun e => e.dev.state = .safeHold ∧ s.ao ≤ e.ao ∧ t + l ≤ e.ao ∧ RaisedIn 12 s e ∧
        e.dev.chipReq = none ∧ Reacts { s with ao := e.ao } e))

/-- O6. Supply warnings, the reboot of an activation and the degraded-operation limit: both statements above. The model's choices
and readings in it: log entries 10 and 20. -/
def Obligations.SupplyRebootAndLimit : Prop := supplyWarningPart ∧ rebootAndDegradedLimitPart

/-- O7. ETH_LINK_DOWN and ETH_LINK_UP: the port loses or gains link; losing it raises ETH_LINKp (FS164 + p), gaining it starts the
second of R32 afresh. ETH_PORT_STABLE: a port that has been up for 1 s with ETH_LINKp CLEAR, no ETH_ECCp and a passed checker
rotation clears its degrading condition (R32), and with none left the device returns from DEGRADED to RUN with the
degraded-operation count reset (R34). The model's choices and readings in it: log entries 10 and 36. -/
def Obligations.EthernetPorts : Prop :=
  ∀ (p : Port) (s : State), s.dev.state ≠ .cold →
    (s.bsc.linkUp.getLsbD p = true → (s.src (164 + p)).asserted = false → s.replicated p = false →
      Completes (.ethLinkDown p) s (fun e =>
        RaisedIn (164 + p) s e ∧ Reacts { s with bsc.linkUp := s.bsc.linkUp &&& ~~~(BitVec.ofNat 4 (2 ^ p.val)) } e)) ∧
    (s.bsc.linkUp.getLsbD p = true → s.replicated p = true →
      Completes (.ethLinkDown p) s (fun e => e.bsc.linkUp.getLsbD p = false ∧ e.dev.degr.ports.getLsbD p = true ∧
        e.dev.state ≠ .run ∧
        Reacts { s with bsc.linkUp := s.bsc.linkUp &&& ~~~(BitVec.ofNat 4 (2 ^ p.val)), dev.degr := e.dev.degr,
                        dev.degrStart := e.dev.degrStart } e)) ∧
    (s.bsc.linkUp.getLsbD p = false → s.dom (0x47 + p) = .on → s.pm.pllBad.getLsbD (6 + p) = false →
      Completes (.ethLinkUp p) s (fun e => e.bsc.linkUp = s.bsc.linkUp ||| BitVec.ofNat 4 (2 ^ p.val) ∧
        mget 0 e.bsc.upSince p = s.ao ∧ e.bsc.eccSeen.getLsbD p = false ∧ e.bsc.chkPass.getLsbD p = false ∧
        (e.src (164 + p)).asserted = false ∧ e.dev = s.dev ∧ e.vd = s.vd ∧ e.sio = s.sio)) ∧
    (s.bsc.linkUp.getLsbD p = true → (s.src (164 + p)).st = .clear → s.bsc.eccSeen.getLsbD p = false →
      s.bsc.chkPass.getLsbD p = true → Completes (.ethPortStable p) s (fun e =>
        e.dev.degr = { s.dev.degr with ports := s.dev.degr.ports &&& ~~~(BitVec.ofNat 4 (2 ^ p.val)) } ∧
        s.ao ≤ e.ao ∧ mget 0 s.bsc.upSince p + 50000000 ≤ e.ao ∧
        (s.dev.state = .degraded → e.dev.degr.any = false → e.dev.state = .run ∧ e.dev.degrStart = none) ∧
        (s.dev.state ≠ .degraded ∨ e.dev.degr.any = true → e.dev.state = s.dev.state)))

/-- The record at the head of the journal is a verdict record of stream `n` written next after `s`, for frame number `num`, with
the code and reason given (R87, R88). -/
def verdictWritten (s e : State) (n num code reason : Nat) : Prop :=
  ∃ r, e.vd.journal.head? = some r ∧ r.type = 1 ∧ r.stream = n ∧ r.frame = BitVec.ofNat 32 num ∧ r.code = code ∧
    r.reason = reason ∧ r.seq = s.vd.jseq ∧ e.vd.jseq = s.vd.jseq + 1

/-- The result age limit A and the verdict deadline D, reached for a stream's oldest frame without a counted result, form its
verdict ABSENT: reason MISMATCH in MISMATCH_HOLD, NO_RESULT elsewhere (R47, R51), where they also raise AGE_MON (FS065; R573, R574).
Neither comes while a blackout is in progress. -/
def ageLimitAbsentPart : Prop :=
  ∀ (n : Stream) (s : State) (f : Frame) (p : PStream), s.dev.state ≠ .cold → s.ldr.phase ≠ .blackout → s.pstream n = some p →
    let reason := if s.dev.state = .mismatchHold then 0xC else 0xB
    (s.oldest n (fun f => f.result.isNone) = some f → (s.frameNow f).result = none →
      Completes (.resultAgeLimit n) s (fun e => f.ingressAo + p.a ≤ e.ao ∧
        verdictWritten s e n (s.frameNow f).num 4 reason ∧
        (s.dev.state ≠ .mismatchHold → RaisedIn 65 s e) ∧ (s.dev.state = .mismatchHold → e.src 65 = s.src 65))) ∧
    (s.oldest n (fun _ => true) = some f → f.result = none → (s.frameNow f).result = none →
      Completes (.verdictDeadline n) s (fun e => f.ingressAo + p.d ≤ e.ao ∧
        verdictWritten s e n (s.frameNow f).num 4 reason ∧
        (s.dev.state ≠ .mismatchHold → RaisedIn 65 s e) ∧ (s.dev.state = .mismatchHold → e.src 65 = s.src 65)))

/-- O8. At D, and for the P0 stream at the end of C, a frame whose result has counted and that no assay violates, on a stream
without a standing violation, receives a verdict by the order of R51: ABSENT in MISMATCH_HOLD; else DOUBT for the first of TAINTED,
NO_EVIDENCE, MALFORMED, LEDGER_BANK, INCONCLUSIVE, PLAN_OVERRUN, LATE, COVERAGE_LAPSE that applies; else ACCEPT. The model's choices
and readings in it: log entry 21. -/
def Obligations.VerdictOrder : Prop :=
  ∀ (n : Stream) (s : State) (f : Frame) (p : PStream), s.dev.state ≠ .cold → s.pstream n = some p →
    s.oldest n (fun _ => true) = some f → s.frameNow f = f → f.result.isSome = true → s.anyViolated f = false →
    (s.stream n).standing = false →
    let order (overrun : Bool) : Nat × Nat :=
      if s.dev.state = .mismatchHold then (4, 0xC)
      else if f.tainted then (2, 3) else if s.noEvidence p f then (2, 4) else if f.malformed then (2, 5)
      else if f.bankFailed then (2, 6) else if s.required p f 2 then (2, 7) else if overrun then (2, 9)
      else if s.required p f 0 then (2, 8) else if (s.stream n).lapse then (2, 0xA) else (1, 0)
    Completes (.verdictDeadline n) s (fun e => f.ingressAo + p.d ≤ e.ao ∧
      verdictWritten s e n f.num (order f.overrun).1 (order f.overrun).2) ∧
    (s.run.bind (fun r => r.img.streams.find? (fun q => q.p0)) = some p → p.num = n → ∀ t, f.deliveredAo = some t →
      s.ready f = false → Completes .p0ComputeCut s (fun e => t + p.c ≤ e.ao ∧ bitAt (e.rget 0xA0008) 8 = true ∧
        verdictWritten s e n f.num (order (f.overrun || s.evidenceWhole p f)).1
          (order (f.overrun || s.evidenceWhole p f)).2))

/-- FB_STALE: the published fall-back value passes age F and the stream takes hold reason FB_STALE, which makes it HELD (R62, R69).
HOLD_RECORD: at the next point of a bound stream's frame grid inside the blackout a HOLD record with the stream's fall-back value
and its age is written (R73, R88). RETENTION_END: with no procedure open and no correction due, the evidence of the stream's held
REJECT is given up and its buffers are free (R353, R709). -/
def holdAndRetentionPart : Prop :=
  ∀ (n : Stream) (s : State), s.dev.state ≠ .cold →
    (∀ v p, (s.stream n).fb = some v → s.pstream n = some p → (s.stream n).hStale = false →
      Completes (.fbStale n) s (fun e => v.2 + p.f + 1 ≤ e.ao ∧ (e.stream n).hStale = true ∧ (e.stream n).code = 3 ∧
        (e.stream n).score = (s.stream n).score ∧ (e.stream n).fb = some v ∧ Reacts { s with ao := e.ao } e)) ∧
    (∀ p, s.ldr.phase = .blackout → s.pstream n = some p → p.num = n → s.holdPoint p ≤ s.ldr.b + 100000 →
      Completes (.holdRecord n) s (fun e => s.holdPoint p ≤ e.ao ∧ ∃ r, e.vd.journal.head? = some r ∧ r.type = 3 ∧
        r.stream = n ∧ r.seq = s.vd.jseq ∧ r.code = 0 ∧ r.src = true ∧ r.fval = s.fbVal n ∧ r.pval = 0 ∧
        r.hold = (s.stream n).holdCode ∧ e.vd.jseq = s.vd.jseq + 1)) ∧
    (∀ f t, s.vd.frames.find? (fun f => f.stream = n.val && f.keepUntil.isSome) = some f → f.keepUntil = some t →
      s.frameNow f = f → (∀ i, (s.dis i).busy = false) → s.vd.rangeDue = [] →
      Completes (.retentionEnd n) s (fun e => t ≤ e.ao ∧ (∀ b ∈ f.buffers ++ f.mirror, mget false e.ldg.used b = false) ∧
        (∀ g ∈ e.vd.frames, f.same g = true → g.keepUntil = none ∧ g.buffers = [] ∧ g.mirror = []) ∧
        (∀ c ∈ e.vd.commits, ¬ (c.stream = f.stream ∧ f.fwd = some c.fwd)) ∧ e.vd.journal = s.vd.journal))

/-- O9. The age limit forms ABSENT; holds, their ends and evidence retention: both statements above. The model's choices and
readings in it: log entries 1 and 21. -/
def Obligations.AgeLimitHoldsAndRetention : Prop := ageLimitAbsentPart ∧ holdAndRetentionPart

/-- A draw of n from m candidates (R124) returns min n m indices below m in strictly ascending order, whatever the keystream. -/
def drawIsASamplePart : Prop :=
  ∀ (ks : Nat → Nat) (m n : Nat),
    (drawIndices ks m n).length = min n m ∧ (drawIndices ks m n).Pairwise (· < ·) ∧ ∀ i ∈ drawIndices ks m n, i < m

/-- The oldest completed evidence record of function `f` is `r`, stamped `t`, of type `k`, for the held frame `fr` of a bound
stream without a verdict, and passes the common checks of R109; no blackout is in progress. -/
def recordReady (s : State) (f k t : Nat) (r : List Byte) (fr : Frame) (p : PStream) : Prop :=
  s.dev.state ≠ .cold ∧ s.ldr.phase ≠ .blackout ∧ s.vd.records.find? (fun x => x.1 = f) = some (f, t, r) ∧ evType r = k ∧
  s.frameFwd (evStream r) (evFwd r) = some fr ∧ s.pstream (evStream r) = some p ∧ fr.formed = none ∧
  evBad p f r = false ∧ fr.malformed = false

/-- A COMMIT of a planned layer that comes before the deadlines of its frame is held with its commitment, kind, count, format and
payload, the indices of its reveal are drawn by R124 from COUNT candidates, as many as the stream's state asks (R110, R114, R116),
and its reveal is queued (R117); the record is taken. -/
def commitTakenPart : Prop :=
  ∀ (f : Fn) (s : State) (t : Nat) (r : List Byte) (fr : Frame) (p : PStream) (l : PLayer),
    recordReady s f 1 t r fr p → s.commitOf p.num (evFwd r) (evLayer r) = none → s.atD p fr = false →
    fr.result.isSome = true → planLayer p (evLayer r) = some l → evCount r ≠ 0 →
    Completes (.commit f) s (fun e =>
      e.vd.records = s.vd.records.erase (f.val, t, r) ∧
      ∃ c, e.vd.commits = s.vd.commits ++ [c] ∧ c.stream = p.num ∧ c.fwd = evFwd r ∧ c.layer = evLayer r ∧
        c.cmt.toNat = evCmt r ∧ c.kind = evKind r ∧ c.count = evCount r ∧ c.fmt = evFmt r ∧ c.payload = r.drop 32 ∧
        c.at_ = s.ao ∧ c.st = 1 ∧ c.answered = 0 ∧
        c.idx = drawIndices (s.ksw 0 p.num l.layer (s.xfwd p.num (evFwd r))) (evCount r)
          (min (match (s.stream p.num).under with | .trusted => l.nT | .watched => l.nW | .demoted => l.nD) (evCount r)) ∧
        e.vd.reveals = insertReveal { stream := p.num, fwd := evFwd r, layer := evLayer r, round := 0, p0 := p.p0, at_ := s.ao }
          s.vd.reveals ∧
        e.vd.journal = s.vd.journal ∧ e.streams = s.streams ∧ e.dev = s.dev ∧ e.ldg = s.ldg)

/-- O10. A draw is an ascending sample, and a COMMIT is held with the drawn indices of its reveal: both statements above. The
model's choices and readings in it: log entries 3, 6 and 22. -/
def Obligations.DrawsAndCommits : Prop := drawIsASamplePart ∧ commitTakenPart

/-- A SAMPLE part that answers an issued reveal before its deadline and carries the revealed indices in order is added to its
commit; the part flagged LAST closes the reveal (R104, R105, R109, R119). A SAMPLE that does not fit makes its frame malformed
(R109). The record is taken. -/
def sampleTakenPart : Prop :=
  ∀ (f : Fn) (s : State) (t : Nat) (r : List Byte) (fr : Frame) (p : PStream) (l : PLayer) (c : Commit),
    recordReady s f 3 t r fr p → evRound r = 0 → s.commitOf p.num (evFwd r) (evLayer r) = some c →
    planLayer p (evLayer r) = some l → s.atD p fr = false → c.st = 2 → c.issuedAo ≤ t → t < c.issuedAo + p.revealDeadline →
    let fits := evCmt r = c.cmt.toNat ∧ evKind r = c.kind ∧
      sampleOk (sampleElems l) (sampleEntry l (evFmt r)) c.idx c.answered r (evCount r) = true ∧
      (evLast r = true ↔ c.answered + evCount r = c.idx.length)
    (fits → Completes (.sample f) s (fun e =>
      e.vd.records = s.vd.records.erase (f.val, t, r) ∧
      ∃ d, e.commitOf p.num (evFwd r) (evLayer r) = some d ∧ d.answered = c.answered + evCount r ∧
        d.samples = c.samples ++ r.drop 32 ∧ d.st = (if evLast r then 3 else 2) ∧ d.idx = c.idx ∧ d.cmt = c.cmt ∧
        e.vd.journal = s.vd.journal)) ∧
    (¬ fits → Completes (.sample f) s (fun e =>
      e = ({ s with vd.records := s.vd.records.erase (f.val, t, r) }).setFrame { fr with malformed := true }))

/-- The first CANARY record of a frame before D is kept with it (R106, R135), and a RESULT before A counts for its frame with its
value, stamp and envelope outcome (R107, R111, R137), where the frame's verdict waits for further assays; a RESULT for an admitted
frame that arrives at A or later is discarded and counted in VD_NLATE (R46). -/
def canaryAndResultPart : Prop :=
  ∀ (f : Fn) (s : State) (t : Nat) (r : List Byte) (fr : Frame) (p : PStream),
    (recordReady s f 4 t r fr p → s.atD p fr = false → fr.canaryRec = none → fr.fwd = some (evFwd r) →
      Completes (.canary f) s (fun e => e.vd.records = s.vd.records.erase (f.val, t, r) ∧ e.vd.journal = s.vd.journal ∧
        e.vd.commits = s.vd.commits ∧
        ∃ g, e.frameFwd (evStream r) (evFwd r) = some g ∧ g.canaryRec = some r ∧ g.canary = fr.canary ∧ g.num = fr.num)) ∧
    (recordReady s f 5 t r fr p → fr.result = none → fr.golden = false → s.dev.state ≠ .mismatchHold →
      fr.ingressAo + p.a ≤ t → Completes (.result f) s (fun e =>
        e = (({ s with vd.records := s.vd.records.erase (f.val, t, r) }).rinc64 0xA0048 1).revt 0xA0008 7)) ∧
    (recordReady s f 5 t r fr p → fr.result = none → fr.golden = false → s.dev.state ≠ .mismatchHold →
      t < fr.ingressAo + p.a → p.p0 = false → s.required p fr 0 = true → p.required.getLsbD 3 = false →
      fr.fwd = some (evFwd r) → Completes (.result f) s (fun e =>
        ∃ g, e.frameFwd (evStream r) (evFwd r) = some g ∧ g.result = some (BitVec.ofNat 96 (leField r 32 12)) ∧
          g.resultAo = t ∧ g.resultRec = r ∧ g.formed = none ∧
          g.env = (if p.runs.getLsbD 3 then s.envelope p fr (BitVec.ofNat 96 (leField r 32 12)) else 0) ∧
          e.vd.journal = s.vd.journal))

/-- O11. SAMPLE, CANARY and RESULT records are taken: both statements above. The model's choices and readings in it: log entry 22.
-/
def Obligations.EvidenceRecords : Prop := sampleTakenPart ∧ canaryAndResultPart

/-- O12. REVEAL_ISSUE: the first waiting reveal of round 0 leaves to the next slot of its stream's registration as a REVEAL record
that carries the drawn indices, and starts its deadline (R103, R117, R415); without a registration or a link no reveal is issued for
the commit (R416). REVEAL_DEADLINE: an unanswered reveal past its deadline is no longer answered (R119). The model's choices and
readings in it: log entry 22. -/
def Obligations.Reveals : Prop :=
  ∀ (n : Stream) (s : State) (r : Reveal) (rest : List Reveal) (c : Commit) (p : PStream), s.dev.state ≠ .cold →
    (s.vd.reveals = r :: rest → r.round = 0 → s.commitOf r.stream r.fwd r.layer = some c → s.pstream r.stream = some p →
      (∀ g, mget none s.q.revReg (64 * p.fn + r.stream) = some g → s.hl.dlUp = true → g.tly = false →
        Completes .revealIssue s (fun e => e.vd.reveals = rest ∧
          e.out = .dma p.fn (g.addr + BitVec.ofNat 64 (1024 * (g.k % g.slots))) (revealRec c c.idx 0) :: s.out ∧
          mget none e.q.revReg (64 * p.fn + r.stream) = some { g with k := g.k + 1 } ∧
          e.commitOf r.stream r.fwd r.layer = some { c with st := 2, issuedAo := s.ao } ∧ e.vd.journal = s.vd.journal)) ∧
      (mget none s.q.revReg (64 * p.fn + r.stream) = none ∨ s.hl.dlUp = false →
        Completes .revealIssue s (fun e => e.vd.reveals = rest ∧ e.out = s.out ∧
          e.commitOf r.stream r.fwd r.layer = some { c with st := 6 }))) ∧
    (s.vd.commits.find? (fun c => c.stream = n.val && c.st = 2) = some c → s.pstream n = some p →
      s.commitOf n c.fwd c.layer = some c →
      Completes (.revealDeadline n false) s (fun e => c.issuedAo + p.revealDeadline ≤ e.ao ∧
        e.commitOf n c.fwd c.layer = some { c with st := 4 } ∧ e.vd.journal = s.vd.journal ∧ e.vd.frames = s.vd.frames))

/-- O13. Evidence lanes (R357, R368): a write at offset 0 starts a record, discarding one in progress; a write at the expected
offset is appended; any other discards the record in progress and waits for offset 0, each discard counted in FN_EVSEQ. The header
is checked at 32 bytes: a failed HCRC and a record without staging space are discarded and counted, a length outside R98 leaves the
header alone as the record. At LEN bytes the record completes with the AO stamp of its last byte, and bytes beyond are discarded and
counted. A poisoned write discards the record in progress. The model's choices and readings in it: log entry 22. -/
def Obligations.EvidenceLanes : Prop :=
  ∀ (s : State) (f : Fn) (k : Fin 4) (off : BitVec 20) (data : List Byte) (n : Nat), s.dev.state ≠ .cold →
    let now := { s with ao := Max.max s.ao n }
    let l := s.lane f k
    let wr (bad : Bool) : Instr := .evidenceWrite f k off data bad n
    let adds (reg by_ : Nat) (e : State) : Prop :=
      (e.rget (fnAddr f reg)).toNat = satAdd 0xFFFFFFFF (s.rget (fnAddr f reg)).toNat by_
    let lane (st : LaneSt) (b : List Byte) (e : State) : Prop := e.lane f k = { st := st, bytes := b } ∧
      (∀ g j, g < 64 → j < 4 → (g ≠ f.val ∨ j ≠ k.val) → e.lane g j = s.lane g j) ∧ e.ao = now.ao ∧ e.vd.journal = s.vd.journal
    let same (e : State) : Prop := e.vd = s.vd ∧ e.dev = s.dev ∧ e.flt = s.flt
    let event (e : State) : Prop := bitAt (e.rget (fnAddr f 0x10)) 2 = true
    let sent (b : List Byte) : Prop := evType b = 1 ∨ evType b = 3 ∨ evType b = 4 ∨ evType b = 5
    let opened : Prop := l.st = .opened
    let b := (if off = 0 then [] else l.bytes) ++ data
    let header : Prop := (if off = 0 then [] else l.bytes).length < 32 ∧ 32 ≤ b.length
    let used := if off = 0 then (s.setLane f k { st := .opened, bytes := [] }).stagingUsed else s.stagingUsed
    (s.evOpen f = false → ∀ bad, Completes (wr bad) s (fun e => e = now)) ∧
    (s.evOpen f = true →
      Completes (wr true) s (fun e => lane .skip [] e ∧ same e ∧ adds 0x2C 1 e ∧ (opened → event e)) ∧
      (off ≠ 0 → off.toNat ≠ l.bytes.length ∨ ¬ opened → Completes (wr false) s (fun e => lane .skip [] e ∧ same e ∧
        (opened → adds 0x24 1 e ∧ event e) ∧ (¬ opened → e = { now with hl.lanes := e.hl.lanes }))) ∧
      (off = 0 ∨ opened ∧ off.toNat = l.bytes.length → ∀ before, ((opened ∧ off = 0 → before = 1) ∧ (¬ (opened ∧ off = 0) → before = 0)) →
        (b.length < 32 → Completes (wr false) s (fun e => lane .opened b e ∧ same e ∧ adds 0x24 before e)) ∧
        (header → evHcrcOk b = false → Completes (wr false) s (fun e => lane .skip [] e ∧ same e ∧ adds 0x24 before e ∧
          adds 0x20 1 e ∧ event e)) ∧
        (header → evHcrcOk b = true → evLenOk b = false → Completes (wr false) s (fun e => lane .skip [] e ∧ adds 0x24 before e ∧
          (sent (b.take 32) → e.vd.records = s.vd.records ++ [(f.val, now.ao, b.take 32)]))) ∧
        (header → evHcrcOk b = true → evLenOk b = true → 4194304 < used + evLen b → Completes (wr false) s (fun e =>
          lane .skip [] e ∧ adds 0x24 before e ∧ adds 0x28 1 e ∧ event e ∧ RaisedIn 137 s e ∧ e.vd.records = s.vd.records)) ∧
        (32 ≤ b.length → (header → evHcrcOk b = true ∧ evLenOk b = true ∧ used + evLen b ≤ 4194304) →
          (b.length < evLen b → Completes (wr false) s (fun e => lane .opened b e ∧ same e ∧ adds 0x24 before e)) ∧
          (evLen b ≤ b.length → Completes (wr false) s (fun e => lane .idle [] e ∧
            adds 0x24 (before + if evLen b < b.length then 1 else 0) e ∧
            (sent (b.take (evLen b)) →
              e.vd.records = s.vd.records ++ [(f.val, now.ao, b.take (evLen b))] ∧
              e.rget64 (fnAddr f 0x18) = (s.rget64 (fnAddr f 0x18) + 1) % 2 ^ 64))))))

/-- O14. GOLDEN_COPY copies the stream's next golden frame into buffers of its bank set, or counts the refusal and raises BUFFER_EXH
(FS172; R344, R351, R352). KNOWN_ANSWER_INTERVAL_END, with no golden frame waiting: an interval without a passing golden frame
leaves a coverage lapse, and the next interval starts at the end of this one with golden positions drawn afresh by R124 (R343,
R708). The model's choices and readings in it: log entries 26 and 27. -/
def Obligations.KnownAnswerInterval : Prop :=
  ∀ (n : Stream) (s : State) (p : PStream), s.dev.state ≠ .cold → s.pstream n = some p → p.num = n → hasGolden p = true →
    s.ldr.phase ≠ .blackout →
    (∀ bs mirror next used, (s.gs n).kaNext + (s.gs n).goldCopies.length < p.golden.length →
      s.frameAlloc p (s.gs n).nextBank = some (bs, mirror, next, used) →
      Completes (.goldenCopy n) s (fun e =>
        e = { s.setGs n { s.gs n with goldCopies := (s.gs n).goldCopies ++ [bs ++ mirror], nextBank := next } with
              ldg.used := used })) ∧
    ((s.gs n).kaNext + (s.gs n).goldCopies.length < p.golden.length → s.frameAlloc p (s.gs n).nextBank = none →
      Completes (.goldenCopy n) s (fun e => RaisedIn 172 s e ∧ Reacts s e)) ∧
    (∀ descs, s.goldenReady p = false → Completes (.knownAnswerIntervalEnd n descs) s (fun e =>
      let t := (s.gs n).kaStart + p.kaInterval
      t ≤ e.ao ∧ (e.stream n).kaLapse = (!(s.stream n).kaPassed || (s.stream n).kaLapse) ∧
      (e.stream n).kaPassed = false ∧ (e.stream n).score = (s.stream n).score ∧ (e.stream n).kaBad = (s.stream n).kaBad ∧
      (e.gs n).kaNum = (s.gs n).kaNum + 1 ∧ (e.gs n).kaStart = t ∧ (e.gs n).kaPos = 0 ∧ (e.gs n).kaNext = 0 ∧
      (e.gs n).kaGolden = drawIndices (s.ksw 2 n 1 ((s.gs n).kaNum + 1)) (ceilDiv p.kaInterval p.period + p.golden.length)
        p.golden.length ∧
      (e.gs n).credits = (s.gs n).credits ∧ e.vd = s.vd ∧ e.ldg = s.ldg ∧ e.dev = s.dev))

/-- O15. DIGEST_STEP reads the next step of a registered region of the tenant into ledger buffers, in a slot that schedules digest
steps (R142); DIGEST_STEP_DONE frees them, folds the bytes into the running CRC-64, and at the region's end compares it with the
plan's digest (R143): a match ends the region's standing violation, for each stream of the tenant. An error is retried once (R142,
FS199). DIGEST_INTERVAL_END: an interval without a complete pass of the tenant's regions leaves a coverage lapse (R708). The model's
choices and readings in it: log entry 27. -/
def Obligations.DigestPass : Prop :=
  ∀ (f : Fn) (i : Fin 256) (s : State) (r : PRegion), s.dev.state ≠ .cold → s.region f i = some r →
    let d := s.digest f i
    let a := mget 0 s.q.digReg (256 * f.val + i.val)
    let m := min r.step (r.len - d.off)
    let crc (data : List Byte) : Nat := crcRun 64 0x42F0E1EBA9EA3693 true d.crc.toNat (slice 0 m data)
    (∀ bs next used, a ≠ 0 → d.flying = none → s.digestSlot = true → s.ldr.phase ≠ .blackout →
      takeBufs ((List.range 16).filter (fun b => !s.ldg.failed.toNat.testBit b)) (ceilDiv m 4096) 0 s.ldg.used =
        some (bs, next, used) →
      Completes (.digestStep f i) s (fun e =>
        (e.digest f i) = { d with flying := some bs } ∧ e.ldg.used = used ∧
        e.out = .dmaRead (a + BitVec.ofNat 64 d.off) m :: s.out ∧ e.streams = s.streams ∧ e.vd.frames = s.vd.frames)) ∧
    (∀ bs data, d.flying = some bs →
      (d.off + m < r.len → Completes (.digestStepDone f i data false) s (fun e =>
        e.digest f i = { off := d.off + m, crc := BitVec.ofNat 64 (crc data), retried := false, flying := none } ∧
        (∀ b ∈ bs, mget false e.ldg.used b = false) ∧ e.streams = s.streams)) ∧
      (r.len ≤ d.off + m → (reflect 64 (crc data) ^^^ 0xFFFFFFFFFFFFFFFF) = r.digest.toNat →
        Completes (.digestStepDone f i data false) s (fun e => e.digest f i = .reset ∧ e.vd.journal = s.vd.journal ∧
          (∀ b ∈ bs, mget false e.ldg.used b = false) ∧
          ∀ p ∈ s.streamsOf f, ¬ i.val ∈ (e.stream p.num).dgBad ∧ i.val ∈ (e.stream p.num).dgRegs)) ∧
      (d.retried = false → s.ldr.phase ≠ .blackout → Completes (.digestStepDone f i data true) s (fun e =>
        RaisedIn 199 s e ∧ e.digest f i = { d with flying := none, retried := true } ∧ e.vd.journal = s.vd.journal))) ∧
    (∀ (n : Stream) (p : PStream) (w : Running), s.pstream n = some p → s.run = some w → p.runs.getLsbD 5 = true →
      s.ldr.phase ≠ .blackout → Completes (.digestIntervalEnd n) s (fun e =>
        let all := w.img.regions.all (fun x => x.fn != p.fn || (s.stream n).dgRegs.contains x.index)
        mget 0 s.vd.dgStart n + p.digestInterval ≤ e.ao ∧ (e.stream n).dgLapse = ((s.stream n).dgLapse || !all) ∧
        (e.stream n).dgRegs = [] ∧ mget 0 e.vd.dgStart n = mget 0 s.vd.dgStart n + p.digestInterval ∧
        (e.stream n).dgBad = (s.stream n).dgBad ∧ e.vd.journal = s.vd.journal ∧ e.dev = s.dev))

/-- The oldest assay result record is of kind `k` with a sound CRC: its bytes `l`, from tile `t`, for the held, admitted frame
`fr` of a bound stream without a counted result or a verdict; no blackout is in progress. -/
def resultReady (s : State) (k : Nat) (x : BitVec 512) (rest : List (BitVec 512 × Bool)) (l : List Byte) (fr : Frame)
    (p : PStream) : Prop :=
  s.dev.state ≠ .cold ∧ s.ldr.phase ≠ .blackout ∧ s.vd.results = (x, false) :: rest ∧ l = leBytes 64 x.toNat ∧
  leField l 1 1 = k ∧ recordCrcOk l = true ∧ s.frameFwd (leField l 0 1) (leField l 4 4) = some fr ∧
  s.pstream (leField l 0 1) = some p ∧ fr.golden = false ∧ fr.formed = none ∧ fr.result = none

/-- O16. ROW_CHECKSUM and REEXEC (R130, R276): a sound result record for a committed layer counts for its frame with its tile and
time (R78), raises the layer's outcome, and where it is VIOLATED marks the assay of the layer's kind VIOLATED; CANARY_OUTCOME (R135,
R276) does so for the canary assay of a frame whose CANARY record has come. The record is taken. The model's choices and readings in
it: log entries 23 and 27. -/
def Obligations.AssayResults : Prop :=
  ∀ (s : State) (x : BitVec 512) (rest : List (BitVec 512 × Bool)) (l : List Byte) (fr : Frame) (p : PStream),
    let o := leField l 2 1
    let counted (k : Nat) (e : State) : Prop := e.vd.results = rest ∧ e.vd.journal = s.vd.journal ∧
      ∃ g, e.frameFwd (leField l 0 1) (leField l 4 4) = some g ∧ g.tiles = fr.tiles ++ [(leField l 10 2, s.ao)] ∧
        g.ktiles = fr.ktiles ++ [(k, leField l 10 2)] ∧ g.formed = none ∧
        (k = 3 → g.canary = max fr.canary o) ∧ (k ≠ 3 → g.canary = fr.canary) ∧
        (∀ y ∈ p.layers, y.layer = leField l 8 2 → y.kind = 0 → k ≠ 3 → o = 3 → 3 ≤ g.row) ∧
        (∀ y ∈ p.layers, y.layer = leField l 8 2 → y.kind = 1 → k ≠ 3 → o = 3 → 3 ≤ g.reexec)
    (∀ c, s.commitOf (leField l 0 1) (leField l 4 4) (leField l 8 2) = some c → c.outcome ≤ 3 →
      fr.fwd = some (leField l 4 4) →
      (resultReady s 1 x rest l fr p → Completes .rowChecksum s (fun e => counted 1 e ∧
        ∃ d, e.commitOf (leField l 0 1) (leField l 4 4) (leField l 8 2) = some d ∧ d.outcome = max c.outcome o)) ∧
      (resultReady s 2 x rest l fr p → Completes .reexec s (fun e => counted 2 e ∧
        ∃ d, e.commitOf (leField l 0 1) (leField l 4 4) (leField l 8 2) = some d ∧ d.outcome = max c.outcome o))) ∧
    (resultReady s 3 x rest l fr p → fr.canaryRec.isSome = true → fr.fwd = some (leField l 4 4) →
      Completes .canaryOutcome s (counted 3))

/-- O17. FALLBACK: a completed run of a fall-back model that is not dual, on an admitted frame that is not TAINTED, publishes its
value with the frame's ingress stamp (R58, R276). REPEAT and FRESH: a sound record of a RESERVE tile disjoint from the original ones
marks its check of the open procedure done, with its comparison or outcome (R82, R276), where a requested pass of an original tile
is still to end. The model's choices and readings in it: log entry 23. -/
def Obligations.FallbackRepeatFresh : Prop :=
  ∀ (s : State) (x : BitVec 512) (rest : List (BitVec 512 × Bool)) (l : List Byte) (fr : Frame) (p : PStream),
    (resultReady s 4 x rest l fr p → fr.tainted = false → p.dual = false → leField l 2 1 = 1 → leField l 3 1 % 2 = 1 →
      s.quarOwes (leField l 0 1) 4 = false → Completes .fallback s (fun e => e.vd.results = rest ∧
        (e.stream (leField l 0 1)).fb = some (BitVec.ofNat 96 (leField l 24 12), fr.ingressAo) ∧
        (e.stream (leField l 0 1)).score = (s.stream (leField l 0 1)).score ∧ e.vd.frames = s.vd.frames ∧
        e.vd.journal = s.vd.journal)) ∧
    (∀ k : Nat, s.dev.state ≠ .cold → s.vd.results = (x, false) :: rest → l = leBytes 64 x.toNat → recordCrcOk l = true →
      (s.tile (leField l 10 2)).role = .reserve → k < 4 → (s.dis k).busy = true → (s.dis k).stream = leField l 0 1 →
      (s.dis k).fwd = leField l 4 4 → (s.dis k).layer = leField l 8 2 → ¬ leField l 10 2 ∈ (s.dis k).origTiles →
      (∀ j < 4, j ≠ k → (s.dis j).busy = false) → (s.dis k).failed = [] → (s.dis k).stLeft ≠ [] →
      (∀ t ∈ (s.dis k).stLeft, (s.tile t).healthy = true) → s.vd.rangeDue = [] →
      (leField l 1 1 = 5 → (s.dis k).repeatDone = false → Completes .repeatRec s (fun e =>
        e.dis k = { s.dis k with repeatDone := true, repeatSame := decide (computed l = (s.dis k).orig) } ∧
        e.vd.results = rest ∧ e.vd.journal = s.vd.journal)) ∧
      (leField l 1 1 = 6 → (s.dis k).freshDone = false → Completes .freshRec s (fun e =>
        e.dis k = { s.dis k with freshDone := true, fresh := if leField l 2 1 = 3 then 3 else 1 } ∧
        e.vd.results = rest ∧ e.vd.journal = s.vd.journal)))

/-- O18. Admission (R329 to R331): the first packet of a stream's frame, a BSF packet with FS or a CSI-2 Frame Start, is admitted
where a plan runs outside a blackout and the stream holds a reservation and a credit: it takes both and the stream's next frame
number, and is stamped with the AO count (R333). Otherwise the frame is dropped with its cause, and its packets are discarded. The
model's choices and readings in it: log entry 27. -/
def Obligations.Admission : Prop :=
  ∀ (s : State) (p : PStream) (at_ : Nat), s.dev.state ≠ .cold → s.openFrame p.num = none →
    let admitted (e : State) : Prop :=
      ∃ f, f ∈ e.vd.frames ∧ f.stream = p.num ∧ f.num = (s.gs p.num).nextNum ∧ f.golden = false ∧ f.isOpen = true ∧
        at_ ≤ f.ingressAo ∧ f.ingressAo = e.ao ∧ f.formed = none ∧ f.fwd = none ∧
        some (f.buffers, f.mirror) = (s.gs p.num).resv ∧ (e.gs p.num).credits = (s.gs p.num).credits - 1 ∧
        (e.gs p.num).nextNum = ((s.gs p.num).nextNum + 1) % 2 ^ 32 ∧ e.vd.journal = s.vd.journal
    let dropped (cause : Nat) (e : State) : Prop :=
      e.vd.frames = s.vd.frames ∧ (e.gs p.num).ldrop = cause ∧ (e.gs p.num).discarding = true ∧
      (e.gs p.num).resv = (s.gs p.num).resv ∧ (e.gs p.num).credits = (s.gs p.num).credits ∧ e.vd.journal = s.vd.journal
    (∀ (c : Fin 2) (dport : W16) (b : List Byte) (ds : List (Option (BitVec 256))),
      s.boundTo (2 + c.val) (dport.toNat, beNat (slice 8 4 b), leField b 4 1) = some p → p.src = 2 + c.val →
      bsfOk p b = true → bsfBlankBad p b = false →
      b.length = 40 + (if (leField b 3 1).testBit 2 then 0 else beNat (slice 18 2 b) * p.lbytes) →
      crc32c (b.drop 40) = beNat (slice 32 4 b) → (leField b 3 1).testBit 0 = true → (leField b 3 1).testBit 1 = false →
      s.ldr.phase ≠ .blackout →
      ((s.gs p.num).resv.isSome = true → (s.gs p.num).credits ≠ 0 →
        Completes (.bsfPacket c dport b true true ds at_) s admitted) ∧
      ((s.gs p.num).resv = none → Completes (.bsfPacket c dport b true true ds at_) s (dropped 3)) ∧
      ((s.gs p.num).resv.isSome = true → (s.gs p.num).credits = 0 →
        Completes (.bsfPacket c dport b true true ds at_) s (dropped 4))) ∧
    (∀ (port : Fin 2) (vc : Fin 16) (num : W16) (ds : List (Option (BitVec 256))), s.csiStreams port vc = [p] →
      (s.ldr.phase ≠ .blackout → (s.gs p.num).resv.isSome = true → (s.gs p.num).credits ≠ 0 →
        Completes (.csiFrameStart port vc num ds at_) s admitted) ∧
      (s.ldr.phase = .blackout → Completes (.csiFrameStart port vc num ds at_) s (dropped 2)))

/-- O19. Packets: a datagram whose form or UDP checksum fails is counted in SG_DISC, one of no bound stream in SG_UNB (R322, R324);
the payload of an accepted packet is written into the open frame at its lines (R325), the bytes of a CSI-2 line at the next line,
padded or cut to the line length (R327). ECC errors that were corrected and PHY errors are counted (R328). The model's choices and
readings in it: log entry 27. -/
def Obligations.Packets : Prop :=
  ∀ (s : State), s.dev.state ≠ .cold →
    (∀ (c : Fin 2) (dport : W16) (b : List Byte) (ok sum : Bool) (ds : List (Option (BitVec 256))) (at_ : Nat),
      (ok && sum) = false → Completes (.bsfPacket c dport b ok sum ds at_) s (fun e =>
        e.rget (0x90108 + 32 * (2 + c.val)) = setBits (s.rget (0x90108 + 32 * (2 + c.val))) 31 0
          (satAdd (2 ^ 32 - 1) (bitsOf (s.rget (0x90108 + 32 * (2 + c.val))) 31 0) 1) ∧
        e.vd = s.vd ∧ e.gate = s.gate ∧ e.dev = s.dev)) ∧
    (∀ (port : Fin 2) (vc : Fin 16) (dt : BitVec 6) (data : List Byte) (crc : Bool),
      (s.boundTo port (vc.val, dt.toNat, 0) = none → Completes (.csiLongPacket port vc dt data crc) s (fun e =>
        e.rget (0x9010C + 32 * port.val) = setBits (s.rget (0x9010C + 32 * port.val)) 31 0
          (satAdd (2 ^ 32 - 1) (bitsOf (s.rget (0x9010C + 32 * port.val)) 31 0) 1) ∧
        e.vd = s.vd ∧ e.gate = s.gate ∧ e.dev = s.dev)) ∧
      (∀ p f, s.boundTo port (vc.val, dt.toNat, 0) = some p → s.openFrame p.num = some f → s.frameNow f = f →
        f.nLines < p.active → crc = true → data.length = p.lbytes → Completes (.csiLongPacket port vc dt data crc) s (fun e =>
          ∃ g, e.openFrame p.num = some g ∧ g.nLines = f.nLines + 1 ∧ mget [] g.lines f.nLines = slice 0 p.lbytes data ∧
            g.taints = f.taints ∧ g.num = f.num ∧ e.gate = s.gate ∧ e.vd.journal = s.vd.journal)) ∧
      (∀ p f, s.boundTo port (vc.val, dt.toNat, 0) = some p → s.openFrame p.num = some f → s.frameNow f = f →
        p.active ≤ f.nLines → crc = true → Completes (.csiLongPacket port vc dt data crc) s (fun e =>
          ∃ g, e.openFrame p.num = some g ∧ g.nLines = f.nLines ∧ g.taints = f.taints ++ [6]))) ∧
    (∀ port : Fin 2,
      Completes (.csiEccError port true) s (fun e => e.vd = s.vd ∧ e.gate = s.gate ∧
        e.rget (0x90114 + 32 * port.val) = setBits (s.rget (0x90114 + 32 * port.val)) 31 0
          (satAdd (2 ^ 32 - 1) (bitsOf (s.rget (0x90114 + 32 * port.val)) 31 0) 1)) ∧
      (∀ f p, s.vd.frames = [f] → f.isOpen = true → s.pstream f.stream = some p → p.src = port.val →
        Completes (.csiEccError port false) s (fun e => ∃ g, e.vd.frames = [g] ∧ g.taints = f.taints ++ [3] ∧
          g.num = f.num ∧ e.regs = s.regs)) ∧
      Completes (.phyError port) s (fun e => e.gate = s.gate ∧ e.vd.frames.length = s.vd.frames.length ∧
        e.rget (0x90118 + 32 * port.val) = setBits (s.rget (0x90118 + 32 * port.val)) 31 0
          (satAdd (2 ^ 32 - 1) (bitsOf (s.rget (0x90118 + 32 * port.val)) 31 0) 1)))

/-- Closing (R335, R336, R345): a CSI-2 Frame End closes a stream's open frame; with every active line received it is not TAINTED by
the close, its other lines are filled, and without a descriptor it is never forwarded, receives no FWD and is counted in
SG_NODESC_s. A frame that its ingress window closes is TAINTED, which raises the source's taint fault (FS160 to FS163). -/
def closingPart : Prop :=
  ∀ (s : State) (p : PStream) (f : Frame) (ds : List (Option (BitVec 256))), s.dev.state ≠ .cold →
    s.openFrame p.num = some f → s.frameNow f = f → s.ldr.phase ≠ .blackout →
    let closed (e : State) : Prop := ∀ g, e.openFrame p.num = some g → f.same g = false
    (∀ (port : Fin 2) (vc : Fin 16) (at_ : Nat), s.csiStreams port vc = [p] → p.src < 2 → p.active ≤ f.nLines → f.taints = [] →
      s.goldenReady p = false → s.descReady p.fn p.num = none →
      Completes (.csiFrameEnd port vc ds at_) s (fun e => closed e ∧ at_ ≤ e.ao ∧ e.vd.journal = s.vd.journal ∧
        (∃ g ∈ e.vd.frames, f.same g = true ∧ g.isOpen = false ∧ g.closeAo = e.ao ∧ g.fwd = f.fwd ∧ g.tainted = f.tainted ∧
          ∀ k < p.lines, mget [] g.lines k ≠ [] ∨ p.lbytes = 0) ∧
        e.rget (0x91014 + 32 * p.num) = setBits (s.rget (0x91014 + 32 * p.num)) 31 0
          (satAdd (2 ^ 32 - 1) (bitsOf (s.rget (0x91014 + 32 * p.num)) 31 0) 1))) ∧
    (∀ n : Stream, n.val = p.num → s.pstream n = some p → p.src < 4 →
      Completes (.ingressWindowEnd n ds) s (fun e => closed e ∧ f.ingressAo + p.window ≤ e.ao ∧ RaisedIn (160 + p.src) s e ∧
        ∃ g ∈ e.vd.frames, f.same g = true ∧ g.isOpen = false ∧ g.tainted = true ∧ 7 ∈ g.taints))

/-- CREDIT_EARN gives the stream one credit, of at most 2, one frame period after the last (R330). FORWARD_DONE: a forward that ends
well leaves the frame's stored bytes at the descriptor's address and writes status FORWARDED back (R345, R406); one that ends in an
error is counted in SG_FWDERR_s and raises FS199 (R347). -/
def creditsAndForwardsPart : Prop :=
  ∀ (n : Stream) (s : State) (p : PStream), s.dev.state ≠ .cold → s.pstream n = some p →
    Completes (.creditEarn n) s (fun e => (s.gs n).creditAt + p.period ≤ e.ao ∧
      e.gs n = { s.gs n with creditAt := (s.gs n).creditAt + p.period, credits := min 2 ((s.gs n).credits + 1) } ∧
      e.vd = s.vd ∧ e.regs = s.regs ∧ e.dev = s.dev) ∧
    (∀ f g a d written, s.vd.frames.find? (fun (f : Frame) => f.stream = n.val && f.dest.isSome) = some f →
      f.dest = some (g, a, d) → s.hl.dlUp = true → leField d 12 1 = 1 →
      Completes (.forwardDone n false written) s (fun e =>
        e.out = .dma (g / 1024) (BitVec.ofNat 64 a)
            (leBytes 4 (match f.fwd with | some w => w | none => 0) ++ leBytes 4 (f.bytes p).length ++ leBytes 1 1 ++ leBytes 7 0)
          :: .dma p.fn (BitVec.ofNat 64 (leField d 0 8)) (f.bytes p) :: s.out ∧
        (∀ h ∈ e.vd.frames, f.same h = true → h.dest = none) ∧ e.vd.journal = s.vd.journal) ∧
      Completes (.forwardDone n true written) s (fun e => RaisedIn 199 s e ∧
        e.rget (0x9101C + 32 * n.val) = setBits (s.rget (0x9101C + 32 * n.val)) 31 0
          (satAdd (2 ^ 32 - 1) (bitsOf (s.rget (0x9101C + 32 * n.val)) 31 0) 1) ∧
        (∀ h ∈ e.vd.frames, f.same h = true → h.dest = none) ∧ e.vd.journal = s.vd.journal))

/-- O20. Frames close, buffers return, credits are granted and frames are forwarded: both statements above. The model's choices and
readings in it: log entry 27. -/
def Obligations.ClosingCreditsAndForwards : Prop := closingPart ∧ creditsAndForwardsPart

/-- Context `c` of tile `t` may issue (R160, R162) and the word `w` passes every test of R278 there; no blackout is in
progress. -/
def issues (s : State) (t : Tile) (c : Ctx) (w : Nat) : Prop :=
  s.canIssue t c = true ∧ s.whyNot t c w = none ∧ s.dev.state ≠ .cold ∧ s.ldr.phase ≠ .blackout

/-- Instruction `i`, of word `w`, completes with an effect on the state as an issue leaves it (a traced issue is copied into the
trace ring, R682). -/
def runsAs (s : State) (t : Tile) (c : Ctx) (w : Nat) (i : Instr) (P : State → State → Prop) : Prop :=
  issues s t c w → Completes i s (fun e => P (s.trace t c w 0) e)

/-- Instruction `i` changes its own context only, which becomes a `y` of which `Q` holds. -/
def setsCtx (s : State) (t : Tile) (c : Ctx) (w : Nat) (i : Instr) (Q : CtxSt → Prop) : Prop :=
  runsAs s t c w i (fun s0 e => ∃ y, e = s0.setCtx t c y ∧ Q y)

/-- From `x` to `y` register `k` (S0 to S15, then A0 to A3) became `v`, poisoned where `bad`, and the pc `pc`; every other
register, the context's state and what it awaits are as before. -/
def wrote (x y : CtxSt) (k : Nat) (v : W32) (bad : Bool) (pc : Nat) : Prop :=
  (∀ j, mget 0 y.regs j = if j = k then v else mget 0 x.regs j) ∧
  (∀ j, j < 20 → y.bad j = if j = k then bad else x.bad j) ∧
  y.pc = pc ∧ y.st = x.st ∧ y.haltQ = x.haltQ ∧ y.await = x.await

/-- Condition codes and sticky flags are as before. -/
def keepsCodes (x y : CtxSt) : Prop := y.z = x.z ∧ y.n = x.n ∧ y.c = x.c ∧ y.v = x.v ∧ y.flags = x.flags

/-- An arithmetic, logic or shift result `r` written to S[d] with its codes (R226) and the sticky flags `fl`. -/
def aluWrote (x y : CtxSt) (d : Nat) (r : W32) (cf vf : Bool) (fl : Byte) (bad : Bool) : Prop :=
  wrote x y d r bad (x.pc + 1) ∧ y.z = decide (r = 0) ∧ y.n = r.msb ∧ y.c = cf ∧ y.v = vf ∧ y.flags = x.flags ||| fl

/-- The condition COND of the table of R249. -/
def condTable (x : CtxSt) (k : Nat) : Prop :=
  (k = 0 ∧ x.z) ∨ (k = 1 ∧ ¬ x.z) ∨ (k = 2 ∧ x.n ≠ x.v) ∨ (k = 3 ∧ x.n = x.v) ∨ (k = 4 ∧ ¬ x.z ∧ x.n = x.v) ∨
  (k = 5 ∧ (x.z ∨ x.n ≠ x.v)) ∨ (k = 6 ∧ x.c) ∨ (k = 7 ∧ ¬ x.c) ∨ (k = 8 ∧ ¬ x.c ∧ ¬ x.z) ∨ (k = 9 ∧ (x.c ∨ x.z)) ∨
  (k = 10 ∧ x.n) ∨ (k = 11 ∧ ¬ x.n) ∨ (k = 12 ∧ x.v) ∨ (k = 13 ∧ ¬ x.v) ∨ k = 14

/-- O21. Control instructions (R248 to R251): NOP, BR, BC by the table of R249, LOOP, SLOTEND, AWAIT on a count reached or not, FCLR
and FRD, each with its next pc; no other register, code or sticky flag changes. The model's choices and readings in it: log entry
19. -/
def Obligations.TileControl : Prop :=
  ∀ (s : State) (t : Tile) (c : Ctx) (a d cond : Fin 16) (k : Byte) (target : W16),
    let x := s.ctx t c
    let next : CtxSt := { x with pc := x.pc + 1 }
    setsCtx s t c (encR 0x01 0 0 0 0) (.nop t c) (fun y => y = next) ∧
    setsCtx s t c (encB 0x02 0 0 0 target.toNat) (.br t c target) (fun y => y = { x with pc := target.toNat }) ∧
    (condTable x cond → setsCtx s t c (encB 0x03 0 cond 0 target.toNat) (.bc t c cond target)
      (fun y => y = { x with pc := target.toNat })) ∧
    (¬ condTable x cond → setsCtx s t c (encB 0x03 0 cond 0 target.toNat) (.bc t c cond target) (fun y => y = next)) ∧
    setsCtx s t c (encB 0x04 a 0 0 target.toNat) (.loop t c a target) (fun y => keepsCodes x y ∧
      wrote x y a (if x.sreg a = 0 then 0 else x.sreg a - 1) (x.bad a)
        (if (x.sreg a).toNat ≤ 1 then x.pc + 1 else target.toNat)) ∧
    setsCtx s t c (encR 0x05 0 0 0 0) (.slotend t c) (fun y => y = { next with st := .waitSlot }) ∧
    ((mget 0 (s.tile t).counters k.toNat - x.sreg a).toNat < 2 ^ 31 →
      setsCtx s t c (encB 0x06 a 0 k.toNat 0) (.await t c a k) (fun y => y = next)) ∧
    (2 ^ 31 ≤ (mget 0 (s.tile t).counters k.toNat - x.sreg a).toNat →
      setsCtx s t c (encB 0x06 a 0 k.toNat 0) (.await t c a k)
        (fun y => y = { next with st := .waitArr, await := some (k.toNat, x.sreg a) })) ∧
    setsCtx s t c (encB 0x07 0 0 k.toNat 0) (.fclr t c k) (fun y => y = { next with flags := x.flags &&& ~~~k }) ∧
    setsCtx s t c (encR 0x08 d 0 0 0) (.frd t c d)
      (fun y => keepsCodes x y ∧ wrote x y d (x.flags.zeroExtend 32) false (x.pc + 1))

/-- Moves and address registers (R252, R255, R270): the destination's new value, wrapping for ADDA and ADDAI; CTXID gives the
logical tile, the context and the present slot; ARRD an arrival counter, RXPTR a write pointer. No code and no sticky flag changes.
-/
def tileMovesPart : Prop :=
  ∀ (s : State) (t : Tile) (c : Ctx) (d a b cond : Fin 16) (ad aa : Fin 4) (imm : W32) (k : Byte),
    let x := s.ctx t c
    let puts (w : Nat) (i : Instr) (r : Nat) (v : W32) (bad : Bool) : Prop :=
      setsCtx s t c w i (fun y => keepsCodes x y ∧ wrote x y r v bad (x.pc + 1))
    puts (encI 0x3E d 0 imm.toNat) (.movi t c d imm) d imm false ∧
    (condTable x cond → puts (encR 0x3F d a b cond) (.sel t c d a b cond) d (x.sreg a) (x.bad a)) ∧
    (¬ condTable x cond → puts (encR 0x3F d a b cond) (.sel t c d a b cond) d (x.sreg b) (x.bad b)) ∧
    puts (encR 0x40 d a 0 0) (.mov t c d a) d (x.sreg a) (x.bad a) ∧
    puts (encR 0x41 ad a 0 0) (.mova t c ad a) (16 + ad) (x.sreg a) (x.bad a) ∧
    puts (encR 0x42 d aa 0 0) (.movs t c d aa) d (x.areg aa) (x.bad (16 + aa)) ∧
    puts (encI 0x43 ad 0 imm.toNat) (.ldai t c ad imm) (16 + ad) imm false ∧
    puts (encR 0x44 ad a 0 0) (.adda t c ad a) (16 + ad) (x.areg ad + x.sreg a) (x.bad (16 + ad) || x.bad a) ∧
    puts (encI 0x45 ad 0 imm.toNat) (.addai t c ad imm) (16 + ad) (x.areg ad + imm) (x.bad (16 + ad)) ∧
    (∀ l, (s.tile t).logical = some l → l < 256 → s.slot < 64 → puts (encR 0x46 d 0 0 0) (.ctxid t c d) d
      (BitVec.ofNat 32 (l + 256 * c + 16384 * s.slot)) false) ∧
    puts (encB 0x82 d 0 k.toNat 0) (.arrd t c d k) d (mget 0 (s.tile t).counters k.toNat) false ∧
    puts (encB 0x83 d 0 k.toNat 0) (.rxptr t c d k) d (BitVec.ofNat 32 (mget 0 (s.tile t).wptr k.toNat)) false

/-- O22. Signed arithmetic in its two classes (R224 to R226, R229, R231, R252): with `v` the exact result, a W-class operation keeps
its low 32 bits and sets V and OV where it lies outside the signed range; an S-class operation then gives INT_MAX or INT_MIN and
sets V and SAT. Address arithmetic, which sets no flag (R223), is O26's. A division by zero sets DZ alone. -/
def Obligations.TileArithmetic : Prop :=
  ∀ (s : State) (t : Tile) (c : Ctx) (d a b : Fin 16) (imm : W32) (sh : Byte),
    let x := s.ctx t c
    let A := x.sreg a
    let B := x.sreg b
    let p2 := x.bad a || x.bad b
    let op (sat : Bool) (w : Nat) (i : Instr) (v : Int) (cf bad : Bool) : Prop :=
      let ovf := decide (v < -2147483648 ∨ 2147483647 < v)
      let r : W32 := if sat && ovf then (if 0 < v then 0x7FFFFFFF else 0x80000000) else BitVec.ofInt 32 v
      setsCtx s t c w i (fun y => aluWrote x y d r cf ovf (if ovf then (if sat then 2 else 1) else 0) bad)
    let both (w : Nat) (iw is : Instr) (v : Int) (cf bad : Bool) : Prop :=
      op false w iw v cf bad ∧ op true (w + 2 ^ 56) is v cf bad
    let dz (w : Nat) (i : Instr) (r : W32) : Prop := setsCtx s t c w i (fun y => aluWrote x y d r false false 4 p2)
    both (encR 0x10 d a b 0) (.addW t c d a b) (.addS t c d a b) (A.toInt + B.toInt)
      (decide (2 ^ 32 ≤ A.toNat + B.toNat)) p2 ∧
    both (encR 0x12 d a b 0) (.subW t c d a b) (.subS t c d a b) (A.toInt - B.toInt) (decide (A.toNat < B.toNat)) p2 ∧
    both (encR 0x14 d a 0 0) (.negW t c d a) (.negS t c d a) (-A.toInt) false (x.bad a) ∧
    both (encR 0x16 d a 0 0) (.absW t c d a) (.absS t c d a) (if A.toInt < 0 then -A.toInt else A.toInt) false (x.bad a) ∧
    both (encR 0x18 d a b 0) (.mulW t c d a b) (.mulS t c d a b) (A.toInt * B.toInt) false p2 ∧
    (B ≠ 0 → both (encR 0x1C d a b 0) (.divW t c d a b) (.divS t c d a b) (A.toInt.tdiv B.toInt) false p2) ∧
    (B = 0 → dz (encR 0x1C d a b 0) (.divW t c d a b) (if A.msb then 0x80000000 else 0x7FFFFFFF) ∧
      dz (encR 0x1D d a b 0) (.divS t c d a b) (if A.msb then 0x80000000 else 0x7FFFFFFF)) ∧
    both (encR 0x25 d a b 0) (.shlW t c d a b) (.shlS t c d a b) (A.toInt * (2 ^ (B.toNat % 256) : Nat)) false p2 ∧
    both (encI 0x30 d a imm.toNat) (.addiW t c d a imm) (.addiS t c d a imm) (A.toInt + imm.toInt)
      (decide (2 ^ 32 ≤ A.toNat + imm.toNat)) (x.bad a) ∧
    both (encI 0x32 d a imm.toNat) (.subiW t c d a imm) (.subiS t c d a imm) (A.toInt - imm.toInt)
      (decide (A.toNat < imm.toNat)) (x.bad a) ∧
    both (encI 0x34 d a imm.toNat) (.muliW t c d a imm) (.muliS t c d a imm) (A.toInt * imm.toInt) false (x.bad a) ∧
    both (encI 0x39 d a sh.toNat) (.shliW t c d a sh) (.shliS t c d a sh) (A.toInt * (2 ^ sh.toNat : Nat)) false (x.bad a)

/-- Operations that cannot overflow (R229 to R231, R252, R253): high products, remainders, unsigned division, bitwise operations,
right shifts, minima and maxima, CLZ and POPC, with C = V = 0 and no sticky flag but DZ; CMP and CMPI set the codes of A - B and
nothing else. -/
def tileLogicPart : Prop :=
  ∀ (s : State) (t : Tile) (c : Ctx) (d a b : Fin 16) (imm : W32) (sh : Byte),
    let x := s.ctx t c
    let A := x.sreg a
    let B := x.sreg b
    let p2 := x.bad a || x.bad b
    let is (w : Nat) (i : Instr) (fl : Byte) (bad : Bool) (R : W32 → Prop) : Prop :=
      setsCtx s t c w i (fun y => ∃ r, R r ∧ aluWrote x y d r false false fl bad)
    let codes (w : Nat) (i : Instr) (M : W32) : Prop := setsCtx s t c w i (fun y =>
      y = { x with pc := x.pc + 1, z := decide (A = M), n := (A - M).msb, c := decide (A.toNat < M.toNat),
                   v := decide (A.toInt - M.toInt < -2147483648 ∨ 2147483647 < A.toInt - M.toInt) })
    let sar (n : Nat) (r : W32) : Prop := r.toInt = A.toInt / (2 ^ n : Nat)
    is (encR 0x1A d a b 0) (.mulh t c d a b) 0 p2 (fun r => r.toInt = A.toInt * B.toInt / 4294967296) ∧
    is (encR 0x1B d a b 0) (.mulhu t c d a b) 0 p2 (fun r => r.toNat = A.toNat * B.toNat / 4294967296) ∧
    (B ≠ 0 → is (encR 0x1E d a b 0) (.rem t c d a b) 0 p2 (fun r => r.toInt = A.toInt.tmod B.toInt) ∧
      is (encR 0x1F d a b 0) (.divu t c d a b) 0 p2 (fun r => r.toNat = A.toNat / B.toNat) ∧
      is (encR 0x20 d a b 0) (.remu t c d a b) 0 p2 (fun r => r.toNat = A.toNat % B.toNat)) ∧
    (B = 0 → is (encR 0x1E d a b 0) (.rem t c d a b) 4 p2 (fun r => r = A) ∧
      is (encR 0x1F d a b 0) (.divu t c d a b) 4 p2 (fun r => r = 0xFFFFFFFF) ∧
      is (encR 0x20 d a b 0) (.remu t c d a b) 4 p2 (fun r => r = A)) ∧
    is (encR 0x21 d a b 0) (.and t c d a b) 0 p2 (fun r => r = A &&& B) ∧
    is (encR 0x22 d a b 0) (.or t c d a b) 0 p2 (fun r => r = A ||| B) ∧
    is (encR 0x23 d a b 0) (.xor t c d a b) 0 p2 (fun r => r = A ^^^ B) ∧
    is (encR 0x24 d a b 0) (.andn t c d a b) 0 p2 (fun r => r = A &&& ~~~B) ∧
    is (encR 0x27 d a b 0) (.shr t c d a b) 0 p2 (fun r => r.toNat = A.toNat / 2 ^ (B.toNat % 256)) ∧
    is (encR 0x28 d a b 0) (.sar t c d a b) 0 p2 (sar (B.toNat % 256)) ∧
    is (encR 0x2A d a b 0) (.min t c d a b) 0 p2 (fun r => r.toInt = Min.min A.toInt B.toInt) ∧
    is (encR 0x2B d a b 0) (.max t c d a b) 0 p2 (fun r => r.toInt = Max.max A.toInt B.toInt) ∧
    is (encR 0x2C d a b 0) (.minu t c d a b) 0 p2 (fun r => r.toNat = Min.min A.toNat B.toNat) ∧
    is (encR 0x2D d a b 0) (.maxu t c d a b) 0 p2 (fun r => r.toNat = Max.max A.toNat B.toNat) ∧
    is (encR 0x2E d a 0 0) (.clz t c d a) 0 (x.bad a) (fun r => r.toNat ≤ 32 ∧ A.toNat < 2 ^ (32 - r.toNat) ∧
      (r.toNat < 32 → 2 ^ (31 - r.toNat) ≤ A.toNat)) ∧
    is (encR 0x2F d a 0 0) (.popc t c d a) 0 (x.bad a)
      (fun r => r.toNat = ((List.range 32).map (fun i => A.toNat / 2 ^ i % 2)).sum) ∧
    is (encI 0x36 d a imm.toNat) (.andi t c d a imm) 0 (x.bad a) (fun r => r = A &&& imm) ∧
    is (encI 0x37 d a imm.toNat) (.ori t c d a imm) 0 (x.bad a) (fun r => r = A ||| imm) ∧
    is (encI 0x38 d a imm.toNat) (.xori t c d a imm) 0 (x.bad a) (fun r => r = A ^^^ imm) ∧
    is (encI 0x3B d a sh.toNat) (.shri t c d a sh) 0 (x.bad a) (fun r => r.toNat = A.toNat / 2 ^ sh.toNat) ∧
    is (encI 0x3C d a sh.toNat) (.sari t c d a sh) 0 (x.bad a) (sar sh.toNat) ∧
    codes (encR 0x29 0 a b 0) (.cmp t c a b) B ∧ codes (encI 0x3D 0 a imm.toNat) (.cmpi t c a imm) imm

/-- O23. Tile moves, constants, logic, shifts, compares and bit operations: both statements above. The model's choices and readings
in it: log entry 19. -/
def Obligations.TileMovesAndLogic : Prop := tileMovesPart ∧ tileLogicPart

/-- A memory operand of context `c` lies at address `ea` inside its window (R242), and its read finds no ECC error. -/
def readsAt (s : State) (t : Tile) (c : Ctx) (bank ar : Nat) (disp : Int) (ecc : EccOut) (ea : Nat) : Prop :=
  ecc = .ok ∧ mget 0 (s.tile t).plant (ea / 8) = 0 ∧
  ∃ p, s.tileCfg t = some p ∧ effAddr (ptileCtx p c) (s.ctx t c) bank ar disp = some ea

/-- From `s` to `e` only tile `t` changed, and it became `v`. -/
def onlyTile (s e : State) (t : Nat) (v : TileSt) : Prop :=
  e = { s with tiles := e.tiles } ∧ e.tile t = v ∧ ∀ u, u ≠ t → e.tile u = s.tile u

/-- O24. Loads and stores (R154, R242, R256, R258): a load puts the bytes at its address, aligned down to their size, into S[D],
sign- or zero-extended, with their poison (R158); a store writes the low bytes of S[D] there and marks their 64-bit word poisoned
where S[D] or the word was. Every other byte and word of the tile's SRAM, its registers, codes and everything else is as before. The
model's choices and readings in it: log entries 17 and 19. -/
def Obligations.LoadsAndStores : Prop :=
  ∀ (s : State) (t : Tile) (c : Ctx) (d bank : Fin 16) (ar : Fin 4) (disp : W16) (ecc : EccOut) (ea : Nat),
    readsAt s t c bank ar disp.toInt ecc ea →
    let x := s.ctx t c
    let v := s.tile t
    let w (op : Nat) : Nat := encM op d bank ar 0 0 0 0 disp.toNat
    let load (op n : Nat) (sign : Bool) (i : Instr) : Prop := setsCtx s t c (w op) i (fun y => keepsCodes x y ∧
      ∃ r : W32, wrote x y d r (v.badAt (ea / n * n) n) (x.pc + 1) ∧
        (let raw := leNat (v.read (ea / n * n) n)
         if sign ∧ 2 ^ (8 * n - 1) ≤ raw then r.toInt = (raw : Int) - (2 ^ (8 * n) : Nat) else r.toNat = raw))
    let store (op n : Nat) (i : Instr) : Prop := s.flt.injTarget ≠ 1 → runsAs s t c (w op) i (fun s0 e =>
      let a := ea / n * n
      ∃ u, onlyTile s0 e t u ∧
        u = { v with ctxs := mput CtxSt.reset v.ctxs c { x with pc := x.pc + 1 }, sram := u.sram,
                     sramPoison := u.sramPoison, plant := u.plant } ∧
        (∀ b, mget 0 u.sram b = if a ≤ b ∧ b < a + n then BitVec.ofNat 8 ((x.sreg d).toNat / 2 ^ (8 * (b - a)))
                                else mget 0 v.sram b) ∧
        (∀ k, mget false u.sramPoison k = if k = a / 8 then (v.badAt a n || x.bad d) else mget false v.sramPoison k) ∧
        ∀ k, mget 0 u.plant k = if k = a / 8 then 0 else mget 0 v.plant k)
    load 0x50 4 false (.ldW t c d bank ar disp ecc) ∧ load 0x51 2 true (.ldH t c d bank ar disp ecc) ∧
    load 0x52 2 false (.ldHu t c d bank ar disp ecc) ∧ load 0x53 1 true (.ldB t c d bank ar disp ecc) ∧
    load 0x54 1 false (.ldBu t c d bank ar disp ecc) ∧ store 0x55 4 (.stW t c d bank ar disp ecc) ∧
    store 0x56 2 (.stH t c d bank ar disp ecc) ∧ store 0x57 1 (.stB t c d bank ar disp ecc)

/-- O25. STLD loads the stage rows ROW to ROW + CNT from consecutive banks at one offset (R256, R260); SEND makes the 64 B word at
its address a flit of its route (R270); RPOST makes the record there one with TILE, CTX, SLOT and CRC completed (R274), and the
result it owes counts as posted in this slot (R197). Everything else is as before. The model's choices and readings in it: log entry
19. -/
def Obligations.StagesAndSends : Prop :=
  ∀ (s : State) (t : Tile) (c : Ctx) (bank : Fin 16) (ar : Fin 4) (disp : W16) (ecc : EccOut),
    let x := s.ctx t c
    let v := s.tile t
    let next : CtxSt := { x with pc := x.pc + 1 }
    (∀ (stg : Fin 2) (row : Fin 8) (cnt hit : Fin 4) (ea : Nat → Nat),
      (∀ i, i ≤ cnt.val → readsAt s t c (bank + i) ar disp.toInt ecc (ea i)) →
      runsAs s t c (encM 0x58 0 bank ar stg row cnt 0 disp.toNat) (.stld t c stg row cnt bank ar disp hit ecc) (fun s0 e =>
        let k0 := 8 * stg.val + row.val
        ∃ u, onlyTile s0 e t u ∧
          u = { v with ctxs := mput CtxSt.reset v.ctxs c next, stages := u.stages, stagePoison := u.stagePoison } ∧
          (∀ k, mget 0 u.stages k = if k0 ≤ k ∧ k ≤ k0 + cnt then BitVec.ofNat 512 (leNat (v.word64B (ea (k - k0))))
                                    else mget 0 v.stages k) ∧
          ∀ k, k < 16 → u.stagePoison.getLsbD k = if k0 ≤ k ∧ k ≤ k0 + cnt then v.badAt (ea (k - k0) / 64 * 64) 64
                                                  else v.stagePoison.getLsbD k)) ∧
    (∀ (route : BitVec 12) (ea : Nat), readsAt s t c bank ar disp.toInt ecc ea →
      let bad := v.badAt (ea / 64 * 64) 64
      runsAs s t c (encM 0x80 0 bank ar 0 0 0 route.toNat disp.toNat) (.send t c bank ar route disp ecc) (fun s0 e =>
        e = { s0.setCtx t c next with flits := s.flits ++
              [{ route := route.toNat, data := BitVec.ofNat 512 (leNat (v.word64B ea)), poison := bad }] }) ∧
      runsAs s t c (encM 0x81 0 bank ar 0 0 0 route.toNat disp.toNat) (.rpost t c bank ar route disp ecc) (fun s0 e =>
        ∃ l, l.length = 64 ∧ slice 0 10 l = slice 0 10 (v.word64B ea) ∧ leField l 10 2 = t ∧ leField l 12 1 = c ∧
          leField l 13 1 = s.slot % 256 ∧ slice 16 48 l = slice 16 48 (v.word64B ea) ∧ recordCrcOk l = true ∧
          e.flits = s.flits ++ [{ route := route.toNat, data := BitVec.ofNat 512 (leNat l), poison := bad }] ∧
          onlyTile { s0 with flits := e.flits } e t { v with
            ctxs := mput CtxSt.reset v.ctxs c next,
            posted := (c.val, leField l 0 1, leField l 1 1, leField l 8 2) :: v.posted }))

/-- O26. The exact window (R207, R208, R211): a contribution whose terms are finite multiples of the window's least bit and keep the
value within 256 bits adds their exact sum, loses nothing and counts once. A NaN or an infinite term sets NAN; a spilled twin keeps
its value (R210). The model's choices and readings in it: log entries 12 and 15. -/
def Obligations.ExactWindow : Prop :=
  ∀ (w : Twin), w.spill = false →
    (∀ xs : List (Bool × Nat × Nat),
      let v (x : Bool × Nat × Nat) : Int := if x.1 then -((x.2.1 * 2 ^ x.2.2 : Nat) : Int) else ((x.2.1 * 2 ^ x.2.2 : Nat) : Int)
      let sum := (xs.map v).sum
      (∀ x ∈ xs, x.2.1 * 2 ^ x.2.2 < 2 ^ 255) → -(2 ^ 255 : Nat) ≤ w.value + sum → w.value + sum < (2 ^ 255 : Nat) →
      addContribution w (xs.map (fun x => Elem.fin x.1 x.2.1 (w.anchor - 255 + x.2.2))) =
        { w with value := w.value + sum, count := satAdd cntMax w.count 1 }) ∧
    (∀ xs : List Elem, Elem.nan ∈ xs → (addContribution w xs).nan = true) ∧
    (∀ xs : List Elem, addContribution { w with spill := true } xs = { w with spill := true })

/-- A twin after one contribution of the terms `xs`, with the magnitudes `ms` of a lane operation (R208, R214), before the poison
of its operands. -/
def contributed (o : Twin) (xs : List Elem) (ms : Option (List Elem)) : Twin :=
  let r := addContribution { o with nan := false, dust := 0 } xs
  match ms with
  | some m => addMagnitude r m
  | none => r

/-- The twin as the contribution leaves it: flags and dust accumulate; a spilled twin keeps everything but poison (log entry
12). -/
def accumulated (o : Twin) (xs : List Elem) (ms : Option (List Elem)) (bad : Bool) : Twin :=
  let r := contributed o xs ms
  if o.spill then { o with poison := o.poison || bad }
  else { r with nan := o.nan || r.nan, dust := satAdd cntMax o.dust r.dust, poison := o.poison || bad }

/-- The instruction makes one contribution to each of `n` twins from `tw`, of the terms, magnitudes and poison given; the twins'
events set the context's sticky flags SPILL, NAN and DUST (R228), and nothing else of the tile changes. -/
def contributes (s : State) (t : Tile) (c : Ctx) (w : Nat) (i : Instr) (tw n : Nat)
    (xs : Nat → List Elem) (ms : Nat → Option (List Elem)) (bad : Nat → Bool) : Prop :=
  let v := s.tile t
  let x := s.ctx t c
  let some_ (f : Twin → Bool) : Bool := (List.range n).any (fun r => !(v.twin (tw + r)).spill
    && f (contributed (v.twin (tw + r)) (xs r) (ms r)))
  runsAs s t c w i (fun s0 e =>
    (∀ u, u ≠ t.val → e.tile u = s0.tile u) ∧ e.vd = s.vd ∧ e.flits = s.flits ∧
    ∃ y, e.tile t = { v with ctxs := mput CtxSt.reset v.ctxs c y, twins := (e.tile t).twins } ∧
      (∀ k, (e.tile t).twin k = if tw ≤ k ∧ k < tw + n
        then accumulated (v.twin k) (xs (k - tw)) (ms (k - tw)) (bad (k - tw)) else v.twin k) ∧
      y = { x with pc := x.pc + 1, flags := y.flags } ∧
      ∀ b, b < 8 → y.flags.getLsbD b = (x.flags.getLsbD b || (b == 4 && some_ (fun r => r.spill))
        || (b == 5 && some_ (fun r => r.nan)) || (b == 6 && some_ (fun r => decide (0 < r.dust)))))

/-- O27. Lane operations (R201 to R203, R261, R262) contribute the products of the word at their address with their stage rows,
eight, four or one twin each, and CX modes those with their c-pairs; value instructions (R204, R209, R263) contribute one scaled
value. The model's choices and readings in it: log entries 15 and 19. -/
def Obligations.LanesAndValues : Prop :=
  ∀ (s : State) (t : Tile) (c : Ctx) (tw : Fin 32) (stg : Fin 2) (neg : Bool) (fa fb bank : Fin 16) (ar : Fin 4)
    (sigma : BitVec 11) (eoff rsel : Fin 8) (disp : W16) (ecc : EccOut) (eidx : Fin 64) (src : Fin 16) (ea : Nat),
    readsAt s t c bank ar disp.toInt ecc ea →
    let v := s.tile t
    let l := v.word64B ea
    let wbad := v.badAt (ea / 64 * 64) 64
    let w (op : Nat) : Nat := encL op tw stg (b2n neg) fa fb bank ar sigma.toNat eoff rsel disp.toNat
    let rows (op n : Nat) (i : Instr) : Prop :=
      let ps (r : Nat) : List Elem := (List.range (64 / fmtBytes fa)).map (fun j =>
        elemMul (wordElem fa l j) (v.stageElem stg (rsel + r) fb j) sigma.toInt neg)
      contributes s t c (w op) i tw n ps (fun r => some (ps r))
        (fun r => wbad || v.stagePoison.toNat.testBit (8 * stg + (rsel + r)))
    let pairs (op n : Nat) (wide : Bool) (i : Instr) : Prop :=
      let a (j : Nat) : Elem := wordElem fa l (8 * eoff + j)
      let cp (j : Nat) : Int × Nat := v.cpair wide stg rsel j
      contributes s t c (w op) i tw 1 (fun _ => (List.range n).map (fun j => elemMul (a j) (intElem (cp j).1) sigma.toInt neg))
        (fun _ => some ((List.range n).map (fun j => absTimes (a j) (cp j).2 sigma.toInt)))
        (fun _ => wbad || v.rowsBad stg rsel 4)
    let value (op : Nat) (i : Instr) (fa' : Nat) (e : Elem) : Prop :=
      contributes s t c (encV op tw (b2n neg) fa' eidx bank ar 0 sigma.toNat disp.toNat) i tw 1
        (fun _ => [elemScale e sigma.toInt neg]) (fun _ => none) (fun _ => wbad)
    rows 0x60 8 (.lopI8 t c tw stg neg fa fb bank ar sigma eoff rsel disp ecc true) ∧
    rows 0x61 4 (.lopF8 t c tw stg neg fa fb bank ar sigma eoff rsel disp ecc true) ∧
    rows 0x62 4 (.lopF16 t c tw stg neg fa fb bank ar sigma eoff rsel disp ecc true) ∧
    rows 0x63 1 (.lopF32 t c tw stg neg fa fb bank ar sigma eoff rsel disp ecc true) ∧
    pairs 0x64 16 false (.lopCx64 t c tw stg neg fa fb bank ar sigma eoff rsel disp ecc true) ∧
    pairs 0x65 8 true (.lopCx128 t c tw stg neg fa fb bank ar sigma eoff rsel disp ecc true) ∧
    value 0x66 (.vadd t c tw neg fa eidx bank ar sigma disp ecc true) fa (wordElem fa l eidx) ∧
    value 0x67 (.vaddc t c tw neg eidx bank ar sigma disp ecc true) 0 (intElem (sext 64 (leField l (16 * eidx) 8))) ∧
    value 0x68 (.vaddc128 t c tw neg eidx bank ar sigma disp ecc true) 0 (intElem (sext 128 (leField l (32 * eidx) 16))) ∧
    contributes s t c (encV 0x69 tw (b2n neg) 0 0 0 0 src sigma.toNat 0) (.vadds t c tw neg src sigma true) tw 1
      (fun _ => [elemScale (intElem ((s.ctx t c).sreg src).toInt) sigma.toInt neg]) (fun _ => none)
      (fun _ => (s.ctx t c).bad src)

/-- O28. Twin instructions (R215, R216, R218 to R222, R264, R266 to R269): TCLR clears the twin with its anchor; TSTORE writes its
64 B image; TJUDGE and TJUDGEY give the outcomes of their judges, TCVT the converted value, TINFO the selected field, each in S[D]
with the poison of what it was computed from. The model's choices and readings in it: log entries 12 and 14. -/
def Obligations.TwinInstructions : Prop :=
  ∀ (s : State) (t : Tile) (c : Ctx) (tw : Fin 32) (d bank bank2 : Fin 16) (ar ar2 : Fin 4) (disp disp2 : BitVec 10)
    (anchor : BitVec 11) (hit : Bool) (ecc : EccOut) (ea : Nat),
    let x := s.ctx t c
    let v := s.tile t
    let w := v.twin tw
    let field (sel : Nat) (r : W32) : Prop := ∀ k : Fin 16, k.val = sel →
      setsCtx s t c (encT 0x75 tw d k 0 0 0 0 0 0 0) (.tinfo t c tw d k)
        (fun y => keepsCodes x y ∧ wrote x y d r w.poison (x.pc + 1))
    let flagged (y : CtxSt) (cvt sat : Bool) : Prop := y.z = x.z ∧ y.n = x.n ∧ y.c = x.c ∧ y.v = x.v ∧
      y.flags = x.flags ||| (if cvt then 8 else 0) ||| (if sat then 2 else 0)
    runsAs s t c (encT 0x70 tw 0 0 anchor.toNat 0 0 0 0 0 0) (.tclr t c tw anchor) (fun s0 e => ∃ u, onlyTile s0 e t u ∧
      u = { v with ctxs := mput CtxSt.reset v.ctxs c { x with pc := x.pc + 1 }, twins := u.twins } ∧
      ∀ k, u.twin k = if k = tw then { Twin.reset with anchor := anchor.toInt } else v.twin k) ∧
    (∀ p, s.tileCfg t = some p → effAddr (ptileCtx p c) x bank ar (64 * disp.toInt) = some ea → s.flt.injTarget ≠ 1 →
      runsAs s t c (encT 0x71 tw 0 0 0 bank ar 0 0 disp.toNat 0) (.tstore t c tw bank ar disp) (fun s0 e =>
        ∃ u, onlyTile s0 e t u ∧
          u = { v with ctxs := mput CtxSt.reset v.ctxs c { x with pc := x.pc + 1 }, sram := u.sram,
                       sramPoison := u.sramPoison, plant := u.plant } ∧
          (∀ b, mget 0 u.sram b = if ea / 64 * 64 ≤ b ∧ b < ea / 64 * 64 + 64 then lget 0 w.image (b - ea / 64 * 64)
                                  else mget 0 v.sram b) ∧
          ∀ k, mget false u.sramPoison k = if k / 8 = ea / 64 then w.poison else mget false v.sramPoison k)) ∧
    (leField w.image 0 32 = lowBits 256 w.value ∧ (w.magM < 2 ^ 32 → leField w.image 32 4 = w.magM) ∧
      (w.dust < 2 ^ 32 → leField w.image 40 4 = w.dust) ∧ (w.count < 2 ^ 32 → leField w.image 44 4 = w.count) ∧
      leField w.image 48 1 = b2n w.spill + 2 * b2n w.nan ∧ leField w.image 49 1 = (w.value % 3).toNat ∧
      leField w.image 50 14 = 0 ∧ w.image.length = 64) ∧
    (readsAt s t c bank ar (64 * disp.toInt) ecc ea →
      setsCtx s t c (encT 0x72 tw d 0 0 bank ar 0 0 disp.toNat 0) (.tjudge t c tw d bank ar disp ecc) (fun y =>
        keepsCodes x y ∧ wrote x y d (BitVec.ofNat 32 (judgeRow w (judgeBlk (v.word64B ea))))
          (w.poison || v.badAt (ea / 64 * 64) 64) (x.pc + 1)) ∧
      (∀ ea2, readsAt s t c bank2 ar2 (64 * disp2.toInt) ecc ea2 →
        let j := judgeBlk (v.word64B ea)
        let r := judgeElem w j (judgeY (v.word64B ea2) ea2 j.yfmt)
        setsCtx s t c (encT 0x73 tw d 0 0 bank ar bank2 ar2 disp.toNat disp2.toNat)
          (.tjudgey t c tw d bank ar bank2 ar2 disp disp2 hit ecc) (fun y => flagged y r.2 false ∧
          wrote x y d (BitVec.ofNat 32 r.1)
            (w.poison || v.badAt (ea / 64 * 64) 64 || v.badAt (ea2 / 64 * 64) 64) (x.pc + 1)))) ∧
    (∀ sel : Fin 16,
      (8 ≤ sel.val → setsCtx s t c (encT 0x74 tw d sel 0 0 0 0 0 0 0) (.tcvt t c tw d sel) (fun y =>
        flagged y (cvtFloat w sel).2 false ∧ wrote x y d (BitVec.ofNat 32 (cvtFloat w sel).1) w.poison (x.pc + 1))) ∧
      (sel.val < 8 → setsCtx s t c (encT 0x74 tw d sel 0 0 0 0 0 0 0) (.tcvt t c tw d sel) (fun y =>
        let r := cvtInt w (8 * fmtBytes sel)
        flagged y r.2.1 r.2.2 ∧ wrote x y d (BitVec.ofInt 32 r.1) w.poison (x.pc + 1)))) ∧
    field 0 (BitVec.ofNat 32 w.dust) ∧ field 1 (BitVec.ofNat 32 w.count) ∧
    field 2 (BitVec.ofNat 32 (b2n w.spill + 2 * b2n w.nan + 256 * (w.value % 3).toNat)) ∧
    field 3 (BitVec.ofInt 32 w.anchor) ∧ field 4 (BitVec.ofNat 32 w.magM) ∧ field 5 (BitVec.ofInt 32 w.magE) ∧
    field 6 (BitVec.ofInt 32 w.value)

/-- No frame is held, the journal is empty and no disagreement procedure is open. -/
def calm (s : State) : Prop := s.vd.frames = [] ∧ s.vd.journal = [] ∧ ∀ i, (s.dis i).busy = false

/-- From `s` to `e` tile `t`, in service, was quarantined with `cause` (R189 to R191): its role, count and cause, every context
HALTED, TILE_QUAR (FS106) raised; other tiles keep theirs. -/
def quarantined (s e : State) (t cause : Nat) : Prop :=
  (e.tile t).role = .quarantined ∧ (e.tile t).qcause = cause ∧ (e.tile t).qcount = satAdd 255 (s.tile t).qcount 1 ∧
  (∀ c, c < 48 → (e.ctx t c).st = .halted ∧ (e.ctx t c).haltQ = true) ∧ RaisedIn 106 s e ∧ ∀ u, u ≠ t → e.tile u = s.tile u

/-- The instructions with one memory operand of a 16-bit displacement, by ECC outcome of the read and residue check. -/
def memoryForms (t : Tile) (c : Ctx) (d bank : Fin 16) (ar : Fin 4) (disp : W16) (route : BitVec 12) (tw : Fin 32)
    (stg : Fin 2) (neg : Bool) (fa fb : Fin 16) (sigma : BitVec 11) (eoff rsel : Fin 8) (eidx : Fin 64) :
    List (Nat × (EccOut → Bool → Instr)) :=
  let m (op : Nat) : Nat := encM op d bank ar 0 0 0 0 disp.toNat
  let r (op : Nat) : Nat := encM op 0 bank ar 0 0 0 route.toNat disp.toNat
  let l (op : Nat) : Nat := encL op tw stg (b2n neg) fa fb bank ar sigma.toNat eoff rsel disp.toNat
  let v (op : Nat) (fa : Nat) : Nat := encV op tw (b2n neg) fa eidx bank ar 0 sigma.toNat disp.toNat
  [(m 0x50, fun e _ => .ldW t c d bank ar disp e), (m 0x51, fun e _ => .ldH t c d bank ar disp e),
   (m 0x52, fun e _ => .ldHu t c d bank ar disp e), (m 0x53, fun e _ => .ldB t c d bank ar disp e),
   (m 0x54, fun e _ => .ldBu t c d bank ar disp e), (m 0x55, fun e _ => .stW t c d bank ar disp e),
   (m 0x56, fun e _ => .stH t c d bank ar disp e), (m 0x57, fun e _ => .stB t c d bank ar disp e),
   (r 0x80, fun e _ => .send t c bank ar route disp e), (r 0x81, fun e _ => .rpost t c bank ar route disp e),
   (l 0x60, fun e o => .lopI8 t c tw stg neg fa fb bank ar sigma eoff rsel disp e o),
   (l 0x61, fun e o => .lopF8 t c tw stg neg fa fb bank ar sigma eoff rsel disp e o),
   (l 0x62, fun e o => .lopF16 t c tw stg neg fa fb bank ar sigma eoff rsel disp e o),
   (l 0x63, fun e o => .lopF32 t c tw stg neg fa fb bank ar sigma eoff rsel disp e o),
   (l 0x64, fun e o => .lopCx64 t c tw stg neg fa fb bank ar sigma eoff rsel disp e o),
   (l 0x65, fun e o => .lopCx128 t c tw stg neg fa fb bank ar sigma eoff rsel disp e o),
   (v 0x66 fa, fun e o => .vadd t c tw neg fa eidx bank ar sigma disp e o),
   (v 0x67 0, fun e o => .vaddc t c tw neg eidx bank ar sigma disp e o),
   (v 0x68 0, fun e o => .vaddc128 t c tw neg eidx bank ar sigma disp e o)]

/-- What stops or spoils a tile instruction, where no frame waits for it: an operand outside its window halts the context with BND
and raises TILE_BOUNDS (FS099) and nothing else happens (R159, R242); a corrected read counts as its effect's own and raises FS096
(R157); an uncorrectable one poisons its word, raises FS097 and quarantines the tile with cause ECC_UNC (R158); a residue mismatch
raises FS103 and quarantines with cause TWIN_RESIDUE (R167); an illegal word raises FS098, is captured if it is the first and
quarantines with cause ILLEGAL (R278, R279). -/
def tileTrapsPart : Prop :=
  ∀ (s : State) (t : Tile) (c : Ctx) (d bank : Fin 16) (ar : Fin 4) (disp : W16) (route : BitVec 12) (tw : Fin 32)
    (stg : Fin 2) (neg : Bool) (fa fb : Fin 16) (sigma : BitVec 11) (eoff rsel : Fin 8) (eidx : Fin 64) (p : PTile),
    calm s → s.tileCfg t = some p →
    let x := s.ctx t c
    let a := effAddr (ptileCtx p c) x bank ar disp.toInt
    (∀ f ∈ memoryForms t c d bank ar disp route tw stg neg fa fb sigma eoff rsel eidx, ∀ (ecc : EccOut) (res : Bool),
      (a = none → runsAs s t c f.1 (f.2 ecc res) (fun s0 e => RaisedIn 99 s e ∧ e.flits = s.flits ∧
        e.tiles = (s0.setCtx t c { x with st := .halted, flags := x.flags ||| 0x80 }).tiles)) ∧
      (∀ ea, a = some ea →
        (mget 0 (s.tile t).plant (ea / 8) = 0 → issues s t c f.1 → ∃ e1 e2 : State, exec (f.2 .ok true) s = .next e1.finish ∧
          exec (f.2 .corr true) s = .next e2.finish ∧ e2.tiles = e1.tiles ∧ e2.flits = e1.flits ∧ RaisedIn 96 s e2) ∧
        runsAs s t c f.1 (f.2 .unc true) (fun _ e => quarantined s e t 1 ∧ RaisedIn 97 s e ∧
          mget false (e.tile t).sramPoison (ea / 8) = true))) ∧
    (∀ f ∈ (memoryForms t c d bank ar disp route tw stg neg fa fb sigma eoff rsel eidx).drop 10, ∀ ea,
      readsAt s t c bank ar disp.toInt .ok ea →
        runsAs s t c f.1 (f.2 .ok false) (fun _ e => quarantined s e t 3 ∧ RaisedIn 103 s e)) ∧
    (∀ (w : W64) (y : Nat), s.canIssue t c = true → s.dev.state ≠ .cold → s.ldr.phase ≠ .blackout →
      s.whyNot t c w.toNat = some y → Completes (.illegalWord t c w) s (fun e => quarantined s e t 2 ∧ RaisedIn 98 s e ∧
        (bitAt (s.rget (twAddr t 0x68)) 26 = false →
          e.rget (twAddr t 0x68) = BitVec.ofNat 32 (x.pc % 65536 + 65536 * c + 2 ^ 22 * y + 2 ^ 26) ∧
          e.rget (twAddr t 0x60) = BitVec.ofNat 32 w.toNat ∧ e.rget (twAddr t 0x64) = BitVec.ofNat 32 (w.toNat / 2 ^ 32)) ∧
        (bitAt (s.rget (twAddr t 0x68)) 26 = true → e.rget (twAddr t 0x68) = s.rget (twAddr t 0x68))))

/-- O29. The array's events: SLOT_STROBE begins the plan's next slot, cyclically, and starts the contexts of a tile that keeps its
clock at their entries (R25, R163, R297); RESIDENT_STEP runs one of 47 steps, and a passed pass is counted and stamped (R181, R182);
MESH_DELIVERY writes the flit at the write pointer of its counter's ring and counts it (R170, R272, R273), a result record goes to
its queue; AWAIT_RESUME sets a context going whose count is reached (R251). The model's choices and readings in it: log entries 24
and 25. -/
def Obligations.ArrayEvents : Prop :=
  ∀ (s : State) (r : Running), s.dev.state ≠ .cold → s.run = some r → s.ldr.phase ≠ .blackout →
    (∀ k h, calm s →
      (if r.struck ∧ r.slot + 1 < r.img.slots.length then k = r.slot + 1 ∧ h = r.hyper
       else k = 0 ∧ h = if r.struck then r.hyper + 1 else r.hyper) →
      let at_ := r.anchor + h * r.img.hper + (match r.img.slots[k]? with | some x => x.start | none => 0)
      s.pastSwitch r at_ = false → Completes .slotStrobe s (fun e => e.ao = Max.max s.ao at_ ∧
        (∃ q, e.run = some q ∧ q.slot = k ∧ q.hyper = h ∧ q.strobeAt = at_ ∧ q.struck = true ∧ q.img = r.img) ∧
        ∀ (t : Tile) (c : Ctx) (p : PTile) (z : PCtx), s.tileCfg t = some p → (s.tile t).serves = true →
          (p.ctxs.map Prod.fst).Nodup → (c.val, z) ∈ p.ctxs → s.dom (quadOf t) = .on → s.quadWant r k (quadOf t) = 0 →
          (s.ctx t c).haltQ = false →
          (∀ pc, mget .none z.entries k = .start pc →
            e.ctx t c = { s.ctx t c with st := .run, pc := pc, await := none }) ∧
          (mget .none z.entries k = .cont → e.ctx t c = { s.ctx t c with st := .run, await := none }) ∧
          (mget .none z.entries k = .none → (s.ctx t c).st ≠ .run → (s.ctx t c).st ≠ .waitArr →
            e.ctx t c = s.ctx t c))) ∧
    (∀ (t : Tile) (at_ : Nat), (s.tile t).serves = true → s.dom (quadOf t) = .on → s.notClear 69 = false →
      (s.tile t).plant = [] →
      let v := s.tile t
      let k := if v.stReq then 0 else v.stStep
      let u : TileSt := { v with stReq := false, scrub := (v.scrub % 512 + 1) % 512 }
      (∀ sig, k < 46 → Completes (.residentStep t sig [] at_) s (fun e => e.ao = Max.max s.ao at_ ∧
        e.tile t = { u with stStep := k + 1, stBusy := true } ∧ (∀ j, j ≠ t.val → e.tile j = s.tile j) ∧ e.vd = s.vd)) ∧
      (k = 46 → calm s → Completes (.residentStep t true [] at_) s (fun e =>
        e.tile t = { u with stStep := 0, stBusy := false, passAt := some (Max.max s.ao at_) } ∧
        e.rget (twAddr t 0x28) = BitVec.ofNat 32 (Max.max s.ao at_))) ∧
      (k = 46 → calm s → Completes (.residentStep t false [] at_) s (fun e => quarantined s e t 4 ∧ RaisedIn 102 s e))) ∧
    (∀ (route : BitVec 12) (data : BitVec 512) (q : PRoute) (l : Nat) (t : Nat) (p : PTile),
      r.img.routes.find? (fun x => x.num = route.toNat) = some q → q.dst = .tile l → r.place[l]? = some t →
      r.img.tiles[l]? = some p → s.pathBroken q = false → s.flt.injTarget ≠ 1 →
      let ring := mget { base := 0, len := 1 } p.rings q.counter
      let w := mget 0 (s.tile t).wptr q.counter
      let a := ring.base + 64 * w
      let delivered (flits : List Flit) (data : BitVec 512) (bad : Bool) (e : State) : Prop :=
        ∃ u, onlyTile { s with flits := flits } e t u ∧
          u = { s.tile t with sram := u.sram, sramPoison := u.sramPoison, plant := u.plant, wptr := u.wptr,
                              counters := u.counters } ∧
          (∀ b, mget 0 u.sram b = if a ≤ b ∧ b < a + 64 then BitVec.ofNat 8 (data.toNat / 2 ^ (8 * (b - a)))
                                  else mget 0 (s.tile t).sram b) ∧
          (a % 8 = 0 → ∀ k, mget false u.sramPoison k = if a / 8 ≤ k ∧ k < a / 8 + 8 then bad
                                                        else mget false (s.tile t).sramPoison k) ∧
          (∀ k, mget 0 u.counters k = if k = q.counter then mget 0 (s.tile t).counters k + 1
                                      else mget 0 (s.tile t).counters k) ∧
          ∀ k, mget 0 u.wptr k = if k = q.counter then (if w + 1 ≥ ring.len then 0 else w + 1)
                                 else mget 0 (s.tile t).wptr k
      (∀ col, q.src = .port col → Completes (.meshDelivery route data false none) s (delivered s.flits data false)) ∧
      (∀ l0 f rest, q.src = .tile l0 → s.flits = f :: rest → f.route = route.toNat →
        Completes (.meshDelivery route data false none) s (delivered rest f.data f.poison))) ∧
    (∀ (route : BitVec 12) (q : PRoute) (l0 col : Nat) (f : Flit) (rest : List Flit),
      r.img.routes.find? (fun x => x.num = route.toNat) = some q → q.src = .tile l0 → q.dst = .port col →
      q.resultQueue = true → s.pathBroken q = false → s.flits = f :: rest → f.route = route.toNat →
      recordOk (leBytes 64 f.data.toNat) = true →
      (s.tile (leField (leBytes 64 f.data.toNat) 10 2)).serves = true →
      Completes (.meshDelivery route 0 false none) s (fun e =>
        e = { s with flits := rest, vd.results := s.vd.results ++ [(f.data, f.poison)] })) ∧
    (∀ (t : Tile) (c : Ctx) (k : Nat) (n : W32), (s.ctx t c).st = .waitArr → (s.ctx t c).await = some (k, n) →
      ((mget 0 (s.tile t).counters k - n).toNat < 2 ^ 31 → s.dom (quadOf t) = .on → s.notClear 69 = false →
        Completes (.awaitResume t c) s (fun e => e = s.setCtx t c { s.ctx t c with st := .run, await := none })) ∧
      (2 ^ 31 ≤ (mget 0 (s.tile t).counters k - n).toNat → Completes (.awaitResume t c) s (fun e => e = s)))

/-- Deep tests and the array's health: DEEP_TEST_START takes the QUARANTINED tile, else the SPARE tile, whose last deep test is the
longest ago, of equal ones the lowest-numbered (R186); DEEP_TEST_END gives it the role of R188, and a failed test counts as a
quarantine with cause DEEP_TEST (R189). TILE_HEALTH_WRITE writes the record that is due with the next sequence number (R643, R660).
DROOP_EVENT is counted, raises FS073 and costs the slot its cycles (R195, R624). -/
def arrayHealthPart : Prop :=
  ∀ (s : State), s.dev.state ≠ .cold → s.ldr.phase ≠ .blackout →
    (∀ t, s.deepNext = some t → s.deepTile = none → s.run.isSome = true →
      ((s.tile t).role = .quarantined ∨ ((s.tile t).role = .spare ∧ ∀ u, u < 192 → (s.tile u).role ≠ .quarantined)) ∧
      (∀ u, u < 192 → (s.tile u).role = (s.tile t).role →
        (s.tile t).dtLast ≤ (s.tile u).dtLast ∧ (u < t → (s.tile t).dtLast < (s.tile u).dtLast)) ∧
      Completes .deepTestStart s (fun e => e.vd = s.vd ∧ (∀ u, u ≠ t → e.tile u = s.tile u) ∧
        e.tile t = { s.tile t with role := .deepTest, dtFromQ := decide ((s.tile t).role = .quarantined) })) ∧
    (∀ t at_ pass loop, s.deepTile = some t →
      let v := s.tile t
      let now := Max.max s.ao at_
      (pass = true → loop = true → Completes (.deepTestEnd pass loop at_) s (fun e => e.ao = now ∧
        e.tile t = { v with dtLast := now, dtFromQ := false, role := if v.qcount ≤ 2 then .spare else .failed } ∧
        (2 < v.qcount → e.store.thrDirty = true) ∧ ∀ u, u ≠ t → e.tile u = s.tile u)) ∧
      ((pass && loop) = false → Completes (.deepTestEnd pass loop at_) s (fun e => e.ao = now ∧
        e.tile t = { v with dtLast := now, dtFromQ := false, qcount := satAdd 255 v.qcount 1, qcause := 9,
                            role := if loop then .failed else .failedRouter } ∧
        e.store.thrDirty = true ∧ RaisedIn 106 s e ∧ RaisedIn 109 s e ∧ ∀ u, u ≠ t → e.tile u = s.tile u))) ∧
    (s.store.thrDirty = false → Completes .tileHealthWrite s (fun e => e = s)) ∧
    (s.store.thrDirty = true → s.dev.phys.flashOk = true → Completes .tileHealthWrite s (fun e =>
      ∃ h : HealthRec, h.seq = (match s.healthRec with | some o => o.seq + 1 | none => 1) ∧
        (∀ t, t < 192 → mget (0, 0) h.health t = (if (s.tile t).role = .failed then 5
          else if (s.tile t).role = .failedRouter then 6 else 0, (s.tile t).qcount)) ∧
        (∀ a b, s.store.thr0 = some a → s.store.thr1 = some b →
          e = (if seqNewer a.seq b.seq then { s with store.thrDirty := false, store.thr1 := some h }
               else { s with store.thrDirty := false, store.thr0 := some h })))) ∧
    ∀ (q : Fin 48) (n : Fin 8), Completes (.droopEvent q n) s (fun e => RaisedIn 73 s e ∧
      e.pm.lostSlot = s.pm.lostSlot + n.val + 1 ∧ e.tiles = s.tiles ∧
      e.pm.lostQuad = (if s.pm.lostSlot = 0 then q.val else s.pm.lostQuad) ∧ e.vd.journal = s.vd.journal)

/-- O30. Illegal words, memory and link faults of the tiles, quarantine and deep tests: both statements above. The model's choices
and readings in it: log entries 19 and 24. -/
def Obligations.TileTrapsAndHealth : Prop := tileTrapsPart ∧ arrayHealthPart

/-- O31. Plan loads, phase by phase (R304 to R307, R299): HEADER to AUTH to SCAN, PLACE to VERIFY to armed; a failed check refuses
the load with its code, raises FS225 and leaves the plan that runs as it is (R306). The first boundary starts a first-loaded plan
and enters RUN, or DEGRADED where a degrading condition stands (R32, R307). The model's choices and readings in it: log entries 7
and 26. -/
def Obligations.PlanLoads : Prop :=
  ∀ (s : State) (i : PlanImage) (n : Nat) (build back : Bool), s.dev.state ≠ .cold → s.ldr.img = some i →
    let ply (src : Bool) : Instr := .planLoadPly n src build back
    let refused (code : Nat) (e : State) : Prop := e.ldr.phase = .idle ∧ e.ldr.refuse = code ∧ e.ldr.img = none ∧
      e.run = s.run ∧ RaisedIn 225 s e
    (s.ldr.phase = .header →
      (s.planHead s.ldr.cap i = none →
        Completes (ply true) s (fun e => e = { s with ldr.phase := .auth, ldr.bytes := sigEnd i })) ∧
      (∀ c k, s.planHead s.ldr.cap i = some (c, k) → s.ldr.first = false → Completes (ply true) s (refused c)) ∧
      (s.ldr.first = false → Completes (ply false) s (refused 0x12))) ∧
    (s.ldr.phase = .auth →
      (s.planAuth i = none → Completes (ply true) s (fun e => e = { s with ldr.phase := .scan })) ∧
      (∀ c k, s.planAuth i = some (c, k) → s.ldr.first = false → Completes (ply true) s (refused c))) ∧
    (s.ldr.phase = .scan →
      (s.ldr.bytes + n < i.imglen → Completes (ply true) s (fun e => e = { s with
        ldr.bytes := s.ldr.bytes + n,
        ldr.nsec := (i.secs.filter (fun x => x.offset + x.len ≤ s.ldr.bytes + n)).length })) ∧
      (∀ c k, i.imglen ≤ s.ldr.bytes + n → s.planScan i = some (c, k) → s.ldr.first = false →
        Completes (ply true) s (refused c)) ∧
      (i.imglen ≤ s.ldr.bytes + n → s.planScan i = none → s.ldr.first = true →
        Completes (ply true) s (fun e => e.ldr.phase = .place ∧ e.ldr.bytes = i.imglen ∧ e.run = s.run ∧ e.tiles = s.tiles))) ∧
    (s.ldr.phase = .place →
      (∀ pl rs, s.placement i = .ok pl rs → build = true →
        Completes (ply true) s (fun e => e = { s with ldr.phase := .verify, ldr.place := pl })) ∧
      (∀ pl rs, s.placement i = .ok pl rs → build = false → s.ldr.first = false → Completes (ply true) s (refused 0x10)) ∧
      (∀ c, s.placement i = .refused c → s.ldr.first = false → Completes (ply true) s (refused c))) ∧
    (s.ldr.phase = .verify →
      (back = true → Completes (ply true) s (fun e => e = { s with ldr.phase := .armed, ldr.armedAt := s.ao })) ∧
      (back = false → s.ldr.first = false → Completes (ply true) s (refused 0x10))) ∧
    (s.ldr.phase = .armed → s.ldr.first = true → s.dev.state = .planLoad → Completes .planFirstBoundary s (fun e =>
      e.ao = Max.max s.ao (s.ldr.armedAt + 1) ∧ e.ldr.phase = .idle ∧ e.kv.session.isSome = true ∧ e.vd.frames = [] ∧
      ((∀ n, (s.srcCfg n).has 6 = false) →
        e.dev.state = if { s.dev.degr with banks := 0, tileNoSpare := false }.any then .degraded else .run) ∧
      ∃ r, e.run = some r ∧ r.place = s.ldr.place ∧ r.anchor = e.ao ∧ r.slot = 0 ∧ r.struck = false ∧
        r.img.planId = i.planId ∧ r.img.streams = i.streams ∧ r.img.slots = i.slots))

/-- O32. Plan switches (R313, R314, R316, R72): boundary B is the first hyperperiod boundary after arming, at or after the target;
there the device enters PLAN_LOAD with a blackout, contexts stop, flits and evidence are given up, and a frame without a verdict
receives DOUBT with PLAN_SWITCH. Placement that ends well starts the new plan at B' and ends the blackout; one that fails, or is not
done at B + 2 ms, raises FS224 and FS225 and leaves no plan running. No source has reaction H where the new plan's start is to end
in RUN or DEGRADED. The model's choices and readings in it: log entries 7 and 26. -/
def Obligations.PlanSwitches : Prop :=
  ∀ (s : State) (r : Running), s.dev.state ≠ .cold → s.run = some r →
    (0 < r.img.hper → r.anchor ≤ s.ldr.armedAt →
      let b := nextBoundary r s.ldr.armedAt s.ldr.target
      (∃ k, b = r.anchor + k * r.img.hper) ∧ s.ldr.armedAt < b ∧ s.ldr.target ≤ b ∧
        b < Max.max (s.ldr.armedAt + 1) s.ldr.target + r.img.hper) ∧
    (s.ldr.phase = .armed → s.ldr.first = false → s.dev.state = .run ∨ s.dev.state = .degraded → s.vd.rangeDue = [] →
      (∀ i, (s.dis i).busy = false) →
      (s.vd.frames = [] → Completes .planSwitchBoundary s (fun e =>
        e.ldr.b = Max.max s.ao (nextBoundary r s.ldr.armedAt s.ldr.target) ∧ e.ao = e.ldr.b ∧ e.ldr.phase = .blackout ∧
        e.dev.state = .planLoad ∧ e.dev.blackout = true ∧ e.flits = [] ∧ e.vd.commits = [] ∧ e.vd.reveals = [] ∧
        e.vd.results = [] ∧ e.vd.journal = s.vd.journal ∧ e.kv.session.isSome = true ∧
        ∀ t c, (s.tile t).role ≠ .deepTest → (s.ctx t c).haltQ = false → (e.ctx t c).st = .idle)) ∧
      (∀ f p, s.vd.frames = [f] → f.golden = false → f.formed = none → f.stream < 64 → s.pstream f.stream = some p →
        Completes .planSwitchBoundary s (fun e => verdictWritten s e f.stream f.num 2 0xD))) ∧
    (∀ i at_, s.ldr.phase = .blackout → s.ldr.img = some i → s.ao ≤ at_ → at_ < s.ldr.b + 100000 →
      (s.dev.state = .planLoad → (∀ n, (s.srcCfg n).has 6 = false) → Completes (.planSwitchPlaced at_ true) s (fun e => e.ao = at_ + 1 ∧ e.ldr.phase = .idle ∧
        e.dev.blackout = false ∧
        (e.dev.state = if { s.dev.degr with banks := 0, tileNoSpare := false }.any then .degraded else .run) ∧
        ∃ q, e.run = some q ∧ q.place = s.ldr.place ∧ q.anchor = at_ + 1 ∧ q.slot = 0 ∧ q.struck = false ∧
          q.img.planId = i.planId ∧ q.img.streams = i.streams)) ∧
      Completes (.planSwitchPlaced at_ false) s (fun e => e.run = none ∧ e.dev.blackout = false ∧ e.ao = at_ ∧
        RaisedIn 224 s e ∧ RaisedIn 225 s e)) ∧
    (s.ldr.phase = .blackout → Completes .planSwitchTimeout s (fun e => e.run = none ∧ e.dev.blackout = false ∧
      e.ao = Max.max s.ao (s.ldr.b + 100000) ∧ RaisedIn 224 s e ∧ RaisedIn 225 s e))

/-- Function `f` was reset from `s` to `e` (R361): its registers are at reset, its cursor stands at the newest record with nothing
lost, its rings but the reeve's internal ones, its masks, lanes and registrations are gone, and its mailbox is empty. -/
def functionReset (s e : State) (f : Nat) : Prop :=
  (∀ a, fnAddr f 0 ≤ a → a < fnAddr f 0x10000 → e.rget a = regReset a) ∧
  mget 0 e.vd.cursor f = s.vd.jseq ∧ mget 0 e.vd.lost f = 0 ∧
  (∀ g, g < 1024 → internalRing (ringId f g) = false → e.ring (ringId f g) = .reset) ∧
  (∀ v, v < 32 → mget true e.hl.vmask (32 * f + v) = true ∧ mget false e.hl.vpend (32 * f + v) = false) ∧
  (∀ k, k < 64 → mget none e.q.revReg (64 * f + k) = none) ∧ (∀ k, k < 256 → mget 0 e.q.digReg (256 * f + k) = 0) ∧
  e.chan2 f 0 = .reset

/-- O33. The link (R355, R361, R362, R385 to R387): DL_Down resets every function and raises FS198; PERST# low takes the link down;
10 ms without link power its domains off; PERST# high lets it train again; LINK_UP brings it up. A function level reset and the
removal of a virtual function reset that function. The model's choices and readings in it: log entries 10 and 28. -/
def Obligations.LinkAndResets : Prop :=
  ∀ (s : State) (f : Fn) (at_ : Nat) (n : Fin 64), s.dev.state ≠ .cold →
    let now := Max.max s.ao at_
    let down (e : State) : Prop := e.ao = now ∧ e.hl.dlUp = false ∧ e.hl.speed = 0 ∧ e.hl.width = 0 ∧
      e.hl.vfEnable = false ∧ e.hl.numVfs = 0 ∧ RaisedIn 198 s e ∧ e.vd.journal = s.vd.journal ∧
      ∀ f, f < 64 → mget 0 e.vd.cursor f = s.vd.jseq ∧ mget 0 e.vd.lost f = 0
    (s.hl.dlUp = true → Completes (.linkDown at_) s down) ∧
    (s.hl.dlUp = false → Completes (.linkDown at_) s (fun e => e = { s with ao := now })) ∧
    (s.hl.dlUp = true → s.dev.perstN = true → Completes (.perstNAssert at_) s (fun e => down e ∧ e.dev.perstN = false ∧
      e.hl.serves = false)) ∧
    (∀ t, s.hl.dlUp = false → s.hl.powered = true → s.hl.downAt = some t → Completes .hostLinkPowerOff s (fun e =>
      e.ao = Max.max s.ao (t + 500000) ∧ e.dom 0x45 = .off ∧ e.dom 0x46 = .off ∧ e.hl.powered = false ∧
      (∀ d, d ≠ 0x45 → d ≠ 0x46 → e.dom d = s.dom d) ∧ e.regs = s.regs ∧ e.vd = s.vd)) ∧
    (s.dev.perstN = false → Completes (.perstNRelease at_) s (fun e => e.ao = now ∧ e.dev.perstN = true ∧
      e.hl.serves = false ∧ e.hl.powered = true ∧ e.hl.dlUp = s.hl.dlUp ∧ e.regs = s.regs ∧ e.vd = s.vd)) ∧
    (∀ (sp : BitVec 3) (w : BitVec 5), s.hl.dlUp = false → s.dev.perstN = true → s.dom 0x45 = .on → s.dom 0x46 = .on →
      s.pm.pllBad.getLsbD 5 = false → 1 ≤ sp.toNat → sp.toNat ≤ 5 → w ∈ ([1, 2, 4, 8, 16] : List (BitVec 5)) →
      Completes (.linkUp sp w at_) s (fun e => e.ao = now ∧ e.hl.dlUp = true ∧ e.hl.speed = sp ∧ e.hl.width = w ∧
        e.hl.downAt = none ∧ e.vd = s.vd ∧ e.flt = s.flt ∧ e.run = s.run)) ∧
    (s.hl.dlUp = true → s.hl.serves = true → f.val ∈ s.fns → Completes (.functionLevelReset f) s (fun e =>
      functionReset s e f ∧ mget false e.hl.flr f = true ∧ e.vd.journal = s.vd.journal ∧ e.flt = s.flt ∧ e.streams = s.streams ∧
      ∀ a, a < fnAddr f 0 ∨ fnAddr f 0x10000 ≤ a → e.rget a = s.rget a)) ∧
    (mget false s.hl.flr f = true → Completes (.functionLevelResetComplete f) s (fun e => mget false e.hl.flr f = false ∧
      e.vd = s.vd ∧ e.flt = s.flt ∧ (f ≠ 0 → e = { s with hl.flr := e.hl.flr }))) ∧
    (s.hl.dlUp = true → s.hl.serves = true → s.hl.vfEnable = true → Completes (.vfDisable false n) s (fun e =>
      e.fns = [0] ∧ (∀ f, 0 < f → f ≤ s.hl.numVfs → s.hl.numVfs < 64 → functionReset s e f) ∧ e.vd.journal = s.vd.journal))

/-- O34. Requests over the link: a configuration request is answered, with Retry Status where nothing serves it (R387), and sets VF
Enable and the Function Mask; FN_DRV_WRITE records the version announced and whether it lies in the porter's range, F00's outside it
holding the device in MISMATCH_HOLD (R31, R359); an aperture read returns the ledger's bytes, a write of ring state is taken, a
malformed access is reported and has no effect (R366, R367); an unmasked vector signals its pending event once (R374), as the end of
a ring's moderation does (R402); a digest read that times out counts as an error completion (R356). The model's choices and readings
in it: log entries 28 and 49. -/
def Obligations.LinkRequests : Prop :=
  ∀ (s : State) (f : Fn) (v : Fin 32), s.dev.state ≠ .cold → s.ldr.phase ≠ .blackout →
    (s.hl.dlUp = true → s.hl.serves = false → ∀ vfs fm, Completes (.configRequest f vfs fm) s (fun e =>
      e = { s with out := .cfgAnswer f false :: s.out })) ∧
    (s.hl.dlUp = true → s.hl.serves = true → f.val ∈ s.fns →
      Completes (.configRequest f none none) s (fun e => e = { s with out := .cfgAnswer f true :: s.out }) ∧
      (∀ m, Completes (.configRequest f none (some m)) s (fun e => mget false e.hl.fmask f = m ∧ e.vd = s.vd ∧
        (m = true → e.out = .cfgAnswer f true :: s.out))) ∧
      (∀ (n : Fin 64), s.hl.vfEnable = false → f = 0 → Completes (.configRequest f (some (true, n)) none) s (fun e =>
        e.fns = List.range (n.val + 1) ∧ e.out = .cfgAnswer f true :: s.out))) ∧
    (s.fnLive f = true → s.porterLive = true →
      let a := fnAddr f 4
      let flags (e : State) (ok bad : Bool) (w : W32) : Prop := e.rget (fnAddr f 0x0C) = w ∧
        bitAt (e.rget a) 4 = ok ∧ bitAt (e.rget a) 5 = bad
      Completes (.fnDrvWrite f 0) s (fun e => flags e false false 0 ∧ e.dev = s.dev) ∧
      (∀ w : W32, w ≠ 0 → s.rv.abi.1 ≤ w.toNat / 65536 → w.toNat / 65536 ≤ s.rv.abi.2 →
        Completes (.fnDrvWrite f w) s (fun e => flags e true false w ∧ e.dev = s.dev)) ∧
      (∀ w : W32, w ≠ 0 → (w.toNat / 65536 < s.rv.abi.1 ∨ s.rv.abi.2 < w.toNat / 65536) →
        Completes (.fnDrvWrite f w) s (fun e => flags e false true w ∧ (f ≠ 0 → e.dev = s.dev) ∧
          (f = 0 → s.dev.state = .run ∨ s.dev.state = .degraded ∨ s.dev.state = .planLoad →
            e.dev.state = .mismatchHold ∧ ∀ n, n < 64 → (e.stream n).hMismatch = true)))) ∧
    (s.fnLive 0 = true → ∀ (off : BitVec 23) (len : Fin 513), len.val ≠ 0 →
      (off.toNat % 4096 + len ≤ 4096 → Completes (.apertureAccess off none len false) s (fun e =>
        let a := 0x800000 * bitsOf (s.rget 0x18) 0 0 + off.toNat
        e = { s with out := .ledgerData a (s.ledgerRead a len) false :: s.out, freeCtr := s.freeCtr + len })) ∧
      (4096 < off.toNat % 4096 + len → Completes (.apertureAccess off none len false) s (fun e =>
        RaisedIn 197 s e ∧ e.vd.journal = s.vd.journal ∧ e.q.rings = s.q.rings)) ∧
      (off.toNat < 0x7E00 → off.toNat % 32 < 20 → bitsOf (s.rget 0x18) 0 0 = 0 → ∀ b : Byte,
        Completes (.apertureAccess off (some [some b]) len false) s (fun e => (∀ j, j < 20 →
          lget 0 (e.ring (off.toNat / 32)).bytes j =
            if j = off.toNat % 32 then b else lget 0 (s.ring (off.toNat / 32)).bytes j) ∧
          (∀ g, g ≠ off.toNat / 32 → e.ring g = s.ring g) ∧ e = { s with q.rings := e.q.rings }))) ∧
    (s.fnLive f = true →
      (mget false s.hl.vpend (32 * f + v) = true → mget false s.hl.fmask f = false →
        Completes (.msixUnmask f v) s (fun e => e.out = .msix f v :: s.out ∧
          mget true e.hl.vmask (32 * f + v) = false ∧ mget false e.hl.vpend (32 * f + v) = false ∧ e.vd = s.vd)) ∧
      (mget false s.hl.vpend (32 * f + v) = false → Completes (.msixUnmask f v) s (fun e => e.out = s.out ∧
        mget true e.hl.vmask (32 * f + v) = false ∧ e.vd = s.vd))) ∧
    (∀ (ring : Fin 1024) t, let r := s.ring (ringId f ring)
      r.sigPend = true → r.lastSig = some t → r.vec = v → mget true s.hl.vmask (32 * f + v) = false →
      mget false s.hl.fmask f = false → Completes (.vectorModerationEnd f ring) s (fun e =>
        e.ao = Max.max s.ao (t + 50 * r.mod) ∧ e.out = .msix f v :: s.out ∧
        e.ring (ringId f ring) = { r with sigPend := false, lastSig := some e.ao })) ∧
    (∀ (i : Fin 256) g bs, s.region f i = some g → (s.digest f i).flying = some bs → (s.digest f i).retried = false →
      Completes (.dmaReadTimeout (.digest f i)) s (fun e => RaisedIn 199 s e ∧
        e.digest f i = { s.digest f i with flying := none, retried := true } ∧ e.vd.journal = s.vd.journal))

/-- F00 reaches the device register at `o`, whose domain is present; its row of the register table is `r`. -/
def f00Reaches (s : State) (o : BitVec 24) (r : RegRow) : Prop :=
  s.dev.state ≠ .cold ∧ s.fnLive 0 = true ∧ o.toNat < 0xF0000 ∧ o.toNat % 4 = 0 ∧ regMapped o.toNat = true ∧
  regRow o.toNat = some r ∧ s.absentDom o.toNat = none ∧ mget none s.hl.dx 3 = none

/-- A register that no reaction to a fault writes. -/
def quietReg (a : Nat) : Prop := a < 0x10000 ∨ (0x30000 ≤ a ∧ a < 0x60000) ∨ (0x80000 ≤ a ∧ a < 0x100000)

/-- An access error from `s` to `e` (R377): its bit of ID_ACCERR, the offset in ID_ACCADDR, one more in ID_ACCCNT, FS192
raised. -/
def accessError (s e : State) (bit off : Nat) : Prop :=
  bitAt (e.rget 0x20) bit = true ∧ bitsOf (e.rget 0x24) 23 0 = off % 2 ^ 24 ∧
  e.rget64 0x28 = (s.rget64 0x28 + 1) % 2 ^ 64 ∧ RaisedIn 192 s e

/-- O35. Register writes (R8, R16, R357, R375, R376, R379): in the ID_, SG_, VD_, PL_ and ST_ blocks RW bits take the value written,
W1C bits written with 1 are cleared and the others stay; a change of an XP field outside test-unlock takes effect and is reported. A
write that is misaligned, to an unmapped offset or to an absent domain is an access error, one to a safety-domain register is
discarded and raises FIREWALL (FS009), one that arrives poisoned is discarded and reported (FS197). A write of SNAP captures the
block's registers (R383). The model's choices and readings in it: log entries 46 and 47. -/
def Obligations.RegisterWrites : Prop :=
  ∀ (s : State) (o : BitVec 24) (r : RegRow) (v : W64) (len : Fin 65), f00Reaches s o r →
    let a := o.toNat
    let w : W32 := v.setWidth 32
    let stored : W32 := let m := BitVec.ofNat 32 (r.rw ||| r.xp)
      ((s.rget a &&& ~~~m) ||| (w &&& m)) &&& ~~~(w &&& BitVec.ofNat 32 r.w1c)
    let plain : Prop := a / 0x10000 ∈ [0, 9, 10, 11, 12] ∧ regWritable a = true ∧ maxMask a = none
    let only (e : State) : Prop := e = { s with regs := e.regs } ∧ e.rget a = stored ∧ ∀ b, b ≠ a → e.rget b = s.rget b
    let same : Prop := s.xpChanges a w = false
    (plain → snapSet a = [] → same → len.val = 4 →
      Completes (.registerWrite (.host 0) (.dev o) len v false) s only) ∧
    (plain → snapSet a = [] → same → r.w1c ≠ 0 → Completes (.w1cWrite (.host 0) (.dev o) w) s only) ∧
    (plain → snapSet a = [] → s.xpChanges a w = true → s.testUnlock = false → a ≠ 0x20 → len.val = 4 →
      Completes (.registerWrite (.host 0) (.dev o) len v false) s (fun e =>
        accessError s e 12 a ∧ (quietReg a → a ≠ 0x24 → a ≠ 0x28 → a ≠ 0x2C → e.rget a = stored))) ∧
    (plain → snapSet a ≠ [] → same → bitAt w 0 = true → Completes (.snapshot (.host 0) (.dev o) w) s (fun e =>
      ∃ s1, only s1 ∧ e = { s1 with hl.snap := e.hl.snap } ∧ ∀ b ∈ snapSet a, mget (regReset b) e.hl.snap b = s1.regLive b)) ∧
    (copiesBlock a = true → regWritable a = false → len.val = 4 → a / 0x10000 ≠ 3 →
      Completes (.registerWrite (.host 0) (.dev o) len v false) s (fun e => RaisedIn 9 s e ∧ e.vd.journal = s.vd.journal ∧
        (quietReg a → e.rget a = s.rget a))) ∧
    (len.val ≠ 4 → len.val ≠ 8 → Completes (.registerWrite (.host 0) (.dev o) len v false) s (fun e => accessError s e 10 a)) ∧
    (Completes (.registerWrite (.host 0) (.dev o) len v true) s (fun e => RaisedIn 197 s e ∧
      (quietReg a → a ≠ 0x30 → e.rget a = s.rget a))) ∧
    (∀ (u : BitVec 24), u.toNat % 4 = 0 → u.toNat < 0xF0000 → regMapped u.toNat = false → copiesBlock u.toNat = false →
      u.toNat ≠ dxToken + 0x8000 → len.val = 4 → Completes (.registerWrite (.host 0) (.dev u) len v false) s
        (fun e => accessError s e 9 u.toNat)) ∧
    (∀ (u : BitVec 24), u.toNat / 0x10000 = 5 → regMapped u.toNat = true → u.toNat % 4 = 0 → s.dom 0x4F = .off → len.val = 4 →
      Completes (.registerWrite (.host 0) (.dev u) len v false) s (fun e => accessError s e 8 u.toNat ∧
        bitsOf (e.rget 0x20) 7 0 = 0x4F))

/-- Register reads (R8, R376, R379, R383, R705, R91, R93, R197): the low word of a 64-bit register is returned and latches its high
words for the reader's class; a read of an unmapped offset returns 0, one of an absent domain 0xBAD0_00nn, each an access error; a
maximum returns its value and is set to 0, as a write of any value sets it; VRW_LOST and TW_OVR return their counts and clear them,
and VRW_POP moves the cursor past the record it stands at. -/
def registerReadsPart : Prop :=
  ∀ (s : State) (o : BitVec 24) (r : RegRow) (v : W32) (len : Fin 65) (f : Fn) (t : Tile), f00Reaches s o r →
    let a := o.toNat
    let unlatched (who : Initiator) (a : Nat) : Prop := mget none s.hl.latches (latchKey who a) = none
    (latchHighs a ≠ [] → maxMask a = none → a / 0x10000 ≠ 5 → unlatched (.host 0) a →
      Completes (.lowWordRead (.host 0) (.dev o)) s (fun e =>
        e = { s with out := .readData a (s.shown a) :: s.out, hl.latches := e.hl.latches } ∧
        (∀ h ∈ latchHighs a, mget none e.hl.latches (latchKey (.host 0) h) = some (s.shown h)) ∧
        ∀ k, (∀ h ∈ latchHighs a, k ≠ latchKey (.host 0) h) → mget none e.hl.latches k = mget none s.hl.latches k)) ∧
    (∀ b m, maxMask b = some m ↔ (b, m) ∈ [(0xA0050, 0xFFFFFFFF), (0xB0048, 0xFFFF), (0x10020, 0xFFF), (0x20058, 0x7F),
        (0x30010, 0xFFFC000), (0x60050, 0xFFFF)] ∨ 0x30200 ≤ b ∧ b < 0x30300 ∧ m = 0xFFFFFFFF) ∧
    (∀ m, maxMask a = some m → unlatched (.host 0) a →
      Completes (.maximumRead (.host 0) (.dev o)) s (fun e => e.out = .readData a (s.shown a) :: s.out ∧
        e.rget a = s.rget a &&& ~~~(BitVec.ofNat 32 m) ∧ mget 0 e.fregs a &&& BitVec.ofNat 32 m = 0 ∧
        (∀ b, b ≠ a → e.rget b = s.rget b) ∧ e.flt = s.flt) ∧
      Completes (.maximumWrite (.host 0) (.dev o) v) s (fun e => e.out = s.out ∧
        e.rget a = s.rget a &&& ~~~(BitVec.ofNat 32 m) ∧ mget 0 e.fregs a &&& BitVec.ofNat 32 m = 0 ∧
        (∀ b, b ≠ a → e.rget b = s.rget b) ∧ e.flt = s.flt)) ∧
    (∀ (u : BitVec 24), u.toNat % 4 = 0 → u.toNat < 0xF0000 → regMapped u.toNat = false → u.toNat ≠ dxToken + 0x8000 →
      len.val = 4 → Completes (.registerReadAccessError (.host 0) (.dev u) len) s (fun e =>
        accessError s e 9 u.toNat ∧ e.out.head? = some (.readData u.toNat 0))) ∧
    (∀ (u : BitVec 24), u.toNat / 0x10000 = 5 → regMapped u.toNat = true → u.toNat % 4 = 0 → s.dom 0x4F = .off → len.val = 4 →
      Completes (.registerReadAccessError (.host 0) (.dev u) len) s (fun e => accessError s e 8 u.toNat ∧
        bitsOf (e.rget 0x20) 7 0 = 0x4F ∧ e.out.head? = some (.readData u.toNat 0xBAD0004F))) ∧
    (s.fnLive f = true →
      (bitAt v 0 = true → s.xpChanges (fnAddr f 0xC040) v = false → ∀ j, s.vrwHead f = some j → Completes (.vrwPop f v) s (fun e =>
        e = { s with vd.cursor := mput 0 s.vd.cursor f (j.seq + 1) })) ∧
      (unlatched (.host f) (fnAddr f 0xC048) → Completes (.vrwLostRead f) s (fun e =>
        mget 0 e.vd.lost f = 0 ∧ e.out = .readData (fnAddr f 0xC048) (BitVec.ofNat 32 (mget 0 s.vd.lost f)) :: s.out ∧
        e.vd.cursor = s.vd.cursor ∧ e.vd.journal = s.vd.journal ∧ e.regs = s.regs))) ∧
    (s.dom (quadOf t) ≠ .off → unlatched (.host 0) (twAddr t 0x50) → Completes (.twOvrRead (.host 0) t) s (fun e =>
      e.out = .readData (twAddr t 0x50) (s.shown (twAddr t 0x50)) :: s.out ∧
      bitsOf (e.rget (twAddr t 0x50)) 15 0 = 0 ∧ bitsOf (e.rget (twAddr t 0x50)) 31 16 = bitsOf (s.rget (twAddr t 0x50)) 31 16 ∧
      ∀ b, b ≠ twAddr t 0x50 → e.rget b = s.rget b))

/-- The dual-complement register SV_HWD_TOKEN (R8, R381): the first write opens a pair; a second write, a complement without a pair,
one that does not match, or 200 AO cycles without one discard it and raise FS192. A matching complement closes it without that
fault. -/
def dualComplementPart : Prop :=
  ∀ (s : State) (v w : W32), s.dev.state ≠ .cold → s.fnLive 0 = true →
    let pair (e : State) : Option DxOpen := mget none e.hl.dx 3
    let open_ : DxOpen := { off := 0x24, val := v, who := 0, at_ := s.ao }
    (pair s = none → Completes (.dxWrite (.host 0) v) s (fun e => pair e = some open_ ∧
      e = { s with hl.dx := e.hl.dx })) ∧
    (∀ p, pair s = some p → Completes (.dxWrite (.host 0) v) s (fun e => pair e = some open_ ∧ accessError s e 11 0x30024)) ∧
    (pair s = none → Completes (.dxComplement (.host 0) w) s (fun e => pair e = none ∧ accessError s e 11 0x38024)) ∧
    (∀ p, pair s = some p →
      (p.who ≠ 0 ∨ p.at_ + 200 < s.ao ∨ w ≠ ~~~p.val →
        Completes (.dxComplement (.host 0) w) s (fun e => pair e = none ∧ accessError s e 11 0x38024)) ∧
      (p.who = 0 → s.ao ≤ p.at_ + 200 → w = ~~~p.val →
        Completes (.dxComplement (.host 0) w) s (fun e => pair e = none ∧ e.src 192 = s.src 192)) ∧
      Completes .dxPairTimeout s (fun e => pair e = none ∧ accessError s e 11 0x30024 ∧
        e.ao = Max.max s.ao (p.at_ + 201)))

/-- O36. Register reads, clear-on-read maxima, and the dual-complement register: both statements above. -/
def Obligations.RegisterReadsAndPairs : Prop := registerReadsPart ∧ dualComplementPart

/-- Tag `t` holds the command `c`, checked and ready, with opcode `opc` (R411, R420). -/
def holds (s : State) (t : Nat) (opc : Nat) (c : Tag) : Prop :=
  s.dev.state ≠ .cold ∧ s.tag t = some c ∧ c.st = .ready ∧ c.opc = opc

/-- From `s` to `e` the command of tag `t`, then `c`, finished with a status and DETAIL (R419, R423): its completion awaits a slot,
it is the last to have finished, and no tally lists it. -/
def finishes (s e : State) (t : Nat) (c : Tag) (st detail : Nat) : Prop :=
  e.tag t = some { c with st := .done st detail, fin := s.q.finished, due := none } ∧ e.q.finished = s.q.finished + 1 ∧
  ∀ w ∈ e.q.waits, w.tag ≠ t

/-- `e` differs from `s` only in the tags, their waits and the count of commands finished. -/
def onlyTags (s e : State) : Prop :=
  e = { s with q.tags := e.q.tags, q.finished := e.q.finished, q.waits := e.q.waits }

/-- O37. Rings. A doorbell is accepted while it keeps (PI - CI) mod 2^32 at most SIZE, and discarded with the ring error BADPI,
BADCI or DISABLED otherwise (R393, R395, R396); F00's internal rings have none (R389). A fetch takes the lowest free tag, advances
CI and checks DCRC, OPC and the privilege in that order (R411, R420); it pauses for FENCE (R423), and an error of its read or a bad
SCRC disables the ring (R397). A completion is committed into a free slot (R401, R419), or discarded where its ring is out of use
(R397, R400). RING_CONFIG keeps the rules of R398. The model's choices and readings in it: log entry 29. -/
def Obligations.Rings : Prop :=
  ∀ (s : State) (f : Fn) (r : Fin 1024) (v : W32) (d : BitVec 512) (t : Fin 512), s.dev.state ≠ .cold →
    let g := ringId f r
    let o := s.ring g
    let erred (code : Nat) (e : State) : Prop :=
      e = s.setRing g { o with err := code, errCnt := satAdd 255 o.errCnt 1 }
    let killed (code n : Nat) (e : State) : Prop := (e.ring g).size = 0 ∧ (e.ring g).err = code ∧
      (e.ring g).scrcOk = true ∧ (∀ h, h ≠ g → e.ring h = s.ring h) ∧ RaisedIn n s e
    (f.val ∈ s.fns → ¬(f = 0 ∧ 1008 ≤ r.val) →
      (o.size = 0 → Completes (.rdPiWrite f r v) s (erred 6) ∧ Completes (.rdCiWrite f r v) s (erred 6)) ∧
      (o.size ≠ 0 → o.type ≠ 2 → Completes (.rdCiWrite f r v) s (erred 2) ∧
        ((v - o.pi).toNat + o.used ≤ o.size → Completes (.rdPiWrite f r v) s (fun e =>
          e = s.setRing g { o with pi := v } ∧ (e.ring g).used ≤ o.size)) ∧
        (o.used ≤ o.size → o.size < (v - o.pi).toNat + o.used → Completes (.rdPiWrite f r v) s (erred 1))) ∧
      (o.size ≠ 0 → o.type = 2 → Completes (.rdPiWrite f r v) s (erred 1) ∧
        ((v - o.ci).toNat ≤ o.used → Completes (.rdCiWrite f r v) s (fun e =>
          e = s.setRing g { o with ci := v } ∧ (e.ring g).used ≤ o.used)) ∧
        (o.used < (v - o.ci).toNat → Completes (.rdCiWrite f r v) s (erred 2)))) ∧
    (f = 0 → 1008 ≤ r.val → Completes (.rdPiWrite f r v) s (fun e => accessError s e 9 (0x4000 + 16 * r) ∧ e.q.rings = s.q.rings) ∧
      Completes (.rdCiWrite f r v) s (fun e => accessError s e 9 (0x4004 + 16 * r) ∧ e.q.rings = s.q.rings)) ∧
    (s.canFetch g = true →
      (o.scrcOk = false → ∀ err, Completes (.commandFetch f r d err) s (killed 3 200)) ∧
      (o.scrcOk = true → s.freeTag f = some t →
        Completes (.commandFetch f r d true) s (killed 4 199) ∧
        (d.getLsbD 9 = true → (∃ x c, s.tag x = some c ∧ ringId c.fn c.ring = g) →
          Completes (.commandFetch f r d false) s (fun e => e = { s with q.paused := mput false s.q.paused g true })) ∧
        (d.getLsbD 9 = false → Completes (.commandFetch f r d false) s (fun e =>
          s.tag t = none ∧ (∀ x, x < t.val → (s.tag x).isSome = true) ∧
          e.ring g = { o with ci := o.ci + 1 } ∧ (∀ x, x ≠ t.val → e.tag x = s.tag x) ∧
          ∃ c, e.tag t = some c ∧ c.fn = f ∧ c.ring = r ∧ c.desc = leBytes 64 d.toNat ∧ c.cpl = ringId f o.bind ∧
            (s.descCheck f d = none → c.st = .ready) ∧
            (reqCrcOk d = false → c.st = .done 3 0) ∧
            (reqCrcOk d = true → opcListed c.opc = false → c.st = .done 1 0) ∧
            (reqCrcOk d = true → f ≠ 0 → opcListed c.opc = true → opcF00 c.opc = true → c.st = .done 4 0))))) ∧
    (∀ c st det, s.tag t = some c → c.st = .done st det → s.porterLive = true →
      (∀ p ∈ s.heldTags, p.2.cpl = c.cpl → p.2.fin < c.fin → ∀ a b, p.2.st ≠ .done a b) →
      let k := s.ring c.cpl
      (k.size ≠ 0 → k.type = 2 → k.scrcOk = true →
        (k.size ≤ k.used → ∀ err, Completes (.completionCommit t err) s (fun e => e = s)) ∧
        (k.used < k.size →
          (∀ err, Completes (.completionCommit t err) s (fun e => e.tag t = none ∧ (e.ring c.cpl).pi = k.pi + 1)) ∧
          Completes (.completionCommit t true) s (fun e => RaisedIn 199 s e ∧ (e.ring c.cpl).err = 4) ∧
          Completes (.completionCommit t false) s (fun e =>
            .dma c.fn (k.base + BitVec.ofNat 64 (k.pi.toNat % k.size * 32))
              (complRec t c st det s.ao (k.pi.toNat / k.size % 2 = 0)) ∈ e.out))) ∧
      (k.size = 0 → ∀ err, Completes (.completionCommit t err) s (fun e => e.tag t = none ∧ e.out = s.out ∧
        (e.ring c.cpl).errCnt = satAdd 255 k.errCnt 1))) ∧
    (∀ c, holds s t 3 c →
      let a := RingArgs.of (c.arg 0) (c.arg 1) (c.arg 2)
      let h := ringId c.fn a.ring
      let p := s.ring h
      let refused (st : Nat) (e : State) : Prop := finishes s e t c st 0 ∧ onlyTags s e
      (a.ok = false → Completes (.ringConfig t) s (refused 2)) ∧
      (a.ok = true → p.size ≠ 0 → a.size ≠ 0 → a.size ≠ p.size ∨ a.type ≠ p.type ∨ a.base ≠ p.base.toNat ∨ a.bind ≠ p.bind →
        Completes (.ringConfig t) s (refused 6)) ∧
      (a.ok = true → p.size = 0 → a.size ≠ 0 → a.type = 1 →
        (s.ring (ringId c.fn a.bind)).size = 0 ∨ (s.ring (ringId c.fn a.bind)).type ≠ 2 →
        Completes (.ringConfig t) s (refused 2)) ∧
      (a.ok = true → p.size = 0 → a.size ≠ 0 → a.type = 2 → Completes (.ringConfig t) s (fun e =>
        finishes s e t c 0 0 ∧ (∀ x, x ≠ h → e.ring x = s.ring x) ∧ (e.ring h).scrcOk = true ∧
        (e.ring h).base.toNat = a.base ∧ (e.ring h).size = a.size ∧ (e.ring h).type = 2 ∧ (e.ring h).vec = a.vec ∧
        (e.ring h).mod = a.mod ∧ (e.ring h).pi = 0 ∧ (e.ring h).ci = 0)) ∧
      (a.ok = true → p.size = a.size → a.size ≠ 0 → a.type = p.type → a.type = 2 → p.base.toNat = a.base → a.bind = p.bind →
        Completes (.ringConfig t) s (fun e => finishes s e t c 0 0 ∧ (e.ring h).vec = a.vec ∧ (e.ring h).mod = a.mod ∧
          (e.ring h).pi = p.pi ∧ (e.ring h).ci = p.ci ∧ (e.ring h).base = p.base ∧ (e.ring h).size = p.size)))

/-- O38. The short commands and the tallies. NOP completes with OK (R412); ABORT ends as R427 tables; REVEAL_SET and DIGEST_SET
register or clear (R415, R416); TALLY_WAIT is satisfied at once, listed, or ends with TIMEOUT (R434 to R436); a first PLAN_LOAD from
flash begins, a second is BUSY (R318); SAFE goes whole to the reeve's request ring and completes with the reeve's status (R414,
R492); a host's TY_ADD, TY_TAKE and TY_SET change the tally once (R431, R432). The model's choices and readings in it: log entry 29.
-/
def Obligations.ShortCommands : Prop :=
  ∀ (s : State) (t : Fin 512) (c : Tag),
    (holds s t 1 c → Completes (.cmdNop t) s (fun e => finishes s e t c 0 0 ∧ onlyTags s e)) ∧
    (holds s t 2 c →
      let x := c.arg 0 % 512
      let ends (st : Nat) (e : State) : Prop := finishes s e t c st x ∧ onlyTags s e
      (s.tag x = none → Completes (.abort t) s (ends 9)) ∧
      ∀ y, s.tag x = some y →
        (y.fn ≠ c.fn ∨ y.utag ≠ c.arg 0 / 65536 % 65536 → Completes (.abort t) s (ends 9)) ∧
        (y.fn = c.fn → y.utag = c.arg 0 / 65536 % 65536 →
          let stopped (det : Nat) (e : State) : Prop := finishes s e x { y with abortBy := y.abortBy ++ [t.val] } 7 det ∧
            e.tag t = some { c with st := .active } ∧ onlyTags s e
          (∀ a b, y.st = .done a b → Completes (.abort t) s (ends 8)) ∧
          ((∀ a b, y.st ≠ .done a b) → opcAbortable y.opc = false → Completes (.abort t) s (ends 0xA)) ∧
          ((y.st = .ready ∧ y.opc ∈ [6, 7, 0x18, 0x19]) ∨ (y.st = .active ∧ y.opc = 6) → Completes (.abort t) s (stopped 0)) ∧
          (y.st = .ready → y.opc = 0x10 → Completes (.abort t) s (stopped 0x13)) ∧
          (y.st = .active → y.opc = 0x10 → s.ldr.phase = .blackout → Completes (.abort t) s (fun e =>
            finishes s e t c 8 x ∧ bitAt (e.rget 0xB0008) 5 = true ∧ e.tag x = s.tag x)) ∧
          (y.st = .active → y.opc = 0x10 → s.ldr.phase ≠ .blackout → s.ldr.tag = some x → Completes (.abort t) s (fun e =>
            (∃ i, e.tag x = some { y with st := .done 7 0x13, fin := s.q.finished, due := none, info := i,
                                          abortBy := y.abortBy ++ [t.val] }) ∧
            e.tag t = some { c with st := .active } ∧ RaisedIn 225 s e)) ∧
          (y.st = .active → y.opc ∈ [7, 0x18, 0x19] → Completes (.abort t) s (fun e => onlyTags s e ∧
            e.tag x = some { y with abortBy := y.abortBy ++ [t.val] } ∧ e.tag t = some { c with st := .active })))) ∧
    (holds s t 4 c → Completes (.revealSet t) s (fun e => finishes s e t c 0 0 ∧
      ∀ k, mget none e.q.revReg k = if k = 64 * c.fn + c.arg 0 % 64 then
        (if c.arg 2 = 0 then none else some { addr := BitVec.ofNat 64 (c.arg 1), slots := c.arg 2, tally := c.arg 3 % 1024,
                                              tly := (c.arg 3).testBit 16, k := 0 })
        else mget none s.q.revReg k)) ∧
    (holds s t 5 c → Completes (.digestSet t) s (fun e => finishes s e t c 0 0 ∧
      ∀ k, mget 0 e.q.digReg k = if k = 256 * c.fn + c.arg 0 % 256 then BitVec.ofNat 64 (c.arg 1) else mget 0 s.q.digReg k)) ∧
    (holds s t 6 c →
      let y := ringId c.fn (c.arg 0 % 1024)
      let n := c.arg 1 % 2 ^ 32
      let us := c.arg 2 % 2 ^ 32
      let v := (s.tally y).toNat
      let due : Option Nat := if us = 0 then none else some (c.fetchAo + us * 50)
      (n = 0 → Completes (.tallyWait t) s (fun e => finishes s e t { c with info := v } 0 0 ∧ e.q.tallies = s.q.tallies)) ∧
      (n ≠ 0 → (∀ w ∈ s.q.waits, w.tally ≠ y) →
        ((c.arg 0).testBit 16 = false → (v + 2 ^ 32 - n) % 2 ^ 32 < 2 ^ 31 → Completes (.tallyWait t) s (fun e =>
          finishes s e t { c with st := .active, info := v } 0 0 ∧ e.q.tallies = s.q.tallies)) ∧
        ((c.arg 0).testBit 16 = true → n ≤ v → Completes (.tallyWait t) s (fun e =>
          finishes s e t { c with st := .active, info := v - n } 0 0 ∧ (e.tally y).toNat = v - n ∧
          ∀ z, z ≠ y → e.tally z = s.tally z)) ∧
        ((c.arg 0).testBit 16 = true → v < n → Completes (.tallyWait t) s (fun e =>
          e.tag t = some { c with st := .active, due := due } ∧ e.q.tallies = s.q.tallies ∧
          { tag := t, tally := y, take := true, count := BitVec.ofNat 32 n } ∈ e.q.waits)) ∧
        ((c.arg 0).testBit 16 = false → 2 ^ 31 ≤ (v + 2 ^ 32 - n) % 2 ^ 32 → Completes (.tallyWait t) s (fun e =>
          e.tag t = some { c with st := .active, due := due } ∧ e.q.tallies = s.q.tallies ∧
          { tag := t, tally := y, take := false, count := BitVec.ofNat 32 n } ∈ e.q.waits)))) ∧
    (∀ d, s.dev.state ≠ .cold → s.tag t = some c → c.st = .active → c.opc = 6 → c.due = some d →
      Completes (.tallyWaitTimeout t) s (fun e => e.ao = Max.max s.ao d ∧ finishes s e t c 0xB 0 ∧
        e.q.tallies = s.q.tallies)) ∧
    (holds s t 0x10 c → ∀ h,
      (s.ldr.phase ≠ .idle → Completes (.planLoad t h) s (fun e => finishes s e t c 6 0 ∧ onlyTags s e)) ∧
      (s.ldr.phase = .idle → Completes (.planLoad t h) s (fun e => e.tag t = some { c with st := .active } ∧
        e.ldr.phase = .header ∧ e.ldr.tag = some t.val ∧ e.ldr.first = s.run.isNone ∧ e.ldr.target = c.arg 3 ∧
        e.dom 0x55 = .on ∧ e.run = s.run ∧ e.dev = s.dev ∧
        e.ldr.img = if c.arg 0 % 4 = 0 then s.store.planOf s.store.selOr.plan.bank else h))) ∧
    (holds s t 0x20 c → s.rv.reqRing = [] → s.rv.mbReq = none → ∀ flip : BitVec 512,
      let d := BitVec.ofNat 512 (leNat c.desc) ^^^ flip
      reqCode d ∈ reeveCodes → Completes (.safe t flip) s (fun e =>
        e.tag t = some { c with st := .active } ∧ e.rv.reqRing = [(d, t.val)] ∧ e.rv.ansRing = s.rv.ansRing ∧ e.dev = s.dev)) ∧
    (∀ a l, s.dev.state ≠ .cold → s.ldr.phase ≠ .blackout → s.porterLive = true → s.rv.ansRing = (a, t.val) :: l →
      s.tag t = some c →
      let st := a.toNat / 2 ^ 48 % 256
      (st = 0 → Completes (.safeAnswer false) s (fun e => e.rv.ansRing = l ∧
        finishes s e t { c with info := a.toNat / 2 ^ 128 % 2 ^ 64 } 0 0)) ∧
      (st ≠ 0 → Completes (.safeAnswer false) s (fun e => e.rv.ansRing = l ∧ finishes s e t c 0xE st)) ∧
      Completes (.safeAnswer true) s (fun e => e.rv.ansRing = l ∧ RaisedIn 10 s e ∧ finishes s e t c 0xE 1)) ∧
    (∀ (f : Fn) (n : Fin 1024) (v : W32), s.dev.state ≠ .cold → f.val ∈ s.fns →
      let y := ringId f n
      let to_ (w : W32) (e : State) : Prop := e.tally y = w ∧ (∀ z, z ≠ y → e.tally z = s.tally z) ∧
        mget 0 e.q.tyOps y = (mget 0 s.q.tyOps y + 1) % 2 ^ 64 ∧ e.q.tags = s.q.tags
      ((∀ w ∈ s.q.waits, w.tally ≠ y) →
        Completes (.tyAdd f n v) s (to_ (s.tally y + v)) ∧ Completes (.tySet f n v) s (to_ v) ∧
        Completes (.tyTake f n) s (fun e => e.out = .readData (fnAddr f (0x8008 + 16 * n)) (s.tally y) :: s.out ∧
          (s.tally y = 0 → e.tally y = 0) ∧ (s.tally y ≠ 0 → to_ (s.tally y - 1) e))) ∧
      (∀ w k, s.q.waits.filter (fun x => x.tally = y) = [w] → s.tag w.tag = some k → w.count ≠ 0 →
        (w.take = false → (v - w.count).toNat < 2 ^ 31 → Completes (.tySet f n v) s (fun e =>
          e.tally y = v ∧ finishes s e w.tag { k with info := v.toNat } 0 0)) ∧
        (w.take = true → w.count.toNat ≤ v.toNat → Completes (.tySet f n v) s (fun e =>
          e.tally y = v - w.count ∧ finishes s e w.tag { k with info := (v - w.count).toNat } 0 0)) ∧
        (w.take = true → v.toNat < w.count.toNat → Completes (.tySet f n v) s (fun e =>
          e.tally y = v ∧ e.q.waits = s.q.waits ∧ e.q.tags = s.q.tags))))

/-- O39. Plies and updates. A ply of DMA_OUT copies at most 524 288 bytes; the last completes with OK, one that an abort reached
with ABORTED, and an uncorrectable word ends it with DMA_ERROR, the bytes before it written (R424, R425, R427). UPD_DOWNLOAD erases
the inactive bank (R648), its last ply leaves the image there, UPD_VERIFY's records it (R649), UPD_ACTIVATE puts it in force on
TRIAL for a holder of the maintenance privilege (R650), UPD_CONFIRM confirms it and raises the fuse count (R651, R653); what R652
tables is refused with its code, recorded and reported. The model's choices and readings in it: log entries 29 and 42. -/
def Obligations.PliesAndUpdates : Prop :=
  ∀ (s : State) (t : Fin 512) (c : Tag), s.ldr.phase ≠ .blackout → s.leaseCheck = s →
    let k := c.arg 0 % 4
    let x := s.store
    let ent := x.selOr.entry k
    let failed (code sub : Nat) (e : State) : Prop := RaisedIn 227 s e ∧
      e.rget 0xC003C = BitVec.ofNat 32 (code + 256 * sub + 65536 * k) ∧
      finishes s e t c 15 (code + 256 * sub + 65536 * k)
    (holds s t 7 c →
      (c.arg 2 = 0 → Completes (.dmaOut t) s (fun e => finishes s e t c 0 0 ∧ onlyTags s e)) ∧
      (c.arg 2 ≠ 0 → Completes (.dmaOut t) s (fun e => e = s.setTag t (some { c with st := .active })))) ∧
    (s.dev.state ≠ .cold → s.plyNext = some (t.val, c) → s.tag t = some c → c.opc = 7 →
      let a := c.arg 0 + c.moved
      let m := min 524288 (c.arg 2 - c.moved)
      let data (n : Nat) : OutEv := .dma c.fn (BitVec.ofNat 64 (c.arg 1 + c.moved)) (s.ledgerRead a n)
      let c' (n : Nat) : Tag := { c with moved := c.moved + n, xfer := c.xfer + n }
      0 < m → ∀ n err fl fw pl,
        (c.moved + m < c.arg 2 → c.abortBy = [] → Completes (.ply n err fl none fw pl) s (fun e =>
          e.tag t = some (c' m) ∧ e.out = data m :: s.out ∧ e.q.plyLast = t ∧ e.q.rings = s.q.rings)) ∧
        (c.moved + m < c.arg 2 → c.abortBy ≠ [] → Completes (.ply n err fl none fw pl) s (fun e =>
          finishes s e t (c' m) 7 0 ∧ e.out = data m :: s.out)) ∧
        (c.arg 2 ≤ c.moved + m → Completes (.ply n err fl none fw pl) s (fun e =>
          finishes s e t (c' m) 0 0 ∧ e.out = data m :: s.out)) ∧
        (∀ u, 0 < u → u < m → Completes (.ply n err fl (some u) fw pl) s (fun e => RaisedIn 129 s e ∧
          data u ∈ e.out ∧ finishes s e t (c' u) 0xC 0))) ∧
    (holds s t 0x18 c →
      (ent.trial = true → Completes (.updDownload t) s (failed 0xA 0)) ∧
      (ent.trial = false → mget 0 x.busy k ≠ 0 → Completes (.updDownload t) s (failed 0xF 0)) ∧
      (ent.trial = false → mget 0 x.busy k = 0 → x.bankSize k < c.arg 2 → Completes (.updDownload t) s (fun e =>
        failed 1 0 e ∧ e.store = x)) ∧
      (ent.trial = false → mget 0 x.busy k = 0 → c.arg 2 ≤ x.bankSize k → x.density ≠ 0 → s.dev.phys.flashOk = true →
        c.arg 2 ≠ 0 → Completes (.updDownload t) s (fun e => e.tag t = some { c with st := .active } ∧
          e.store = { x.eraseBank k with busy := mput 0 x.busy k (t + 1) } ∧
          e.store.verified.toNat.testBit k = false ∧ e.store.sel0 = x.sel0 ∧ e.store.sel1 = x.sel1 ∧
          (k < 2 → e.store.fw k (x.inactive k) = none ∧ e.store.fw k (!x.inactive k) = x.fw k (!x.inactive k))))) ∧
    (s.dev.state ≠ .cold → s.plyNext = some (t.val, c) → s.tag t = some c → c.opc = 0x18 → k < 2 →
      ∀ n fw pl u,
        (c.arg 2 ≤ c.moved + n → c.moved ≤ c.arg 2 → Completes (.ply n false false u fw pl) s (fun e =>
          finishes s e t { c with moved := c.arg 2, xfer := c.xfer + (c.arg 2 - c.moved) } 0 0 ∧
          e.store.fw k (x.inactive k) = fw ∧ bitAt (e.rget 0xC0008) 0 = true ∧ mget 0 e.store.busy k = 0)) ∧
        Completes (.ply n true false u fw pl) s (fun e => RaisedIn 199 s e ∧ finishes s e t c 0xC 0) ∧
        Completes (.ply n false true u fw pl) s (failed 2 0)) ∧
    (holds s t 0x19 c → ent.trial = false → mget 0 x.busy k = 0 → Completes (.updVerify t) s (fun e =>
      e = { s.setTag t (some { c with st := .active }) with store.busy := mput 0 x.busy k (t + 1) })) ∧
    (s.dev.state ≠ .cold → s.plyNext = some (t.val, c) → s.tag t = some c → c.opc = 0x19 →
      ∀ n u fw pl err, (x.stored k (x.inactive k)).1 ≤ c.moved + n →
        (s.verifyWhy k = none → k < 3 → Completes (.ply n err false u fw pl) s (fun e =>
          finishes s e t { c with moved := c.moved + n } 0 0 ∧ e.store.verified.toNat.testBit k = true ∧
          mget (0, 0) e.store.recorded k = x.stored k (x.inactive k) ∧ bitAt (e.rget 0xC0008) 1 = true)) ∧
        (∀ w, s.verifyWhy k = some w → Completes (.ply n err false u fw pl) s (fun e => RaisedIn 227 s e ∧
          e.rget 0xC003C = BitVec.ofNat 32 (w.1 + 256 * w.2 + 65536 * k) ∧ e.store.verified = x.verified))) ∧
    (holds s t 0x1A c → ent.trial = false → mget 0 x.busy k = 0 →
      (x.verified.toNat.testBit k = false → Completes (.updActivate t) s (failed 9 0)) ∧
      (x.verified.toNat.testBit k = true → s.rv.privHeld = false → Completes (.updActivate t) s (failed 0xD 0)) ∧
      (x.verified.toNat.testBit k = true → s.rv.privHeld = true → k = 2 → s.planBusy = true →
        Completes (.updActivate t) s (failed 0xE 0)) ∧
      (x.verified.toNat.testBit k = true → s.rv.privHeld = true → (k = 2 → s.planBusy = false) → s.resigned k = false →
        Completes (.updActivate t) s (failed 5 0)) ∧
      (x.verified.toNat.testBit k = true → s.rv.privHeld = true → (k = 2 → s.planBusy = false) → s.resigned k = true →
        mget (0, 0) x.recorded k ≠ x.stored k (x.inactive k) → Completes (.updActivate t) s (failed 6 0)) ∧
      (x.verified.toNat.testBit k = true → s.rv.privHeld = true → (k = 2 → s.planBusy = false) → s.resigned k = true →
        s.dev.phys.flashOk = true →
        mget (0, 0) x.recorded k = x.stored k (x.inactive k) → Completes (.updActivate t) s (fun e =>
          finishes s e t c 0 0 ∧ bitAt (e.rget 0xC0008) 2 = true ∧ e.store.verified.toNat.testBit k = false ∧
          let n := e.store.selOr.entry k
          n.bank = !ent.bank ∧ n.trial = true ∧ n.prev = ent.bank ∧ n.len = (x.stored k (x.inactive k)).1 ∧
          n.hash = (x.stored k (x.inactive k)).2))) ∧
    (holds s t 0x1B c → mget 0 x.busy k = 0 →
      (ent.trial = false → Completes (.updConfirm t) s (failed 0xB 0)) ∧
      (ent.trial = true → s.rv.privHeld = false → Completes (.updConfirm t) s (failed 0xD 0)) ∧
      (ent.trial = true → s.rv.privHeld = true → s.confirmHealthy k = false → Completes (.updConfirm t) s (failed 0xC 0)) ∧
      (ent.trial = true → s.rv.privHeld = true → s.confirmHealthy k = true → s.dev.phys.flashOk = true →
        Completes (.updConfirm t) s (fun e => bitAt (e.rget 0xC0008) 3 = true ∧ x.svnR ≤ e.store.svnR ∧ x.svnP ≤ e.store.svnP ∧
          (∀ i, k = 0 → e.store.running 0 = some i → e.store.svnR = Max.max x.svnR i.svn) ∧
          (∀ i, k = 1 → e.store.running 1 = some i → e.store.svnP = Max.max x.svnP i.svn) ∧
          e.store.selOr.entry k = { ent with trial := false } ∧ finishes s e t c 0 0)))

/-- Function `f`'s channel `ch` is `c` in `e`, every other box of `s` unchanged. -/
def chanIs (s e : State) (f ch : Nat) (c : Chan2) : Prop :=
  e.chan2 f ch = c ∧ ∀ k, k ≠ 2 * f + ch → mget Chan2.reset e.q.boxes k = mget Chan2.reset s.q.boxes k

/-- The far side took function `f`'s message on channel `ch` (R450): the outbox is free, OUT_FREE is rung, CROSS is clear (R456). -/
def takenBy (s e : State) (f ch : Nat) : Prop :=
  (e.chan2 f ch).outb = { (s.chan2 f ch).outb with full := false } ∧ (e.chan2 f ch).cross = false ∧
  bitAt (e.rget (fnAddr f 0x2000)) (4 * ch + 1) = true

/-- The inbox of channel `ch` of function `f` holds a message from the far side, with the next SEQ (R444, R445). -/
def arrived (s e : State) (f ch : Nat) (body : BitVec 512) (type len : Nat) (bells : W32) : Prop :=
  let seq := ((s.chan2 f ch).seqIn + 1) % 256
  (e.chan2 f ch).inb = { full := true, body := BitVec.ofNat 512 (body.toNat % 2 ^ (8 * len)), type := type, len := len,
                         src := 0x40 + ch, seq := seq, bells := bells, sentAt := s.ao } ∧
  (e.chan2 f ch).seqIn = seq ∧ bitAt (e.rget (fnAddr f 0x2000)) (4 * ch) = true

/-- Mailboxes. A send fills the outbox with the body, SRC and SEQ of R444 to R447, or overwrites and reports a collision (R448); a
bad header sends nothing (R446); a take returns the header and empties the box, whose body stays (R449, R450); polls, timeouts and
the crossing rule are as R452 and R455 give them. -/
def mailboxesPart : Prop :=
  ∀ (s : State) (f : Fn) (ch : Fin 2) (v : W32), s.dev.state ≠ .cold →
    let c := s.chan2 f ch
    let stat := mbAddr f ch 0x48
    let cnt := mbAddr f ch 0xD8
    let tmo := mbValue (s.rget (mbAddr f ch 0xD0)) * 50000
    let len := bitsOf v 14 8
    let sent : Box := { full := true, body := BitVec.ofNat 512 ((s.outBody f ch).toNat % 2 ^ (8 * len)), type := bitsOf v 7 0,
                        len := len, src := f, seq := (c.seqOut + 1) % 256,
                        bells := s.rget (mbAddr f ch 0x40) &&& 0x7FFFFF00, sentAt := s.ao }
    (s.fnLive f = true → s.hasChan f ch = true →
      (64 < len ∨ bitsOf v 31 15 ≠ 0 → Completes (.mailboxSend f ch v) s (fun e => e = s.revt stat 4)) ∧
      (len ≤ 64 → bitsOf v 31 15 = 0 → c.outb.full = false → Completes (.mailboxSend f ch v) s (fun e =>
        e = { s with q.boxes := e.q.boxes } ∧ chanIs s e f ch { c with outb := sent, seqOut := sent.seq, fnPoll := none })) ∧
      (len ≤ 64 → bitsOf v 31 15 = 0 → c.outb.full = true → Completes (.mailboxSend f ch v) s (fun e =>
        chanIs s e f ch { c with outb := sent, seqOut := sent.seq } ∧ bitAt (e.rget stat) 1 = true ∧
        bitsOf (e.rget cnt) 15 0 = satAdd 65535 (bitsOf (s.rget cnt) 15 0) 1 ∧
        bitAt (e.rget (fnAddr f 0x2000)) (4 * ch + 3) = true ∧ RaisedIn 201 s e)) ∧
      (∀ a, a = mbAddr f ch 0xC4 → mget none s.hl.latches (latchKey (.host f) a) = none →
        (c.inb.full = true → (ch = 0 ∨ s.rv.ansQ = []) → Completes (.mailboxTake f ch) s (fun e =>
          e.out = .readData a (BitVec.ofNat 32 (c.inb.type + 256 * c.inb.len + 32768 + 65536 * c.inb.src +
            16777216 * c.inb.seq)) :: s.out ∧ e.regs = s.regs ∧
          chanIs s e f ch { c with inb := { c.inb with full := false }, farPoll := none, cross := false })) ∧
        (c.inb.full = true → ∀ x l, ch = 1 → s.rv.ansQ = x :: l → Completes (.mailboxTake f ch) s (fun e =>
          e.rv.ansQ = l ∧ arrived s e f ch x.1 x.2.1 x.2.2 0)) ∧
        (c.inb.full = false → Completes (.mailboxTake f ch) s (fun e => e = { s with out := .readData a 0 :: s.out }))) ∧
      (∀ a, a = mbAddr f ch 0x48 → mget none s.hl.latches (latchKey (.host f) a) = none →
        Completes (.outboxPoll f ch) s (fun e => e.out = .readData a (s.shown a) :: s.out ∧ e.regs = s.regs ∧
          chanIs s e f ch (if c.outb.full = true ∧ c.fnPoll = none then { c with fnPoll := some s.ao } else c)))) ∧
    (c.outb.full = true → Completes (.mailboxTimeout f ch false) s (fun e =>
      e.ao = Max.max s.ao (c.outb.sentAt + tmo) ∧ bitAt (e.rget stat) 2 = true ∧
      bitsOf (e.rget cnt) 31 16 = satAdd 65535 (bitsOf (s.rget cnt) 31 16) 1 ∧
      bitAt (e.rget (fnAddr f 0x2000)) (4 * ch + 2) = true ∧
      chanIs s e f ch { c with outb := { c.outb with full := false }, fnPoll := none, cross := false })) ∧
    (c.inb.full = true → (ch = 0 ∨ s.rv.ansQ = []) → Completes (.mailboxTimeout f ch true) s (fun e =>
      e.ao = Max.max s.ao (c.inb.sentAt + tmo) ∧ e.regs = s.regs ∧
      chanIs s e f ch { c with inb := { c.inb with full := false }, farPoll := none, cross := false })) ∧
    (∀ a b, c.fnPoll = some a → c.farPoll = some b → c.outb.full = true → c.inb.full = true → c.cross = false →
      Completes (.crossing f ch) s (fun e =>
        e.ao = Max.max s.ao (Max.max a b + mbValue (s.rget (mbAddr f ch 0xD4)) * 50) ∧
        chanIs s e f ch { c with cross := true } ∧ bitAt (e.rget (fnAddr f 0x2000)) 31 = true))

/-- Messages. A running porter takes a function's message: DOORBELL has no answer, RING_BOOT configures rings 0 and 1 and is
answered with its status (R399), PING with ECHO, another type with BAD_OPCODE (R453); an answer waits and is sent into a free inbox
(R451). The reeve takes DOORBELL, PING and SAFE_REQ, which waits to be checked, and answers NAK to the rest (R499). A far side's
DOORBELL rings the bits it names (R453, R454). -/
def messagesPart : Prop :=
  ∀ (s : State) (f : Fn) (bits : W32), s.dev.state ≠ .cold →
    let b := (s.chan2 f 0).outb
    let r := (s.chan2 0 1).outb
    let status (st : Nat) (e : State) : Prop := takenBy s e f 0 ∧
      e.dev.porterQ = s.dev.porterQ ++ [(f.val, BitVec.ofNat 512 (st + 256 * b.type + 65536 * b.seq), 0x81, 4)]
    let nak (st : Nat) (e : State) : Prop := takenBy s e 0 1 ∧
      arrived s e 0 1 (BitVec.ofNat 512 (st + 256 * r.type + 65536 * r.seq)) 0x81 4 0
    (s.porterLive = true → s.hasChan f 0 = true → b.full = true →
      (b.type = 0 → b.len = 0 → Completes (.doorbell f none) s (fun e => takenBy s e f 0 ∧ e.dev.porterQ = s.dev.porterQ)) ∧
      (b.type = 0 → b.len ≠ 0 → Completes (.doorbell f none) s (status 2)) ∧
      (b.type = 1 → b.len ≠ 48 → Completes (.ringBoot f) s (fun e => status 2 e ∧ e.q.rings = s.q.rings)) ∧
      (b.type = 1 → (s.ringBoot f b).1 = 6 → Completes (.ringBoot f) s (fun e => status 6 e ∧ e.q.rings = s.q.rings)) ∧
      (b.type = 1 → (s.ringBoot f b).1 = 0 → Completes (.ringBoot f) s (fun e => status 0 e ∧
        (e.ring (ringId f 0)).size = (bootArgs b.body 0).size ∧ (e.ring (ringId f 0)).type = 1 ∧
        (e.ring (ringId f 0)).bind = 1 ∧ (e.ring (ringId f 0)).pi = 0 ∧ (e.ring (ringId f 0)).ci = 0 ∧
        (e.ring (ringId f 1)).size = (bootArgs b.body 1).size ∧ (e.ring (ringId f 1)).type = 2 ∧
        (e.ring (ringId f 1)).pi = 0 ∧ (e.ring (ringId f 1)).ci = 0 ∧
        ∀ g, g ≠ ringId f 0 → g ≠ ringId f 1 → e.ring g = s.ring g)) ∧
      (b.type = 2 → Completes (.porterPing f) s (fun e => takenBy s e f 0 ∧
        e.dev.porterQ = s.dev.porterQ ++ [(f.val, b.body, 0x82, b.len)])) ∧
      (2 < b.type → Completes (.reservedMailboxMessage f 0) s (status 1))) ∧
    (s.porterLive = true → (s.chan2 f 0).inb.full = false →
      (∀ q, s.dev.porterQ.find? (fun q => q.1 = f.val) = some q → Completes (.porterAnswerSend f) s (fun e =>
        arrived s e f 0 q.2.1 q.2.2.1 q.2.2.2 0 ∧ e.dev.porterQ = s.dev.porterQ.erase q)) ∧
      (s.hasChan f 0 = true → Completes (.doorbell f (some bits)) s (fun e => arrived s e f 0 0 0 0 bits ∧
        ∀ i, 8 ≤ i → i < 31 → bits.getLsbD i = true → bitAt (e.rget (fnAddr f 0x2000)) i = true))) ∧
    (s.reeveUp = true → (s.chan2 0 1).inb.full = false → s.rv.ansQ = [] →
      Completes (.reeveDoorbell (some bits)) s (fun e => arrived s e 0 1 0 0 0 bits ∧
        ∀ i, 8 ≤ i → i < 31 → bits.getLsbD i = true → bitAt (e.rget (fnAddr 0 0x2000)) i = true) ∧
      (r.full = true →
        (r.type = 0 → r.len = 0 → Completes (.reeveDoorbell none) s (fun e => takenBy s e 0 1 ∧
          (e.chan2 0 1).inb = (s.chan2 0 1).inb)) ∧
        (r.type = 0 → r.len ≠ 0 → Completes (.reeveDoorbell none) s (nak 4)) ∧
        (r.type = 2 → Completes .reevePing s (fun e => takenBy s e 0 1 ∧ arrived s e 0 1 r.body 0x82 r.len 0)) ∧
        (r.type = 0x20 → s.rv.mbReq = none → r.len ≠ 64 → Completes .safeReq s (fun e => nak 4 e ∧ e.rv.mbReq = none)) ∧
        (r.type = 0x20 → s.rv.mbReq = none → r.len = 64 → reqCode r.body ∈ reeveCodes → Completes .safeReq s (fun e =>
          takenBy s e 0 1 ∧ e.rv.mbReq = some (r.body, r.seq))) ∧
        (r.type ∉ [0, 2, 0x20] → Completes (.reservedMailboxMessage 0 1) s (nak 3))))

/-- O40. Mailbox channels: sends, takes, time-outs, the crossing rule and the messages: both statements above. The model's choices
and readings in it: log entry 30. -/
def Obligations.MailboxChannels : Prop := mailboxesPart ∧ messagesPart

/-- O41. The reeve complex (R460, R463, R465 to R469, R472, R474, R477 to R479, R706). A vote with a majority in a trio stops the
cores and names the minority; one without, and any in a checked pair, stops them until reset. The self-tests classify the event:
none fails, TRANSIENT, up to the limit; the minority core alone, retired; any other, DOUBLE. A voter test takes the voters in use
from its outcome. An agreement round adopts the majority of a trio, and a core that diverges for more than 2 rounds is retired; a
checked pair adopts what both sample. The model's choices and readings in it: log entries 20 and 32. -/
def Obligations.ReeveComplex : Prop :=
  ∀ (s : State), s.dev.state ≠ .cold → s.ldr.phase ≠ .blackout →
    let stopped (n : Nat) (e : State) : Prop := e.rv.stopped = true ∧ e.rv.pause = none ∧ RaisedIn n s e ∧
      e.vd.journal = s.vd.journal
    (s.voting = true → s.rv.pause = none →
      (∀ m : Fin 3, s.rv.mode = .trio → Completes (.voteMismatch (some m)) s (fun e =>
        e.rv.pause = some (s.ao, m.val) ∧ e.rv.stopped = false ∧ bitAt (e.rget 0x2000C) 0 = true ∧
        e.rget64 0x20018 = (s.rget64 0x20018 + 1) % 2 ^ 64 ∧ bitsOf (e.rget 0x20024) 1 0 = m ∧
        e.rget 0x20028 = BitVec.ofNat 32 s.ao ∧ e.sv.rwd.heldAt = some s.ao ∧ RaisedIn 0 s e ∧ e.vd.journal = s.vd.journal)) ∧
      (s.rv.mode = .trio → Completes (.voteMismatch none) s (fun e => stopped 4 e ∧ RaisedIn 0 s e)) ∧
      (s.rv.mode = .pair → ∀ m, Completes (.voteMismatch m) s (fun e => stopped 4 e ∧ RaisedIn 0 s e)) ∧
      (s.rv.shadowFail = false → s.rv.onShadow = false → ∀ a b : BitVec 6,
        let ran (e : State) : Prop := RaisedIn 1 s e ∧ bitsOf (e.rget 0x20010) 5 0 = a.toNat ∧
          bitsOf (e.rget 0x20010) 13 8 = b.toNat
        (a = 0x3F → b = 0x3F → Completes (.voterDisagreement a b) s (fun e => ran e ∧ e.rv.onShadow = false ∧
          e.rv.shadowFail = false ∧ bitsOf (e.rget 0x20010) 23 16 = satAdd 255 (bitsOf (s.rget 0x20010) 23 16) 1)) ∧
        (a ≠ 0x3F → b = 0x3F → Completes (.voterDisagreement a b) s (fun e => ran e ∧ RaisedIn 2 s e ∧ e.rv.onShadow = true ∧
          e.rv.shadowFail = false ∧ e.rv.loss = true ∧ e.dev.degr.primaryVoter = true ∧ (s.rv.loss = true → RaisedIn 4 s e))) ∧
        (a = 0x3F → b ≠ 0x3F → Completes (.voterDisagreement a b) s (fun e => ran e ∧ RaisedIn 2 s e ∧ e.rv.onShadow = false ∧
          e.rv.shadowFail = true ∧ e.rv.loss = true ∧ (s.rv.loss = true → RaisedIn 4 s e))) ∧
        (a ≠ 0x3F → b ≠ 0x3F → Completes (.voterDisagreement a b) s (fun e => ran e ∧ RaisedIn 2 s e ∧ RaisedIn 4 s e)))) ∧
    (∀ (t : Nat) (m : Fin 3) (pass : BitVec 3) (us : BitVec 7), s.rv.pause = some (t, m.val) →
      let now := Max.max s.ao (t + min us.toNat 100 * 50)
      let recent := (s.rv.trans m).filter (fun x => decide (now < x + 4320000000000))
      let retired (why : CoreSt) (cls : Nat) (e : State) : Prop := e.ao = now ∧ e.rv.pause = none ∧ e.rv.core m = why ∧
        e.rv.mode = .pair ∧ e.dev.degr.coreFailed = true ∧ e.rv.loss = true ∧ RaisedIn 3 s e ∧
        bitsOf (e.rget 0x20024) 4 2 = cls ∧ (s.rv.loss = true → RaisedIn 4 s e)
      (pass = 7 → recent.length < s.transLimit → Completes (.recoveryResume pass us) s (fun e => e.ao = now ∧
        e.rv.pause = none ∧ e.rv.trans m = now :: recent ∧ e.rv.mode = s.rv.mode ∧ e.rv.coreA = s.rv.coreA ∧
        e.rv.coreB = s.rv.coreB ∧ e.rv.coreC = s.rv.coreC ∧ bitsOf (e.rget 0x20024) 4 2 = 1 ∧
        bitAt (e.rget 0x2000C) 1 = true ∧ e.sv.rwd.heldAt = none)) ∧
      (pass = 7 → s.transLimit ≤ recent.length → s.rv.core m = .active →
        Completes (.recoveryResume pass us) s (retired .retiredTransient 4)) ∧
      ((∀ c : Fin 3, pass.getLsbD c = decide (c ≠ m)) → s.rv.core m = .active →
        Completes (.recoveryResume pass us) s (retired .retiredSelftest 2)) ∧
      ((∃ c : Fin 3, c ≠ m ∧ pass.getLsbD c = false) → Completes (.recoveryResume pass us) s (fun e => e.ao = now ∧
        stopped 4 e ∧ bitsOf (e.rget 0x20024) 4 2 = 3)) ∧
      Completes .recoveryTimeout s (fun e => e.ao = Max.max s.ao (t + 5000) ∧ stopped 16 e)) ∧
    (∀ (a b c : W64) (fb : BitVec 20) (n : Nat), s.rv.stopped = false → s.rv.pause = none →
      let now (e : State) : Prop := e.ao = Max.max s.ao n ∧ e.sio.feedback = fb
      (s.rv.mode = .trio → Completes (.agreementRound a b c fb n) s (fun e => now e ∧
        ∀ i, e.rv.adopted.getLsbD i = (decide (i < 52) && (a.getLsbD i && b.getLsbD i || a.getLsbD i && c.getLsbD i ||
          b.getLsbD i && c.getLsbD i)))) ∧
      (∀ i : Fin 52, s.rv.mode = .trio → s.rv.coreA = .active → (∀ j : Fin 52, b.getLsbD j = c.getLsbD j) →
        (∀ j : Fin 52, a.getLsbD j = (b.getLsbD j != decide (j = i))) →
        (s.divRun i 0 < 2 → Completes (.agreementRound a b c fb n) s (fun e => e.divRun i 0 = s.divRun i 0 + 1 ∧
          e.rv.coreA = .active ∧ e.src 5 = s.src 5)) ∧
        (s.divRun i 0 = 2 → Completes (.agreementRound a b c fb n) s (fun e => e.rv.coreA = .retiredDiverge ∧
          e.rv.mode = .pair ∧ e.dev.degr.coreFailed = true ∧ RaisedIn 5 s e ∧ RaisedIn 3 s e ∧
          bitsOf (e.rget 0x20030) 31 16 = satAdd 65535 (bitsOf (s.rget 0x20030) 31 16) 1))) ∧
      (s.rv.mode = .pair → s.rv.coreA = .active → s.rv.coreB = .active →
        Completes (.agreementRound a b c fb n) s (fun e => now e ∧ ∀ i : Fin 52,
          (a.getLsbD i = b.getLsbD i → e.rv.adopted.getLsbD i = a.getLsbD i) ∧
          (a.getLsbD i ≠ b.getLsbD i → s.divRun i 3 < 2 → e.rv.adopted.getLsbD i = s.rv.adopted.getLsbD i) ∧
          (a.getLsbD i ≠ b.getLsbD i → 2 ≤ s.divRun i 3 → 48 ≤ i.val → i.val < 50 → e.rv.adopted.getLsbD i = false)))) ∧
    (∀ (c : Fin 3) (pass : Bool), s.rv.core c ∈ [.retiredSelftest, .retiredTransient, .retiredDiverge] →
      Completes (.hourlyCoreSelftest c pass) s (fun e => e = { s with regs := e.regs } ∧
        bitsOf (e.rget 0x20008) (12 + c) (12 + c) = (if pass then 0 else 1)))

/-- Path `p` holds the one request `r`, which the reeve may take, passes DCRC and SSEQ, and no lease or lockout ends now. -/
def asks (s : State) (p : ReqPath) (r : BitVec 512) : Prop :=
  s.dev.state ≠ .cold ∧ s.ldr.phase ≠ .blackout ∧ s.reeveUp = true ∧ s.leaseCheck.lockCheck = s ∧ reqCrcOk r = true ∧
  reqField r 56 4 = (s.rv.sseq + 1).toNat ∧
  match p with
  | .ring => (∃ t, s.rv.reqRing = [(r, t)]) ∧ s.rv.mbReq = none
  | .mailbox => s.rv.reqRing = [] ∧ ∃ q, s.rv.mbReq = some (r, q)

/-- From `s` to `e` the request `r` of path `p` was taken and answered with a status and INFO (R487, R491): on the ring path in the
answer ring, on the mailbox path as a SAFE_ANS message, sent at once into a free inbox. -/
def replied (s e : State) (p : ReqPath) (r : BitVec 512) (st info : Nat) : Prop :=
  match p with
  | .ring => ∃ t, s.rv.reqRing = [(r, t)] ∧ e.rv.reqRing = [] ∧ e.rv.ridx = (s.rv.ridx + 1) % 2 ^ 32 ∧
      e.rv.ansRing = s.rv.ansRing ++ [(answerRec s.rv.ridx r 0 st info s.ao, t)]
  | .mailbox =>
      let a := BitVec.ofNat 512 (answerRec 0 r 1 st info s.ao).toNat
      e.rv.mbReq = none ∧
      ((s.chan2 0 1).inb.full = true → e.rv.ansQ = s.rv.ansQ ++ [(a, 0xA0, 32)]) ∧
      ((s.chan2 0 1).inb.full = false → s.rv.ansQ = [] → (e.chan2 0 1).inb.full = true ∧ (e.chan2 0 1).inb.body = a ∧
        (e.chan2 0 1).inb.type = 0xA0 ∧ (e.chan2 0 1).inb.len = 32 ∧ (e.chan2 0 1).inb.src = 0x41)

/-- The request has code `code`, uses only the bits that `masks` gives ARG1 to ARG4, and is accepted in the device state. -/
def fits (s : State) (p : ReqPath) (r : BitVec 512) (code : Nat) (masks : List Nat) : Prop :=
  asks s p r ∧ reqCode r = code ∧ reqFieldsOk r masks = true ∧ codeState s.dev.state code = true

/-- The request was performed with INFO: answered OK, the sequence advanced. -/
def okWith (s e : State) (p : ReqPath) (r : BitVec 512) (info : Nat) : Prop :=
  replied s e p r 0 info ∧ e.rv.sseq = s.rv.sseq + 1

/-- The request was refused with a status by the command's own checks: INFO 0, RV_EVT.REFUSED set, the sequence advanced. -/
def refusedWith (s e : State) (p : ReqPath) (r : BitVec 512) (st : Nat) : Prop :=
  replied s e p r st 0 ∧ e.rv.sseq = s.rv.sseq + 1 ∧ bitAt (e.rget 0x2000C) 5 = true

/-- O42. The checks of a request (R487, R488, R493, R495): DCRC, SSEQ, the code, the fields and ranges, the device state and the
privilege, in this order; the first that fails gives the status, INFO 0, RV_EVT.REFUSED and RV_REFUSED. The sequence advances where
DCRC and SSEQ pass, and only there. A code that is not listed is answered CODE. The model's choices and readings in it: log entry
31. -/
def Obligations.RequestChecks : Prop :=
  ∀ (s : State) (p : ReqPath) (r : BitVec 512) (code : Nat) (masks : List Nat) (ranges priv : BitVec 512 → Bool)
    (f : BitVec 512 → State → Nat × Nat × State) (t : Fin 512) (c : Tag),
    let refused (st : Nat) (n : W32) : Prop := ∃ e, State.reeveCmd p code masks ranges priv f s = .next e.finish ∧
      replied s e p r st 0 ∧ e.rv.sseq = n ∧ bitAt (e.rget 0x2000C) 5 = true ∧
      e.rget 0x20054 = BitVec.ofNat 32 (st + 256 * reqCode r + 2 ^ 24 * pathNum p) ∧ e.vd.journal = s.vd.journal ∧
      (st = 1 → RaisedIn 10 s e)
    let waits : Prop := s.dev.state ≠ .cold ∧ s.ldr.phase ≠ .blackout ∧ s.reeveUp = true ∧ s.leaseCheck.lockCheck = s ∧
      reqCode r = code ∧ match p with
        | .ring => (∃ t, s.rv.reqRing = [(r, t)]) ∧ s.rv.mbReq = none
        | .mailbox => s.rv.reqRing = [] ∧ ∃ q, s.rv.mbReq = some (r, q)
    (waits → reqCrcOk r = false → refused 1 s.rv.sseq) ∧
    (waits → reqCrcOk r = true → reqField r 56 4 ≠ (s.rv.sseq + 1).toNat → refused 2 s.rv.sseq) ∧
    (asks s p r → reqCode r = code →
      (reqFieldsOk r masks = false ∨ ranges r = false → refused 4 (s.rv.sseq + 1)) ∧
      (reqFieldsOk r masks = true → ranges r = true →
        (codeState s.dev.state code = false → refused 6 (s.rv.sseq + 1)) ∧
        (codeState s.dev.state code = true → priv r = true → s.rv.privHeld = false → refused 5 (s.rv.sseq + 1)))) ∧
    (∀ flip : BitVec 512,
      let d := BitVec.ofNat 512 (leNat c.desc) ^^^ flip
      holds s t 0x20 c → s.ldr.phase ≠ .blackout → s.reeveUp = true → s.rv.reqRing = [] → s.rv.mbReq = none →
        reqCode d ∉ reeveCodes → reqCrcOk d = true → reqField d 56 4 = (s.rv.sseq + 1).toNat →
        Completes (.safe t flip) s (fun e => e.rv.reqRing = [] ∧ e.rv.sseq = s.rv.sseq + 1 ∧
          e.rv.ansRing = s.rv.ansRing ++ [(answerRec s.rv.ridx d 0 3 0 s.ao, t.val)]))

/-- O43. Privilege (R494, R496 to R498): ECHO returns ARG1; a challenge keeps its nonce (whose value the model leaves free, log
entry 3); PRIV_ACQUIRE with the nonce's token, in time, holds privilege for the lease, with another token it is refused AUTH, the
fifth refusal in a row locks it out for 300 s, and during a lockout it is refused LOCKED. Release and expiry end it. The model's
choices and readings in it: log entries 3, 6 and 31. -/
def Obligations.Privilege : Prop :=
  ∀ (s : State) (p : ReqPath) (r : BitVec 512),
    let token := reqField r 16 32
    let right (n : W64) : Prop := token = leNat (slice 0 32 (sha384 (leBytes 8 n.toNat ++ s.pwdHash)))
    let acquire : Prop := fits s p r 3 [all64, all64, all64, all64]
    let authRefused (e : State) : Prop := refusedWith s e p r 7 ∧ e.rv.nonce = none ∧ e.rv.privHeld = s.rv.privHeld ∧
      (s.rv.fails < 4 → e.rv.fails = s.rv.fails + 1 ∧ e.rv.lockEnd = none) ∧
      (4 ≤ s.rv.fails → e.rv.fails = 5 ∧ e.rv.lockEnd = some (s.ao + 15000000000) ∧ bitAt (e.rget 0x2000C) 7 = true)
    (fits s p r 1 [all64] → Completes (.echo p) s (fun e => okWith s e p r (reqArg r 1) ∧ e.dev = s.dev ∧ e.vd = s.vd)) ∧
    (fits s p r 2 [] → Completes (.privChallenge p) s (fun e => ∃ n : W64, okWith s e p r n.toNat ∧
      e.rv.nonce = some (n, s.ao, s.rv.privHeld) ∧ e.rv.privHeld = s.rv.privHeld)) ∧
    (acquire → ∀ l, s.rv.lockEnd = some l → Completes (.privAcquire p) s (fun e => refusedWith s e p r 8 ∧
      e.rv.nonce = s.rv.nonce ∧ e.rv.fails = s.rv.fails ∧ e.rv.privHeld = s.rv.privHeld)) ∧
    (acquire → s.rv.lockEnd = none →
      (∀ n at_ h, s.rv.nonce = some (n, at_, h) → s.ao ≤ at_ + 500000000 → right n → Completes (.privAcquire p) s (fun e =>
        okWith s e p r (s.lease / 50000000) ∧ e.rv.privHeld = true ∧ e.rv.leaseEnd = s.ao + s.lease ∧ e.rv.fails = 0 ∧
        e.rv.nonce = none ∧ bitAt (e.rget 0x2000C) 6 = true)) ∧
      (∀ n at_ h, s.rv.nonce = some (n, at_, h) → at_ + 500000000 < s.ao ∨ ¬ right n →
        Completes (.privAcquire p) s authRefused) ∧
      (s.rv.nonce = none → Completes (.privAcquire p) s authRefused)) ∧
    (fits s p r 4 [] → Completes (.privRelease p) s (fun e => okWith s e p r 0 ∧ e.rv.privHeld = false ∧
      (s.rv.privHeld = true → bitAt (e.rget 0x2000C) 6 = true))) ∧
    (s.dev.state ≠ .cold → s.rv.privHeld = true → Completes .privLeaseExpiry s (fun e => e.rv.privHeld = false ∧
      e.ao = Max.max s.ao s.rv.leaseEnd ∧ bitAt (e.rget 0x2000C) 6 = true ∧ e.vd = s.vd)) ∧
    (∀ l, s.dev.state ≠ .cold → s.rv.lockEnd = some l → Completes .privLockoutEnd s (fun e => e.rv.lockEnd = none ∧
      e.rv.fails = 0 ∧ e.ao = Max.max s.ao l ∧ e.vd = s.vd))

/-- O44. The reeve's commands on streams, tiles, voters, outputs, supervisors and faults (R189, R190, R464, R494, R512, R514, R523,
R537, R544, R547, R566, R570, R572): each, accepted and, where it needs it, with the privilege held, has its effect and its INFO.
The model's choices and readings in it: log entries 17 and 31. -/
def Obligations.ReeveCommands : Prop :=
  ∀ (s : State) (p : ReqPath) (r : BitVec 512),
    let a := reqArg r 1
    let held : Prop := s.rv.privHeld = true
    (fits s p r 0x10 [63] → Completes (.streamHold p) s (fun e => okWith s e p r 0 ∧
      (e.stream a).hCommand = true ∧ (e.stream a).held = true ∧ ∀ n, n ≠ a → (e.stream n) = (s.stream n))) ∧
    (fits s p r 0x11 [63] → held → (∀ n, (s.srcCfg n).has 6 = false) → Completes (.streamRelease p) s (fun e => okWith s e p r 0 ∧
      (e.stream a).hCommand = false ∧
      ((e.stream a).held = true ↔ { s.stream a with hCommand := false }.held = true) ∧
      ∀ n, n ≠ a → (e.stream n) = (s.stream n))) ∧
    (fits s p r 0x20 [255] → a < 192 →
      ((s.tile a).role ∈ [.plan, .reserve] → calm s → Completes (.tileQuarantine p) s (fun e => okWith s e p r 0 ∧
        quarantined s e a 7)) ∧
      ((s.tile a).role ∈ [.quarantined, .failed, .failedRouter] → calm s → Completes (.tileQuarantine p) s (fun e =>
        okWith s e p r 0 ∧ e.tiles = s.tiles ∧ e.src 106 = s.src 106))) ∧
    (fits s p r 0x21 [255] → held → a < 192 → Completes (.tileClear p) s (fun e => okWith s e p r 0 ∧
      (e.tile a).qcount = 0 ∧ e.store.thrDirty = true ∧
      (e.tile a).role = (if (s.tile a).role ∈ [.failed, .failedRouter] then .quarantined else (s.tile a).role) ∧
      ∀ t, t ≠ a → e.tile t = s.tile t)) ∧
    (fits s p r 0x30 [] → Completes (.safeHoldReq p) s (fun e => okWith s e p r 0 ∧ RaisedIn 11 s e ∧
      ((s.src 11).st = .clear → (s.srcCfg 11).has 6 = true → e.dev.state = .safeHold ∧ e.dev.holdSrc = some 11 ∧
        ∀ k, k < 10 → (e.chan k).energised = false))) ∧
    (fits s p r 0x31 [] → held →
      (s.rv.mode = .split → Completes (.voterTest p) s (fun e => okWith s e p r (s.rget 0x20010).toNat ∧
        e.rget 0x20010 = s.rget 0x20010)) ∧
      (s.rv.mode ≠ .split → Completes (.voterTest p) s (fun e => okWith s e p r (e.rget 0x20010).toNat ∧
        bitsOf (e.rget 0x20010) 5 0 = s.dev.phys.voterP.toNat ∧ bitsOf (e.rget 0x20010) 13 8 = s.dev.phys.voterS.toNat ∧
        bitAt (e.rget 0x20010) 14 = true))) ∧
    (fits s p r 0x120 [0x3FF] → held → Completes (.outRestart p) s (fun e => okWith s e p r 0 ∧
      ∀ k, k < 10 → (e.chan k).energised = ((s.chan k).energised || (a.testBit k &&
        decide ((chanCfg s.sio.body k).restart = 1) && decide ((s.chan k).bt = .idle) && s.conds k &&
        s.dev.state != .planLoad)))) ∧
    (fits s p r 0x121 [1] →
      let k := 8 + a
      let still := (s.pair (brakeCfg s.sio.body a).standstill).st
      ((s.chan k).energised = true → still = .release → Completes (.brakeTest p) s (fun e => okWith s e p r 0 ∧
        e.chan k = { s.chan k with energised := false, cmdAt := s.ao, bt := .apply, btStart := s.ao } ∧
        ∀ j, j ≠ k → e.chan j = s.chan j)) ∧
      ((s.chan k).energised = false ∨ still ≠ .release → Completes (.brakeTest p) s (fun e => refusedWith s e p r 9 ∧
        e.sio = s.sio))) ∧
    (fits s p r 0x200 [all64, all64, all64] → held → 10 ≤ a / 2 ^ 32 → a / 2 ^ 32 ≤ 60000 → 2 * (a % 2 ^ 32) ≤ a / 2 ^ 32 →
      Completes (.hwdArm p) s (fun e => ∃ c : W32, okWith s e p r c.toNat ∧ e.sv.hwd =
        { st := .first, chal := c, seed := BitVec.ofNat 128 (reqField r 24 16), prev := s.ao,
          tOpen := a % 2 ^ 32 * 50000, tClose := a / 2 ^ 32 * 50000, heldAt := none } ∧ e.sv.rwd = s.sv.rwd)) ∧
    (fits s p r 0x201 [] → held → Completes (.hwdDisarm p) s (fun e => okWith s e p r 0 ∧ e.sv.hwd.st = .disarmed ∧
      e.sv.rwd = s.sv.rwd)) ∧
    (fits s p r 0x202 [0x1FFF, all64] → held → a / 1024 % 4 ≠ 3 → Completes (.taskSet p) s (fun e => okWith s e p r 0 ∧
      (let m := mget TaskMon.reset e.sv.tasks (a % 16)
       m.en = a.testBit 12 ∧ m.stream = a / 16 % 64 ∧ m.chk = a / 1024 % 4 ∧ m.lo = reqArg r 2 % 2 ^ 32 ∧
       m.hi = reqArg r 2 / 2 ^ 32) ∧
      ∀ m, m ≠ a % 16 → mget TaskMon.reset e.sv.tasks m = mget TaskMon.reset s.sv.tasks m)) ∧
    (fits s p r 0x300 [255] → held ∨ (romCfg a).clsD = true ∨ (romCfg a).reserved = true →
      ((s.src a).st = .latched → (s.src a).asserted = false → Completes (.faultClear p) s (fun e => okWith s e p r 0 ∧
        (e.src a).st = .clear ∧ (e.src a).occ = (s.src a).occ ∧ ∀ n, n ≠ a → e.src n = s.src n)) ∧
      ((s.src a).st = .latched → (s.src a).asserted = true → Completes (.faultClear p) s (fun e => refusedWith s e p r 9 ∧
        e.flt = s.flt)) ∧
      ((s.src a).st ≠ .latched → Completes (.faultClear p) s (fun e => okWith s e p r (s.src a).st.code ∧ e.flt = s.flt))) ∧
    (fits s p r 0x301 [0xFFFF03FF] → held →
      let hit : Prop := 1 ≤ a % 256 ∧ a % 256 ≤ 9 ∧ a / 256 % 4 ≠ 0
      (hit → Completes (.faultInject p) s (fun e => okWith s e p r 0 ∧ e.flt.injTarget.toNat = a % 256 ∧
        e.flt.injMode.toNat = a / 256 % 4 ∧ e.flt.injUnit.toNat = a / 65536 % 65536 ∧ e.flt.injReg = false)) ∧
      (¬ hit → Completes (.faultInject p) s (fun e => okWith s e p r 0 ∧ e.flt.injTarget = 0))) ∧
    (fits s p r 0x302 [255] → held → (romCfg a).reserved = false → ¬(231 ≤ a ∧ a ≤ 235) →
      Completes (.faultRaise p) s (fun e => okWith s e p r 0 ∧ RaisedIn a s e)) ∧
    (fits s p r 0x303 [255] → Completes (.capRearm p) s (fun e => okWith s e p r 0 ∧ ∀ g, g < 8 →
      bitAt (e.rget (0x10100 + 32 * g)) 8 = (bitAt (s.rget (0x10100 + 32 * g)) 8 && !a.testBit g) ∧
      bitsOf (e.rget (0x10100 + 32 * g)) 7 0 = bitsOf (s.rget (0x10100 + 32 * g)) 7 0))

/-- O45. The safety configuration and its log (R547 to R553): CFG_READ reads the body in force, CFG_BEGIN opens a copy, CFG_WRITE
writes into it, CFG_ABORT drops it; CFG_COMMIT refuses what R548 names, writes the record into the other slot and an entry into the
log, and takes the body into use, or changes nothing where the flash does not take it (R550); PWD_SET replaces salt and hash under
the old password's mask and clears FACTORY; LOG_READ reads an entry. The model's choices and readings in it: log entries 9 and 31.
-/
def Obligations.SafetyConfiguration : Prop :=
  ∀ (s : State) (p : ReqPath) (r : BitVec 512),
    let a := reqArg r 1
    let held : Prop := s.rv.privHeld = true
    let logged (e : State) (opid : Nat) (old new : W32) (kind : Byte) (body : FMap Byte) : Prop :=
      (∃ l ∈ e.store.log, l.seq.toNat = (s.store.lastLog + 1) % 2 ^ 32 ∧ l.opid = BitVec.ofNat 32 opid ∧ l.time = vtimeOf s.devNow ∧
        l.oldCrc = old ∧ l.newCrc = new ∧ l.kind = kind) ∧
      ∃ c : CfgRec, c.seq = s.sio.cfgSeq + 1 ∧ c.body = body ∧ c.kind = kind ∧
        ((e.store.cfg0 = some c ∧ e.store.cfg1 = s.store.cfg1) ∨ (e.store.cfg1 = some c ∧ e.store.cfg0 = s.store.cfg0))
    (fits s p r 0x100 [0xFFFF] → a % 8 = 0 →
      (a + 8 ≤ s.sio.bodyLen → s.factory = false → Completes (.cfgRead p) s (fun e =>
        okWith s e p r (leNat (bodyBytes s.sio.body a 8)) ∧ e.sio = s.sio ∧ e.store = s.store)) ∧
      (s.sio.bodyLen ≤ a → Completes (.cfgRead p) s (fun e => okWith s e p r 0 ∧ e.sio = s.sio))) ∧
    (fits s p r 0x101 [] → held → Completes (.cfgBegin p) s (fun e => okWith s e p r s.sio.cfgCrc.toNat ∧
      e.sio = { s.sio with staging := some (s.sio.body, s.sio.bodyLen) })) ∧
    (fits s p r 0x102 [0xFFFF, all64, all64, all64] → held → a % 8 = 0 → a ≤ 65512 →
      (s.sio.staging = none → Completes (.cfgWrite p) s (fun e => refusedWith s e p r 6 ∧ e.sio = s.sio)) ∧
      (∀ b n, s.sio.staging = some (b, n) → Completes (.cfgWrite p) s (fun e => okWith s e p r 0 ∧
        ∃ c, e.sio = { s.sio with staging := some (c, Max.max n (a + 24)) } ∧
          (∀ i, i < 24 → bodyByte c (a + i) = reqField r (24 + i) 1) ∧
          ∀ o, o < a ∨ a + 24 ≤ o → bodyByte c o = bodyByte b o))) ∧
    (fits s p r 0x103 [all64, all64] → held →
      (s.sio.staging = none → Completes (.cfgCommit p) s (fun e => refusedWith s e p r 6 ∧ e.sio = s.sio ∧ e.store = s.store)) ∧
      (∀ b n, s.sio.staging = some (b, n) →
        let sound : Prop := n = 8864 ∧ n = a / 2 ^ 32 ∧ (cfgCrcOf b).toNat = a % 2 ^ 32 ∧
          s.sio.cfgCrc.toNat = reqArg r 2 / 2 ^ 32 ∧ bodyOk b = true
        (s.factory = true → Completes (.cfgCommit p) s (fun e => refusedWith s e p r 6 ∧ e.sio = s.sio ∧ e.store = s.store)) ∧
        (s.factory = false → ¬ sound → Completes (.cfgCommit p) s (fun e =>
          refusedWith s e p r 4 ∧ e.sio = s.sio ∧ e.store = s.store)) ∧
        (s.factory = false → sound → s.dev.phys.flashOk = false → Completes (.cfgCommit p) s (fun e =>
          refusedWith s e p r 4 ∧ RaisedIn 63 s e ∧ e.sio.body = s.sio.body ∧ e.store = s.store)) ∧
        (s.factory = false → sound → s.dev.phys.flashOk = true → Completes (.cfgCommit p) s (fun e =>
          okWith s e p r (s.sio.cfgSeq + 1).toNat ∧ e.sio.body = b ∧ e.sio.staging = none ∧ e.sio.cfgCrc = cfgCrcOf b ∧
          e.sio.cfgSeq = s.sio.cfgSeq + 1 ∧ logged e (reqArg r 2) s.sio.cfgCrc (cfgCrcOf b) 1 b)))) ∧
    (fits s p r 0x104 [] → held → Completes (.cfgAbort p) s (fun e => okWith s e p r 0 ∧
      e.sio = { s.sio with staging := none })) ∧
    (fits s p r 0x110 [] → held → Completes (.pwdNewsalt p) s (fun e => ∃ x : BitVec 128,
      okWith s e p r (x.toNat % 2 ^ 64) ∧ e.sio = { s.sio with newSalt := some x })) ∧
    (fits s p r 0x111 [0xFFFFFFFF] → held →
      (s.sio.newSalt = none ∨ s.sio.staging = none → Completes (.pwdSet p) s (fun e => refusedWith s e p r 6 ∧ e.sio = s.sio)) ∧
      (∀ x b n, s.sio.newSalt = some x → s.sio.staging = some (b, n) →
        (s.rv.nonce = none → Completes (.pwdSet p) s (fun e => refusedWith s e p r 7 ∧ e.sio = s.sio)) ∧
        (∀ w at_ h, s.rv.nonce = some (w, at_, h) →
          (h = false ∨ at_ + 500000000 < s.ao → Completes (.pwdSet p) s (fun e => refusedWith s e p r 7 ∧ e.sio = s.sio ∧
            e.rv.nonce = none)) ∧
          (h = true → s.ao ≤ at_ + 500000000 → s.dev.phys.flashOk = true → Completes (.pwdSet p) s (fun e =>
            okWith s e p r 0 ∧ e.rv.nonce = none ∧ e.sio.newSalt = none ∧ e.sio.cfgCrc = s.sio.cfgCrc ∧
            (∀ i, i < 48 → bodyByte e.sio.body (0x50 + i) =
              (BitVec.ofNat 8 (bodyByte b i) ^^^ lget 0 (s.nonceHash w) i).toNat) ∧
            (∀ i, i < 16 → bodyByte e.sio.body (0x40 + i) = x.toNat / 2 ^ (8 * i) % 256) ∧
            e.factory = false ∧ (∀ o, o ≠ 2 → o < 0x40 ∨ 0x80 ≤ o → bodyByte e.sio.body o = bodyByte s.sio.body o) ∧
            logged e a s.sio.cfgCrc s.sio.cfgCrc 2 e.sio.body))))) ∧
    (fits s p r 0x122 [0x3FFFFFFFF] →
      (∀ l, s.store.log.find? (fun l => l.seq.toNat = a % 2 ^ 32) = some l → Completes (.logRead p) s (fun e =>
        okWith s e p r (leField l.bytes (8 * (a / 2 ^ 32)) 8) ∧ e.store = s.store)) ∧
      ((∀ l ∈ s.store.log, l.seq.toNat ≠ a % 2 ^ 32) → Completes (.logRead p) s (fun e => refusedWith s e p r 4 ∧
        e.store = s.store)))

/-- O46. Raises and their reactions (R501, R505 to R507, R510 to R513, R517): a raise is counted, asserts a level source, and fills
the group's capture where that holds none; a source that leaves CLEAR is counted at its severity and its reactions are carried out:
interrupt, error pin, chip reset, trip of the outputs in its mask, SAFE_HOLD. A source that is not CLEAR reacts to nothing, and a
reserved one is never raised. The model's choices and readings in it: log entries 10 and 33. -/
def Obligations.SourceRaises : Prop :=
  ∀ (s : State) (n : Src) (level : Bool) (addr : W32) (init : Byte) (acc : BitVec 2) (unit : W16), s.dev.state ≠ .cold →
    s.ldr.phase ≠ .blackout → (n.val = 194 → s.beatHeld = false) →
    let o := s.src n
    let c := s.srcCfg n
    let cap := 0x10100 + 32 * (n.val / 32)
    let i : Instr := .sourceRaise n level addr init acc unit
    let clear : Prop := (romCfg n).reserved = false ∧ o.st = .clear ∧ ¬(231 ≤ n.val ∧ n.val ≤ 234)
    ((romCfg n).reserved = true → Completes i s (fun e => e = s)) ∧
    ((romCfg n).reserved = false → Completes i s (fun e => RaisedIn n s e ∧ (e.src n).asserted = (o.asserted || level) ∧
      (∀ m, m ≠ n.val → (e.src m) = (s.src m)) ∧ e.vd.journal = s.vd.journal ∧
      (bitAt (s.rget cap) 8 = false → e.rget cap = BitVec.ofNat 32 (n + 256 + 512 * acc.toNat) ∧ e.rget (cap + 4) = addr ∧
        e.rget (cap + 8) = BitVec.ofNat 32 (init.toNat + 256 * unit.toNat) ∧ e.rget64 (cap + 16) = s.ao % 2 ^ 64) ∧
      (bitAt (s.rget cap) 8 = true → bitsOf (e.rget cap) 31 16 = satAdd 65535 (bitsOf (s.rget cap) 31 16) 1 ∧
        bitsOf (e.rget cap) 7 0 = bitsOf (s.rget cap) 7 0))) ∧
    ((romCfg n).reserved = false → o.st ≠ .clear → Completes i s (fun e => e.dev = s.dev ∧ e.flt.errP = s.flt.errP ∧
      e.sio = s.sio ∧ e.streams = s.streams ∧ e.out = s.out ∧
      ∀ k, k < 4 → e.rget64 (0x10080 + 8 * k) = s.rget64 (0x10080 + 8 * k))) ∧
    (clear → Completes i s (fun e => (e.src n).depAo = s.ao ∧
      e.rget64 (0x10080 + 8 * c.sev.code) = (s.rget64 (0x10080 + 8 * c.sev.code) + 1) % 2 ^ 64 ∧
      (c.has 0 = true → bitAt (e.rget 0x10008) 0 = true) ∧
      (c.has 2 = true → c.clsD = false → e.errSLow = true) ∧
      (c.has 2 = true → c.clsD = true → e.flt.errP = true ∧ e.flt.errPMin = s.ao + 500 ∨
        s.ao < s.flt.errPLow ∧ e.flt.errPRaise = true) ∧
      (c.has 5 = true → ∀ k, k < 10 → c.trip.testBit k = true → (e.chan k).energised = false) ∧
      (c.has 6 = true → s.dev.state.live = true → e.dev.state = .safeHold ∧ e.dev.holdSrc = some n.val ∧
        e.dev.holdAt = some s.ao ∧ e.rv.privHeld = false ∧ ∀ k, k < 10 → (e.chan k).energised = false) ∧
      (c.has 6 = false → e.dev.state = s.dev.state) ∧
      (c.has 4 = true → c.has 6 = false → s.dev.holdAt ≠ some s.ao → s.dev.state ≠ .alarm → e.dev.chipReq = some (some n.val)))) ∧
    (231 ≤ n.val → n.val ≤ 234 → o.st = .clear →
      let policy := s.kv.policy.toNat / 4 ^ (n.val - 231) % 4
      (policy ≠ 0 → s.dev.state ≠ .alarm → Completes i s (fun e => e.dev.state = .alarm ∧ e.dev.holdSrc = none ∧
        ∀ k, k < 10 → (e.chan k).energised = false)) ∧
      (policy = 0 → Completes i s (fun e => e.dev.state = s.dev.state ∧ bitAt (e.rget 0x10008) 0 = true)))

/-- O47. Recovery, ERR_P, injections and rotations (R507, R510, R511, R514, R515, R521). A line that deasserts makes its source
QUIET or LATCHED; after the quiet period a source clears, or latches past its recovery limit. ERR_P stays high for its minimum and
falls by AUTO or RELEASE, then stays low for 10 us. FC_INJ arms an injection and is reported outside test-unlock, and never names a
command-only target. The rotations and scrubs move on, and a failure raises its source. The model's choices and readings in it: log
entries 17, 33 and 34. -/
def Obligations.FaultRecovery : Prop :=
  ∀ (s : State) (n : Src) (v : W32) (r : RegRow), s.dev.state ≠ .cold → s.ldr.phase ≠ .blackout →
    let o := s.src n
    let c := s.srcCfg n
    let recent := fun now => o.recov.filter (fun t => decide (now < t + c.windowS * 50000000))
    let fallen (e : State) : Prop := e.flt.errP = false ∧ e.flt.errPRel = false ∧ e.flt.errPLow = e.ao + 500
    (s.lineHeld n = true → Completes (.sourceDeassert n) s (fun e => e = s)) ∧
    (s.lineHeld n = false → Completes (.sourceDeassert n) s (fun e => (e.src n).asserted = false ∧
      (e.src n).occ = o.occ ∧
      (e.src n).st = (if o.st = .active then (if c.sev = .critical ∨ c.auto = false then .latched else .quiet) else o.st) ∧
      ((e.src n).st = .quiet → o.st = .active → (e.src n).quietAt = s.ao) ∧
      ((e.src n).st = .latched → o.st = .active → bitAt (e.rget 0x10008) 1 = true))) ∧
    (o.st = .quiet →
      let now := Max.max s.ao (o.quietAt + c.quietMs * 50000)
      Completes (.quietPeriodEnd n) s (fun e => e.ao = now ∧
        ((recent now).length < c.limit → (e.src n).st = .clear ∧ (e.src n).recov = now :: recent now ∧
          bitAt (e.rget 0x10008) 2 = true) ∧
        (c.limit ≤ (recent now).length → (e.src n).st = .latched ∧ bitAt (e.rget 0x10008) 1 = true))) ∧
    (s.flt.errP = true →
      (s.flt.errPRel = true ∨ bitAt (s.rget 0x1000C) 1 = true → Completes .errPMinimumEnd s (fun e =>
        fallen e ∧ e.ao = Max.max s.ao s.flt.errPMin ∧ e.dev = s.dev)) ∧
      (s.flt.errPRel = false → bitAt (s.rget 0x1000C) 1 = false → Completes .errPMinimumEnd s (fun e =>
        e = { s with ao := Max.max s.ao s.flt.errPMin }))) ∧
    (s.flt.errP = false → Completes .errPLowEnd s (fun e => e.ao = Max.max s.ao s.flt.errPLow ∧
      e.flt.errP = s.flt.errPRaise ∧ e.flt.errPRaise = false ∧ (s.flt.errPRaise = true → e.flt.errPMin = e.ao + 500))) ∧
    (f00Reaches s 0x1000C r → s.xpChanges 0x1000C v = false → v.getLsbD 0 = true → s.flt.errP = true →
      (s.flt.errPMin ≤ s.ao → Completes (.errPRelease (.host 0) v) s fallen) ∧
      (s.ao < s.flt.errPMin → Completes (.errPRelease (.host 0) v) s (fun e => e.flt.errP = true ∧ e.flt.errPRel = true ∧
        bitAt (e.rget 0x1000C) 1 = v.getLsbD 1))) ∧
    (f00Reaches s 0x10010 r →
      let target := bitsOf v 7 0
      let armed (e : State) : Prop := e.flt.injTarget.toNat = target ∧ e.flt.injMode.toNat = bitsOf v 9 8 ∧
        e.flt.injUnit.toNat = bitsOf v 31 16 ∧ e.flt.injReg = true
      (target ∈ [1, 2, 4, 5, 6, 7, 8] → bitsOf v 9 8 ≠ 0 →
        (s.testUnlock = true → Completes (.injectionArm (.host 0) v) s (fun e => armed e ∧ e.src 192 = s.src 192)) ∧
        (s.testUnlock = false → s.xpChanges 0x10010 v = true → Completes (.injectionArm (.host 0) v) s (fun e =>
          armed e ∧ accessError s e 12 0x10010))) ∧
      (target ∈ [3, 9] → s.testUnlock = true ∨ s.xpChanges 0x10010 v = true → Completes (.injectionArm (.host 0) v) s (fun e =>
        e.flt.injTarget = s.flt.injTarget ∧ e.flt.injMode = s.flt.injMode ∧ RaisedIn 192 s e))) ∧
    Completes (.collectorRotation true) s (fun e => e = { s with flt.rotSrc := (s.flt.rotSrc + 1) % 256 }) ∧
    Completes (.collectorRotation false) s (fun e => RaisedIn 14 s e ∧ e.flt.rotSrc = (s.flt.rotSrc + 1) % 256 ∧
      bitAt (e.rget 0x10008) 4 = true) ∧
    (let k := checkerAt checkers s.flt.rotChk
     (∀ silent, Completes (.checkerRotation true silent) s (fun e => e.flt.rotChk = (s.flt.rotChk + 1) % 3105 ∧ e.flt.src = s.flt.src ∧
       (k.1 = 7 → e.bsc.chkPass.getLsbD k.2 = decide (k.2 < 4)) ∧ (k.1 ≠ 7 → e.bsc = s.bsc))) ∧
     (∀ m, injSource k.1 k.2 true = some m → m ≠ 14 → (romCfg m).reserved = false →
       Completes (.checkerRotation false false) s (fun e => RaisedIn m s e ∧ e.src 14 = s.src 14 ∧
         bitAt (e.rget 0x10008) 4 = true) ∧
       Completes (.checkerRotation false true) s (fun e => RaisedIn m s e ∧ RaisedIn 14 s e))) ∧
    (∀ l m : EccOut, Completes (.memoryScrub l m) s (fun e =>
      e.flt.scrubLedger = (s.flt.scrubLedger + 1) % 2 ^ 21 ∧ e.flt.scrubSram = (s.flt.scrubSram + 1) % 2 ^ 20 ∧
      (l = .corr → RaisedIn 128 s e) ∧ (l = .unc → RaisedIn 129 s e) ∧ (m = .corr → RaisedIn 7 s e) ∧
      (m = .unc → RaisedIn 8 s e) ∧ (l = .ok → m = .ok → e.flt.src = s.flt.src ∧ e.regs = s.regs)))

/-- Safety inputs (R528, R530, R531, R534): an EQUAL pattern past the discrepancy time makes the pair DISCREPANT, raises SI_DISCn
and holds the streams of its mask; a RELEASE pattern that has lasted its filter releases it, a BX410 pair's start-up test only after
a demand run of T_open; a round that adopts another pattern, with no blanking, makes a released pair a demand, and no channel that
uses the pair stays energised. -/
def safetyInputsPart : Prop :=
  ∀ (s : State) (p : Fin 16) (a : W64) (n : Nat), s.dev.state ≠ .cold → s.ldr.phase ≠ .blackout →
    let q := s.pair p
    let c := pairCfg s.sio.body p
    let off (e : State) : Prop := ∀ k, k < 10 → (chanCfg s.sio.body k).inputs.getLsbD p = true → (e.chan k).energised = false
    let heldBy (e : State) : Prop := ∀ m : Fin 64, c.mode ≠ 0 → c.holds.getLsbD m = true → (e.stream m).hInput = true
    (q.pat = .equal → q.st = .demand ∨ q.st = .testPending → Completes (.discrepancyTimeout p) s (fun e =>
      e.ao = Max.max s.ao (q.patAt + c.disc + 1) ∧ (e.pair p).st = .discrepant ∧ heldBy e ∧ off e ∧
      ((s.src (32 + p)).asserted = false → RaisedIn (32 + p) s e) ∧ bitAt (e.rget 0x70008) 1 = true)) ∧
    (q.pat = .release → q.st = .demand ∨ (q.st = .testPending ∧ c.topen ≤ q.demandRun) →
      Completes (.releaseFilterEnd p) s (fun e => e.ao = Max.max s.ao (q.patAt + c.filt) ∧ (e.pair p).st = .release ∧
        (e.pair p).relAt = e.ao)) ∧
    (q.pat = .release → q.st = .testPending → q.demandRun < c.topen → Completes (.releaseFilterEnd p) s (fun e =>
      e = { s with ao := Max.max s.ao (q.patAt + c.filt) })) ∧
    (q.pat ≠ .equal ∨ (q.st ≠ .demand ∧ q.st ≠ .testPending) → Completes (.discrepancyTimeout p) s (fun e => e = s)) ∧
    (s.rv.stopped = false → s.rv.pause = none → s.rv.mode = .trio → q.st = .release → q.pat = .release → c.blank = 0 →
      (∀ k, k < 16 → k ≠ p.val → (s.pair k).st = .unused) → (∀ h : Fin 2, (s.chan (8 + h)).bt = .idle) →
      pairPattern c.pol (a.getLsbD (2 * p)) (a.getLsbD (2 * p + 1)) ≠ .release →
      Completes (.agreementRound a a a s.sio.feedback n) s (fun e =>
        (e.pair p).st = .demand ∧ heldBy e ∧ off e ∧ bitAt (e.rget 0x70008) 0 = true))

/-- Channels and brake tests (R536, R537, R539 to R541, R544 to R546): a test pulse into an energised channel raises its read-back
source where it fails; a feedback pin that stands wrong past T_fb raises it; a brake test checks the feedback, drives BTQ, passes,
and energises the channel again where its conditions hold; a failed or overdue one leaves it de-energised and raises BRAKE_TESTn. A
channel evaluated with its conditions failing, outside a blackout, is de-energised. -/
def channelsPart : Prop :=
  ∀ (s : State) (ch : Fin 10) (h : Fin 2) (pinB : Bool), s.dev.state ≠ .cold → s.ldr.phase ≠ .blackout →
    let k := 8 + h.val
    let c := s.chan k
    let b := brakeCfg s.sio.body h
    let failed (last : BitVec 2) (e : State) : Prop := (e.chan k).energised = false ∧ (e.chan k).bt = .idle ∧
      (e.chan k).btBad = true ∧ (e.chan k).btLast = last ∧ e.sio.btq.getLsbD h = false ∧ RaisedIn (58 + h) s e ∧
      bitAt (e.rget 0x70008) 5 = true
    ((s.chan ch).energised = true →
      Completes (.testPulse ch pinB true) s (fun e => e = s) ∧
      Completes (.testPulse ch pinB false) s (fun e => RaisedIn (48 + ch) s e ∧
        ((s.src (48 + ch)).st = .clear → (s.srcCfg (48 + ch)).has 5 = true → (s.srcCfg (48 + ch)).trip.testBit ch = true →
          (e.chan ch).energised = false))) ∧
    ((s.chan ch).energised = false → ∀ ok, Completes (.testPulse ch pinB ok) s (fun e => e = s)) ∧
    (∀ w, mget 0 s.sio.fbWrong ch = w → w ≠ 0 → (chanCfg s.sio.body ch).fbEn = true → Completes (.feedbackTimeout ch) s (fun e =>
      RaisedIn (48 + ch) s e ∧ e.ao = Max.max s.ao (w + (chanCfg s.sio.body ch).tfb))) ∧
    (mget 0 s.sio.fbWrong ch = 0 → Completes (.feedbackTimeout ch) s (fun e => e = s)) ∧
    (c.bt = .apply →
      ((chanCfg s.sio.body k).fbEn = false ∨ s.fbBad k = false → Completes (.brakeApplyEnd h) s (fun e =>
        e.ao = Max.max s.ao (c.btStart + b.apply) ∧ e.chan k = { c with bt := .torque } ∧ e.sio.btq.getLsbD h = true ∧
        (∀ j, j ≠ k → e.chan j = s.chan j) ∧ e.flt = s.flt)) ∧
      ((chanCfg s.sio.body k).fbEn = true → s.fbBad k = true → Completes (.brakeApplyEnd h) s (failed 2))) ∧
    (c.bt = .torque → Completes (.brakeTorqueEnd h) s (fun e =>
      e.ao = Max.max s.ao (c.btStart + b.apply + b.torque) ∧ (e.chan k).bt = .wait ∧ (e.chan k).btLast = 1 ∧
      (e.chan k).btPassAt = some e.ao ∧ (e.chan k).btDue = false ∧
      (e.chan k).btDueAt = (if b.interval = 0 then none else some (e.ao + b.interval)) ∧
      e.sio.btq.getLsbD h = false ∧ (e.chan k).energised = c.energised ∧ bitAt (e.rget 0x70008) 4 = true)) ∧
    (c.bt = .wait → Completes (.brakeReenergise h) s (fun e =>
      e.ao = Max.max s.ao (c.btStart + b.apply + b.torque + 5000000) ∧ (e.chan k).bt = .idle ∧
      (e.chan k).energised = (c.energised || s.conds k) ∧ ∀ j, j ≠ k → e.chan j = s.chan j)) ∧
    (∀ t, c.btDueAt = some t →
      Completes (.brakeTestDue h) s (fun e => e.ao = Max.max s.ao t ∧ e.chan k = { c with btDue := true }) ∧
      (c.btDue = false → Completes (.brakeTestOverdue h) s (fun e => e = s)) ∧
      (c.btDue = true → Completes (.brakeTestOverdue h) s (fun e => e.ao = Max.max s.ao (t + b.grace) ∧ failed 3 e))) ∧
    (∀ j, j < 10 → s.conds j = false → ¬(s.dev.state = .planLoad ∧ s.dev.blackout = true) →
      ((s.evalChan j).chan j).energised = false)

/-- O48. Safety inputs, channels and brake tests: both statements above. The model's choices and readings in it: log entries 9 and
35. -/
def Obligations.SafetyInputsAndChannels : Prop := safetyInputsPart ∧ channelsPart

/-- A PERMIT PDU of a consumed connection (R555 to R557): big-endian, its CRC over the connection's VCID and the bytes before it. -/
def permitPdu (k : CConCfg) (seq : W32) (texp ds : Nat) (w : W32) : List Byte :=
  let b := beBytes 2 0x4253 ++ beBytes 1 1 ++ beBytes 1 0x10 ++ beBytes 8 k.cid.toNat ++ beBytes 4 seq.toNat ++ beBytes 2 texp ++
    beBytes 1 4 ++ beBytes 1 ds ++ beBytes 4 w.toNat
  b ++ beBytes 4 (crcBsc (beBytes 8 k.vcid.toNat ++ b))

/-- O49. The Bolrax Safe Channel (R554 to R563). The oldest queued PDU leaves on every port of its connection that is up; a PDU that
none takes within P is dropped and raises BSC_PRODUCER; P after the last a STATE PDU follows, SAFE_STATE in SAFE_HOLD and ALARM. A
consumed connection accepts a PERMIT PDU in the window, counts duplicates and errors, and enters TIMEOUT as R563 tables; a START out
of the window is adopted there, and two good PDUs bring it back. A listener drops what it has seen, and an ARP request for its own
address is answered. The model's choices and readings in it: log entries 9 and 36. -/
def Obligations.SafeChannel : Prop :=
  ∀ (s : State) (c : Fin 16) (i : Fin 8) (port : Port) (seq w ip : W32) (texp ds : Nat), s.dev.state ≠ .cold →
    s.ldr.phase ≠ .blackout →
    let q := s.pcon c
    let k := pconCfg s.sio.body c
    let v := s.ccon i
    let g := cconCfg s.sio.body i
    let sentOn (b : List Byte) (e : State) : Prop := (∀ n ∈ s.upPorts c, .bsc c n b ∈ e.out) ∧
      e.rget64 0x80010 = (s.rget64 0x80010 + (s.upPorts c).length) % 2 ^ 64 ∧ e.vd.journal = s.vd.journal
    let recv : Instr := .bscPduReceive port i none (permitPdu g seq texp ds w)
    let here : Prop := g.ports.getLsbD port = true ∧ s.bsc.linkUp.getLsbD port = true
    let fine : Prop := here ∧ 1 ≤ texp ∧ texp ≤ g.texpMax ∧ texp < 65536 ∧ ds < 256
    let d := (seq - v.last).toNat
    let permits : W16 := if ds % 32 = 3 then w.setWidth 16 else 0
    let accepted (e : State) : Prop := (e.ccon i).st = .run ∧ (e.ccon i).last = seq ∧ (e.ccon i).permits = permits ∧
      (e.ccon i).texp = texp ∧ (e.ccon i).acceptAt = s.ao ∧ (e.ccon i).err = v.err ∧ ∀ j, j ≠ i.val → e.ccon j = s.ccon j
    let timedOut (e : State) : Prop := (e.ccon i).st = .timeout ∧ (e.ccon i).permits = 0 ∧
      (e.ccon i).tmo = satAdd 65535 v.tmo 1 ∧ bitAt (e.rget 0x80008) 0 = true ∧
      ((s.src 60).asserted = false → RaisedIn 60 s e)
    (∀ p t, q.queue = p :: t → s.upPorts c ≠ [] → Completes (.bscPduTransmit c) s (fun e => sentOn p.bytes e ∧
      (e.pcon c).queue = t ∧ (e.pcon c).lastAt = s.ao ∧ (e.pcon c).seq = q.seq ∧ ∀ j, j ≠ c.val → e.pcon j = s.pcon j)) ∧
    (q.queue = [] ∨ s.upPorts c = [] → Completes (.bscPduTransmit c) s (fun e => e = s)) ∧
    (k.ports ≠ 0 →
      let now := { s with ao := Max.max s.ao (q.lastAt + k.period) }
      let kind := if s.dev.state = .safeHold ∨ s.dev.state = .alarm then 5 else 4
      let cause := if s.dev.state = .safeHold then (match s.dev.holdSrc with | some n => n | none => 0xFF) else 0xFF
      let n : W32 := if q.seq = 0xFFFFFFFF then 1 else q.seq + 1
      let b := now.pduBytes k kind n (decide (q.sent < 16)) (now.stateLoad cause)
      (q.queue = [] → s.upPorts c ≠ [] → Completes (.bscRefresh c) s (fun e => sentOn b e ∧ e.ao = now.ao ∧
        (e.pcon c).seq = n ∧ (e.pcon c).sent = q.sent + 1 ∧ (e.pcon c).queue = [] ∧ (e.pcon c).lastAt = now.ao)) ∧
      (q.queue ≠ [] ∨ s.upPorts c = [] → Completes (.bscRefresh c) s (fun e => e.ao = now.ao ∧ (e.pcon c).seq = n ∧
        (e.pcon c).queue = q.queue ++ [{ bytes := b, queuedAt := now.ao }] ∧ e.out = s.out))) ∧
    (k.ports = 0 → Completes (.bscRefresh c) s (fun e => e = s)) ∧
    (∀ p t, q.queue = p :: t → s.upPorts c = [] → Completes (.bscQueueTimeout c) s (fun e => RaisedIn 61 s e ∧
      e.ao = Max.max s.ao (p.queuedAt + k.period) ∧ (e.pcon c).queue = t ∧ (e.pcon c).drop = satAdd 0xFFFFFFFF q.drop 1 ∧
      (e.pcon c).seq = q.seq ∧ bitAt (e.rget 0x80008) 3 = true)) ∧
    (fine →
      (v.st = .idle ∨ (v.st = .run ∧ 1 ≤ d ∧ d < 2 ^ 31) → Completes recv s accepted) ∧
      (v.st ≠ .idle → d = 0 → Completes recv s (fun e => (e.ccon i).dup = satAdd 65535 v.dup 1 ∧ (e.ccon i).st = v.st ∧
        (e.ccon i).permits = v.permits ∧ (e.ccon i).err = v.err ∧ (e.ccon i).acceptAt = v.acceptAt)) ∧
      (v.st = .timeout → 1 ≤ d → d < 2 ^ 31 →
        (v.goodRun = 0 → Completes recv s (fun e => (e.ccon i).st = .timeout ∧ (e.ccon i).goodRun = 1 ∧ (e.ccon i).last = seq ∧
          (e.ccon i).permits = v.permits)) ∧
        (1 ≤ v.goodRun → s.ao ≤ v.acceptAt + v.texp * 50000 → Completes recv s accepted)) ∧
      (v.st ≠ .idle → 2 ^ 31 ≤ d → ds / 64 % 2 = 0 → Completes recv s (fun e => (e.ccon i).err = satAdd 65535 v.err 1 ∧
        (e.ccon i).st = v.st ∧ (e.ccon i).last = v.last ∧ (e.ccon i).permits = v.permits ∧ bitAt (e.rget 0x80008) 2 = true)) ∧
      (v.st = .run → 2 ^ 31 ≤ d → ds / 64 % 2 = 1 → Completes recv s (fun e => timedOut e ∧ (e.ccon i).last = seq ∧
        (e.ccon i).resync = satAdd 65535 v.resync 1 ∧ bitAt (e.rget 0x80008) 1 = true))) ∧
    (here → ∀ b : List Byte, beNat (slice 4 8 b) ≠ g.cid.toNat →
      (v.st = .run → 3 ≤ v.badRun → Completes (.bscPduReceive port i none b) s timedOut) ∧
      (v.badRun < 3 → Completes (.bscPduReceive port i none b) s (fun e => (e.ccon i).badRun = v.badRun + 1 ∧
        (e.ccon i).err = satAdd 65535 v.err 1 ∧ (e.ccon i).st = v.st ∧ (e.ccon i).permits = v.permits))) ∧
    (here → ∀ (r : W16) (b : List Byte), v.rtagSeq = some r → v.rtagHist.getLsbD 0 = true →
      Completes (.bscPduReceive port i (some r) b) s (fun e => e = { s with bsc.ccon := e.bsc.ccon } ∧
        ∀ j, e.ccon j = s.ccon j)) ∧
    (¬ here → ∀ r b, Completes (.bscPduReceive port i r b) s (fun e => e = s)) ∧
    (v.st = .run → Completes (.bscConsumerTimeout i) s (fun e => timedOut e ∧
      e.ao = Max.max s.ao (v.acceptAt + v.texp * 50000))) ∧
    (v.st ≠ .run → Completes (.bscConsumerTimeout i) s (fun e => e = s)) ∧
    (v.rtagSeq ≠ none → Completes (.listenerEliminationReset i) s (fun e => e.ao = Max.max s.ao (v.rtagAt + 5000000) ∧
      e.ccon i = { v with rtagSeq := none, rtagHist := 0 } ∧ ∀ j, j ≠ i.val → e.ccon j = s.ccon j)) ∧
    (let own := beNat (bodyBytes s.sio.body (0xB80 + 32 * port) 4)
     (own ≠ 0 → ip.toNat = own → s.bsc.linkUp.getLsbD port = true → Completes (.arpRequest port ip) s (fun e =>
       e = { s with out := .arp port ip :: s.out })) ∧
     (ip.toNat ≠ own → Completes (.arpRequest port ip) s (fun e => e = s)))

/-- O50. Watchdogs and task monitors (R565 to R571, R576). A service with the token of the challenge, inside its window, is accepted
and draws the next challenge; a wrong token, an early or a late service and a closed window are violations: the watchdog takes no
more services, and FS006 (safe hold) or FS064 is raised. A host service without privilege, and one of the porter or a debugger, is
discarded, counted and reported as FIREWALL. A monitor whose reference reaches hi counts LATE and raises FS066. -/
def Obligations.Watchdogs : Prop :=
  ∀ (s : State) (token : W32) (n : Nat) (m : Fin 16), s.dev.state ≠ .cold →
    let r := s.sv.rwd
    let h := s.sv.hwd
    let live (d : Dog) : Prop := (d.st = .first ∨ d.st = .run) ∧ d.heldAt = none
    let right (d : Dog) : Prop := token.toNat = crc32c (leBytes 4 d.chal.toNat ++ leBytes 16 d.seed.toNat)
    let violated6 (e : State) : Prop := e.sv.rwd = { r with st := .violated } ∧ RaisedIn 6 s e ∧
      ((s.src 6).st = .clear → (s.srcCfg 6).has 6 = true → s.dev.state.live = true → e.dev.state = .safeHold)
    let violated64 (bit : Nat) (e : State) : Prop := bitAt (e.rget 0x30008) bit = true ∧ (e.src 64).asserted = true ∧
      bitsOf (e.rget 0x30030) 23 16 = satAdd 255 (bitsOf (s.rget 0x30030) 23 16) 1 ∧
      ((s.src 64).asserted = false → RaisedIn 64 s e) ∧ e.sv.rwd = r ∧
      ((s.srcCfg 64).has 6 = false → e.sv.hwd = { h with st := .violated })
    let rejected (e : State) : Prop := RaisedIn 9 s e ∧ bitAt (e.rget 0x30008) 3 = true ∧
      bitsOf (e.rget 0x30030) 31 24 = satAdd 255 (bitsOf (s.rget 0x30030) 31 24) 1 ∧ e.src 64 = s.src 64 ∧ e.sv.rwd = r ∧
      (h.st ≠ .violated → e.sv.hwd.st ≠ .violated)
    (live r → s.rv.stopped = false → s.rv.pause = none → s.dbg.halted = false →
      let t := Max.max s.ao n
      (right r → r.prev + r.tOpen ≤ t → t ≤ r.prev + r.tClose → Completes (.reeveWdogService token n) s (fun e =>
        e.ao = t ∧ e.sv.rwd = { r with st := .run, chal := e.sv.rwd.chal, prev := t, tOpen := 12500, tClose := 50000 } ∧
        e.sv.hwd = h ∧ e.flt = s.flt ∧ bitsOf (e.rget 0x30010) 13 0 = min ((t - r.prev + 49) / 50) 0x3FFF ∧
        bitsOf (e.rget 0x30010) 27 14 = Max.max (bitsOf (s.rget 0x30010) 27 14) (min ((t - r.prev + 49) / 50) 0x3FFF))) ∧
      (¬ right r ∨ t < r.prev + r.tOpen ∨ r.prev + r.tClose < t → Completes (.reeveWdogService token n) s (fun e =>
        e.ao = t ∧ violated6 e))) ∧
    (¬ live r ∨ s.rv.stopped = true ∨ s.rv.pause ≠ none ∨ s.dbg.halted = true →
      Completes (.reeveWdogService token n) s (fun e => e = s)) ∧
    (s.fnLive 0 = true → mget none s.hl.dx 3 = none →
      let i : Instr := .hostWdogService (.host 0) token
      (s.rv.privHeld = true → s.ao < s.rv.leaseEnd →
        (live h → right h → h.prev + h.tOpen ≤ s.ao → s.ao ≤ h.prev + h.tClose → Completes i s (fun e =>
          e.sv.hwd = { h with st := .run, chal := e.sv.hwd.chal, prev := s.ao } ∧ e.sv.rwd = r ∧ e.flt = s.flt ∧
          bitsOf (e.rget 0x30030) 15 0 = satAdd 65535 (bitsOf (s.rget 0x30030) 15 0) 1 ∧ e.ao = s.ao)) ∧
        (live h → ¬ right h → s.ao ≤ h.prev + h.tClose → Completes i s (violated64 2)) ∧
        (live h → right h → s.ao < h.prev + h.tOpen → s.ao ≤ h.prev + h.tClose → Completes i s (violated64 1)) ∧
        (live h → h.prev + h.tClose < s.ao → Completes i s (violated64 0)) ∧
        (¬ live h → Completes i s (fun e => e = { s with hl.dx := e.hl.dx }))) ∧
      (s.rv.privHeld = false ∨ s.rv.leaseEnd ≤ s.ao → Completes i s rejected)) ∧
    (∀ who : Initiator, who = .porter ∨ who = .debug ∧ s.dbg.auth = true ∧ s.dev.state ≠ .boot →
      s.reaches who (.dev 0x30024) = true → mget none s.hl.dx 3 = none → Completes (.hostWdogService who token) s rejected) ∧
    (live r → Completes (.watchdogClose false) s (fun e => e.ao = Max.max s.ao (r.prev + r.tClose + 1) ∧ violated6 e)) ∧
    (live h → Completes (.watchdogClose true) s (fun e => e.ao = Max.max s.ao (h.prev + h.tClose + 1) ∧ violated64 0 e)) ∧
    (¬ live r → Completes (.watchdogClose false) s (fun e => e = s)) ∧
    (¬ live h → Completes (.watchdogClose true) s (fun e => e = s)) ∧
    (let k := s.task m
     (∀ a b t l, k.refs = (a, b, t) :: l → k.en = true → s.isBound k.stream = true → Completes (.taskLate m) s (fun e =>
       e.ao = Max.max s.ao (t + 50 * k.hi) ∧ e.task m = { k with refs := l, late := satAdd 65535 k.late 1 } ∧
       (∀ j, j ≠ m.val → e.task j = s.task j) ∧ bitAt (e.rget 0x30008) 6 = true ∧ RaisedIn 66 s e ∧
       e.vd.journal = s.vd.journal)) ∧
     (k.refs = [] ∨ k.en = false ∨ s.isBound k.stream = false → Completes (.taskLate m) s (fun e => e = s)))

/-- Write `i` to engine `e` (R584, R585): discarded for a reserved pair and for the odd engine of a locked one, to the engine alone
in a pair that is split, to both engines of a locked pair; `P` is what it does to an engine. -/
def cvTakes (s : State) (e : Fin 8) (i : Instr) (P : CvEng → CvEng → Prop) : Prop :=
  let k := e.val / 2
  let discarded (t : State) : Prop := t = { s with regs := t.regs } ∧ bitAt (t.rget (cvAddr e 0x30)) 1 = true
  (s.cvReserved k = true → Completes i s discarded) ∧
  (s.cvReserved k = false → s.cvSplit k = false → e.val % 2 = 1 → Completes i s discarded) ∧
  (s.cvReserved k = false → s.cvSplit k = true → Completes i s (fun t =>
    P (s.cv e) (t.cv e) ∧ (∀ j, j ≠ e.val → t.cv j = s.cv j) ∧ t = { s with sv.cv := t.sv.cv, regs := t.regs })) ∧
  (s.cvReserved k = false → s.cvSplit k = false → e.val % 2 = 0 → Completes i s (fun t =>
    P (s.cv e) (t.cv e) ∧ P (s.cv (e + 1)) (t.cv (e + 1)) ∧ (∀ j, j ≠ e.val → j ≠ e + 1 → t.cv j = s.cv j) ∧
    ((t.cv e).run ≠ (t.cv (e + 1)).run → (t.src 237).asserted = true ∧ ((s.src 237).asserted = false → RaisedIn 237 s t)) ∧
    ((t.cv e).run = (t.cv (e + 1)).run → (s.src 237).asserted = false → t.flt = s.flt)))

/-- O51. Check-value engines (R578 to R585): a selected algorithm or INIT sets RUN to the initial value and CV_CNT to 0; CV_RUN is
written up to the algorithm's width, bytes are absorbed in ascending order and counted, a stopped engine absorbs none; CMP of a
mismatch sets MISM and raises CV_MISMATCH (FS067), of a match changes nothing; a pair's mode is set unless it is reserved. The
algorithms are those of R578 and give its check values over "123456789"; CV_RES is RUN xor the final XOR. -/
def Obligations.CheckValueEngines : Prop :=
  (∀ a w p init refl fin x, (a, w, p, init, refl, fin, x) ∈ [(0, 8, 0x2F, 0xFF, false, 0xFF, 0xDF),
      (1, 16, 0x1021, 0xFFFF, false, 0, 0x29B1), (2, 32, 0x04C11DB7, 0xFFFFFFFF, true, 0xFFFFFFFF, 0xCBF43926),
      (3, 32, 0x1EDC6F41, 0xFFFFFFFF, true, 0xFFFFFFFF, 0xE3069283),
      (4, 64, 0x42F0E1EBA9EA3693, 2 ^ 64 - 1, true, 2 ^ 64 - 1, 0x995DC9BBDF1939FA)] →
    cvAlg a = some (w, p, init, refl, fin) ∧
    ([0x31, 0x32, 0x33, 0x34, 0x35, 0x36, 0x37, 0x38, 0x39] : List Byte).foldl (cvByte a) init ^^^ fin = x ∧
    ∀ run lo n, ({ alg := a, run := run, runLo := lo, cnt := n } : CvEng).res = run ^^^ fin) ∧
  (∀ v : CvEng, 5 ≤ v.alg → v.res = 0) ∧
  ∀ (s : State) (e : Fin 8) (row : RegRow) (v : W32),
    let at_ (off : Nat) : Prop := f00Reaches s (BitVec.ofNat 24 (cvAddr e off)) row ∧ s.xpChanges (cvAddr e off) v = false
    let start (a : Nat) : CvEng :=
      { alg := a, runLo := 0, cnt := 0, run := [0xFF, 0xFFFF, 0xFFFFFFFF, 0xFFFFFFFF, 0xFFFFFFFFFFFFFFFF].getD a 0 }
    (at_ 0 → cvTakes s e (.cvCfgWrite (.host 0) e v) (fun _ n => n = start (bitsOf v 2 0))) ∧
    (at_ 0x2C → bitAt v 0 = true → bitAt v 1 = false → cvTakes s e (.cvInit (.host 0) e v) (fun o n => n = start o.alg)) ∧
    (at_ 8 → cvTakes s e (.cvRunWrite (.host 0) e false v) (fun o n =>
      (o.alg = 0 → n = { o with run := v.toNat % 256 }) ∧ (o.alg = 1 → n = { o with run := v.toNat % 65536 }) ∧
      (o.alg = 2 ∨ o.alg = 3 → n = { o with run := v.toNat }) ∧ (o.alg = 4 → n = { o with runLo := v }) ∧
      (5 ≤ o.alg → n = o))) ∧
    (at_ 0xC → cvTakes s e (.cvRunWrite (.host 0) e true v) (fun o n =>
      (o.alg = 4 → n = { o with run := v.toNat * 2 ^ 32 + o.runLo.toNat }) ∧ (o.alg ≠ 4 → n = o))) ∧
    (∀ (d : Fin 4) len, (d, len) ∈ ([(0, 4), (1, 4), (2, 2), (3, 1)] : List (Fin 4 × Nat)) → at_ (dinOff d) →
      cvTakes s e (.cvDinWrite (.host 0) e d v) (fun o n =>
        (o.alg < 5 → n = { o with run := (leBytes len v.toNat).foldl (cvByte o.alg) o.run, cnt := satAdd 0xFFFFFFFF o.cnt len }) ∧
        (5 ≤ o.alg → n = o))) ∧
    (at_ 0x2C → bitAt v 0 = false → bitAt v 1 = true → s.cvReserved (e / 2) = false →
      s.cvSplit (e / 2) = true ∨ e.val % 2 = 0 →
      let bad (j : Nat) : Prop := (s.cv j).alg < 5 ∧ ∃ w, (∃ q, cvAlg (s.cv j).alg = some (w, q)) ∧
        (s.cv j).res % 2 ^ w ≠ s.rget64 (cvAddr j 0x18) % 2 ^ w
      (bad e → Completes (.cvCmp (.host 0) e v) s (fun t => RaisedIn 67 s t ∧ bitAt (t.rget (cvAddr e 0x30)) 0 = true ∧
        t.sv.cv = s.sv.cv ∧ t.vd.journal = s.vd.journal)) ∧
      (¬ bad e → s.cvSplit (e / 2) = true → Completes (.cvCmp (.host 0) e v) s (fun t => t = { s with regs := t.regs } ∧
        ∀ j, t.rget (cvAddr j 0x30) = s.rget (cvAddr j 0x30)))) ∧
    (∀ k : Fin 4, f00Reaches s (BitVec.ofNat 24 (0x40010 + 4 * k)) row → s.xpChanges (0x40010 + 4 * k) v = false →
      (s.cvReserved k = false → Completes (.cvPairctlWrite (.host 0) k v) s (fun t => t.cvSplit k = v.getLsbD 0 ∧
        t.sv.cv = s.sv.cv ∧ (v.getLsbD 0 = false → (s.cv (2 * k)).run ≠ (s.cv (2 * k + 1)).run → (t.src 237).asserted = true))) ∧
      (s.cvReserved k = true → Completes (.cvPairctlWrite (.host 0) k v) s (fun t => t = { s with regs := t.regs } ∧
        t.cvSplit k = s.cvSplit k ∧ bitAt (t.rget (cvAddr (2 * k) 0x30)) 1 = true ∧
        bitAt (t.rget (cvAddr (2 * k + 1) 0x30)) 1 = true)))

/-- `x` is the first edge strictly later than `now` of the edges at `g.1`, `g.1 + g.2`, `g.1 + 2 * g.2` and so on (R599). -/
def nextEdge (g : Nat × Nat) (now x : Nat) : Prop :=
  (∃ k, x = g.1 + k * g.2) ∧ now < x ∧ ∀ k, now < g.1 + k * g.2 → x ≤ g.1 + k * g.2

/-- O52. Synchronisation (R590, R592 to R596): Syncs of the slave port lead FREERUN and HOLDOVER to LOCKING, 16 within LOCK to
LOCKED, 4 beyond it back to LOCKING; an offset beyond STEP steps device time at the start and at that return, and RATE stays within
500 ppm. Without Syncs or without a slave port the unit enters HOLDOVER and raises PTP_LOSS (FS078). A LOAD steps device time only
with SRC FREE, which leads to FREERUN and RATE 0. A difference of more than 1 000 ppm raises TIME_XCHK (FS079). The model's choices
and readings in it: log entries 3, 11 and 38. -/
def Obligations.TimeSynchronisation : Prop :=
  ∀ (s : State) (p : Port) (offset : Int) (n : Nat) (row : RegRow) (v : W32), s.dev.state ≠ .cold →
    let now := { s with ao := Max.max s.ao n }
    let evt (e : State) (b : Nat) : Prop := bitAt (e.rget 0x50008) b = true
    let limit := Max.max 1 (bitsOf (s.rget 0x50020) 15 0)
    let step := bitsOf (s.rget 0x50020) 31 16
    let beyond : Prop := step ≠ 0 ∧ 1000 * step < offset.natAbs
    let mine : Prop := s.tm.slave = some p.val ∧ s.ptpUp p = true ∧ s.ptpSelected p = true
    let heard (sync : SyncSt) (e : State) : Prop := e.tm.sync = sync ∧ e.ao = now.ao ∧ e.tm.lastSync = now.ao ∧
      e.tm.slave = s.tm.slave ∧ e.tm.rate.natAbs ≤ 2147483 ∧ e.flt = s.flt ∧ e.vd = s.vd
    let stepped (e : State) : Prop := (beyond → (e.devNow : Int) = Max.max 0 (now.devNow - offset * 2 ^ 48) ∧ evt e 2 ∧
        e.tm.xStart = now.ao) ∧
      (¬ beyond → e.devNow = now.devNow)
    let lost (t : Nat) (e : State) : Prop := e.ao = t ∧ e.tm.sync = .holdover ∧ evt e 1 ∧ RaisedIn 78 s e ∧
      e.devNow = { s with ao := t }.devNow ∧ e.vd.journal = s.vd.journal
    let locks : Prop := s.tm.sync = .locking ∨ s.tm.sync = .locked
    (mine →
      (s.tm.sync = .freerun ∨ s.tm.sync = .holdover → Completes (.ptpSync p offset n) s (fun e =>
        heard .locking e ∧ e.tm.good = 0 ∧ stepped e)) ∧
      (s.tm.sync = .locking → offset.natAbs ≤ limit → s.tm.good < 15 → Completes (.ptpSync p offset n) s (fun e =>
        heard .locking e ∧ e.tm.good = s.tm.good + 1 ∧ e.devNow = now.devNow)) ∧
      (s.tm.sync = .locking → offset.natAbs ≤ limit → s.tm.good = 15 → Completes (.ptpSync p offset n) s (fun e =>
        heard .locked e ∧ evt e 0 ∧ e.devNow = now.devNow)) ∧
      (s.tm.sync = .locking → limit < offset.natAbs → Completes (.ptpSync p offset n) s (fun e =>
        heard .locking e ∧ e.tm.good = 0 ∧ e.devNow = now.devNow)) ∧
      (s.tm.sync = .locked → offset.natAbs ≤ limit → Completes (.ptpSync p offset n) s (fun e =>
        heard .locked e ∧ e.tm.bad = 0 ∧ e.devNow = now.devNow)) ∧
      (s.tm.sync = .locked → limit < offset.natAbs → s.tm.bad < 3 → Completes (.ptpSync p offset n) s (fun e =>
        heard .locked e ∧ e.tm.bad = s.tm.bad + 1 ∧ e.devNow = now.devNow)) ∧
      (s.tm.sync = .locked → limit < offset.natAbs → s.tm.bad = 3 → Completes (.ptpSync p offset n) s (fun e =>
        heard .locking e ∧ stepped e))) ∧
    (¬ mine → Completes (.ptpSync p offset n) s (fun e => e = s)) ∧
    (∀ q, s.tm.slave = some q → locks →
      let t := Max.max s.ao (s.tm.lastSync + 4 * s.syncInterval q)
      Completes .syncLossTimeout s (lost t) ∧
      (s.tm.rates = [] → Completes .syncLossTimeout s (fun e => e.tm.rate = s.tm.rate))) ∧
    (s.tm.slave = none ∨ ¬ locks → Completes .syncLossTimeout s (fun e => e = s)) ∧
    (s.tm.slave = some p.val →
      let t := Max.max s.ao (s.tm.announceAt + (if s.ptpMode p = 3 then 150000000 else 300000000))
      Completes (.announceReceiptTimeout p) s (fun e => e.ao = t ∧ e.tm.slave = none ∧
        bitsOf (e.rget (0x50010 + 4 * p)) 8 6 = 1 ∧ e.rget64 0x50068 = 0 ∧ (locks → lost t e) ∧
        (¬ locks → e.tm = { s.tm with slave := none } ∧ e.flt = s.flt))) ∧
    (s.tm.slave ≠ some p.val → Completes (.announceReceiptTimeout p) s (fun e => e = s)) ∧
    (∀ (ann reply : Bool) (gm : W64),
      (s.ptpUp p = true → Completes (.ptpMessage p ann none gm reply n) s (fun e => e.ao = now.ao ∧ e.tm.slave = s.tm.slave ∧
        e.out = (if reply then .ptpTx p (secNs now.devNow).1 (secNs now.devNow).2 :: s.out else s.out) ∧
        (ann = true → s.tm.slave = some p.val → e.tm.announceAt = now.ao))) ∧
      (s.ptpUp p = true → s.ptpSelected p = true → Completes (.ptpMessage p ann (some 3) gm reply n) s (fun e =>
        e.tm.slave = some p.val ∧ bitsOf (e.rget (0x50010 + 4 * p)) 8 6 = 3 ∧ e.rget64 0x50068 = gm.toNat ∧ e.flt = s.flt)) ∧
      (s.ptpUp p = true → bitAt (s.rget 0x5000C) 9 = true → Completes (.ptpMessage p ann (some 2) gm reply n) s (fun e =>
        e.tm.slave = s.tm.slave ∧ e.regs = s.regs)) ∧
      (s.ptpUp p = false → Completes (.ptpMessage p ann none gm reply n) s (fun e => e = s))) ∧
    (s.ptpUp p = true → Completes (.txTimestampWriteback p true n) s (fun e => let a := 0x50080 + 16 * p.val
      e.rget a = BitVec.ofNat 32 (secNs now.devNow).2 ∧ e.rget (a + 4) = BitVec.ofNat 32 (secNs now.devNow).1 ∧
      e.rget64 (a + 8) = now.ao % 2 ^ 64 ∧ e = { now with regs := e.regs })) ∧
    (Completes (.txTimestampWriteback p false n) s (fun e => e = { now with fregs := e.fregs, freeCtr := e.freeCtr } ∧
      (∀ a, a ≠ 0xA0050 → mget 0 e.fregs a = mget 0 s.fregs a) ∧
      (mget 0 s.fregs 0xA0050).toNat ≤ (mget 0 e.fregs 0xA0050).toNat)) ∧
    (s.dom 0x4F = .on →
      let t := Max.max s.ao (s.tm.xStart + 67108864)
      (1000 * ((n : Int) - 1342177280).natAbs ≤ 1342177280 → Completes (.timeCrossCheck n) s (fun e =>
        e = { s with ao := t, tm.xStart := t, tm.xBase := e.tm.xBase })) ∧
      (1342177280 < 1000 * ((n : Int) - 1342177280).natAbs → Completes (.timeCrossCheck n) s (fun e =>
        e.ao = t ∧ e.tm.xStart = t ∧ evt e 3 ∧ RaisedIn 79 s e))) ∧
    (s.dom 0x4F ≠ .on → Completes (.timeCrossCheck n) s (fun e => e = s)) ∧
    (f00Reaches s 0x50000 row → s.xpChanges 0x50000 v = false → bitAt v 0 = false → bitAt v 2 = true →
      (s.tmSrc = 0 → Completes (.timeLoad (.host 0) v) s (fun e => evt e 2 ∧ e.flt = s.flt ∧ e.ao = s.ao ∧
        e.tm.xStart = s.ao ∧ e.devNow = (s.rget64 0x50054 * 1000000000 + bitsOf (s.rget 0x50050) 29 0) * 2 ^ 48 ∧
        bitsOf (e.rget 0x50004) 21 6 = satAdd 65535 (bitsOf (s.rget 0x50004) 21 6) 1)) ∧
      (s.tmSrc ≠ 0 → Completes (.timeLoad (.host 0) v) s (fun e => evt e 7 ∧ e = { s with regs := e.regs }))) ∧
    (f00Reaches s 0x5000C row → s.xpChanges 0x5000C v = false →
      Completes (.timeSourceSelect (.host 0) v) s (fun e => bitsOf (e.rget 0x5000C) 26 0 = bitsOf v 26 0 ∧
        e.devNow = s.devNow ∧ (bitsOf v 1 0 % 3 = 0 → e.tm.sync = .freerun ∧ e.tm.rate = 0 ∧ e.tm.slave = none ∧
          e.rget64 0x50068 = 0 ∧ e.flt = s.flt)))

/-- O53. Triggers and captures (R597, R599 to R602, R604, R605). Arming a trigger places its next edge strictly later than device
time; an edge is counted, starts or extends the pulse and places the next; a SLOT edge falls OFFSET cycles after its slot's start,
none without a plan; the pulse ends WIDTH after its last edge. A selected capture edge is stamped and held pending, and a read of NS
pops the oldest record, 0 where there is none. The model's choices and readings in it: log entry 39. -/
def Obligations.TriggersAndCaptures : Prop :=
  ∀ (s : State) (n : Fin 16) (v : W32) (rise : Bool) (c : Nat) (row : RegRow), s.dev.state ≠ .cold →
    let t := s.trig n
    let a := 0x50200 + 32 * n.val
    let others (e : State) : Prop := ∀ j, j ≠ n.val → e.trig j = s.trig j
    let width := Max.max 20 (min 1000000 (bitsOf (s.rget (a + 4)) 19 0))
    let pulsed (e : State) (x : Option Nat) : Prop := others e ∧ e.flt = s.flt ∧ e.regs = s.regs ∧
      e.trig n = { t with edges := (t.edges + 1) % 65536, active := true, next := x, pulseEnd := 20 * e.ao + width }
    let timeGrid : Nat × Nat := ((s.rget64 (a + 12) * 1000000000 + (s.rget (a + 8)).toNat) * 2 ^ 48,
      Max.max 1000 (min 4000000000 (s.rget (a + 20)).toNat) * 2 ^ 48)
    let ppsGrid : Nat × Nat := (0, 1000000000 * 2 ^ 48)
    (f00Reaches s (BitVec.ofNat 24 a) row → s.xpChanges a v = false → Completes (.triggerArm (.host 0) n v) s (fun e =>
      others e ∧ bitsOf (e.rget a) 8 0 = bitsOf v 8 0 ∧ e.devNow = s.devNow ∧ e.flt = s.flt ∧
      (e.trig n).edges = t.edges ∧ (e.trig n).skip = t.skip ∧
      (bitsOf v 1 0 = 0 → (e.trig n).next = none ∧ (e.trig n).active = false) ∧
      (bitsOf v 1 0 = 1 → ∃ x, (e.trig n).next = some x ∧ nextEdge timeGrid s.devNow x) ∧
      (bitsOf v 1 0 = 2 → (e.trig n).next = some s.ao) ∧
      (bitsOf v 1 0 = 3 → ∃ x, (e.trig n).next = some x ∧ nextEdge ppsGrid s.devNow x))) ∧
    (∀ x, t.next = some x → s.tm.at_ ≤ s.ao → s.tm.rate.natAbs ≤ 2147483 →
      (bitsOf (s.rget a) 1 0 = 1 → Completes (.triggerEdge n) s (fun e => x ≤ e.devNow ∧ (x ≤ s.devNow → e.ao = s.ao) ∧
        ∃ y, nextEdge timeGrid x y ∧ pulsed e (some y))) ∧
      (bitsOf (s.rget a) 1 0 = 3 → Completes (.triggerEdge n) s (fun e => x ≤ e.devNow ∧ (x ≤ s.devNow → e.ao = s.ao) ∧
        ∃ y, nextEdge ppsGrid x y ∧ pulsed e (some y)))) ∧
    (∀ last, t.next = some last → bitsOf (s.rget a) 1 0 = 2 →
      (∀ r sl, s.run = some r → 0 < r.img.hper → r.img.slots[bitsOf (s.rget a) 8 3]? = some sl → (s.ldr.phase = .idle) →
        Completes (.triggerEdge n) s (fun e => ∃ k,
          let x := r.anchor + sl.start + bitsOf (s.rget (a + 8)) 15 0 + k * r.img.hper
          last < x ∧ (k = 0 ∨ x ≤ last + r.img.hper) ∧ e.ao = Max.max s.ao x ∧ pulsed e (some x))) ∧
      (s.run = none → Completes (.triggerEdge n) s (fun e => e = s)) ∧
      (∀ r, s.run = some r → r.img.slots.length ≤ bitsOf (s.rget a) 8 3 → Completes (.triggerEdge n) s (fun e => e = s)) ∧
      (s.ldr.phase = .blackout → Completes (.triggerEdge n) s (fun e => e = s))) ∧
    (t.next = none ∨ bitsOf (s.rget a) 1 0 = 0 → Completes (.triggerEdge n) s (fun e => e = s)) ∧
    (t.active = true → Completes (.triggerPulseEnd n) s (fun e => others e ∧ e.trig n = { t with active := false } ∧
      e.ao = Max.max s.ao ((t.pulseEnd + 19) / 20))) ∧
    (t.active = false → Completes (.triggerPulseEnd n) s (fun e => e = s)) ∧
    (let k := mget Capture.reset s.tm.caps n
     let now := { s with ao := Max.max s.ao c }
     let d := secNs now.devNow
     let stamp : CapRec := ⟨d.2, d.1 % 2 ^ 32, now.ao, rise, decide (s.tm.sync = .locked)⟩
     let chosen : Prop := s.dom 0x4F = .on ∧ bitAt (s.rget (0x50400 + 32 * n)) (if rise then 0 else 1) = true
     (chosen → Completes (.captureEdge n rise c) s (fun e => e = { now with tm.caps := e.tm.caps } ∧
       mget Capture.reset e.tm.caps n = { k with pend := k.pend ++ [(stamp, 0)] } ∧
       ∀ j, j ≠ n.val → mget Capture.reset e.tm.caps j = mget Capture.reset s.tm.caps j)) ∧
     (¬ chosen → Completes (.captureEdge n rise c) s (fun e => e = now)) ∧
     (f00Reaches s (BitVec.ofNat 24 (0x50408 + 32 * n)) row → mget none s.hl.latches (latchKey (.host 0) (0x50408 + 32 * n)) = none →
       Completes (.capturePop (.host 0) n) s (fun e => mget Capture.reset e.tm.caps n = { k with queue := k.queue.drop 1 } ∧
         e = { s with tm.caps := e.tm.caps, hl.latches := e.hl.latches, out := e.out } ∧
         (k.queue = [] → e.out = .readData (0x50408 + 32 * n) 0 :: s.out) ∧
         ∀ q l, k.queue = q :: l → q.ns < 2 ^ 30 → e.out = .readData (0x50408 + 32 * n)
           (BitVec.ofNat 32 (q.ns + (if q.rise then 2 ^ 30 else 0) + 2 ^ 31)) :: s.out)))

/-- Power, clocks and temperature (R607, R608, R615, R619 to R622, R625, R632, R633). A wake ends with the domain ON where its owner
still requires it; a clock that runs and loses lock raises its monitor's source, which stays asserted until a relock; the hottest of
eight readings is shown and compared with the warning and with 110 degrees, with 3 degrees of hysteresis; host-less operation is
entered and left at a hyperperiod boundary; a cap above 960 keeps the old one, and check-value pairs 2 and 3 go on and off by
request. -/
def powerManagerPart : Prop :=
  ∀ (s : State) (d : Fin 96) (pll : Pll) (b : Nat) (row : RegRow) (v : W32), s.dev.state ≠ .cold →
    let wake := mget 0 s.pm.wake d
    let raised (n : Nat) (e : State) : Prop := (e.src n).asserted = true ∧ ((s.src n).asserted = false → RaisedIn n s e) ∧
      ((s.src n).asserted = true → e.src n = s.src n)
    let lowered (n : Nat) (e : State) : Prop := (e.src n).asserted = false ∧ ((s.src n).asserted = true → (s.src n).st = .active →
      (e.src n).st = (if (s.srcCfg n).sev = .critical ∨ (s.srcCfg n).auto = false then .latched else .quiet))
    (wake = 0 → Completes (.domainWake d) s (fun e => e = s)) ∧
    (wake ≠ 0 → (d ≠ 0x5A ∨ s.dbg.waiting = none) → Completes (.domainWake d) s (fun e =>
      e = { s with ao := Max.max s.ao wake, pm.wake := e.pm.wake, pm.dom := e.pm.dom } ∧ mget 0 e.pm.wake d = 0 ∧
      (mget false s.pm.req d = true → e.dom d = .on) ∧ (mget false s.pm.req d = false → e.dom d = s.dom d) ∧
      ∀ j, j ≠ d.val → e.dom j = s.dom j ∧ mget 0 e.pm.wake j = mget 0 s.pm.wake j)) ∧
    (s.clockRuns pll = true → Completes (.pllMonitorFault pll) s (fun e => raised (pllSource pll) e ∧
      bitAt (e.rget 0x60008) 3 = true ∧ e.vd.journal = s.vd.journal ∧
      (pllBit pll = some b → b < 16 → e.pm.pllBad = s.pm.pllBad ||| BitVec.ofNat 16 (2 ^ b)))) ∧
    (s.clockRuns pll = false → Completes (.pllMonitorFault pll) s (fun e => e = s)) ∧
    (s.pm.pllBad &&& 6 ≠ 0 → Completes (.arrayRelock true) s (fun e => e.pm.pllBad = s.pm.pllBad &&& 0xFFF9 ∧ lowered 69 e ∧
      bitAt (e.rget 0x60008) 4 = true ∧ e = { s with pm.pllBad := e.pm.pllBad, regs := e.regs, flt.src := e.flt.src })) ∧
    Completes (.arrayRelock false) s (fun e => e = s) ∧
    (pll = .porter ∨ pll = .pcie ∨ (∃ p, pll = .eth p) ∨ (∃ p, pll = .dphy p) ∨ pll = .time ∨ pll = .xspi →
      pllBit pll = some b → s.pm.pllBad.getLsbD b = true → Completes (.pllRelock pll true) s (fun e =>
        e.pm.pllBad = s.pm.pllBad &&& ~~~(BitVec.ofNat 16 (2 ^ b)) ∧ bitAt (e.rget 0x60008) 4 = true ∧
        (pll = .porter ∨ e.pm.pllBad &&& 0x3FE0 = 0 → lowered (pllSource pll) e) ∧
        e = { s with pm.pllBad := e.pm.pllBad, regs := e.regs, flt.src := e.flt.src })) ∧
    Completes (.pllRelock pll false) s (fun e => e = s) ∧
    (∀ (r : List Int) (i : Nat) (t : Int), i < 8 → r[i]? = some t → (∀ x ∈ r.take 8, x ≤ t) →
      (∀ j x, j < i → r[j]? = some x → x < t) → Completes (.temperatureRead r) s (fun e =>
        bitsOf (e.rget 0x60054) 11 9 = i ∧
        (-256 ≤ t → t ≤ 255 → (bitsOf (e.rget 0x60054) 8 0 : Int) = if 0 ≤ t then t else t + 512) ∧
        ((s.tempWarn : Int) < t → raised 75 e) ∧ (t ≤ (s.tempWarn : Int) - 3 → lowered 75 e) ∧
        (110 < t → raised 76 e) ∧ (t ≤ 107 → lowered 76 e) ∧
        ((s.tempWarn : Int) - 3 < t → t ≤ s.tempWarn → e.src 75 = s.src 75) ∧ (107 < t → t ≤ 110 → e.src 76 = s.src 76))) ∧
    (∀ r, s.run = some r →
      (s.pm.hostless = false → s.hl.powered = false → Completes .hostlessEntry s (fun e => e.pm.hostless = true ∧
        e.ao = Max.max s.ao (r.anchor + (if r.struck then r.hyper + 1 else r.hyper) * r.img.hper) ∧
        (∀ j, 0x56 ≤ j → j ≤ 0x59 → e.dom j = .off) ∧ e.rget 0x6000C = 0 ∧ bitAt (e.rget 0x60008) 5 = true ∧
        e.vd = s.vd ∧ e.flt = s.flt ∧ e.run = s.run)) ∧
      (s.pm.hostless = true → s.hl.powered = true → Completes .hostlessExit s (fun e => e.pm.hostless = false ∧
        e.ao = Max.max s.ao (r.anchor + (if r.struck then r.hyper + 1 else r.hyper) * r.img.hper) ∧
        bitAt (e.rget 0x60008) 5 = true ∧ e = { s with ao := e.ao, pm.hostless := false, regs := e.regs }))) ∧
    (f00Reaches s 0x6000C row → s.xpChanges 0x6000C v = false → s.rv.stopped = false →
      let taken (e : State) : Prop :=
        bitsOf (e.rget 0x6000C) 9 0 = (if bitsOf v 9 0 ≤ 960 then bitsOf v 9 0 else bitsOf (s.rget 0x6000C) 9 0) ∧
        bitsOf (e.rget 0x6000C) 11 10 = bitsOf v 11 10 ∧ e.flt = s.flt ∧ e.vd = s.vd ∧ e.dev = s.dev ∧
        ∀ k, k = 2 ∨ k = 3 →
          (v.getLsbD (8 + k) = true → bitAt (s.rget 0x6000C) (8 + k) = false → s.dom (0x51 + k) = .off →
            mget false e.pm.req (0x51 + k) = true ∧ (mget 0 s.pm.wake (0x51 + k) = 0 → s.ao < mget 0 e.pm.wake (0x51 + k))) ∧
          (v.getLsbD (8 + k) = false → bitAt (s.rget 0x6000C) (8 + k) = true → e.dom (0x51 + k) = .off ∧
            e.cv (2 * k) = .reset ∧ e.cv (2 * k + 1) = .reset) ∧
          (v.getLsbD (8 + k) = bitAt (s.rget 0x6000C) (8 + k) → e.dom (0x51 + k) = s.dom (0x51 + k) ∧
            e.cv (2 * k) = s.cv (2 * k))
      Completes (.pmCapRequest (.host 0) v) s taken ∧ Completes (.cvPairRequest (.host 0) v) s taken)

/-- The key vault at run time (R663 to R667): an attestation request takes the message to be signed at the write of its high word,
unless one is busy, and its end shows the AO count of the message; a reseed is counted, a failed health test of the entropy source
is reported (FS230); a tamper sensor that asserts is counted, raises its source and erases the keys where its policy says so. -/
def keyVaultPart : Prop :=
  ∀ (s : State) (hi : W32) (row : RegRow) (n : Fin 4), s.dev.state ≠ .cold →
    let message := leBytes 4 (s.rget 0xD0030).toNat ++ leBytes 4 hi.toNat ++ leBytes 16 Config.uid.toNat ++
      leBytes 4 s.rv.buildR.toNat ++ leBytes 4 s.rv.buildP.toNat ++
      leBytes 8 (match s.run with | some r => r.img.planId.toNat | none => 0) ++ leBytes 4 s.sio.cfgCrc.toNat ++
      leBytes 1 s.dev.state.code ++ [0, 0, 0] ++ leBytes 8 s.ao
    let policy := s.kv.policy.toNat / 4 ^ n.val % 4
    (f00Reaches s 0xD0034 row → s.xpChanges 0xD0034 hi = false → s.rv.stopped = false →
      (s.kv.attBusy = false → Completes (.attestationRequest (.host 0) hi) s (fun e => e.rget 0xD0034 = hi ∧
        e = { s with kv.attBusy := true, kv.attDone := false, kv.attMsg := message, regs := e.regs })) ∧
      (s.kv.attBusy = true → Completes (.attestationRequest (.host 0) hi) s (fun e => e = { s with regs := e.regs }))) ∧
    (s.kv.attBusy = true → Completes .attestationDone s (fun e => e.kv = { s.kv with attBusy := false, attDone := true } ∧
      e.rget64 0xD0038 = leNat (slice 48 8 s.kv.attMsg) ∧ bitAt (e.rget 0xD0008) 4 = true ∧
      e = { s with kv := e.kv, regs := e.regs, fregs := e.fregs, freeCtr := e.freeCtr })) ∧
    (s.kv.attBusy = false → Completes .attestationDone s (fun e => e = s)) ∧
    Completes (.drbgReseed true) s (fun e => e.kv = { s.kv with entropyOk := true, reseeds := s.kv.reseeds + 1 } ∧
      (e.src 230).asserted = false ∧ e.dev = s.dev ∧ e.vd = s.vd) ∧
    Completes (.drbgReseed false) s (fun e => e.kv = { s.kv with entropyOk := false } ∧ (e.src 230).asserted = true ∧
      bitAt (e.rget 0xD0008) 2 = true ∧ ((s.src 230).asserted = false → RaisedIn 230 s e)) ∧
    ((s.src (231 + n)).asserted = false → Completes (.tamperAssert n) s (fun e => RaisedIn (231 + n) s e ∧
      (e.src (231 + n)).asserted = true ∧ bitAt (e.rget 0xD0008) 0 = true ∧
      mget 0 e.kv.tcnt n = satAdd 255 (mget 0 s.kv.tcnt n) 1 ∧ (∀ j, j ≠ n.val → mget 0 e.kv.tcnt j = mget 0 s.kv.tcnt j) ∧
      (policy = 2 → e.kv = { s.kv with tcnt := e.kv.tcnt, idKey := false, impKey := false, pkey := 0, session := none,
                                        erased := true } ∧ bitAt (e.rget 0xD0008) 1 = true) ∧
      (policy ≠ 2 → e.kv = { s.kv with tcnt := e.kv.tcnt }) ∧
      (policy ≠ 0 → (s.src (231 + n)).st = .clear → e.dev.state = .alarm))) ∧
    ((s.src (231 + n)).asserted = true → Completes (.tamperAssert n) s (fun e => e = s))

/-- O54. Power domains, clocks, temperature, host-less operation and the key vault: both statements above. The model's choices and
readings in it: log entries 3, 40, 41 and 43. -/
def Obligations.PowerAndVault : Prop := powerManagerPart ∧ keyVaultPart

/-- The JTAG port (R670, R672, R675): each instruction is selected in the states that allow it, and in split mode EXTEST and CLAMP
drive the safety pins low and HIGHZ releases them, while outside split mode the safety, trigger and error pins keep their functional
levels. -/
def jtagInstructionsPart : Prop :=
  ∀ (s : State) (data : BitVec 64) (k : Nat), s.dev.state ≠ .cold →
    let open_ : Prop := s.dev.state ≠ .boot ∧ s.dev.state ≠ .alarm
    let pins (e : State) (split : PinLevel) (cell : Nat → PinLevel) : Prop :=
      (s.dev.split = true → e.chanPin k = split ∧ e.btqPin k = split ∧ e.trigPin k = cell k ∧ e.errSPin = cell 16 ∧
        e.errPPin = cell 17) ∧
      (s.dev.split = false → e.chanPin k = .driven (s.chan k).energised ∧ e.btqPin k = .driven (s.sio.btq.getLsbD k) ∧
        e.trigPin k = s.trigPin k ∧ e.errSPin = .driven (!s.errSLow) ∧ e.errPPin = .driven s.flt.errP)
    Completes .idcode s (fun e => e = { s with dbg.ir := 1 }) ∧
    Completes .bypass s (fun e => e = { s with dbg.ir := 0x3F }) ∧
    Completes .dbglink s (fun e => e = { s with dbg.ir := 0x10 }) ∧
    (s.dev.state ≠ .alarm → Completes (.samplePreload data) s (fun e => e = { s with dbg.ir := 2, dbg.bsr := data })) ∧
    (s.dev.state = .alarm → Completes (.samplePreload data) s (fun e => e = s)) ∧
    (open_ → Completes (.extest data) s (fun e => e = { s with dbg.ir := 0, dbg.bsr := data } ∧
        pins e (.driven false) (fun c => .driven (data.getLsbD c))) ∧
      Completes .clamp s (fun e => e = { s with dbg.ir := 4 } ∧ pins e (.driven false) (fun c => .driven (s.dbg.bsr.getLsbD c))) ∧
      Completes .highz s (fun e => e = { s with dbg.ir := 5 } ∧ pins e .released (fun _ => .released))) ∧
    (¬ open_ → Completes (.extest data) s (fun e => e = s) ∧ Completes .clamp s (fun e => e = s) ∧
      Completes .highz s (fun e => e = s))

/-- The capture of R671: result code, window, address, data. -/
def captured (code win addr : Nat) (data : W32) : BitVec 72 := BitVec.ofNat 72 (code + 4 * win + 256 * addr + 2 ^ 40 * data.toNat)

/-- The debug link (R671, R673, R674, R675, R677, R681): a scan shows the last result; the first request opens a session, raises
DEBUG_ATTACH (FS236) outside split mode, wakes domain 0x5A and is done after the wake. STATUS makes no access; a reserved window or
field, a misaligned address, an unauthenticated access and every request in ALARM answer ERR. Core A and its memory are written only
while it is halted, and read back as written; the session's end closes and locks everything again. -/
def debugLinkPart : Prop :=
  ∀ (s : State) (win rsv : BitVec 3) (addr data : W32), s.dev.state ≠ .cold →
    let rd : Instr := .dbglinkRead win rsv addr
    let wr : Instr := .dbglinkWrite win rsv addr data
    let each (P : State → Prop) : Prop := Completes rd s P ∧ Completes wr s P
    let shows (w : BitVec 72) (e : State) : Prop := e.out.head? = some (.debug w)
    let a := addr.toNat
    let w := win.toNat
    let ok : Prop := a % 4 = 0 ∧ w ≤ 4 ∧ rsv = 0
    (s.dbg.ir ≠ 0x10 → each (fun e => e = s) ∧ Completes .dbglinkStatus s (fun e => e = s)) ∧
    (s.dbg.ir = 0x10 → s.dev.state = .alarm →
      Completes rd s (fun e => e = { s with out := .debug (captured 2 w a 0) :: s.out }) ∧
      Completes wr s (fun e => e = { s with out := .debug (captured 2 w a 0) :: s.out }) ∧
      Completes .dbglinkStatus s (fun e => e = { s with out := .debug (captured 2 0 0 0) :: s.out })) ∧
    (s.dbg.ir = 0x10 → s.dev.state ≠ .alarm → s.dbg.waiting ≠ none →
      each (fun e => e = { s with out := .debug (captured 1 w a 0) :: s.out })) ∧
    (s.dbg.ir = 0x10 → s.dev.state ≠ .alarm → s.dbg.waiting = none → s.dbg.sessionOpen = false → s.dom 0x5A = .off →
      let opened (e : State) : Prop := e.dbg.sessionOpen = true ∧ e.dbg.auth = s.dbg.auth ∧ e.dbg.waiting ≠ none ∧
        mget false e.pm.req 0x5A = true ∧ mget 0 e.pm.wake 0x5A ≠ 0 ∧ e.dbg.result = s.dbg.result ∧
        (s.rv.mode ≠ .split → RaisedIn 236 s e) ∧ (s.rv.mode = .split → e.flt = s.flt ∧ shows s.dbg.result e)
      each opened ∧ Completes .dbglinkStatus s opened) ∧
    (s.dbg.ir = 0x10 → s.dev.state ≠ .alarm → s.dbg.waiting = none → s.dbg.sessionOpen = true → s.dom 0x5A = .on →
      Completes .dbglinkStatus s (fun e => e = { s with out := .debug s.dbg.result :: s.out }) ∧
      (¬ ok → Completes rd s (fun e => e = { s with out := .debug s.dbg.result :: s.out, dbg.result := captured 2 w a 0 }) ∧
        Completes wr s (fun e => e = { s with out := .debug s.dbg.result :: s.out, dbg.result := captured 2 w a data })) ∧
      (ok → s.dbg.auth = false → w ≠ 0 → Completes rd s (fun e => e.dbg.result = captured 2 w a 0 ∧
          accessError s e 9 a)) ∧
      (ok → w = 0 → a < 0x800000 → s.dbg.auth = false → s.debugMay a = false → Completes rd s (fun e =>
        e.dbg.result = captured 2 0 a 0 ∧ accessError s e 9 a)) ∧
      (ok → w = 0 → a < 0xF0000 → s.debugMay a = true → regMapped a = true → s.absentDom a = none → a ≠ 0x38024 →
        mget none s.hl.latches (latchKey .debug a) = none → bitAt (s.rget 0xE0000) 0 = false → Completes rd s (fun e =>
          shows s.dbg.result e ∧ e.dbg.result = captured 0 0 a (s.shown a) ∧
          e = { s with out := e.out, hl.latches := e.hl.latches, dbg.result := e.dbg.result })) ∧
      (ok → w = 1 → s.dbg.auth = true → s.dev.state ≠ .boot →
        let held (e : State) : Option W32 := mget none e.dbg.coreA (2 ^ 32 + a)
        (s.dbg.halted = true → Completes wr s (fun e => held e = some data ∧ e.dbg.result = captured 0 1 a data ∧
          e = { s with out := e.out, dbg.coreA := e.dbg.coreA, dbg.result := e.dbg.result })) ∧
        (s.dbg.halted = true → ∀ x, held s = some x → Completes rd s (fun e => e.dbg.result = captured 0 1 a x ∧ held e = some x)) ∧
        (s.dbg.halted = false → Completes wr s (fun e => RaisedIn 9 s e ∧ e.dbg.coreA = s.dbg.coreA ∧
          e.dbg.result = captured 2 1 a data))) ∧
      (ok → w = 3 → s.dbg.auth = true → s.dev.state ≠ .boot → s.rv.mode ≠ .split →
        Completes rd s (fun e => e.dbg.result = captured 0 3 a 0) ∧
        Completes wr s (fun e => e = { s with out := e.out, dbg.result := captured 0 3 a data }))) ∧
    (∀ reset : Bool, s.dbg.sessionOpen = true → (s.dbg.halted = false ∨ s.dbg.forced = true) →
      Completes (.debugSessionEnd reset) s (fun e => e.dbg.sessionOpen = false ∧ e.dbg.auth = false ∧ e.dbg.haltPend = false ∧
        e.dom 0x5A = .off ∧ e.testUnlock = false ∧ (∀ b, 0xE0000 ≤ b → b < 0xE8000 → e.rget b = regReset b) ∧
        e.dbg.halted = s.dbg.halted ∧ e.dbg.forced = s.dbg.forced ∧ e.dbg.ir = (if reset then 1 else s.dbg.ir) ∧
        e.vd = s.vd ∧ e.flt = s.flt)) ∧
    (∀ reset : Bool, s.dbg.sessionOpen = true → s.dbg.halted = true → s.dbg.forced = false →
      Completes (.debugSessionEnd reset) s (fun e => e.dbg.sessionOpen = false ∧ e.dbg.auth = false ∧ e.dbg.halted = false ∧
        e.dom 0x5A = .off ∧ e.sv.rwd.heldAt = none)) ∧
    (∀ reset : Bool, s.dbg.sessionOpen = false → Completes (.debugSessionEnd reset) s (fun e =>
      e = { s with dbg.ir := if reset then 1 else s.dbg.ir }))

/-- O55. JTAG instructions, their pins, and the debug link: both statements above. The model's choices and readings in it: log
entries 13 and 44. -/
def Obligations.JtagAndDebugLink : Prop := jtagInstructionsPart ∧ debugLinkPart

/-- O56. Debugger authentication, test-unlock and halts of the reeve (R674, R676 to R681). A challenge draws a nonce for 10 s; the
token of the nonce authenticates, a wrong one is counted and the fifth in a row locks DB_AUTH for 300 s. Test-unlock is set only
from an authenticated session with BENCH, and never from the host. A lockstep halt is accepted in split mode or under bench
debugging, taken at a free boundary, and dropped after 256 reeve cycles, or forced; a forced halt outside split mode breaks lockstep
and without bench debugging raises DEBUG_LOCKSTEP (FS235). The model's choices and readings in it: log entries 44 and 45. -/
def Obligations.DebugControl : Prop :=
  ∀ (s : State) (i : Fin 8) (v : W32) (row : RegRow), s.dev.state ≠ .cold →
    let token := s.dbg.token.toNat
    let word := fun t : Nat => t / 2 ^ (32 * i.val) % 2 ^ 32
    let submitted := (token % 2 ^ 224) + 2 ^ 224 * v.toNat
    let good : Prop := ∃ n t, s.dbg.nonce = some (n, t) ∧ s.ao ≤ t + 500000000 ∧ s.tokenOf n = submitted
    let locked : Prop := ∃ t, s.dbg.lockEnd = some t ∧ s.ao < t
    let evt (e : State) (b : Nat) : Prop := bitAt (e.rget 0xE0008) b = true
    let reeve : Prop := f00Reaches s 0xE0040 row ∧ s.xpChanges 0xE0040 v = false
    let only (b : Nat) : Prop := ∀ j, j < 5 → j ≠ 3 → v.getLsbD j = decide (j = b)
    let mayHalt : Prop := s.rv.mode = .split ∨ s.benchOk = true
    let forced (e : State) : Prop := e.dbg.halted = true ∧ e.dbg.haltPend = false ∧
      (s.rv.mode = .split → e.dbg.forced = s.dbg.forced ∧ e.rv.coreA = .halted ∧ e.flt = s.flt) ∧
      (s.rv.mode ≠ .split → e.dbg.forced = true ∧ evt e 2 ∧ (s.benchOk = true → e.flt = s.flt ∧ e.dev = s.dev) ∧
        (s.benchOk = false → RaisedIn 235 s e))
    (f00Reaches s 0xE0018 row → s.xpChanges 0xE0018 v = false → v.getLsbD 0 = true →
      Completes (.debugChallenge (.host 0) v) s (fun e => (∃ n, e.dbg.nonce = some (n, s.ao)) ∧ e.dbg.auth = s.dbg.auth ∧
        e.flt = s.flt)) ∧
    (f00Reaches s (BitVec.ofNat 24 (0xE0020 + 4 * i)) row → s.xpChanges (0xE0020 + 4 * i) v = false →
      (s.dbg.sessionOpen = true → ¬ locked → i ≠ 7 → Completes (.debugAuth (.host 0) i v) s (fun e =>
        e = { s with dbg.token := e.dbg.token } ∧ word e.dbg.token.toNat = v.toNat ∧
        ∀ j, j < 8 → j ≠ i.val → e.dbg.token.toNat / 2 ^ (32 * j) % 2 ^ 32 = token / 2 ^ (32 * j) % 2 ^ 32)) ∧
      (s.dbg.sessionOpen = true → ¬ locked → i = 7 →
        (good → Completes (.debugAuth (.host 0) i v) s (fun e =>
          e = { s with dbg.auth := true, dbg.wrong := 0, dbg.token := 0 })) ∧
        (¬ good → Completes (.debugAuth (.host 0) i v) s (fun e => evt e 3 ∧ e.dbg.auth = s.dbg.auth ∧
          e.dbg.wrong = s.dbg.wrong + 1 ∧ e.dbg.token = 0 ∧
          e.dbg.lockEnd = (if 5 ≤ s.dbg.wrong + 1 then some (s.ao + 15000000000) else s.dbg.lockEnd)))) ∧
      (s.dbg.sessionOpen = false ∨ locked → Completes (.debugAuth (.host 0) i v) s (fun e => e = s))) ∧
    (∀ t, s.dbg.lockEnd = some t → Completes .debugAuthLockoutEnd s (fun e =>
      e = { s with ao := Max.max s.ao t, dbg.lockEnd := none, dbg.wrong := 0 })) ∧
    (s.dbg.lockEnd = none → Completes .debugAuthLockoutEnd s (fun e => e = s)) ∧
    (s.dbg.sessionOpen = true → s.dbg.auth = true → s.dom 0x5A = .on → s.dev.state ≠ .boot → s.dev.state ≠ .alarm →
      regMapped 0xE0000 = true → s.xpChanges 0xE0000 v = false →
      (v.getLsbD 1 = true → s.dev.bench = true → Completes (.testUnlock .debug v) s (fun e => e.testUnlock = true)) ∧
      (v.getLsbD 1 = true → s.dev.bench = false → Completes (.testUnlock .debug v) s (fun e => evt e 0 ∧
        e.testUnlock = s.testUnlock)) ∧
      (v.getLsbD 1 = false → Completes (.testUnlock .debug v) s (fun e => e.testUnlock = false)) ∧
      Completes (.testUnlock .debug v) s (fun e => bitAt (e.rget 0xE0000) 0 = v.getLsbD 0 ∧ e = { s with regs := e.regs })) ∧
    (f00Reaches s 0xE0000 row → Completes (.testUnlock (.host 0) v) s (fun e => accessError s e 9 0xE0000 ∧
      e.testUnlock = s.testUnlock)) ∧
    (reeve → only 0 →
      (s.dbg.halted = false → s.dbg.haltPend = false → mayHalt → Completes (.reeveHalt (.host 0) v) s (fun e =>
        e.dbg.haltPend = true ∧ e.dbg.haltAt = s.ao ∧ e.dbg.halted = false ∧ bitAt (e.rget 0xE0040) 3 = v.getLsbD 3)) ∧
      (s.dbg.halted = false → s.dbg.haltPend = false → ¬ mayHalt → Completes (.reeveHalt (.host 0) v) s (fun e =>
        evt e 0 ∧ e = { s with regs := e.regs })) ∧
      (s.dbg.halted = true ∨ s.dbg.haltPend = true → Completes (.reeveHalt (.host 0) v) s (fun e => e = { s with regs := e.regs }))) ∧
    (reeve → only 1 → s.dbg.halted = true → s.dbg.forced = false → Completes (.reeveResume (.host 0) v) s (fun e =>
      e.dbg.halted = false ∧ e.sv.rwd.heldAt = none ∧
      (∀ t, s.sv.rwd.heldAt = some t → e.sv.rwd.prev = s.sv.rwd.prev + (s.ao - t)))) ∧
    (reeve → only 1 → s.dbg.halted = false ∨ s.dbg.forced = true ∧ s.benchOk = false →
      Completes (.reeveResume (.host 0) v) s (fun e => e = { s with regs := e.regs })) ∧
    (reeve → only 2 → s.dbg.halted = true → s.dbg.forced = false → Completes (.reeveStep (.host 0) v) s (fun e =>
      e = { s with regs := e.regs, dbg.coreA := e.dbg.coreA } ∧ ∀ k, k < 2 ^ 33 → mget none e.dbg.coreA k = none)) ∧
    (reeve → only 4 → Completes (.forcedHalt (.host 0) v) s forced) ∧
    (s.dbg.haltPend = true → s.rv.pause = none →
      Completes .haltAtBoundary s (fun e => e.dbg.halted = true ∧ e.dbg.haltPend = false ∧ e.sv.rwd.heldAt = some s.ao ∧
        (s.rv.mode = .split → e.rv.coreA = .halted) ∧ e.flt = s.flt ∧ e.dev = s.dev) ∧
      (let now := Max.max s.ao (s.dbg.haltAt + (if s.rv.slow then 256 else 32))
       (bitAt (s.rget 0xE0040) 3 = false → Completes .haltDeferralExpiry s (fun e => e.ao = now ∧ e.dbg.haltPend = false ∧
         e.dbg.halted = s.dbg.halted ∧ evt e 1 ∧ e.flt = s.flt)) ∧
       (bitAt (s.rget 0xE0040) 3 = true → Completes .haltDeferralExpiry s (fun e => e.ao = now ∧ forced e)))) ∧
    (s.dbg.haltPend = false ∨ s.rv.pause ≠ none → Completes .haltAtBoundary s (fun e => e = s) ∧
      Completes .haltDeferralExpiry s (fun e => e = s))

/-- O57. The queue is first in, first out and a command adds nothing to it: every step from every state leaves the queue's rest. The
model's choices and readings in it: log entry 1. -/
def Obligations.QueueOrder : Prop :=
  ∀ s s' : State, step s = .next s' → s'.pending = s.pending.tail

/-- O58. The AO count never goes back (R22, R630): after every step from every state it is what it was or more, unless the step
takes the device to COLD or starts it from there. The model's choices and readings in it: log entry 1. -/
def Obligations.AoCountRises : Prop :=
  ∀ s s' : State, step s = .next s' → s.ao ≤ s'.ao ∨ s'.ao = 0 ∧
    (s'.dev.state = .cold ∨ (∃ sp bn ph, s.pending.head? = some (.porstNRelease sp bn ph) ∨
      s.pending.head? = some (.supplyRestored sp bn ph)))

/-- Outside RUN, DEGRADED, MISMATCH_HOLD and the blackout of a plan switch no output pair or hold channel is energised (R29). -/
def safeOutputs (s : State) : Prop :=
  s.dev.state ≠ .run → s.dev.state ≠ .degraded → s.dev.state ≠ .mismatchHold → ¬ (s.dev.state = .planLoad ∧ s.dev.blackout = true) →
    ∀ k, k < 10 → (s.chan k).energised = false

/-- O59. The safe outputs (R29): a step from a state in which no output pair or hold channel is energised outside RUN, DEGRADED,
MISMATCH_HOLD and a plan switch blackout leads to such a state again. -/
def Obligations.SafeOutputs : Prop :=
  ∀ s s' : State, safeOutputs s → step s = .next s' → safeOutputs s'

/-- O60. COLD does nothing (R28, R675): in COLD, with every domain off and no plan being loaded, as COLD is entered, every command
but those of the supplies, PORST_N and PERST_N leaves the state as it was. The model's choices and readings in it: log entry 1. -/
def Obligations.ColdIsIdle : Prop :=
  ∀ (s : State) (i : Instr), s.dev.state = .cold → s.dev.chipReq = none → s.ldr.phase = .idle → (∀ d, s.dom d ≠ .on) →
    (match i with
     | .porstNAssert _ | .porstNRelease _ _ _ | .supplyReset _ | .supplyRestored _ _ _ | .perstNAssert _ | .perstNRelease _ => False
     | _ => True) →
    exec i s = .next s
end

