-- ==== Sys2Proof/Laws/Maps.lean ====
section
/-! SUPPORT. Laws of the sparse maps: reading after writing, and the canonical form. They hold of every list, canonical or
not, so no law of the machine needs a premise about the form of its maps. -/

namespace Sys2Proof.Machine
open Sys2Proof

@[simp] theorem mget_nil {α : Type} (d : α) (k : Nat) : mget d [] k = d := rfl

theorem mget_mdel_same {α : Type} (d : α) (m : FMap α) (k : Nat) : mget d (mdel m k) k = d := by
  induction m with
  | nil => rfl
  | cons p t ih =>
    simp only [mdel]
    split
    · exact ih
    · simp only [mget]; rw [if_neg ‹_›]; exact ih

theorem mget_mdel_ne {α : Type} (d : α) (m : FMap α) {k j : Nat} (h : j ≠ k) : mget d (mdel m k) j = mget d m j := by
  induction m with
  | nil => rfl
  | cons p t ih =>
    simp only [mdel, mget]
    split
    · rename_i hk; rw [ih, if_neg (by omega)]
    · simp only [mget]; rw [ih]

theorem mget_mins_same {α : Type} (d : α) (m : FMap α) (k : Nat) (v : α) : mget d (mins (mdel m k) k v) k = v := by
  induction m with
  | nil => simp [mdel, mins, mget]
  | cons p t ih =>
    simp only [mdel]
    split
    · exact ih
    · simp only [mins]
      split
      · simp [mget]
      · simp only [mget]; rw [if_neg ‹_›]; exact ih

theorem mget_mins_ne {α : Type} (d : α) (m : FMap α) {k j : Nat} (v : α) (h : j ≠ k) :
    mget d (mins m k v) j = mget d m j := by
  induction m with
  | nil => simp [mins, mget, Ne.symm h]
  | cons p t ih =>
    simp only [mins]
    split
    · rw [mget, if_neg (Ne.symm h)]
    · simp only [mget]; rw [ih]

/-- Reading what was written. -/
@[simp] theorem mget_mput_same {α : Type} [DecidableEq α] (d : α) (m : FMap α) (k : Nat) (v : α) :
    mget d (mput d m k v) k = v := by
  unfold mput
  split
  · next h => rw [mget_mdel_same, h]
  · exact mget_mins_same d m k v

/-- A write leaves every other key alone, whatever an unlisted key reads as (`d`). -/
theorem mget_mput_other {α : Type} [DecidableEq α] (d d' : α) (m : FMap α) {k j : Nat} (v : α) (h : j ≠ k) :
    mget d (mput d' m k v) j = mget d m j := by
  unfold mput
  split
  · exact mget_mdel_ne d m h
  · rw [mget_mins_ne d _ v h, mget_mdel_ne d m h]
/-- A write leaves every other key alone. -/
theorem mget_mput_ne {α : Type} [DecidableEq α] (d : α) (m : FMap α) {k j : Nat} (v : α) (h : j ≠ k) :
    mget d (mput d m k v) j = mget d m j := mget_mput_other d d m v h

/-- What a key reads as after a write, whichever key. -/
theorem mget_mput {α : Type} [DecidableEq α] (d : α) (m : FMap α) (k j : Nat) (v : α) :
    mget d (mput d m k v) j = if j = k then v else mget d m j := by
  split
  · next h => rw [h, mget_mput_same]
  · next h => exact mget_mput_ne d m v h

theorem mabove_mdel {α : Type} (m : FMap α) {a : Nat} (k : Nat) (h : mabove a m = true) : mabove a (mdel m k) = true := by
  induction m with
  | nil => rfl
  | cons p t ih =>
    simp only [mabove, Bool.and_eq_true] at h
    simp only [mdel]
    split
    · exact ih h.2
    · simp only [mabove, Bool.and_eq_true]; exact ⟨h.1, ih h.2⟩

theorem mabove_trans {α : Type} (m : FMap α) {a b : Nat} (hab : a < b) (h : mabove b m = true) : mabove a m = true := by
  induction m with
  | nil => rfl
  | cons p t ih =>
    simp only [mabove, Bool.and_eq_true, decide_eq_true_eq] at h ⊢
    exact ⟨by omega, ih h.2⟩

theorem mabove_mins {α : Type} (m : FMap α) {a k : Nat} (v : α) (hk : a < k) (h : mabove a m = true) :
    mabove a (mins m k v) = true := by
  induction m with
  | nil => simp [mins, mabove, hk]
  | cons p t ih =>
    simp only [mabove, Bool.and_eq_true, decide_eq_true_eq] at h
    simp only [mins]
    split <;> simp only [mabove, Bool.and_eq_true, decide_eq_true_eq]
    · exact ⟨hk, h.1, h.2⟩
    · exact ⟨h.1, ih h.2⟩

theorem mwf_mdel {α : Type} [DecidableEq α] (d : α) (m : FMap α) (k : Nat) (h : mwf d m = true) :
    mwf d (mdel m k) = true := by
  induction m with
  | nil => rfl
  | cons p t ih =>
    simp only [mwf, Bool.and_eq_true] at h
    simp only [mdel]
    split
    · exact ih h.2
    · simp only [mwf, Bool.and_eq_true]; exact ⟨⟨h.1.1, mabove_mdel t k h.1.2⟩, ih h.2⟩

theorem mwf_mins {α : Type} [DecidableEq α] (d : α) (m : FMap α) (k : Nat) (v : α) (hv : v ≠ d)
    (hk : ∀ p ∈ m, p.1 ≠ k) (h : mwf d m = true) : mwf d (mins m k v) = true := by
  induction m with
  | nil => simp [mins, mwf, mabove, hv]
  | cons p t ih =>
    have hp := hk p (by simp)
    have h' := h
    simp only [mwf, Bool.and_eq_true, decide_eq_true_eq] at h
    simp only [mins]
    split
    · next hlt =>
      have ha : mabove k (p :: t) = true := by
        simp only [mabove, Bool.and_eq_true, decide_eq_true_eq]
        exact ⟨hlt, mabove_trans t hlt h.1.2⟩
      simp only [mwf, Bool.and_eq_true, decide_eq_true_eq] at h' ⊢
      exact ⟨⟨hv, ha⟩, h'⟩
    · simp only [mwf, Bool.and_eq_true, decide_eq_true_eq]
      exact ⟨⟨h.1.1, mabove_mins t v (by omega) h.1.2⟩, ih (fun q hq => hk q (by simp [hq])) h.2⟩

theorem mdel_ne {α : Type} (m : FMap α) (k : Nat) : ∀ p ∈ mdel m k, p.1 ≠ k := by
  induction m with
  | nil => simp [mdel]
  | cons p t ih =>
    simp only [mdel]
    split
    · exact ih
    · next hne =>
      intro q hq
      rcases List.mem_cons.1 hq with hq | hq
      · rw [hq]; exact hne
      · exact ih q hq

/-- A write keeps the canonical form. -/
theorem mwf_mput {α : Type} [DecidableEq α] (d : α) (m : FMap α) (k : Nat) (v : α) (h : mwf d m = true) :
    mwf d (mput d m k v) = true := by
  unfold mput
  split
  · exact mwf_mdel d m k h
  · exact mwf_mins d _ k v ‹_› (mdel_ne m k) (mwf_mdel d m k h)

theorem mwf_foldl_mput {α β : Type} [DecidableEq α] (d : α) (f : β → Nat) (g : β → α) (l : List β) :
    ∀ m : FMap α, mwf d m = true → mwf d (l.foldl (fun a p => mput d a (f p) (g p)) m) = true := by
  induction l with
  | nil => exact fun _ h => h
  | cons p t ih => exact fun m h => ih _ (mwf_mput d m _ _ h)

/-- Changing every value gives a canonical map. -/
theorem mwf_mmapK {α : Type} [DecidableEq α] (d : α) (f : Nat → α → α) : ∀ m : FMap α, mwf d (mmapK d f m) = true
  | [] => rfl
  | p :: t => mwf_mput d _ p.1 (f p.1 p.2) (mwf_mmapK d f t)

/-- Changing every value gives a canonical map. -/
theorem mwf_mmap {α : Type} [DecidableEq α] (d : α) (f : α → α) (m : FMap α) : mwf d (mmap d f m) = true :=
  mwf_mmapK d _ m

/-- What a changed map reads as, where the change keeps the default. -/
theorem mget_mmapK {α : Type} [DecidableEq α] (d : α) (f : Nat → α → α) (hf : ∀ k, f k d = d) :
    ∀ (m : FMap α) (j : Nat), mget d (mmapK d f m) j = f j (mget d m j)
  | [], j => (hf j).symm
  | (k, v) :: t, j => by
    rw [mmapK, mget_mput, mget_mmapK d f hf t j, mget]
    by_cases h : j = k
    · subst h; simp
    · rw [if_neg h, if_neg fun e => h e.symm]

/-- What a changed map reads as, where the change keeps the default. -/
theorem mget_mmap {α : Type} [DecidableEq α] (d : α) (f : α → α) (hf : f d = d) (m : FMap α) (j : Nat) :
    mget d (mmap d f m) j = f (mget d m j) := mget_mmapK d _ (fun _ => hf) m j

/-- What every step of a fold keeps, the fold keeps. -/
theorem forAll_keeps {α σ : Type} (P : σ → Prop) (f : α → σ → σ) (hf : ∀ a s, P s → P (f a s)) :
    ∀ (l : List α) (s : σ), P s → P (forAll l f s)
  | [], _, h => h
  | a :: t, s, h => forAll_keeps P f hf t (f a s) (hf a s h)

/-- What no step of a fold changes, the fold does not change. -/
theorem forAll_const {α σ β : Type} (g : σ → β) (f : α → σ → σ) (hf : ∀ a s, g (f a s) = g s) :
    ∀ (l : List α) (s : σ), g (forAll l f s) = g s
  | [], _ => rfl
  | a :: t, s => (forAll_const g f hf t (f a s)).trans (hf a s)

@[simp] theorem forAll_nil {α σ : Type} (f : α → σ → σ) (s : σ) : forAll [] f s = s := rfl
@[simp] theorem forAll_cons {α σ : Type} (a : α) (l : List α) (f : α → σ → σ) (s : σ) :
    forAll (a :: l) f s = forAll l f (f a s) := rfl

end Sys2Proof.Machine
end

