-- ==== Sys2Proof/Laws/Issue.lean ====
section
/-! SUPPORT. What the issue of a tile instruction does (R160, R278, R682): the lemmas that proofs about tile instructions
cite. -/

namespace Sys2Proof.Machine
open Sys2Proof

/-- The outcome of a command's effect is that effect, with what ends a command. -/
@[simp] theorem done_eq (s : State) : s.done = .next s.finish := rfl

/-- A context reads back as set. -/
theorem ctx_setCtx (t c d : Nat) (x : CtxSt) (s : State) :
    (s.setCtx t c x).ctx t d = if d = c then x else s.ctx t d := by
  simp only [State.ctx, State.setCtx, State.setTile, State.tile, mget_mput_same, mget_mput]

/-- Another tile is as before. -/
theorem tile_setCtx_ne {t u : Nat} (h : u ≠ t) (c : Nat) (x : CtxSt) (s : State) : (s.setCtx t c x).tile u = s.tile u := by
  simp only [State.setCtx, State.setTile, State.tile, mget_mput, if_neg h]

/-- Recording a trace changes the debug unit, its registers and the free values drawn, nothing else. -/
theorem trace_frame (t c w h : Nat) (s : State) : s.trace t c w h = { s with
    dbg := (s.trace t c w h).dbg, regs := (s.trace t c w h).regs, fregs := (s.trace t c w h).fregs,
    freeCtr := (s.trace t c w h).freeCtr } := by
  unfold State.trace; dsimp only; split <;> rfl

/-- Tiles are as before a trace. -/
@[simp] theorem trace_tile (t c w h u : Nat) (s : State) : (s.trace t c w h).tile u = s.tile u := by
  rw [trace_frame]; rfl

/-- Contexts are as before a trace. -/
@[simp] theorem trace_ctx (t c w h u d : Nat) (s : State) : (s.trace t c w h).ctx u d = s.ctx u d := by
  unfold State.ctx; rw [trace_tile]

/-- The present slot is as before a trace. -/
@[simp] theorem trace_slot (t c w h : Nat) (s : State) : (s.trace t c w h).slot = s.slot := by
  rw [trace_frame]; rfl

/-- A legal word that may issue has its effect on the traced state, given the plan's line of its context. -/
theorem issue_legal {s : State} {t c w : Nat} {p : PTile} (hc : s.canIssue t c = true) (hp : s.tileCfg t = some p)
    (hw : s.whyNot t c w = none) (eff : PCtx → State → State) :
    s.issue t c w eff = eff (ptileCtx p c) (s.trace t c w 0) := by
  unfold State.issue; rw [if_pos hc, hp, hw]

/-- A word issues only on a tile of the running plan. -/
theorem canIssue_cfg {s : State} {t c : Nat} (hc : s.canIssue t c = true) : ∃ p, s.tileCfg t = some p := by
  unfold State.canIssue at hc; simp only [Bool.and_eq_true] at hc; exact Option.isSome_iff_exists.mp hc.2

end Sys2Proof.Machine
end

