-- ==== Sys2Proof/Laws/React.lean ====
section
/-! SUPPORT. What raising a source can change: each operation a reaction is made of changes nothing outside State.withReact. -/

namespace Sys2Proof.Machine
open Sys2Proof

theorem Reacts.refl (s : State) : Reacts s s := rfl

theorem Reacts.of {s e : State} (h : e = s.withReact e) : Reacts s e := h

theorem Reacts.trans {a b c : State} (h1 : Reacts a b) (h2 : Reacts b c) : Reacts a c := by
  unfold Reacts at *; rw [h2, h1]; rfl

theorem Reacts.forAll {α : Type} (l : List α) (f : α → State → State) (h : ∀ a s, Reacts s (f a s)) (s : State) :
    Reacts s (forAll l f s) :=
  forAll_keeps (Reacts s) f (fun a t ht => ht.trans (h a t)) l s (.refl s)

theorem reacts_rset (a : Nat) (v : W32) (s : State) : Reacts s (s.rset a v) := rfl
theorem reacts_rfield (a hi lo v : Nat) (s : State) : Reacts s (s.rfield a hi lo v) := rfl
theorem reacts_revt (a b : Nat) (s : State) : Reacts s (s.revt a b) := rfl
theorem reacts_rset64 (a v : Nat) (s : State) : Reacts s (s.rset64 a v) := rfl
theorem reacts_rinc64 (a k : Nat) (s : State) : Reacts s (s.rinc64 a k) := rfl
theorem reacts_rincSat (a hi lo k : Nat) (s : State) : Reacts s (s.rincSat a hi lo k) := rfl
theorem reacts_rmaxFree (a m : Nat) (s : State) : Reacts s (s.rmaxFree a m) := rfl
theorem reacts_msix (f v : Nat) (s : State) : Reacts s (s.msix f v) := by unfold State.msix; dsimp only; split <;> rfl
theorem reacts_fnEvt (f b : Nat) (s : State) : Reacts s (s.fnEvt f b) := (reacts_revt _ _ s).trans (reacts_msix _ _ _)
theorem reacts_fnEvtAll (b : Nat) (s : State) : Reacts s (s.fnEvtAll b) := .forAll _ _ (fun f t => reacts_fnEvt f b t) s
theorem reacts_setChan (k : Nat) (c : Chan) (s : State) : Reacts s (s.setChan k c) := rfl
theorem reacts_setStream (k : Nat) (v : StreamV) (s : State) : Reacts s (s.setStream k v) := rfl
theorem reacts_setGs (k : Nat) (g : GateS) (s : State) : Reacts s (s.setGs k g) := rfl
theorem reacts_setSrc (k : Nat) (v : SrcState) (s : State) : Reacts s (s.setSrc k v) := rfl
theorem reacts_drive (k : Nat) (on : Bool) (s : State) : Reacts s (s.drive k on) := rfl
theorem reacts_btStop (k : Nat) (s : State) : Reacts s (s.btStop k) := rfl
theorem reacts_evalChan (k : Nat) (s : State) : Reacts s (s.evalChan k) := by
  unfold State.evalChan; dsimp only
  split
  · split <;> rfl
  · split
    · split <;> rfl
    · have h : Reacts s (if (s.chan k).energised then s.drive k false else s) := by
        split <;> rfl
      split
      · exact h.trans (reacts_btStop k _)
      · exact h
theorem reacts_evalChans (s : State) : Reacts s s.evalChans := .forAll _ _ reacts_evalChan s
theorem reacts_endPriv (s : State) : Reacts s s.endPriv := by unfold State.endPriv; split <;> rfl
theorem reacts_devTo (d : DevState) (s : State) : Reacts s (s.devTo d) := by
  unfold State.devTo; split
  · rfl
  · exact Reacts.trans (b := { s with dev.state := d }) rfl (reacts_fnEvtAll 0 _)
theorem reacts_holdAll (f : StreamV → StreamV) (s : State) : Reacts s (s.holdAll f) :=
  .forAll _ _ (fun k t => reacts_setStream k (f (t.stream k)) t) s
theorem reacts_setTag (t : Nat) (c : Option Tag) (s : State) : Reacts s (s.setTag t c) := rfl
theorem reacts_finishTag (t a b : Nat) (s : State) : Reacts s (s.finishTag t a b) := by
  unfold State.finishTag; split <;> rfl
theorem reacts_stopPlan (s : State) : Reacts s s.stopPlan := rfl
theorem reacts_wakeDom (d : Nat) (s : State) : Reacts s (s.wakeDom d) := by
  unfold State.wakeDom; dsimp only; split <;> (try split) <;> rfl
theorem reacts_releaseDom (d : Nat) (s : State) : Reacts s (s.releaseDom d) := rfl
theorem reacts_quadOff (q : Nat) (s : State) : Reacts s (s.quadOff q) := rfl
theorem reacts_ownDom (d : Nat) (w : Bool) (s : State) : Reacts s (s.ownDom d w) := by
  unfold State.ownDom; split
  · exact reacts_wakeDom d s
  · split <;> rfl
theorem reacts_ownDoms (s : State) : Reacts s s.ownDoms :=
  (reacts_ownDom _ _ s).trans (.forAll _ _ (fun _ t => reacts_ownDom _ _ t) _)
theorem reacts_tokens (s : State) :
    Reacts s { (s.rset 0x60038 0).rset 0x6003C 0 with pm.grant := [], pm.throttled := false } := rfl
theorem reacts_planDomsOff (s : State) : Reacts s s.planDomsOff := by
  unfold State.planDomsOff
  refine Reacts.trans ?_ (reacts_ownDoms _)
  refine Reacts.trans (b := forAll (List.range 48) (fun q s => if s.dom q = .off then s.releaseDom q else s.quadOff q) s) ?_ ?_
  · exact .forAll _ _ (fun q t => by split <;> rfl) s
  · exact (Reacts.forAll [0x4B, 0x4C, 0x4D, 0x4E, 0x52] State.releaseDom reacts_releaseDom _).trans (reacts_tokens _)
theorem reacts_planEvt (s : State) : Reacts s s.planEvt := reacts_fnEvtAll 3 s
theorem reacts_abandonSwitch (s : State) : Reacts s s.abandonSwitch := by
  unfold State.abandonSwitch; split
  · refine Reacts.trans ?_ (reacts_planEvt _)
    refine Reacts.trans ?_ (reacts_planDomsOff _)
    refine Reacts.trans ?_ (reacts_stopPlan _)
    split
    · exact Reacts.trans (reacts_finishTag _ _ _ s) rfl
    · rfl
  · rfl
theorem reacts_heldDev (c : Option Nat) (s : State) :
    Reacts s { s with dev.holdSrc := c, dev.blackout := false, dev.bootHealthy := false, dev.chipReq := none,
                      dev.holdAt := some s.ao, sv.hwd.st := .disarmed } := rfl
theorem reacts_enterSafeHold (c : Option Nat) (s : State) : Reacts s (s.enterSafeHold c) := by
  unfold State.enterSafeHold; split
  · refine (reacts_abandonSwitch s).trans ?_
    refine Reacts.trans ?_ (reacts_evalChans _)
    refine Reacts.trans ?_ (reacts_endPriv _)
    refine Reacts.trans ?_ (reacts_holdAll _ _)
    exact (reacts_heldDev _ _).trans (reacts_devTo _ _)
  · rfl
theorem reacts_enterAlarm (s : State) : Reacts s s.enterAlarm := by
  unfold State.enterAlarm; split
  · rfl
  · rfl
  · refine (reacts_abandonSwitch s).trans ?_
    refine Reacts.trans ?_ (reacts_evalChans _)
    refine Reacts.trans ?_ (reacts_endPriv _)
    refine Reacts.trans ?_ (reacts_holdAll _ _)
    exact (reacts_heldDev _ _).trans (reacts_devTo _ _)
theorem reacts_errPRaise (s : State) : Reacts s s.errPRaise := by
  unfold State.errPRaise; split
  · rfl
  · split <;> rfl
theorem reacts_capture (n : Nat) (c : Cap) (s : State) : Reacts s (s.capture n c) := by
  unfold State.capture; extract_lets a s1 s2 s3; split
  · exact reacts_rincSat ..
  · exact ((reacts_rset _ _ s).trans (reacts_rset _ _ _)).trans ((reacts_rset _ _ _).trans (reacts_rset64 _ _ _))
theorem reacts_trip (n m : Nat) (s : State) : Reacts s (s.trip n m) := by
  unfold State.trip
  exact Reacts.trans (((reacts_rset _ _ s).trans (reacts_rset _ _ _)).trans
    ((reacts_revt _ _ _).trans (reacts_rmaxFree _ _ _))) (reacts_evalChans _)
theorem reacts_dropMask (m : Nat) (s : State) : Reacts s (s.dropMask m) :=
  .forAll _ _ (fun k t => by split <;> rfl) s
theorem reacts_blockReset (n : Nat) (s : State) : Reacts s (s.blockReset n) := by
  unfold State.blockReset
  split
  · rfl
  · split
    · refine .forAll _ _ (fun k t => ?_) s
      dsimp only; split
      · split <;> rfl
      · rfl
    · split
      · rfl
      · split
        · rfl
        · split
          · split <;> rfl
          · rfl
theorem reacts_ite {c : Prop} [Decidable c] {s a b : State} (ha : Reacts s a) (hb : Reacts s b) :
    Reacts s (if c then a else b) := by split <;> assumption
theorem reacts_chipReq (n : Option (Option Nat)) (s : State) : Reacts s { s with dev.chipReq := n } := rfl
theorem reacts_fast (s : State) : Reacts s { s with rv.slow := false } := rfl
theorem reacts_react (n : Nat) (s : State) : Reacts s (s.react n) := by
  unfold State.react
  extract_lets cfg s1 tam pol r s2 rv s3 s4 s5 s6 s7 s8
  have h1 : Reacts s s1 := reacts_rinc64 ..
  have h2 : Reacts s s2 := h1.trans (reacts_ite ((reacts_revt _ _ _).trans (reacts_msix _ _ _)) (.refl _))
  have h3 : Reacts s s3 := h2.trans (reacts_ite (reacts_fast _) (.refl _))
  have h4 : Reacts s s4 := h3.trans (reacts_ite (reacts_errPRaise _) (.refl _))
  have h5 : Reacts s s5 := h4.trans (reacts_ite ((reacts_dropMask _ _).trans (reacts_trip _ _ _)) (.refl _))
  have h6 : Reacts s s6 := h5.trans (reacts_ite ((reacts_enterSafeHold _ _).trans (reacts_trip _ _ _)) (.refl _))
  have h7 : Reacts s s7 := h6.trans (reacts_ite ((reacts_enterAlarm _).trans (reacts_trip _ _ _)) (.refl _))
  have h8 : Reacts s s8 := h7.trans (reacts_ite (reacts_blockReset _ _) rfl)
  exact h8.trans (reacts_ite (reacts_chipReq _ _) (.refl _))

/-- A raise changes only what reactions may change. -/
theorem reacts_raiseWith (n : Nat) (l : Bool) (c : Cap) (s : State) : Reacts s (s.raiseWith n l c) := by
  unfold State.raiseWith; split
  · rfl
  · extract_lets o us v s1
    have h1 : Reacts s s1 := reacts_capture ..
    split
    · exact h1.trans (Reacts.trans (reacts_setSrc _ _ _) ((reacts_react _ _).trans (reacts_evalChans _)))
    · exact h1.trans (reacts_setSrc _ _ _)
    · exact h1.trans (reacts_setSrc _ _ _)
    · exact h1.trans (reacts_setSrc _ _ _)
theorem reacts_raise (n : Nat) (s : State) : Reacts s (s.raise n) := reacts_raiseWith ..
theorem reacts_raiseU (n u : Nat) (s : State) : Reacts s (s.raiseU n u) := reacts_raiseWith ..
theorem reacts_raiseLevel (n u : Nat) (s : State) : Reacts s (s.raiseLevel n u) := by
  unfold State.raiseLevel; split
  · rfl
  · exact reacts_raiseWith ..
theorem reacts_deassert (n : Nat) (s : State) : Reacts s (s.deassert n) := by
  unfold State.deassert; dsimp only; split
  · split <;> rfl
  · rfl
theorem reacts_lower (n : Nat) (s : State) : Reacts s (s.lower n) := by
  unfold State.lower; split
  · exact reacts_deassert ..
  · rfl

end Sys2Proof.Machine
end

