-- ==== Sys2Proof/Laws/Registers.lean ====
section
/-! SUPPORT. The register file: reading after writing; and which registers a raised source and its reactions can write. -/

namespace Sys2Proof.Machine
open Sys2Proof

/-- What a register reads as after a write. -/
theorem rget_rset (a b : Nat) (v : W32) (s : State) : (s.rset a v).rget b = if b = a then v else s.rget b := by
  by_cases h : b = a
  · subst h; rw [if_pos rfl]; exact mget_mput_same (regReset b) s.regs b v
  · rw [if_neg h]; exact mget_mput_other (regReset b) (regReset a) s.regs v h
@[simp] theorem rget_rset_same (a : Nat) (v : W32) (s : State) : (s.rset a v).rget a = v := by rw [rget_rset, if_pos rfl]
theorem rget_rset_ne {a b : Nat} (h : b ≠ a) (v : W32) (s : State) : (s.rset a v).rget b = s.rget b := by
  rw [rget_rset, if_neg h]
/-- A hardware set of an event bit leaves the register's other bits (R8). -/
theorem rget_revt (a b : Nat) (s : State) : (s.revt a b).rget a = s.rget a ||| BitVec.ofNat 32 (2 ^ b) := rget_rset_same _ _ _

/-- The registers that reactions write: FC_ and RV_, PM_ and SIO_, tile windows and function pages. -/
def reactReg (a : Nat) : Prop := (0x10000 ≤ a ∧ a < 0x30000) ∨ (0x60000 ≤ a ∧ a < 0x80000) ∨ 0x100000 ≤ a

/-- `e` has the registers of `s`, those of reactions aside. -/
def SameRegs (s e : State) : Prop := ∀ a, ¬ reactReg a → e.rget a = s.rget a

theorem SameRegs.refl (s : State) : SameRegs s s := fun _ _ => rfl

theorem SameRegs.of {s e : State} (h : e.regs = s.regs) : SameRegs s e := fun a _ => by unfold State.rget; rw [h]

theorem SameRegs.trans {a b c : State} (h1 : SameRegs a b) (h2 : SameRegs b c) : SameRegs a c := by
  exact fun x hx => (h2 x hx).trans (h1 x hx)

theorem SameRegs.forAll {α : Type} (l : List α) (f : α → State → State) (h : ∀ a s, SameRegs s (f a s)) (s : State) :
    SameRegs s (forAll l f s) :=
  forAll_keeps (SameRegs s) f (fun a t ht => ht.trans (h a t)) l s (.refl s)

theorem sameRegs_rset {a : Nat} (h : reactReg a) (v : W32) (s : State) : SameRegs s (s.rset a v) :=
  fun x hx => rget_rset_ne (fun e => hx (by rw [e]; exact h)) v s
theorem sameRegs_rfield {a : Nat} (h : reactReg a) (hi lo v : Nat) (s : State) : SameRegs s (s.rfield a hi lo v) :=
  sameRegs_rset h _ s
theorem sameRegs_revt {a : Nat} (h : reactReg a) (b : Nat) (s : State) : SameRegs s (s.revt a b) := sameRegs_rset h _ s
theorem sameRegs_rset64 {a : Nat} (h : reactReg a) (h' : reactReg (a + 4)) (v : Nat) (s : State) :
    SameRegs s (s.rset64 a v) := (sameRegs_rset h _ s).trans (sameRegs_rset h' _ _)
theorem sameRegs_rinc64 {a : Nat} (h : reactReg a) (h' : reactReg (a + 4)) (k : Nat) (s : State) :
    SameRegs s (s.rinc64 a k) := (sameRegs_rset h _ s).trans (sameRegs_rset h' _ _)
theorem sameRegs_rincSat {a : Nat} (h : reactReg a) (hi lo k : Nat) (s : State) : SameRegs s (s.rincSat a hi lo k) :=
  sameRegs_rset h _ s
theorem sameRegs_rmaxFree (a m : Nat) (s : State) : SameRegs s (s.rmaxFree a m) := .of rfl
theorem sameRegs_msix (f v : Nat) (s : State) : SameRegs s (s.msix f v) := by unfold State.msix; dsimp only; split <;> exact .of rfl
theorem sameRegs_fnEvt (f b : Nat) (s : State) : SameRegs s (s.fnEvt f b) := (sameRegs_revt (by unfold reactReg fnAddr; omega) _ s).trans (sameRegs_msix _ _ _)
theorem sameRegs_fnEvtAll (b : Nat) (s : State) : SameRegs s (s.fnEvtAll b) := .forAll _ _ (fun f t => sameRegs_fnEvt f b t) s
theorem sameRegs_setChan (k : Nat) (c : Chan) (s : State) : SameRegs s (s.setChan k c) := .of rfl
theorem sameRegs_setStream (k : Nat) (v : StreamV) (s : State) : SameRegs s (s.setStream k v) := .of rfl
theorem sameRegs_setGs (k : Nat) (g : GateS) (s : State) : SameRegs s (s.setGs k g) := .of rfl
theorem sameRegs_drive (k : Nat) (on : Bool) (s : State) : SameRegs s (s.drive k on) :=
  SameRegs.trans (b := (({ (s.setChan k { s.chan k with energised := on, cmdAt := s.ao }) with
    sio.fbWrong := mput 0 s.sio.fbWrong k 0 } : State).fbWatch k)) (.of rfl) (sameRegs_revt (by unfold reactReg; omega) _ _)
theorem sameRegs_btStop (k : Nat) (s : State) : SameRegs s (s.btStop k) := .of rfl
theorem sameRegs_ite {c : Prop} [Decidable c] {s a b : State} (ha : SameRegs s a) (hb : SameRegs s b) :
    SameRegs s (if c then a else b) := by split <;> assumption
theorem sameRegs_evalChan (k : Nat) (s : State) : SameRegs s (s.evalChan k) := by
  unfold State.evalChan; dsimp only
  have h : SameRegs s (if (s.chan k).energised then s.drive k false else s) := sameRegs_ite (sameRegs_drive _ _ _) (.refl s)
  exact sameRegs_ite (sameRegs_ite (sameRegs_drive _ _ _) (.refl s))
    (sameRegs_ite (sameRegs_ite (sameRegs_drive _ _ _) (.refl s)) (sameRegs_ite (h.trans (sameRegs_btStop k _)) h))
theorem sameRegs_evalChans (s : State) : SameRegs s s.evalChans := .forAll _ _ sameRegs_evalChan s
theorem sameRegs_endPriv (s : State) : SameRegs s s.endPriv := by
  unfold State.endPriv
  exact sameRegs_ite (SameRegs.trans (b := { s with rv.privHeld := false }) (.of rfl)
    (sameRegs_revt (by unfold reactReg; omega) _ _)) (.refl s)
theorem sameRegs_devTo (d : DevState) (s : State) : SameRegs s (s.devTo d) := by
  unfold State.devTo; split
  · exact .of rfl
  · exact SameRegs.trans (b := { s with dev.state := d }) (.of rfl) (sameRegs_fnEvtAll 0 _)
theorem sameRegs_holdAll (f : StreamV → StreamV) (s : State) : SameRegs s (s.holdAll f) :=
  .forAll _ _ (fun k t => sameRegs_setStream k (f (t.stream k)) t) s
theorem sameRegs_setTag (t : Nat) (c : Option Tag) (s : State) : SameRegs s (s.setTag t c) := .of rfl
theorem sameRegs_finishTag (t a b : Nat) (s : State) : SameRegs s (s.finishTag t a b) := by
  unfold State.finishTag; split <;> exact .of rfl
theorem sameRegs_stopPlan (s : State) : SameRegs s s.stopPlan := .of rfl
theorem sameRegs_wakeDom (d : Nat) (s : State) : SameRegs s (s.wakeDom d) := by
  unfold State.wakeDom; dsimp only; split <;> (try split) <;> exact .of rfl
theorem sameRegs_releaseDom (d : Nat) (s : State) : SameRegs s (s.releaseDom d) := .of rfl
theorem mget_filter {α : Type} (d : α) (q : Nat → Bool) (m : FMap α) (k : Nat) (h : q k = true) :
    mget d (m.filter (fun p => q p.1)) k = mget d m k := by
  induction m with
  | nil => rfl
  | cons p t ih =>
    by_cases hp : q p.1 = true
    · rw [List.filter_cons_of_pos (p := fun p => q p.1) (a := p) hp]; simp only [mget]; rw [ih]
    · rw [List.filter_cons_of_neg (p := fun p => q p.1) (a := p) hp, ih]; simp only [mget]
      rw [if_neg (fun e => hp (by rw [e]; exact h))]
theorem sameRegs_quadOff (q : Nat) (s : State) : SameRegs s (s.quadOff q) := by
  intro a ha
  have h : inTileWindow a = false := by
    unfold reactReg at ha; unfold inTileWindow; rw [Bool.and_eq_false_iff]; left; simp; omega
  exact mget_filter (regReset a) (fun x => !(inTileWindow x && quadOf ((x - 0x100000) / 0x4000) = q)) s.regs a (by simp [h])
theorem sameRegs_ownDom (d : Nat) (w : Bool) (s : State) : SameRegs s (s.ownDom d w) := by
  unfold State.ownDom; split
  · exact sameRegs_wakeDom d s
  · split <;> exact .of rfl
theorem sameRegs_ownDoms (s : State) : SameRegs s s.ownDoms :=
  (sameRegs_ownDom _ _ s).trans (.forAll _ _ (fun _ t => sameRegs_ownDom _ _ t) _)
theorem sameRegs_tokens (s : State) :
    SameRegs s { (s.rset 0x60038 0).rset 0x6003C 0 with pm.grant := [], pm.throttled := false } :=
  (SameRegs.trans (sameRegs_rset (a := 0x60038) (by unfold reactReg; omega) 0 s)
    (sameRegs_rset (a := 0x6003C) (by unfold reactReg; omega) 0 _)).trans (.of rfl)
theorem sameRegs_planDomsOff (s : State) : SameRegs s s.planDomsOff := by
  unfold State.planDomsOff
  refine SameRegs.trans ?_ (sameRegs_ownDoms _)
  refine SameRegs.trans (b := forAll (List.range 48) (fun q s => if s.dom q = .off then s.releaseDom q else s.quadOff q) s) ?_ ?_
  · exact .forAll _ _ (fun q t => sameRegs_ite (sameRegs_releaseDom q t) (sameRegs_quadOff q t)) s
  · exact (SameRegs.forAll [0x4B, 0x4C, 0x4D, 0x4E, 0x52] State.releaseDom sameRegs_releaseDom _).trans (sameRegs_tokens _)
theorem sameRegs_planEvt (s : State) : SameRegs s s.planEvt := sameRegs_fnEvtAll 3 s
theorem sameRegs_abandonSwitch (s : State) : SameRegs s s.abandonSwitch := by
  unfold State.abandonSwitch; split
  · refine SameRegs.trans ?_ (sameRegs_planEvt _)
    refine SameRegs.trans ?_ (sameRegs_planDomsOff _)
    refine SameRegs.trans ?_ (sameRegs_stopPlan _)
    split
    · exact SameRegs.trans (sameRegs_finishTag _ _ _ s) (.of rfl)
    · exact .of rfl
  · exact .of rfl
theorem sameRegs_heldDev (c : Option Nat) (s : State) :
    SameRegs s { s with dev.holdSrc := c, dev.blackout := false, dev.bootHealthy := false, dev.chipReq := none,
                        dev.holdAt := some s.ao, sv.hwd.st := .disarmed } := .of rfl
theorem sameRegs_enterSafeHold (c : Option Nat) (s : State) : SameRegs s (s.enterSafeHold c) := by
  unfold State.enterSafeHold; split
  · refine (sameRegs_abandonSwitch s).trans ?_
    refine SameRegs.trans ?_ (sameRegs_evalChans _)
    refine SameRegs.trans ?_ (sameRegs_endPriv _)
    refine SameRegs.trans ?_ (sameRegs_holdAll _ _)
    exact (sameRegs_heldDev _ _).trans (sameRegs_devTo _ _)
  · exact .of rfl
theorem sameRegs_enterAlarm (s : State) : SameRegs s s.enterAlarm := by
  unfold State.enterAlarm; split
  · exact .of rfl
  · exact .of rfl
  · refine (sameRegs_abandonSwitch s).trans ?_
    refine SameRegs.trans ?_ (sameRegs_evalChans _)
    refine SameRegs.trans ?_ (sameRegs_endPriv _)
    refine SameRegs.trans ?_ (sameRegs_holdAll _ _)
    exact (sameRegs_heldDev _ _).trans (sameRegs_devTo _ _)
theorem sameRegs_errPRaise (s : State) : SameRegs s s.errPRaise := by
  unfold State.errPRaise; split
  · exact .of rfl
  · split <;> exact .of rfl
theorem sameRegs_capture {n : Nat} (hn : n < 256) (c : Cap) (s : State) : SameRegs s (s.capture n c) := by
  have h (k : Nat) (hk : k < 32) : reactReg (0x10100 + 32 * (n / 32) + k) := by unfold reactReg; omega
  unfold State.capture; extract_lets a s1 s2 s3
  exact sameRegs_ite (sameRegs_rincSat (h 0 (by omega)) _ _ _ _)
    (((sameRegs_rset (h 0 (by omega)) _ s).trans (sameRegs_rset (h 4 (by omega)) _ _)).trans
      ((sameRegs_rset (h 8 (by omega)) _ _).trans (sameRegs_rset64 (h 16 (by omega)) (h 20 (by omega)) _ _)))
theorem sameRegs_trip (n m : Nat) (s : State) : SameRegs s (s.trip n m) := by
  unfold State.trip
  exact SameRegs.trans (((sameRegs_rset (by unfold reactReg; omega) _ s).trans
    (sameRegs_rset (by unfold reactReg; omega) _ _)).trans
    ((sameRegs_revt (by unfold reactReg; omega) _ _).trans (sameRegs_rmaxFree _ _ _))) (sameRegs_evalChans _)
theorem sameRegs_dropMask (m : Nat) (s : State) : SameRegs s (s.dropMask m) :=
  .forAll _ _ (fun k t => sameRegs_ite (sameRegs_drive k false t) (.refl t)) s
theorem sameRegs_blockReset (n : Nat) (s : State) : SameRegs s (s.blockReset n) := by
  unfold State.blockReset
  split
  · exact .of rfl
  · split
    · refine .forAll _ _ (fun k t => ?_) s
      dsimp only; split
      · split <;> exact .of rfl
      · exact .of rfl
    · split
      · exact .of rfl
      · split
        · exact .of rfl
        · split
          · split <;> exact .of rfl
          · exact .of rfl
theorem sameRegs_chipReq (n : Option (Option Nat)) (s : State) : SameRegs s { s with dev.chipReq := n } := .of rfl
theorem sameRegs_fast (s : State) : SameRegs s { s with rv.slow := false } := .of rfl
theorem sameRegs_react (n : Nat) (s : State) : SameRegs s (s.react n) := by
  unfold State.react
  extract_lets cfg s1 tam pol r s2 rv s3 s4 s5 s6 s7 s8
  have hk : cfg.sev.code < 8 := by cases cfg.sev <;> decide
  have h1 : SameRegs s s1 := sameRegs_rinc64 (by unfold reactReg; omega) (by unfold reactReg; omega) _ _
  have h2 : SameRegs s s2 := h1.trans (sameRegs_ite ((sameRegs_revt (by unfold reactReg; omega) _ _).trans (sameRegs_msix _ _ _)) (.refl _))
  have h3 : SameRegs s s3 := h2.trans (sameRegs_ite (sameRegs_fast _) (.refl _))
  have h4 : SameRegs s s4 := h3.trans (sameRegs_ite (sameRegs_errPRaise _) (.refl _))
  have h5 : SameRegs s s5 := h4.trans (sameRegs_ite ((sameRegs_dropMask _ _).trans (sameRegs_trip _ _ _)) (.refl _))
  have h6 : SameRegs s s6 := h5.trans (sameRegs_ite ((sameRegs_enterSafeHold _ _).trans (sameRegs_trip _ _ _)) (.refl _))
  have h7 : SameRegs s s7 := h6.trans (sameRegs_ite ((sameRegs_enterAlarm _).trans (sameRegs_trip _ _ _)) (.refl _))
  have h8 : SameRegs s s8 := h7.trans (sameRegs_ite (sameRegs_blockReset _ _) (.of rfl))
  exact h8.trans (sameRegs_ite (sameRegs_chipReq _ _) (.refl _))

/-- A raise leaves every register alone that no reaction writes. -/
theorem sameRegs_raiseWith {n : Nat} (hn : n < 256) (l : Bool) (c : Cap) (s : State) : SameRegs s (s.raiseWith n l c) := by
  unfold State.raiseWith; split
  · exact .of rfl
  · extract_lets o us v s1
    have h1 : SameRegs s s1 := sameRegs_capture hn c s
    split
    · exact h1.trans (SameRegs.trans (b := s1.setSrc n _) (.of rfl) ((sameRegs_react n _).trans (sameRegs_evalChans _)))
    all_goals exact h1.trans (.of rfl)

end Sys2Proof.Machine
end

