-- ==== Sys2Proof/Laws/Sources.lean ====
section
/-! SUPPORT. Reactions leave the states of the fault sources alone; what a raise does to its own source and to no other. -/

namespace Sys2Proof.Machine
open Sys2Proof

/-- `e` has the source states of `s`. -/
def SameSrc (s e : State) : Prop := e.flt.src = s.flt.src

theorem SameSrc.refl (s : State) : SameSrc s s := rfl

theorem SameSrc.of {s e : State} (h : e.flt.src = s.flt.src) : SameSrc s e := h

theorem SameSrc.trans {a b c : State} (h1 : SameSrc a b) (h2 : SameSrc b c) : SameSrc a c := by
  unfold SameSrc at *; rw [h2, h1]

theorem SameSrc.forAll {α : Type} (l : List α) (f : α → State → State) (h : ∀ a s, SameSrc s (f a s)) (s : State) :
    SameSrc s (forAll l f s) :=
  forAll_keeps (SameSrc s) f (fun a t ht => ht.trans (h a t)) l s (.refl s)

theorem sameSrc_rset (a : Nat) (v : W32) (s : State) : SameSrc s (s.rset a v) := rfl
theorem sameSrc_rfield (a hi lo v : Nat) (s : State) : SameSrc s (s.rfield a hi lo v) := rfl
theorem sameSrc_revt (a b : Nat) (s : State) : SameSrc s (s.revt a b) := rfl
theorem sameSrc_rset64 (a v : Nat) (s : State) : SameSrc s (s.rset64 a v) := rfl
theorem sameSrc_rinc64 (a k : Nat) (s : State) : SameSrc s (s.rinc64 a k) := rfl
theorem sameSrc_rincSat (a hi lo k : Nat) (s : State) : SameSrc s (s.rincSat a hi lo k) := rfl
theorem sameSrc_rmaxFree (a m : Nat) (s : State) : SameSrc s (s.rmaxFree a m) := rfl
theorem sameSrc_msix (f v : Nat) (s : State) : SameSrc s (s.msix f v) := by unfold State.msix; dsimp only; split <;> rfl
theorem sameSrc_fnEvt (f b : Nat) (s : State) : SameSrc s (s.fnEvt f b) := (sameSrc_revt _ _ s).trans (sameSrc_msix _ _ _)
theorem sameSrc_fnEvtAll (b : Nat) (s : State) : SameSrc s (s.fnEvtAll b) := .forAll _ _ (fun f t => sameSrc_fnEvt f b t) s
theorem sameSrc_setChan (k : Nat) (c : Chan) (s : State) : SameSrc s (s.setChan k c) := rfl
theorem sameSrc_setStream (k : Nat) (v : StreamV) (s : State) : SameSrc s (s.setStream k v) := rfl
theorem sameSrc_setGs (k : Nat) (g : GateS) (s : State) : SameSrc s (s.setGs k g) := rfl
theorem sameSrc_drive (k : Nat) (on : Bool) (s : State) : SameSrc s (s.drive k on) := rfl
theorem sameSrc_btStop (k : Nat) (s : State) : SameSrc s (s.btStop k) := rfl
theorem sameSrc_evalChan (k : Nat) (s : State) : SameSrc s (s.evalChan k) := by
  unfold State.evalChan; dsimp only
  split
  · split <;> rfl
  · split
    · split <;> rfl
    · have h : SameSrc s (if (s.chan k).energised then s.drive k false else s) := by
        split <;> rfl
      split
      · exact h.trans (sameSrc_btStop k _)
      · exact h
theorem sameSrc_evalChans (s : State) : SameSrc s s.evalChans := .forAll _ _ sameSrc_evalChan s
theorem sameSrc_endPriv (s : State) : SameSrc s s.endPriv := by unfold State.endPriv; split <;> rfl
theorem sameSrc_devTo (d : DevState) (s : State) : SameSrc s (s.devTo d) := by
  unfold State.devTo; split
  · rfl
  · exact SameSrc.trans (b := { s with dev.state := d }) rfl (sameSrc_fnEvtAll 0 _)
theorem sameSrc_holdAll (f : StreamV → StreamV) (s : State) : SameSrc s (s.holdAll f) :=
  .forAll _ _ (fun k t => sameSrc_setStream k (f (t.stream k)) t) s
theorem sameSrc_setTag (t : Nat) (c : Option Tag) (s : State) : SameSrc s (s.setTag t c) := rfl
theorem sameSrc_finishTag (t a b : Nat) (s : State) : SameSrc s (s.finishTag t a b) := by
  unfold State.finishTag; split <;> rfl
theorem sameSrc_stopPlan (s : State) : SameSrc s s.stopPlan := rfl
theorem sameSrc_wakeDom (d : Nat) (s : State) : SameSrc s (s.wakeDom d) := by
  unfold State.wakeDom; dsimp only; split <;> (try split) <;> rfl
theorem sameSrc_releaseDom (d : Nat) (s : State) : SameSrc s (s.releaseDom d) := rfl
theorem sameSrc_quadOff (q : Nat) (s : State) : SameSrc s (s.quadOff q) := rfl
theorem sameSrc_ownDom (d : Nat) (w : Bool) (s : State) : SameSrc s (s.ownDom d w) := by
  unfold State.ownDom; split
  · exact sameSrc_wakeDom d s
  · split <;> rfl
theorem sameSrc_ownDoms (s : State) : SameSrc s s.ownDoms :=
  (sameSrc_ownDom _ _ s).trans (.forAll _ _ (fun _ t => sameSrc_ownDom _ _ t) _)
theorem sameSrc_tokens (s : State) :
    SameSrc s { (s.rset 0x60038 0).rset 0x6003C 0 with pm.grant := [], pm.throttled := false } := rfl
theorem sameSrc_planDomsOff (s : State) : SameSrc s s.planDomsOff := by
  unfold State.planDomsOff
  refine SameSrc.trans ?_ (sameSrc_ownDoms _)
  refine SameSrc.trans (b := forAll (List.range 48) (fun q s => if s.dom q = .off then s.releaseDom q else s.quadOff q) s) ?_ ?_
  · exact .forAll _ _ (fun q t => by split <;> rfl) s
  · exact (SameSrc.forAll [0x4B, 0x4C, 0x4D, 0x4E, 0x52] State.releaseDom sameSrc_releaseDom _).trans (sameSrc_tokens _)
theorem sameSrc_planEvt (s : State) : SameSrc s s.planEvt := sameSrc_fnEvtAll 3 s
theorem sameSrc_abandonSwitch (s : State) : SameSrc s s.abandonSwitch := by
  unfold State.abandonSwitch; split
  · refine SameSrc.trans ?_ (sameSrc_planEvt _)
    refine SameSrc.trans ?_ (sameSrc_planDomsOff _)
    refine SameSrc.trans ?_ (sameSrc_stopPlan _)
    split
    · exact SameSrc.trans (sameSrc_finishTag _ _ _ s) rfl
    · rfl
  · rfl
theorem sameSrc_heldDev (c : Option Nat) (s : State) :
    SameSrc s { s with dev.holdSrc := c, dev.blackout := false, dev.bootHealthy := false, dev.chipReq := none,
                       dev.holdAt := some s.ao, sv.hwd.st := .disarmed } := rfl
theorem sameSrc_enterSafeHold (c : Option Nat) (s : State) : SameSrc s (s.enterSafeHold c) := by
  unfold State.enterSafeHold; split
  · refine (sameSrc_abandonSwitch s).trans ?_
    refine SameSrc.trans ?_ (sameSrc_evalChans _)
    refine SameSrc.trans ?_ (sameSrc_endPriv _)
    refine SameSrc.trans ?_ (sameSrc_holdAll _ _)
    exact (sameSrc_heldDev _ _).trans (sameSrc_devTo _ _)
  · rfl
theorem sameSrc_enterAlarm (s : State) : SameSrc s s.enterAlarm := by
  unfold State.enterAlarm; split
  · rfl
  · rfl
  · refine (sameSrc_abandonSwitch s).trans ?_
    refine SameSrc.trans ?_ (sameSrc_evalChans _)
    refine SameSrc.trans ?_ (sameSrc_endPriv _)
    refine SameSrc.trans ?_ (sameSrc_holdAll _ _)
    exact (sameSrc_heldDev _ _).trans (sameSrc_devTo _ _)
theorem sameSrc_errPRaise (s : State) : SameSrc s s.errPRaise := by
  unfold State.errPRaise; split
  · rfl
  · split <;> rfl
theorem sameSrc_capture (n : Nat) (c : Cap) (s : State) : SameSrc s (s.capture n c) := by
  unfold State.capture; extract_lets a s1 s2 s3; split
  · exact sameSrc_rincSat ..
  · exact ((sameSrc_rset _ _ s).trans (sameSrc_rset _ _ _)).trans ((sameSrc_rset _ _ _).trans (sameSrc_rset64 _ _ _))
theorem sameSrc_trip (n m : Nat) (s : State) : SameSrc s (s.trip n m) := by
  unfold State.trip
  exact SameSrc.trans (((sameSrc_rset _ _ s).trans (sameSrc_rset _ _ _)).trans
    ((sameSrc_revt _ _ _).trans (sameSrc_rmaxFree _ _ _))) (sameSrc_evalChans _)
theorem sameSrc_dropMask (m : Nat) (s : State) : SameSrc s (s.dropMask m) :=
  .forAll _ _ (fun k t => by split <;> rfl) s
theorem sameSrc_blockReset (n : Nat) (s : State) : SameSrc s (s.blockReset n) := by
  unfold State.blockReset
  split
  · rfl
  · split
    · refine .forAll _ _ (fun k t => ?_) s
      dsimp only; split
      · split <;> rfl
      · rfl
    · split
      · rfl
      · split
        · rfl
        · split
          · split <;> rfl
          · rfl
theorem sameSrc_ite {c : Prop} [Decidable c] {s a b : State} (ha : SameSrc s a) (hb : SameSrc s b) :
    SameSrc s (if c then a else b) := by split <;> assumption
theorem sameSrc_chipReq (n : Option (Option Nat)) (s : State) : SameSrc s { s with dev.chipReq := n } := rfl
theorem sameSrc_fast (s : State) : SameSrc s { s with rv.slow := false } := rfl
theorem sameSrc_react (n : Nat) (s : State) : SameSrc s (s.react n) := by
  unfold State.react
  extract_lets cfg s1 tam pol r s2 rv s3 s4 s5 s6 s7 s8
  have h1 : SameSrc s s1 := sameSrc_rinc64 ..
  have h2 : SameSrc s s2 := h1.trans (sameSrc_ite ((sameSrc_revt _ _ _).trans (sameSrc_msix _ _ _)) (.refl _))
  have h3 : SameSrc s s3 := h2.trans (sameSrc_ite (sameSrc_fast _) (.refl _))
  have h4 : SameSrc s s4 := h3.trans (sameSrc_ite (sameSrc_errPRaise _) (.refl _))
  have h5 : SameSrc s s5 := h4.trans (sameSrc_ite ((sameSrc_dropMask _ _).trans (sameSrc_trip _ _ _)) (.refl _))
  have h6 : SameSrc s s6 := h5.trans (sameSrc_ite ((sameSrc_enterSafeHold _ _).trans (sameSrc_trip _ _ _)) (.refl _))
  have h7 : SameSrc s s7 := h6.trans (sameSrc_ite ((sameSrc_enterAlarm _).trans (sameSrc_trip _ _ _)) (.refl _))
  have h8 : SameSrc s s8 := h7.trans (sameSrc_ite (sameSrc_blockReset _ _) rfl)
  exact h8.trans (sameSrc_ite (sameSrc_chipReq _ _) (.refl _))

theorem src_congr {s e : State} (h : SameSrc s e) (m : Nat) : e.src m = s.src m := by
  unfold State.src; rw [h]
theorem src_setSrc (n m : Nat) (v : SrcState) (s : State) : (s.setSrc n v).src m = if m = n then v else s.src m := by
  unfold State.src State.setSrc; exact mget_mput _ _ _ _ _

/-- A raise leaves every other source alone. -/
theorem src_raiseWith_ne {n m : Nat} (h : m ≠ n) (l : Bool) (c : Cap) (s : State) :
    (s.raiseWith n l c).src m = s.src m := by
  unfold State.raiseWith; split
  · rfl
  · extract_lets o us v s1
    have h1 : s1.src m = s.src m := src_congr (sameSrc_capture ..) m
    split
    · rw [src_congr (sameSrc_evalChans _), src_congr (sameSrc_react _ _), src_setSrc, if_neg h, h1]
    all_goals rw [src_setSrc, if_neg h, h1]

/-- What a raise does to its own source (R506, R507): counted once more; LATCHED stays, every other state becomes ACTIVE. -/
theorem raisedIn_raiseWith {n : Nat} {s : State} (hr : (romCfg n).reserved = false) (hc : s.dev.state ≠ .cold)
    (l : Bool) (c : Cap) : RaisedIn n s (s.raiseWith n l c) := by
  have hg : ((romCfg n).reserved || s.dev.state == .cold) = false := by simp [hr, hc]
  unfold State.raiseWith; rw [hg]; simp only [Bool.false_eq_true, if_false]
  split <;> (try (rw [RaisedIn, src_congr (sameSrc_evalChans _), src_congr (sameSrc_react _ _)])) <;>
    simp only [RaisedIn, src_setSrc, if_true] <;> simp_all
theorem raisedIn_raise {n : Nat} {s : State} (hr : (romCfg n).reserved = false) (hc : s.dev.state ≠ .cold) :
    RaisedIn n s (s.raise n) := raisedIn_raiseWith hr hc ..
theorem raisedIn_raiseU {n : Nat} {s : State} (u : Nat) (hr : (romCfg n).reserved = false) (hc : s.dev.state ≠ .cold) :
    RaisedIn n s (s.raiseU n u) := raisedIn_raiseWith hr hc ..
theorem raisedIn_raiseLevel {n : Nat} {s : State} (u : Nat) (hr : (romCfg n).reserved = false) (hc : s.dev.state ≠ .cold)
    (ha : (s.src n).asserted = false) : RaisedIn n s (s.raiseLevel n u) := by
  unfold State.raiseLevel; rw [ha]; simp only [Bool.false_eq_true, if_false]; exact raisedIn_raiseWith hr hc ..

end Sys2Proof.Machine
end

