-- ==== Sys2Proof/Laws/State.lean ====
section
/-! SUPPORT. Updates of State, field by field: for each update the fields that it leaves as they were, and what the entry it
sets reads as. -/

namespace Sys2Proof.Machine
open Sys2Proof

/-! ### rset -/

@[simp] theorem State.rset_ao (a : Nat) (v : W32) (s : State) : (s.rset a v).ao = s.ao := rfl
@[simp] theorem State.rset_dev (a : Nat) (v : W32) (s : State) : (s.rset a v).dev = s.dev := rfl
@[simp] theorem State.rset_flt (a : Nat) (v : W32) (s : State) : (s.rset a v).flt = s.flt := rfl
@[simp] theorem State.rset_rv (a : Nat) (v : W32) (s : State) : (s.rset a v).rv = s.rv := rfl
@[simp] theorem State.rset_sio (a : Nat) (v : W32) (s : State) : (s.rset a v).sio = s.sio := rfl
@[simp] theorem State.rset_bsc (a : Nat) (v : W32) (s : State) : (s.rset a v).bsc = s.bsc := rfl
@[simp] theorem State.rset_store (a : Nat) (v : W32) (s : State) : (s.rset a v).store = s.store := rfl
@[simp] theorem State.rset_kv (a : Nat) (v : W32) (s : State) : (s.rset a v).kv = s.kv := rfl
@[simp] theorem State.rset_pm (a : Nat) (v : W32) (s : State) : (s.rset a v).pm = s.pm := rfl
@[simp] theorem State.rset_hl (a : Nat) (v : W32) (s : State) : (s.rset a v).hl = s.hl := rfl
@[simp] theorem State.rset_q (a : Nat) (v : W32) (s : State) : (s.rset a v).q = s.q := rfl
@[simp] theorem State.rset_sv (a : Nat) (v : W32) (s : State) : (s.rset a v).sv = s.sv := rfl
@[simp] theorem State.rset_streams (a : Nat) (v : W32) (s : State) : (s.rset a v).streams = s.streams := rfl
@[simp] theorem State.rset_vd (a : Nat) (v : W32) (s : State) : (s.rset a v).vd = s.vd := rfl
@[simp] theorem State.rset_ldg (a : Nat) (v : W32) (s : State) : (s.rset a v).ldg = s.ldg := rfl
@[simp] theorem State.rset_gate (a : Nat) (v : W32) (s : State) : (s.rset a v).gate = s.gate := rfl
@[simp] theorem State.rset_tiles (a : Nat) (v : W32) (s : State) : (s.rset a v).tiles = s.tiles := rfl
@[simp] theorem State.rset_flits (a : Nat) (v : W32) (s : State) : (s.rset a v).flits = s.flits := rfl
@[simp] theorem State.rset_linkBad (a : Nat) (v : W32) (s : State) : (s.rset a v).linkBad = s.linkBad := rfl
@[simp] theorem State.rset_ldr (a : Nat) (v : W32) (s : State) : (s.rset a v).ldr = s.ldr := rfl
@[simp] theorem State.rset_run (a : Nat) (v : W32) (s : State) : (s.rset a v).run = s.run := rfl
@[simp] theorem State.rset_tm (a : Nat) (v : W32) (s : State) : (s.rset a v).tm = s.tm := rfl
@[simp] theorem State.rset_dbg (a : Nat) (v : W32) (s : State) : (s.rset a v).dbg = s.dbg := rfl
@[simp] theorem State.rset_fregs (a : Nat) (v : W32) (s : State) : (s.rset a v).fregs = s.fregs := rfl
@[simp] theorem State.rset_out (a : Nat) (v : W32) (s : State) : (s.rset a v).out = s.out := rfl
@[simp] theorem State.rset_freeCtr (a : Nat) (v : W32) (s : State) : (s.rset a v).freeCtr = s.freeCtr := rfl
@[simp] theorem State.rset_pending (a : Nat) (v : W32) (s : State) : (s.rset a v).pending = s.pending := rfl

/-! ### revt -/

@[simp] theorem State.revt_ao (a b : Nat) (s : State) : (s.revt a b).ao = s.ao := rfl
@[simp] theorem State.revt_dev (a b : Nat) (s : State) : (s.revt a b).dev = s.dev := rfl
@[simp] theorem State.revt_flt (a b : Nat) (s : State) : (s.revt a b).flt = s.flt := rfl
@[simp] theorem State.revt_rv (a b : Nat) (s : State) : (s.revt a b).rv = s.rv := rfl
@[simp] theorem State.revt_sio (a b : Nat) (s : State) : (s.revt a b).sio = s.sio := rfl
@[simp] theorem State.revt_bsc (a b : Nat) (s : State) : (s.revt a b).bsc = s.bsc := rfl
@[simp] theorem State.revt_store (a b : Nat) (s : State) : (s.revt a b).store = s.store := rfl
@[simp] theorem State.revt_kv (a b : Nat) (s : State) : (s.revt a b).kv = s.kv := rfl
@[simp] theorem State.revt_pm (a b : Nat) (s : State) : (s.revt a b).pm = s.pm := rfl
@[simp] theorem State.revt_hl (a b : Nat) (s : State) : (s.revt a b).hl = s.hl := rfl
@[simp] theorem State.revt_q (a b : Nat) (s : State) : (s.revt a b).q = s.q := rfl
@[simp] theorem State.revt_sv (a b : Nat) (s : State) : (s.revt a b).sv = s.sv := rfl
@[simp] theorem State.revt_streams (a b : Nat) (s : State) : (s.revt a b).streams = s.streams := rfl
@[simp] theorem State.revt_vd (a b : Nat) (s : State) : (s.revt a b).vd = s.vd := rfl
@[simp] theorem State.revt_ldg (a b : Nat) (s : State) : (s.revt a b).ldg = s.ldg := rfl
@[simp] theorem State.revt_gate (a b : Nat) (s : State) : (s.revt a b).gate = s.gate := rfl
@[simp] theorem State.revt_tiles (a b : Nat) (s : State) : (s.revt a b).tiles = s.tiles := rfl
@[simp] theorem State.revt_flits (a b : Nat) (s : State) : (s.revt a b).flits = s.flits := rfl
@[simp] theorem State.revt_linkBad (a b : Nat) (s : State) : (s.revt a b).linkBad = s.linkBad := rfl
@[simp] theorem State.revt_ldr (a b : Nat) (s : State) : (s.revt a b).ldr = s.ldr := rfl
@[simp] theorem State.revt_run (a b : Nat) (s : State) : (s.revt a b).run = s.run := rfl
@[simp] theorem State.revt_tm (a b : Nat) (s : State) : (s.revt a b).tm = s.tm := rfl
@[simp] theorem State.revt_dbg (a b : Nat) (s : State) : (s.revt a b).dbg = s.dbg := rfl
@[simp] theorem State.revt_fregs (a b : Nat) (s : State) : (s.revt a b).fregs = s.fregs := rfl
@[simp] theorem State.revt_out (a b : Nat) (s : State) : (s.revt a b).out = s.out := rfl
@[simp] theorem State.revt_freeCtr (a b : Nat) (s : State) : (s.revt a b).freeCtr = s.freeCtr := rfl
@[simp] theorem State.revt_pending (a b : Nat) (s : State) : (s.revt a b).pending = s.pending := rfl

/-! ### rset64 -/

@[simp] theorem State.rset64_ao (a v : Nat) (s : State) : (s.rset64 a v).ao = s.ao := rfl
@[simp] theorem State.rset64_dev (a v : Nat) (s : State) : (s.rset64 a v).dev = s.dev := rfl
@[simp] theorem State.rset64_flt (a v : Nat) (s : State) : (s.rset64 a v).flt = s.flt := rfl
@[simp] theorem State.rset64_rv (a v : Nat) (s : State) : (s.rset64 a v).rv = s.rv := rfl
@[simp] theorem State.rset64_sio (a v : Nat) (s : State) : (s.rset64 a v).sio = s.sio := rfl
@[simp] theorem State.rset64_bsc (a v : Nat) (s : State) : (s.rset64 a v).bsc = s.bsc := rfl
@[simp] theorem State.rset64_store (a v : Nat) (s : State) : (s.rset64 a v).store = s.store := rfl
@[simp] theorem State.rset64_kv (a v : Nat) (s : State) : (s.rset64 a v).kv = s.kv := rfl
@[simp] theorem State.rset64_pm (a v : Nat) (s : State) : (s.rset64 a v).pm = s.pm := rfl
@[simp] theorem State.rset64_hl (a v : Nat) (s : State) : (s.rset64 a v).hl = s.hl := rfl
@[simp] theorem State.rset64_q (a v : Nat) (s : State) : (s.rset64 a v).q = s.q := rfl
@[simp] theorem State.rset64_sv (a v : Nat) (s : State) : (s.rset64 a v).sv = s.sv := rfl
@[simp] theorem State.rset64_streams (a v : Nat) (s : State) : (s.rset64 a v).streams = s.streams := rfl
@[simp] theorem State.rset64_vd (a v : Nat) (s : State) : (s.rset64 a v).vd = s.vd := rfl
@[simp] theorem State.rset64_ldg (a v : Nat) (s : State) : (s.rset64 a v).ldg = s.ldg := rfl
@[simp] theorem State.rset64_gate (a v : Nat) (s : State) : (s.rset64 a v).gate = s.gate := rfl
@[simp] theorem State.rset64_tiles (a v : Nat) (s : State) : (s.rset64 a v).tiles = s.tiles := rfl
@[simp] theorem State.rset64_flits (a v : Nat) (s : State) : (s.rset64 a v).flits = s.flits := rfl
@[simp] theorem State.rset64_linkBad (a v : Nat) (s : State) : (s.rset64 a v).linkBad = s.linkBad := rfl
@[simp] theorem State.rset64_ldr (a v : Nat) (s : State) : (s.rset64 a v).ldr = s.ldr := rfl
@[simp] theorem State.rset64_run (a v : Nat) (s : State) : (s.rset64 a v).run = s.run := rfl
@[simp] theorem State.rset64_tm (a v : Nat) (s : State) : (s.rset64 a v).tm = s.tm := rfl
@[simp] theorem State.rset64_dbg (a v : Nat) (s : State) : (s.rset64 a v).dbg = s.dbg := rfl
@[simp] theorem State.rset64_fregs (a v : Nat) (s : State) : (s.rset64 a v).fregs = s.fregs := rfl
@[simp] theorem State.rset64_out (a v : Nat) (s : State) : (s.rset64 a v).out = s.out := rfl
@[simp] theorem State.rset64_freeCtr (a v : Nat) (s : State) : (s.rset64 a v).freeCtr = s.freeCtr := rfl
@[simp] theorem State.rset64_pending (a v : Nat) (s : State) : (s.rset64 a v).pending = s.pending := rfl

/-! ### rinc64 -/

@[simp] theorem State.rinc64_ao (a k : Nat) (s : State) : (s.rinc64 a k).ao = s.ao := rfl
@[simp] theorem State.rinc64_dev (a k : Nat) (s : State) : (s.rinc64 a k).dev = s.dev := rfl
@[simp] theorem State.rinc64_flt (a k : Nat) (s : State) : (s.rinc64 a k).flt = s.flt := rfl
@[simp] theorem State.rinc64_rv (a k : Nat) (s : State) : (s.rinc64 a k).rv = s.rv := rfl
@[simp] theorem State.rinc64_sio (a k : Nat) (s : State) : (s.rinc64 a k).sio = s.sio := rfl
@[simp] theorem State.rinc64_bsc (a k : Nat) (s : State) : (s.rinc64 a k).bsc = s.bsc := rfl
@[simp] theorem State.rinc64_store (a k : Nat) (s : State) : (s.rinc64 a k).store = s.store := rfl
@[simp] theorem State.rinc64_kv (a k : Nat) (s : State) : (s.rinc64 a k).kv = s.kv := rfl
@[simp] theorem State.rinc64_pm (a k : Nat) (s : State) : (s.rinc64 a k).pm = s.pm := rfl
@[simp] theorem State.rinc64_hl (a k : Nat) (s : State) : (s.rinc64 a k).hl = s.hl := rfl
@[simp] theorem State.rinc64_q (a k : Nat) (s : State) : (s.rinc64 a k).q = s.q := rfl
@[simp] theorem State.rinc64_sv (a k : Nat) (s : State) : (s.rinc64 a k).sv = s.sv := rfl
@[simp] theorem State.rinc64_streams (a k : Nat) (s : State) : (s.rinc64 a k).streams = s.streams := rfl
@[simp] theorem State.rinc64_vd (a k : Nat) (s : State) : (s.rinc64 a k).vd = s.vd := rfl
@[simp] theorem State.rinc64_ldg (a k : Nat) (s : State) : (s.rinc64 a k).ldg = s.ldg := rfl
@[simp] theorem State.rinc64_gate (a k : Nat) (s : State) : (s.rinc64 a k).gate = s.gate := rfl
@[simp] theorem State.rinc64_tiles (a k : Nat) (s : State) : (s.rinc64 a k).tiles = s.tiles := rfl
@[simp] theorem State.rinc64_flits (a k : Nat) (s : State) : (s.rinc64 a k).flits = s.flits := rfl
@[simp] theorem State.rinc64_linkBad (a k : Nat) (s : State) : (s.rinc64 a k).linkBad = s.linkBad := rfl
@[simp] theorem State.rinc64_ldr (a k : Nat) (s : State) : (s.rinc64 a k).ldr = s.ldr := rfl
@[simp] theorem State.rinc64_run (a k : Nat) (s : State) : (s.rinc64 a k).run = s.run := rfl
@[simp] theorem State.rinc64_tm (a k : Nat) (s : State) : (s.rinc64 a k).tm = s.tm := rfl
@[simp] theorem State.rinc64_dbg (a k : Nat) (s : State) : (s.rinc64 a k).dbg = s.dbg := rfl
@[simp] theorem State.rinc64_fregs (a k : Nat) (s : State) : (s.rinc64 a k).fregs = s.fregs := rfl
@[simp] theorem State.rinc64_out (a k : Nat) (s : State) : (s.rinc64 a k).out = s.out := rfl
@[simp] theorem State.rinc64_freeCtr (a k : Nat) (s : State) : (s.rinc64 a k).freeCtr = s.freeCtr := rfl
@[simp] theorem State.rinc64_pending (a k : Nat) (s : State) : (s.rinc64 a k).pending = s.pending := rfl

/-! ### emit -/

@[simp] theorem State.emit_ao (e : OutEv) (s : State) : (s.emit e).ao = s.ao := rfl
@[simp] theorem State.emit_dev (e : OutEv) (s : State) : (s.emit e).dev = s.dev := rfl
@[simp] theorem State.emit_flt (e : OutEv) (s : State) : (s.emit e).flt = s.flt := rfl
@[simp] theorem State.emit_rv (e : OutEv) (s : State) : (s.emit e).rv = s.rv := rfl
@[simp] theorem State.emit_sio (e : OutEv) (s : State) : (s.emit e).sio = s.sio := rfl
@[simp] theorem State.emit_bsc (e : OutEv) (s : State) : (s.emit e).bsc = s.bsc := rfl
@[simp] theorem State.emit_store (e : OutEv) (s : State) : (s.emit e).store = s.store := rfl
@[simp] theorem State.emit_kv (e : OutEv) (s : State) : (s.emit e).kv = s.kv := rfl
@[simp] theorem State.emit_pm (e : OutEv) (s : State) : (s.emit e).pm = s.pm := rfl
@[simp] theorem State.emit_hl (e : OutEv) (s : State) : (s.emit e).hl = s.hl := rfl
@[simp] theorem State.emit_q (e : OutEv) (s : State) : (s.emit e).q = s.q := rfl
@[simp] theorem State.emit_sv (e : OutEv) (s : State) : (s.emit e).sv = s.sv := rfl
@[simp] theorem State.emit_streams (e : OutEv) (s : State) : (s.emit e).streams = s.streams := rfl
@[simp] theorem State.emit_vd (e : OutEv) (s : State) : (s.emit e).vd = s.vd := rfl
@[simp] theorem State.emit_ldg (e : OutEv) (s : State) : (s.emit e).ldg = s.ldg := rfl
@[simp] theorem State.emit_gate (e : OutEv) (s : State) : (s.emit e).gate = s.gate := rfl
@[simp] theorem State.emit_tiles (e : OutEv) (s : State) : (s.emit e).tiles = s.tiles := rfl
@[simp] theorem State.emit_flits (e : OutEv) (s : State) : (s.emit e).flits = s.flits := rfl
@[simp] theorem State.emit_linkBad (e : OutEv) (s : State) : (s.emit e).linkBad = s.linkBad := rfl
@[simp] theorem State.emit_ldr (e : OutEv) (s : State) : (s.emit e).ldr = s.ldr := rfl
@[simp] theorem State.emit_run (e : OutEv) (s : State) : (s.emit e).run = s.run := rfl
@[simp] theorem State.emit_tm (e : OutEv) (s : State) : (s.emit e).tm = s.tm := rfl
@[simp] theorem State.emit_dbg (e : OutEv) (s : State) : (s.emit e).dbg = s.dbg := rfl
@[simp] theorem State.emit_regs (e : OutEv) (s : State) : (s.emit e).regs = s.regs := rfl
@[simp] theorem State.emit_fregs (e : OutEv) (s : State) : (s.emit e).fregs = s.fregs := rfl
@[simp] theorem State.emit_freeCtr (e : OutEv) (s : State) : (s.emit e).freeCtr = s.freeCtr := rfl
@[simp] theorem State.emit_pending (e : OutEv) (s : State) : (s.emit e).pending = s.pending := rfl

/-! ### advance -/

@[simp] theorem State.advance_dev (t : Nat) (s : State) : (s.advance t).dev = s.dev := rfl
@[simp] theorem State.advance_flt (t : Nat) (s : State) : (s.advance t).flt = s.flt := rfl
@[simp] theorem State.advance_rv (t : Nat) (s : State) : (s.advance t).rv = s.rv := rfl
@[simp] theorem State.advance_sio (t : Nat) (s : State) : (s.advance t).sio = s.sio := rfl
@[simp] theorem State.advance_bsc (t : Nat) (s : State) : (s.advance t).bsc = s.bsc := rfl
@[simp] theorem State.advance_store (t : Nat) (s : State) : (s.advance t).store = s.store := rfl
@[simp] theorem State.advance_kv (t : Nat) (s : State) : (s.advance t).kv = s.kv := rfl
@[simp] theorem State.advance_pm (t : Nat) (s : State) : (s.advance t).pm = s.pm := rfl
@[simp] theorem State.advance_hl (t : Nat) (s : State) : (s.advance t).hl = s.hl := rfl
@[simp] theorem State.advance_q (t : Nat) (s : State) : (s.advance t).q = s.q := rfl
@[simp] theorem State.advance_sv (t : Nat) (s : State) : (s.advance t).sv = s.sv := rfl
@[simp] theorem State.advance_streams (t : Nat) (s : State) : (s.advance t).streams = s.streams := rfl
@[simp] theorem State.advance_vd (t : Nat) (s : State) : (s.advance t).vd = s.vd := rfl
@[simp] theorem State.advance_ldg (t : Nat) (s : State) : (s.advance t).ldg = s.ldg := rfl
@[simp] theorem State.advance_gate (t : Nat) (s : State) : (s.advance t).gate = s.gate := rfl
@[simp] theorem State.advance_tiles (t : Nat) (s : State) : (s.advance t).tiles = s.tiles := rfl
@[simp] theorem State.advance_flits (t : Nat) (s : State) : (s.advance t).flits = s.flits := rfl
@[simp] theorem State.advance_linkBad (t : Nat) (s : State) : (s.advance t).linkBad = s.linkBad := rfl
@[simp] theorem State.advance_ldr (t : Nat) (s : State) : (s.advance t).ldr = s.ldr := rfl
@[simp] theorem State.advance_run (t : Nat) (s : State) : (s.advance t).run = s.run := rfl
@[simp] theorem State.advance_tm (t : Nat) (s : State) : (s.advance t).tm = s.tm := rfl
@[simp] theorem State.advance_dbg (t : Nat) (s : State) : (s.advance t).dbg = s.dbg := rfl
@[simp] theorem State.advance_regs (t : Nat) (s : State) : (s.advance t).regs = s.regs := rfl
@[simp] theorem State.advance_fregs (t : Nat) (s : State) : (s.advance t).fregs = s.fregs := rfl
@[simp] theorem State.advance_out (t : Nat) (s : State) : (s.advance t).out = s.out := rfl
@[simp] theorem State.advance_freeCtr (t : Nat) (s : State) : (s.advance t).freeCtr = s.freeCtr := rfl
@[simp] theorem State.advance_pending (t : Nat) (s : State) : (s.advance t).pending = s.pending := rfl

/-! ### setSrc -/

@[simp] theorem State.setSrc_ao (n : Nat) (v : SrcState) (s : State) : (s.setSrc n v).ao = s.ao := rfl
@[simp] theorem State.setSrc_dev (n : Nat) (v : SrcState) (s : State) : (s.setSrc n v).dev = s.dev := rfl
@[simp] theorem State.setSrc_rv (n : Nat) (v : SrcState) (s : State) : (s.setSrc n v).rv = s.rv := rfl
@[simp] theorem State.setSrc_sio (n : Nat) (v : SrcState) (s : State) : (s.setSrc n v).sio = s.sio := rfl
@[simp] theorem State.setSrc_bsc (n : Nat) (v : SrcState) (s : State) : (s.setSrc n v).bsc = s.bsc := rfl
@[simp] theorem State.setSrc_store (n : Nat) (v : SrcState) (s : State) : (s.setSrc n v).store = s.store := rfl
@[simp] theorem State.setSrc_kv (n : Nat) (v : SrcState) (s : State) : (s.setSrc n v).kv = s.kv := rfl
@[simp] theorem State.setSrc_pm (n : Nat) (v : SrcState) (s : State) : (s.setSrc n v).pm = s.pm := rfl
@[simp] theorem State.setSrc_hl (n : Nat) (v : SrcState) (s : State) : (s.setSrc n v).hl = s.hl := rfl
@[simp] theorem State.setSrc_q (n : Nat) (v : SrcState) (s : State) : (s.setSrc n v).q = s.q := rfl
@[simp] theorem State.setSrc_sv (n : Nat) (v : SrcState) (s : State) : (s.setSrc n v).sv = s.sv := rfl
@[simp] theorem State.setSrc_streams (n : Nat) (v : SrcState) (s : State) : (s.setSrc n v).streams = s.streams := rfl
@[simp] theorem State.setSrc_vd (n : Nat) (v : SrcState) (s : State) : (s.setSrc n v).vd = s.vd := rfl
@[simp] theorem State.setSrc_ldg (n : Nat) (v : SrcState) (s : State) : (s.setSrc n v).ldg = s.ldg := rfl
@[simp] theorem State.setSrc_gate (n : Nat) (v : SrcState) (s : State) : (s.setSrc n v).gate = s.gate := rfl
@[simp] theorem State.setSrc_tiles (n : Nat) (v : SrcState) (s : State) : (s.setSrc n v).tiles = s.tiles := rfl
@[simp] theorem State.setSrc_flits (n : Nat) (v : SrcState) (s : State) : (s.setSrc n v).flits = s.flits := rfl
@[simp] theorem State.setSrc_linkBad (n : Nat) (v : SrcState) (s : State) : (s.setSrc n v).linkBad = s.linkBad := rfl
@[simp] theorem State.setSrc_ldr (n : Nat) (v : SrcState) (s : State) : (s.setSrc n v).ldr = s.ldr := rfl
@[simp] theorem State.setSrc_run (n : Nat) (v : SrcState) (s : State) : (s.setSrc n v).run = s.run := rfl
@[simp] theorem State.setSrc_tm (n : Nat) (v : SrcState) (s : State) : (s.setSrc n v).tm = s.tm := rfl
@[simp] theorem State.setSrc_dbg (n : Nat) (v : SrcState) (s : State) : (s.setSrc n v).dbg = s.dbg := rfl
@[simp] theorem State.setSrc_regs (n : Nat) (v : SrcState) (s : State) : (s.setSrc n v).regs = s.regs := rfl
@[simp] theorem State.setSrc_fregs (n : Nat) (v : SrcState) (s : State) : (s.setSrc n v).fregs = s.fregs := rfl
@[simp] theorem State.setSrc_out (n : Nat) (v : SrcState) (s : State) : (s.setSrc n v).out = s.out := rfl
@[simp] theorem State.setSrc_freeCtr (n : Nat) (v : SrcState) (s : State) : (s.setSrc n v).freeCtr = s.freeCtr := rfl
@[simp] theorem State.setSrc_pending (n : Nat) (v : SrcState) (s : State) : (s.setSrc n v).pending = s.pending := rfl

/-! ### setChan -/

@[simp] theorem State.setChan_ao (k : Nat) (c : Chan) (s : State) : (s.setChan k c).ao = s.ao := rfl
@[simp] theorem State.setChan_dev (k : Nat) (c : Chan) (s : State) : (s.setChan k c).dev = s.dev := rfl
@[simp] theorem State.setChan_flt (k : Nat) (c : Chan) (s : State) : (s.setChan k c).flt = s.flt := rfl
@[simp] theorem State.setChan_rv (k : Nat) (c : Chan) (s : State) : (s.setChan k c).rv = s.rv := rfl
@[simp] theorem State.setChan_bsc (k : Nat) (c : Chan) (s : State) : (s.setChan k c).bsc = s.bsc := rfl
@[simp] theorem State.setChan_store (k : Nat) (c : Chan) (s : State) : (s.setChan k c).store = s.store := rfl
@[simp] theorem State.setChan_kv (k : Nat) (c : Chan) (s : State) : (s.setChan k c).kv = s.kv := rfl
@[simp] theorem State.setChan_pm (k : Nat) (c : Chan) (s : State) : (s.setChan k c).pm = s.pm := rfl
@[simp] theorem State.setChan_hl (k : Nat) (c : Chan) (s : State) : (s.setChan k c).hl = s.hl := rfl
@[simp] theorem State.setChan_q (k : Nat) (c : Chan) (s : State) : (s.setChan k c).q = s.q := rfl
@[simp] theorem State.setChan_sv (k : Nat) (c : Chan) (s : State) : (s.setChan k c).sv = s.sv := rfl
@[simp] theorem State.setChan_streams (k : Nat) (c : Chan) (s : State) : (s.setChan k c).streams = s.streams := rfl
@[simp] theorem State.setChan_vd (k : Nat) (c : Chan) (s : State) : (s.setChan k c).vd = s.vd := rfl
@[simp] theorem State.setChan_ldg (k : Nat) (c : Chan) (s : State) : (s.setChan k c).ldg = s.ldg := rfl
@[simp] theorem State.setChan_gate (k : Nat) (c : Chan) (s : State) : (s.setChan k c).gate = s.gate := rfl
@[simp] theorem State.setChan_tiles (k : Nat) (c : Chan) (s : State) : (s.setChan k c).tiles = s.tiles := rfl
@[simp] theorem State.setChan_flits (k : Nat) (c : Chan) (s : State) : (s.setChan k c).flits = s.flits := rfl
@[simp] theorem State.setChan_linkBad (k : Nat) (c : Chan) (s : State) : (s.setChan k c).linkBad = s.linkBad := rfl
@[simp] theorem State.setChan_ldr (k : Nat) (c : Chan) (s : State) : (s.setChan k c).ldr = s.ldr := rfl
@[simp] theorem State.setChan_run (k : Nat) (c : Chan) (s : State) : (s.setChan k c).run = s.run := rfl
@[simp] theorem State.setChan_tm (k : Nat) (c : Chan) (s : State) : (s.setChan k c).tm = s.tm := rfl
@[simp] theorem State.setChan_dbg (k : Nat) (c : Chan) (s : State) : (s.setChan k c).dbg = s.dbg := rfl
@[simp] theorem State.setChan_regs (k : Nat) (c : Chan) (s : State) : (s.setChan k c).regs = s.regs := rfl
@[simp] theorem State.setChan_fregs (k : Nat) (c : Chan) (s : State) : (s.setChan k c).fregs = s.fregs := rfl
@[simp] theorem State.setChan_out (k : Nat) (c : Chan) (s : State) : (s.setChan k c).out = s.out := rfl
@[simp] theorem State.setChan_freeCtr (k : Nat) (c : Chan) (s : State) : (s.setChan k c).freeCtr = s.freeCtr := rfl
@[simp] theorem State.setChan_pending (k : Nat) (c : Chan) (s : State) : (s.setChan k c).pending = s.pending := rfl

/-! ### setStream -/

@[simp] theorem State.setStream_ao (n : Nat) (v : StreamV) (s : State) : (s.setStream n v).ao = s.ao := rfl
@[simp] theorem State.setStream_dev (n : Nat) (v : StreamV) (s : State) : (s.setStream n v).dev = s.dev := rfl
@[simp] theorem State.setStream_flt (n : Nat) (v : StreamV) (s : State) : (s.setStream n v).flt = s.flt := rfl
@[simp] theorem State.setStream_rv (n : Nat) (v : StreamV) (s : State) : (s.setStream n v).rv = s.rv := rfl
@[simp] theorem State.setStream_sio (n : Nat) (v : StreamV) (s : State) : (s.setStream n v).sio = s.sio := rfl
@[simp] theorem State.setStream_bsc (n : Nat) (v : StreamV) (s : State) : (s.setStream n v).bsc = s.bsc := rfl
@[simp] theorem State.setStream_store (n : Nat) (v : StreamV) (s : State) : (s.setStream n v).store = s.store := rfl
@[simp] theorem State.setStream_kv (n : Nat) (v : StreamV) (s : State) : (s.setStream n v).kv = s.kv := rfl
@[simp] theorem State.setStream_pm (n : Nat) (v : StreamV) (s : State) : (s.setStream n v).pm = s.pm := rfl
@[simp] theorem State.setStream_hl (n : Nat) (v : StreamV) (s : State) : (s.setStream n v).hl = s.hl := rfl
@[simp] theorem State.setStream_q (n : Nat) (v : StreamV) (s : State) : (s.setStream n v).q = s.q := rfl
@[simp] theorem State.setStream_sv (n : Nat) (v : StreamV) (s : State) : (s.setStream n v).sv = s.sv := rfl
@[simp] theorem State.setStream_vd (n : Nat) (v : StreamV) (s : State) : (s.setStream n v).vd = s.vd := rfl
@[simp] theorem State.setStream_ldg (n : Nat) (v : StreamV) (s : State) : (s.setStream n v).ldg = s.ldg := rfl
@[simp] theorem State.setStream_gate (n : Nat) (v : StreamV) (s : State) : (s.setStream n v).gate = s.gate := rfl
@[simp] theorem State.setStream_tiles (n : Nat) (v : StreamV) (s : State) : (s.setStream n v).tiles = s.tiles := rfl
@[simp] theorem State.setStream_flits (n : Nat) (v : StreamV) (s : State) : (s.setStream n v).flits = s.flits := rfl
@[simp] theorem State.setStream_linkBad (n : Nat) (v : StreamV) (s : State) : (s.setStream n v).linkBad = s.linkBad := rfl
@[simp] theorem State.setStream_ldr (n : Nat) (v : StreamV) (s : State) : (s.setStream n v).ldr = s.ldr := rfl
@[simp] theorem State.setStream_run (n : Nat) (v : StreamV) (s : State) : (s.setStream n v).run = s.run := rfl
@[simp] theorem State.setStream_tm (n : Nat) (v : StreamV) (s : State) : (s.setStream n v).tm = s.tm := rfl
@[simp] theorem State.setStream_dbg (n : Nat) (v : StreamV) (s : State) : (s.setStream n v).dbg = s.dbg := rfl
@[simp] theorem State.setStream_regs (n : Nat) (v : StreamV) (s : State) : (s.setStream n v).regs = s.regs := rfl
@[simp] theorem State.setStream_fregs (n : Nat) (v : StreamV) (s : State) : (s.setStream n v).fregs = s.fregs := rfl
@[simp] theorem State.setStream_out (n : Nat) (v : StreamV) (s : State) : (s.setStream n v).out = s.out := rfl
@[simp] theorem State.setStream_freeCtr (n : Nat) (v : StreamV) (s : State) : (s.setStream n v).freeCtr = s.freeCtr := rfl
@[simp] theorem State.setStream_pending (n : Nat) (v : StreamV) (s : State) : (s.setStream n v).pending = s.pending := rfl

/-! ### setGs -/

@[simp] theorem State.setGs_ao (n : Nat) (g : GateS) (s : State) : (s.setGs n g).ao = s.ao := rfl
@[simp] theorem State.setGs_dev (n : Nat) (g : GateS) (s : State) : (s.setGs n g).dev = s.dev := rfl
@[simp] theorem State.setGs_flt (n : Nat) (g : GateS) (s : State) : (s.setGs n g).flt = s.flt := rfl
@[simp] theorem State.setGs_rv (n : Nat) (g : GateS) (s : State) : (s.setGs n g).rv = s.rv := rfl
@[simp] theorem State.setGs_sio (n : Nat) (g : GateS) (s : State) : (s.setGs n g).sio = s.sio := rfl
@[simp] theorem State.setGs_bsc (n : Nat) (g : GateS) (s : State) : (s.setGs n g).bsc = s.bsc := rfl
@[simp] theorem State.setGs_store (n : Nat) (g : GateS) (s : State) : (s.setGs n g).store = s.store := rfl
@[simp] theorem State.setGs_kv (n : Nat) (g : GateS) (s : State) : (s.setGs n g).kv = s.kv := rfl
@[simp] theorem State.setGs_pm (n : Nat) (g : GateS) (s : State) : (s.setGs n g).pm = s.pm := rfl
@[simp] theorem State.setGs_hl (n : Nat) (g : GateS) (s : State) : (s.setGs n g).hl = s.hl := rfl
@[simp] theorem State.setGs_q (n : Nat) (g : GateS) (s : State) : (s.setGs n g).q = s.q := rfl
@[simp] theorem State.setGs_sv (n : Nat) (g : GateS) (s : State) : (s.setGs n g).sv = s.sv := rfl
@[simp] theorem State.setGs_streams (n : Nat) (g : GateS) (s : State) : (s.setGs n g).streams = s.streams := rfl
@[simp] theorem State.setGs_vd (n : Nat) (g : GateS) (s : State) : (s.setGs n g).vd = s.vd := rfl
@[simp] theorem State.setGs_ldg (n : Nat) (g : GateS) (s : State) : (s.setGs n g).ldg = s.ldg := rfl
@[simp] theorem State.setGs_tiles (n : Nat) (g : GateS) (s : State) : (s.setGs n g).tiles = s.tiles := rfl
@[simp] theorem State.setGs_flits (n : Nat) (g : GateS) (s : State) : (s.setGs n g).flits = s.flits := rfl
@[simp] theorem State.setGs_linkBad (n : Nat) (g : GateS) (s : State) : (s.setGs n g).linkBad = s.linkBad := rfl
@[simp] theorem State.setGs_ldr (n : Nat) (g : GateS) (s : State) : (s.setGs n g).ldr = s.ldr := rfl
@[simp] theorem State.setGs_run (n : Nat) (g : GateS) (s : State) : (s.setGs n g).run = s.run := rfl
@[simp] theorem State.setGs_tm (n : Nat) (g : GateS) (s : State) : (s.setGs n g).tm = s.tm := rfl
@[simp] theorem State.setGs_dbg (n : Nat) (g : GateS) (s : State) : (s.setGs n g).dbg = s.dbg := rfl
@[simp] theorem State.setGs_regs (n : Nat) (g : GateS) (s : State) : (s.setGs n g).regs = s.regs := rfl
@[simp] theorem State.setGs_fregs (n : Nat) (g : GateS) (s : State) : (s.setGs n g).fregs = s.fregs := rfl
@[simp] theorem State.setGs_out (n : Nat) (g : GateS) (s : State) : (s.setGs n g).out = s.out := rfl
@[simp] theorem State.setGs_freeCtr (n : Nat) (g : GateS) (s : State) : (s.setGs n g).freeCtr = s.freeCtr := rfl
@[simp] theorem State.setGs_pending (n : Nat) (g : GateS) (s : State) : (s.setGs n g).pending = s.pending := rfl

/-! ### setTag -/

@[simp] theorem State.setTag_ao (t : Nat) (c : Option Tag) (s : State) : (s.setTag t c).ao = s.ao := rfl
@[simp] theorem State.setTag_dev (t : Nat) (c : Option Tag) (s : State) : (s.setTag t c).dev = s.dev := rfl
@[simp] theorem State.setTag_flt (t : Nat) (c : Option Tag) (s : State) : (s.setTag t c).flt = s.flt := rfl
@[simp] theorem State.setTag_rv (t : Nat) (c : Option Tag) (s : State) : (s.setTag t c).rv = s.rv := rfl
@[simp] theorem State.setTag_sio (t : Nat) (c : Option Tag) (s : State) : (s.setTag t c).sio = s.sio := rfl
@[simp] theorem State.setTag_bsc (t : Nat) (c : Option Tag) (s : State) : (s.setTag t c).bsc = s.bsc := rfl
@[simp] theorem State.setTag_store (t : Nat) (c : Option Tag) (s : State) : (s.setTag t c).store = s.store := rfl
@[simp] theorem State.setTag_kv (t : Nat) (c : Option Tag) (s : State) : (s.setTag t c).kv = s.kv := rfl
@[simp] theorem State.setTag_pm (t : Nat) (c : Option Tag) (s : State) : (s.setTag t c).pm = s.pm := rfl
@[simp] theorem State.setTag_hl (t : Nat) (c : Option Tag) (s : State) : (s.setTag t c).hl = s.hl := rfl
@[simp] theorem State.setTag_sv (t : Nat) (c : Option Tag) (s : State) : (s.setTag t c).sv = s.sv := rfl
@[simp] theorem State.setTag_streams (t : Nat) (c : Option Tag) (s : State) : (s.setTag t c).streams = s.streams := rfl
@[simp] theorem State.setTag_vd (t : Nat) (c : Option Tag) (s : State) : (s.setTag t c).vd = s.vd := rfl
@[simp] theorem State.setTag_ldg (t : Nat) (c : Option Tag) (s : State) : (s.setTag t c).ldg = s.ldg := rfl
@[simp] theorem State.setTag_gate (t : Nat) (c : Option Tag) (s : State) : (s.setTag t c).gate = s.gate := rfl
@[simp] theorem State.setTag_tiles (t : Nat) (c : Option Tag) (s : State) : (s.setTag t c).tiles = s.tiles := rfl
@[simp] theorem State.setTag_flits (t : Nat) (c : Option Tag) (s : State) : (s.setTag t c).flits = s.flits := rfl
@[simp] theorem State.setTag_linkBad (t : Nat) (c : Option Tag) (s : State) : (s.setTag t c).linkBad = s.linkBad := rfl
@[simp] theorem State.setTag_ldr (t : Nat) (c : Option Tag) (s : State) : (s.setTag t c).ldr = s.ldr := rfl
@[simp] theorem State.setTag_run (t : Nat) (c : Option Tag) (s : State) : (s.setTag t c).run = s.run := rfl
@[simp] theorem State.setTag_tm (t : Nat) (c : Option Tag) (s : State) : (s.setTag t c).tm = s.tm := rfl
@[simp] theorem State.setTag_dbg (t : Nat) (c : Option Tag) (s : State) : (s.setTag t c).dbg = s.dbg := rfl
@[simp] theorem State.setTag_regs (t : Nat) (c : Option Tag) (s : State) : (s.setTag t c).regs = s.regs := rfl
@[simp] theorem State.setTag_fregs (t : Nat) (c : Option Tag) (s : State) : (s.setTag t c).fregs = s.fregs := rfl
@[simp] theorem State.setTag_out (t : Nat) (c : Option Tag) (s : State) : (s.setTag t c).out = s.out := rfl
@[simp] theorem State.setTag_freeCtr (t : Nat) (c : Option Tag) (s : State) : (s.setTag t c).freeCtr = s.freeCtr := rfl
@[simp] theorem State.setTag_pending (t : Nat) (c : Option Tag) (s : State) : (s.setTag t c).pending = s.pending := rfl

/-! ### setTile -/

@[simp] theorem State.setTile_ao (t : Nat) (v : TileSt) (s : State) : (s.setTile t v).ao = s.ao := rfl
@[simp] theorem State.setTile_dev (t : Nat) (v : TileSt) (s : State) : (s.setTile t v).dev = s.dev := rfl
@[simp] theorem State.setTile_flt (t : Nat) (v : TileSt) (s : State) : (s.setTile t v).flt = s.flt := rfl
@[simp] theorem State.setTile_rv (t : Nat) (v : TileSt) (s : State) : (s.setTile t v).rv = s.rv := rfl
@[simp] theorem State.setTile_sio (t : Nat) (v : TileSt) (s : State) : (s.setTile t v).sio = s.sio := rfl
@[simp] theorem State.setTile_bsc (t : Nat) (v : TileSt) (s : State) : (s.setTile t v).bsc = s.bsc := rfl
@[simp] theorem State.setTile_store (t : Nat) (v : TileSt) (s : State) : (s.setTile t v).store = s.store := rfl
@[simp] theorem State.setTile_kv (t : Nat) (v : TileSt) (s : State) : (s.setTile t v).kv = s.kv := rfl
@[simp] theorem State.setTile_pm (t : Nat) (v : TileSt) (s : State) : (s.setTile t v).pm = s.pm := rfl
@[simp] theorem State.setTile_hl (t : Nat) (v : TileSt) (s : State) : (s.setTile t v).hl = s.hl := rfl
@[simp] theorem State.setTile_q (t : Nat) (v : TileSt) (s : State) : (s.setTile t v).q = s.q := rfl
@[simp] theorem State.setTile_sv (t : Nat) (v : TileSt) (s : State) : (s.setTile t v).sv = s.sv := rfl
@[simp] theorem State.setTile_streams (t : Nat) (v : TileSt) (s : State) : (s.setTile t v).streams = s.streams := rfl
@[simp] theorem State.setTile_vd (t : Nat) (v : TileSt) (s : State) : (s.setTile t v).vd = s.vd := rfl
@[simp] theorem State.setTile_ldg (t : Nat) (v : TileSt) (s : State) : (s.setTile t v).ldg = s.ldg := rfl
@[simp] theorem State.setTile_gate (t : Nat) (v : TileSt) (s : State) : (s.setTile t v).gate = s.gate := rfl
@[simp] theorem State.setTile_flits (t : Nat) (v : TileSt) (s : State) : (s.setTile t v).flits = s.flits := rfl
@[simp] theorem State.setTile_linkBad (t : Nat) (v : TileSt) (s : State) : (s.setTile t v).linkBad = s.linkBad := rfl
@[simp] theorem State.setTile_ldr (t : Nat) (v : TileSt) (s : State) : (s.setTile t v).ldr = s.ldr := rfl
@[simp] theorem State.setTile_run (t : Nat) (v : TileSt) (s : State) : (s.setTile t v).run = s.run := rfl
@[simp] theorem State.setTile_tm (t : Nat) (v : TileSt) (s : State) : (s.setTile t v).tm = s.tm := rfl
@[simp] theorem State.setTile_dbg (t : Nat) (v : TileSt) (s : State) : (s.setTile t v).dbg = s.dbg := rfl
@[simp] theorem State.setTile_regs (t : Nat) (v : TileSt) (s : State) : (s.setTile t v).regs = s.regs := rfl
@[simp] theorem State.setTile_fregs (t : Nat) (v : TileSt) (s : State) : (s.setTile t v).fregs = s.fregs := rfl
@[simp] theorem State.setTile_out (t : Nat) (v : TileSt) (s : State) : (s.setTile t v).out = s.out := rfl
@[simp] theorem State.setTile_freeCtr (t : Nat) (v : TileSt) (s : State) : (s.setTile t v).freeCtr = s.freeCtr := rfl
@[simp] theorem State.setTile_pending (t : Nat) (v : TileSt) (s : State) : (s.setTile t v).pending = s.pending := rfl

/-! ### setCtx -/

@[simp] theorem State.setCtx_ao (t c : Nat) (x : CtxSt) (s : State) : (s.setCtx t c x).ao = s.ao := rfl
@[simp] theorem State.setCtx_dev (t c : Nat) (x : CtxSt) (s : State) : (s.setCtx t c x).dev = s.dev := rfl
@[simp] theorem State.setCtx_flt (t c : Nat) (x : CtxSt) (s : State) : (s.setCtx t c x).flt = s.flt := rfl
@[simp] theorem State.setCtx_rv (t c : Nat) (x : CtxSt) (s : State) : (s.setCtx t c x).rv = s.rv := rfl
@[simp] theorem State.setCtx_sio (t c : Nat) (x : CtxSt) (s : State) : (s.setCtx t c x).sio = s.sio := rfl
@[simp] theorem State.setCtx_bsc (t c : Nat) (x : CtxSt) (s : State) : (s.setCtx t c x).bsc = s.bsc := rfl
@[simp] theorem State.setCtx_store (t c : Nat) (x : CtxSt) (s : State) : (s.setCtx t c x).store = s.store := rfl
@[simp] theorem State.setCtx_kv (t c : Nat) (x : CtxSt) (s : State) : (s.setCtx t c x).kv = s.kv := rfl
@[simp] theorem State.setCtx_pm (t c : Nat) (x : CtxSt) (s : State) : (s.setCtx t c x).pm = s.pm := rfl
@[simp] theorem State.setCtx_hl (t c : Nat) (x : CtxSt) (s : State) : (s.setCtx t c x).hl = s.hl := rfl
@[simp] theorem State.setCtx_q (t c : Nat) (x : CtxSt) (s : State) : (s.setCtx t c x).q = s.q := rfl
@[simp] theorem State.setCtx_sv (t c : Nat) (x : CtxSt) (s : State) : (s.setCtx t c x).sv = s.sv := rfl
@[simp] theorem State.setCtx_streams (t c : Nat) (x : CtxSt) (s : State) : (s.setCtx t c x).streams = s.streams := rfl
@[simp] theorem State.setCtx_vd (t c : Nat) (x : CtxSt) (s : State) : (s.setCtx t c x).vd = s.vd := rfl
@[simp] theorem State.setCtx_ldg (t c : Nat) (x : CtxSt) (s : State) : (s.setCtx t c x).ldg = s.ldg := rfl
@[simp] theorem State.setCtx_gate (t c : Nat) (x : CtxSt) (s : State) : (s.setCtx t c x).gate = s.gate := rfl
@[simp] theorem State.setCtx_flits (t c : Nat) (x : CtxSt) (s : State) : (s.setCtx t c x).flits = s.flits := rfl
@[simp] theorem State.setCtx_linkBad (t c : Nat) (x : CtxSt) (s : State) : (s.setCtx t c x).linkBad = s.linkBad := rfl
@[simp] theorem State.setCtx_ldr (t c : Nat) (x : CtxSt) (s : State) : (s.setCtx t c x).ldr = s.ldr := rfl
@[simp] theorem State.setCtx_run (t c : Nat) (x : CtxSt) (s : State) : (s.setCtx t c x).run = s.run := rfl
@[simp] theorem State.setCtx_tm (t c : Nat) (x : CtxSt) (s : State) : (s.setCtx t c x).tm = s.tm := rfl
@[simp] theorem State.setCtx_dbg (t c : Nat) (x : CtxSt) (s : State) : (s.setCtx t c x).dbg = s.dbg := rfl
@[simp] theorem State.setCtx_regs (t c : Nat) (x : CtxSt) (s : State) : (s.setCtx t c x).regs = s.regs := rfl
@[simp] theorem State.setCtx_fregs (t c : Nat) (x : CtxSt) (s : State) : (s.setCtx t c x).fregs = s.fregs := rfl
@[simp] theorem State.setCtx_out (t c : Nat) (x : CtxSt) (s : State) : (s.setCtx t c x).out = s.out := rfl
@[simp] theorem State.setCtx_freeCtr (t c : Nat) (x : CtxSt) (s : State) : (s.setCtx t c x).freeCtr = s.freeCtr := rfl
@[simp] theorem State.setCtx_pending (t c : Nat) (x : CtxSt) (s : State) : (s.setCtx t c x).pending = s.pending := rfl

/-! ### setRing -/

@[simp] theorem State.setRing_ao (g : Nat) (r : RingSt) (s : State) : (s.setRing g r).ao = s.ao := rfl
@[simp] theorem State.setRing_dev (g : Nat) (r : RingSt) (s : State) : (s.setRing g r).dev = s.dev := rfl
@[simp] theorem State.setRing_flt (g : Nat) (r : RingSt) (s : State) : (s.setRing g r).flt = s.flt := rfl
@[simp] theorem State.setRing_rv (g : Nat) (r : RingSt) (s : State) : (s.setRing g r).rv = s.rv := rfl
@[simp] theorem State.setRing_sio (g : Nat) (r : RingSt) (s : State) : (s.setRing g r).sio = s.sio := rfl
@[simp] theorem State.setRing_bsc (g : Nat) (r : RingSt) (s : State) : (s.setRing g r).bsc = s.bsc := rfl
@[simp] theorem State.setRing_store (g : Nat) (r : RingSt) (s : State) : (s.setRing g r).store = s.store := rfl
@[simp] theorem State.setRing_kv (g : Nat) (r : RingSt) (s : State) : (s.setRing g r).kv = s.kv := rfl
@[simp] theorem State.setRing_pm (g : Nat) (r : RingSt) (s : State) : (s.setRing g r).pm = s.pm := rfl
@[simp] theorem State.setRing_hl (g : Nat) (r : RingSt) (s : State) : (s.setRing g r).hl = s.hl := rfl
@[simp] theorem State.setRing_sv (g : Nat) (r : RingSt) (s : State) : (s.setRing g r).sv = s.sv := rfl
@[simp] theorem State.setRing_streams (g : Nat) (r : RingSt) (s : State) : (s.setRing g r).streams = s.streams := rfl
@[simp] theorem State.setRing_vd (g : Nat) (r : RingSt) (s : State) : (s.setRing g r).vd = s.vd := rfl
@[simp] theorem State.setRing_ldg (g : Nat) (r : RingSt) (s : State) : (s.setRing g r).ldg = s.ldg := rfl
@[simp] theorem State.setRing_gate (g : Nat) (r : RingSt) (s : State) : (s.setRing g r).gate = s.gate := rfl
@[simp] theorem State.setRing_tiles (g : Nat) (r : RingSt) (s : State) : (s.setRing g r).tiles = s.tiles := rfl
@[simp] theorem State.setRing_flits (g : Nat) (r : RingSt) (s : State) : (s.setRing g r).flits = s.flits := rfl
@[simp] theorem State.setRing_linkBad (g : Nat) (r : RingSt) (s : State) : (s.setRing g r).linkBad = s.linkBad := rfl
@[simp] theorem State.setRing_ldr (g : Nat) (r : RingSt) (s : State) : (s.setRing g r).ldr = s.ldr := rfl
@[simp] theorem State.setRing_run (g : Nat) (r : RingSt) (s : State) : (s.setRing g r).run = s.run := rfl
@[simp] theorem State.setRing_tm (g : Nat) (r : RingSt) (s : State) : (s.setRing g r).tm = s.tm := rfl
@[simp] theorem State.setRing_dbg (g : Nat) (r : RingSt) (s : State) : (s.setRing g r).dbg = s.dbg := rfl
@[simp] theorem State.setRing_regs (g : Nat) (r : RingSt) (s : State) : (s.setRing g r).regs = s.regs := rfl
@[simp] theorem State.setRing_fregs (g : Nat) (r : RingSt) (s : State) : (s.setRing g r).fregs = s.fregs := rfl
@[simp] theorem State.setRing_out (g : Nat) (r : RingSt) (s : State) : (s.setRing g r).out = s.out := rfl
@[simp] theorem State.setRing_freeCtr (g : Nat) (r : RingSt) (s : State) : (s.setRing g r).freeCtr = s.freeCtr := rfl
@[simp] theorem State.setRing_pending (g : Nat) (r : RingSt) (s : State) : (s.setRing g r).pending = s.pending := rfl

/-! ### setChan2 -/

@[simp] theorem State.setChan2_ao (f ch : Nat) (c : Chan2) (s : State) : (s.setChan2 f ch c).ao = s.ao := rfl
@[simp] theorem State.setChan2_dev (f ch : Nat) (c : Chan2) (s : State) : (s.setChan2 f ch c).dev = s.dev := rfl
@[simp] theorem State.setChan2_flt (f ch : Nat) (c : Chan2) (s : State) : (s.setChan2 f ch c).flt = s.flt := rfl
@[simp] theorem State.setChan2_rv (f ch : Nat) (c : Chan2) (s : State) : (s.setChan2 f ch c).rv = s.rv := rfl
@[simp] theorem State.setChan2_sio (f ch : Nat) (c : Chan2) (s : State) : (s.setChan2 f ch c).sio = s.sio := rfl
@[simp] theorem State.setChan2_bsc (f ch : Nat) (c : Chan2) (s : State) : (s.setChan2 f ch c).bsc = s.bsc := rfl
@[simp] theorem State.setChan2_store (f ch : Nat) (c : Chan2) (s : State) : (s.setChan2 f ch c).store = s.store := rfl
@[simp] theorem State.setChan2_kv (f ch : Nat) (c : Chan2) (s : State) : (s.setChan2 f ch c).kv = s.kv := rfl
@[simp] theorem State.setChan2_pm (f ch : Nat) (c : Chan2) (s : State) : (s.setChan2 f ch c).pm = s.pm := rfl
@[simp] theorem State.setChan2_hl (f ch : Nat) (c : Chan2) (s : State) : (s.setChan2 f ch c).hl = s.hl := rfl
@[simp] theorem State.setChan2_sv (f ch : Nat) (c : Chan2) (s : State) : (s.setChan2 f ch c).sv = s.sv := rfl
@[simp] theorem State.setChan2_streams (f ch : Nat) (c : Chan2) (s : State) : (s.setChan2 f ch c).streams = s.streams := rfl
@[simp] theorem State.setChan2_vd (f ch : Nat) (c : Chan2) (s : State) : (s.setChan2 f ch c).vd = s.vd := rfl
@[simp] theorem State.setChan2_ldg (f ch : Nat) (c : Chan2) (s : State) : (s.setChan2 f ch c).ldg = s.ldg := rfl
@[simp] theorem State.setChan2_gate (f ch : Nat) (c : Chan2) (s : State) : (s.setChan2 f ch c).gate = s.gate := rfl
@[simp] theorem State.setChan2_tiles (f ch : Nat) (c : Chan2) (s : State) : (s.setChan2 f ch c).tiles = s.tiles := rfl
@[simp] theorem State.setChan2_flits (f ch : Nat) (c : Chan2) (s : State) : (s.setChan2 f ch c).flits = s.flits := rfl
@[simp] theorem State.setChan2_linkBad (f ch : Nat) (c : Chan2) (s : State) : (s.setChan2 f ch c).linkBad = s.linkBad := rfl
@[simp] theorem State.setChan2_ldr (f ch : Nat) (c : Chan2) (s : State) : (s.setChan2 f ch c).ldr = s.ldr := rfl
@[simp] theorem State.setChan2_run (f ch : Nat) (c : Chan2) (s : State) : (s.setChan2 f ch c).run = s.run := rfl
@[simp] theorem State.setChan2_tm (f ch : Nat) (c : Chan2) (s : State) : (s.setChan2 f ch c).tm = s.tm := rfl
@[simp] theorem State.setChan2_dbg (f ch : Nat) (c : Chan2) (s : State) : (s.setChan2 f ch c).dbg = s.dbg := rfl
@[simp] theorem State.setChan2_regs (f ch : Nat) (c : Chan2) (s : State) : (s.setChan2 f ch c).regs = s.regs := rfl
@[simp] theorem State.setChan2_fregs (f ch : Nat) (c : Chan2) (s : State) : (s.setChan2 f ch c).fregs = s.fregs := rfl
@[simp] theorem State.setChan2_out (f ch : Nat) (c : Chan2) (s : State) : (s.setChan2 f ch c).out = s.out := rfl
@[simp] theorem State.setChan2_freeCtr (f ch : Nat) (c : Chan2) (s : State) : (s.setChan2 f ch c).freeCtr = s.freeCtr := rfl
@[simp] theorem State.setChan2_pending (f ch : Nat) (c : Chan2) (s : State) : (s.setChan2 f ch c).pending = s.pending := rfl

/-! ### setDis -/

@[simp] theorem State.setDis_ao (i : Nat) (d : DisSlot) (s : State) : (s.setDis i d).ao = s.ao := rfl
@[simp] theorem State.setDis_dev (i : Nat) (d : DisSlot) (s : State) : (s.setDis i d).dev = s.dev := rfl
@[simp] theorem State.setDis_flt (i : Nat) (d : DisSlot) (s : State) : (s.setDis i d).flt = s.flt := rfl
@[simp] theorem State.setDis_rv (i : Nat) (d : DisSlot) (s : State) : (s.setDis i d).rv = s.rv := rfl
@[simp] theorem State.setDis_sio (i : Nat) (d : DisSlot) (s : State) : (s.setDis i d).sio = s.sio := rfl
@[simp] theorem State.setDis_bsc (i : Nat) (d : DisSlot) (s : State) : (s.setDis i d).bsc = s.bsc := rfl
@[simp] theorem State.setDis_store (i : Nat) (d : DisSlot) (s : State) : (s.setDis i d).store = s.store := rfl
@[simp] theorem State.setDis_kv (i : Nat) (d : DisSlot) (s : State) : (s.setDis i d).kv = s.kv := rfl
@[simp] theorem State.setDis_pm (i : Nat) (d : DisSlot) (s : State) : (s.setDis i d).pm = s.pm := rfl
@[simp] theorem State.setDis_hl (i : Nat) (d : DisSlot) (s : State) : (s.setDis i d).hl = s.hl := rfl
@[simp] theorem State.setDis_q (i : Nat) (d : DisSlot) (s : State) : (s.setDis i d).q = s.q := rfl
@[simp] theorem State.setDis_sv (i : Nat) (d : DisSlot) (s : State) : (s.setDis i d).sv = s.sv := rfl
@[simp] theorem State.setDis_streams (i : Nat) (d : DisSlot) (s : State) : (s.setDis i d).streams = s.streams := rfl
@[simp] theorem State.setDis_ldg (i : Nat) (d : DisSlot) (s : State) : (s.setDis i d).ldg = s.ldg := rfl
@[simp] theorem State.setDis_gate (i : Nat) (d : DisSlot) (s : State) : (s.setDis i d).gate = s.gate := rfl
@[simp] theorem State.setDis_tiles (i : Nat) (d : DisSlot) (s : State) : (s.setDis i d).tiles = s.tiles := rfl
@[simp] theorem State.setDis_flits (i : Nat) (d : DisSlot) (s : State) : (s.setDis i d).flits = s.flits := rfl
@[simp] theorem State.setDis_linkBad (i : Nat) (d : DisSlot) (s : State) : (s.setDis i d).linkBad = s.linkBad := rfl
@[simp] theorem State.setDis_ldr (i : Nat) (d : DisSlot) (s : State) : (s.setDis i d).ldr = s.ldr := rfl
@[simp] theorem State.setDis_run (i : Nat) (d : DisSlot) (s : State) : (s.setDis i d).run = s.run := rfl
@[simp] theorem State.setDis_tm (i : Nat) (d : DisSlot) (s : State) : (s.setDis i d).tm = s.tm := rfl
@[simp] theorem State.setDis_dbg (i : Nat) (d : DisSlot) (s : State) : (s.setDis i d).dbg = s.dbg := rfl
@[simp] theorem State.setDis_regs (i : Nat) (d : DisSlot) (s : State) : (s.setDis i d).regs = s.regs := rfl
@[simp] theorem State.setDis_fregs (i : Nat) (d : DisSlot) (s : State) : (s.setDis i d).fregs = s.fregs := rfl
@[simp] theorem State.setDis_out (i : Nat) (d : DisSlot) (s : State) : (s.setDis i d).out = s.out := rfl
@[simp] theorem State.setDis_freeCtr (i : Nat) (d : DisSlot) (s : State) : (s.setDis i d).freeCtr = s.freeCtr := rfl
@[simp] theorem State.setDis_pending (i : Nat) (d : DisSlot) (s : State) : (s.setDis i d).pending = s.pending := rfl

/-! ### setFrame -/

@[simp] theorem State.setFrame_ao (f : Frame) (s : State) : (s.setFrame f).ao = s.ao := rfl
@[simp] theorem State.setFrame_dev (f : Frame) (s : State) : (s.setFrame f).dev = s.dev := rfl
@[simp] theorem State.setFrame_flt (f : Frame) (s : State) : (s.setFrame f).flt = s.flt := rfl
@[simp] theorem State.setFrame_rv (f : Frame) (s : State) : (s.setFrame f).rv = s.rv := rfl
@[simp] theorem State.setFrame_sio (f : Frame) (s : State) : (s.setFrame f).sio = s.sio := rfl
@[simp] theorem State.setFrame_bsc (f : Frame) (s : State) : (s.setFrame f).bsc = s.bsc := rfl
@[simp] theorem State.setFrame_store (f : Frame) (s : State) : (s.setFrame f).store = s.store := rfl
@[simp] theorem State.setFrame_kv (f : Frame) (s : State) : (s.setFrame f).kv = s.kv := rfl
@[simp] theorem State.setFrame_pm (f : Frame) (s : State) : (s.setFrame f).pm = s.pm := rfl
@[simp] theorem State.setFrame_hl (f : Frame) (s : State) : (s.setFrame f).hl = s.hl := rfl
@[simp] theorem State.setFrame_q (f : Frame) (s : State) : (s.setFrame f).q = s.q := rfl
@[simp] theorem State.setFrame_sv (f : Frame) (s : State) : (s.setFrame f).sv = s.sv := rfl
@[simp] theorem State.setFrame_streams (f : Frame) (s : State) : (s.setFrame f).streams = s.streams := rfl
@[simp] theorem State.setFrame_ldg (f : Frame) (s : State) : (s.setFrame f).ldg = s.ldg := rfl
@[simp] theorem State.setFrame_gate (f : Frame) (s : State) : (s.setFrame f).gate = s.gate := rfl
@[simp] theorem State.setFrame_tiles (f : Frame) (s : State) : (s.setFrame f).tiles = s.tiles := rfl
@[simp] theorem State.setFrame_flits (f : Frame) (s : State) : (s.setFrame f).flits = s.flits := rfl
@[simp] theorem State.setFrame_linkBad (f : Frame) (s : State) : (s.setFrame f).linkBad = s.linkBad := rfl
@[simp] theorem State.setFrame_ldr (f : Frame) (s : State) : (s.setFrame f).ldr = s.ldr := rfl
@[simp] theorem State.setFrame_run (f : Frame) (s : State) : (s.setFrame f).run = s.run := rfl
@[simp] theorem State.setFrame_tm (f : Frame) (s : State) : (s.setFrame f).tm = s.tm := rfl
@[simp] theorem State.setFrame_dbg (f : Frame) (s : State) : (s.setFrame f).dbg = s.dbg := rfl
@[simp] theorem State.setFrame_regs (f : Frame) (s : State) : (s.setFrame f).regs = s.regs := rfl
@[simp] theorem State.setFrame_fregs (f : Frame) (s : State) : (s.setFrame f).fregs = s.fregs := rfl
@[simp] theorem State.setFrame_out (f : Frame) (s : State) : (s.setFrame f).out = s.out := rfl
@[simp] theorem State.setFrame_freeCtr (f : Frame) (s : State) : (s.setFrame f).freeCtr = s.freeCtr := rfl
@[simp] theorem State.setFrame_pending (f : Frame) (s : State) : (s.setFrame f).pending = s.pending := rfl

/-! ### setCommit -/

@[simp] theorem State.setCommit_ao (c : Commit) (s : State) : (s.setCommit c).ao = s.ao := rfl
@[simp] theorem State.setCommit_dev (c : Commit) (s : State) : (s.setCommit c).dev = s.dev := rfl
@[simp] theorem State.setCommit_flt (c : Commit) (s : State) : (s.setCommit c).flt = s.flt := rfl
@[simp] theorem State.setCommit_rv (c : Commit) (s : State) : (s.setCommit c).rv = s.rv := rfl
@[simp] theorem State.setCommit_sio (c : Commit) (s : State) : (s.setCommit c).sio = s.sio := rfl
@[simp] theorem State.setCommit_bsc (c : Commit) (s : State) : (s.setCommit c).bsc = s.bsc := rfl
@[simp] theorem State.setCommit_store (c : Commit) (s : State) : (s.setCommit c).store = s.store := rfl
@[simp] theorem State.setCommit_kv (c : Commit) (s : State) : (s.setCommit c).kv = s.kv := rfl
@[simp] theorem State.setCommit_pm (c : Commit) (s : State) : (s.setCommit c).pm = s.pm := rfl
@[simp] theorem State.setCommit_hl (c : Commit) (s : State) : (s.setCommit c).hl = s.hl := rfl
@[simp] theorem State.setCommit_q (c : Commit) (s : State) : (s.setCommit c).q = s.q := rfl
@[simp] theorem State.setCommit_sv (c : Commit) (s : State) : (s.setCommit c).sv = s.sv := rfl
@[simp] theorem State.setCommit_streams (c : Commit) (s : State) : (s.setCommit c).streams = s.streams := rfl
@[simp] theorem State.setCommit_ldg (c : Commit) (s : State) : (s.setCommit c).ldg = s.ldg := rfl
@[simp] theorem State.setCommit_gate (c : Commit) (s : State) : (s.setCommit c).gate = s.gate := rfl
@[simp] theorem State.setCommit_tiles (c : Commit) (s : State) : (s.setCommit c).tiles = s.tiles := rfl
@[simp] theorem State.setCommit_flits (c : Commit) (s : State) : (s.setCommit c).flits = s.flits := rfl
@[simp] theorem State.setCommit_linkBad (c : Commit) (s : State) : (s.setCommit c).linkBad = s.linkBad := rfl
@[simp] theorem State.setCommit_ldr (c : Commit) (s : State) : (s.setCommit c).ldr = s.ldr := rfl
@[simp] theorem State.setCommit_run (c : Commit) (s : State) : (s.setCommit c).run = s.run := rfl
@[simp] theorem State.setCommit_tm (c : Commit) (s : State) : (s.setCommit c).tm = s.tm := rfl
@[simp] theorem State.setCommit_dbg (c : Commit) (s : State) : (s.setCommit c).dbg = s.dbg := rfl
@[simp] theorem State.setCommit_regs (c : Commit) (s : State) : (s.setCommit c).regs = s.regs := rfl
@[simp] theorem State.setCommit_fregs (c : Commit) (s : State) : (s.setCommit c).fregs = s.fregs := rfl
@[simp] theorem State.setCommit_out (c : Commit) (s : State) : (s.setCommit c).out = s.out := rfl
@[simp] theorem State.setCommit_freeCtr (c : Commit) (s : State) : (s.setCommit c).freeCtr = s.freeCtr := rfl
@[simp] theorem State.setCommit_pending (c : Commit) (s : State) : (s.setCommit c).pending = s.pending := rfl

/-! ### setTrig -/

@[simp] theorem State.setTrig_ao (n : Nat) (t : Trigger) (s : State) : (s.setTrig n t).ao = s.ao := rfl
@[simp] theorem State.setTrig_dev (n : Nat) (t : Trigger) (s : State) : (s.setTrig n t).dev = s.dev := rfl
@[simp] theorem State.setTrig_flt (n : Nat) (t : Trigger) (s : State) : (s.setTrig n t).flt = s.flt := rfl
@[simp] theorem State.setTrig_rv (n : Nat) (t : Trigger) (s : State) : (s.setTrig n t).rv = s.rv := rfl
@[simp] theorem State.setTrig_sio (n : Nat) (t : Trigger) (s : State) : (s.setTrig n t).sio = s.sio := rfl
@[simp] theorem State.setTrig_bsc (n : Nat) (t : Trigger) (s : State) : (s.setTrig n t).bsc = s.bsc := rfl
@[simp] theorem State.setTrig_store (n : Nat) (t : Trigger) (s : State) : (s.setTrig n t).store = s.store := rfl
@[simp] theorem State.setTrig_kv (n : Nat) (t : Trigger) (s : State) : (s.setTrig n t).kv = s.kv := rfl
@[simp] theorem State.setTrig_pm (n : Nat) (t : Trigger) (s : State) : (s.setTrig n t).pm = s.pm := rfl
@[simp] theorem State.setTrig_hl (n : Nat) (t : Trigger) (s : State) : (s.setTrig n t).hl = s.hl := rfl
@[simp] theorem State.setTrig_q (n : Nat) (t : Trigger) (s : State) : (s.setTrig n t).q = s.q := rfl
@[simp] theorem State.setTrig_sv (n : Nat) (t : Trigger) (s : State) : (s.setTrig n t).sv = s.sv := rfl
@[simp] theorem State.setTrig_streams (n : Nat) (t : Trigger) (s : State) : (s.setTrig n t).streams = s.streams := rfl
@[simp] theorem State.setTrig_vd (n : Nat) (t : Trigger) (s : State) : (s.setTrig n t).vd = s.vd := rfl
@[simp] theorem State.setTrig_ldg (n : Nat) (t : Trigger) (s : State) : (s.setTrig n t).ldg = s.ldg := rfl
@[simp] theorem State.setTrig_gate (n : Nat) (t : Trigger) (s : State) : (s.setTrig n t).gate = s.gate := rfl
@[simp] theorem State.setTrig_tiles (n : Nat) (t : Trigger) (s : State) : (s.setTrig n t).tiles = s.tiles := rfl
@[simp] theorem State.setTrig_flits (n : Nat) (t : Trigger) (s : State) : (s.setTrig n t).flits = s.flits := rfl
@[simp] theorem State.setTrig_linkBad (n : Nat) (t : Trigger) (s : State) : (s.setTrig n t).linkBad = s.linkBad := rfl
@[simp] theorem State.setTrig_ldr (n : Nat) (t : Trigger) (s : State) : (s.setTrig n t).ldr = s.ldr := rfl
@[simp] theorem State.setTrig_run (n : Nat) (t : Trigger) (s : State) : (s.setTrig n t).run = s.run := rfl
@[simp] theorem State.setTrig_dbg (n : Nat) (t : Trigger) (s : State) : (s.setTrig n t).dbg = s.dbg := rfl
@[simp] theorem State.setTrig_regs (n : Nat) (t : Trigger) (s : State) : (s.setTrig n t).regs = s.regs := rfl
@[simp] theorem State.setTrig_fregs (n : Nat) (t : Trigger) (s : State) : (s.setTrig n t).fregs = s.fregs := rfl
@[simp] theorem State.setTrig_out (n : Nat) (t : Trigger) (s : State) : (s.setTrig n t).out = s.out := rfl
@[simp] theorem State.setTrig_freeCtr (n : Nat) (t : Trigger) (s : State) : (s.setTrig n t).freeCtr = s.freeCtr := rfl
@[simp] theorem State.setTrig_pending (n : Nat) (t : Trigger) (s : State) : (s.setTrig n t).pending = s.pending := rfl

/-! ### What an entry reads as -/

theorem State.gs_setGs (n m : Nat) (g : GateS) (s : State) : (s.setGs n g).gs m = if m = n then g else s.gs m :=
  mget_mput ..
theorem State.stream_setStream (n m : Nat) (v : StreamV) (s : State) :
    (s.setStream n v).stream m = if m = n then v else s.stream m := mget_mput ..
theorem State.chan_setChan (k m : Nat) (c : Chan) (s : State) : (s.setChan k c).chan m = if m = k then c else s.chan m :=
  mget_mput ..
theorem State.tag_setTag (t m : Nat) (c : Option Tag) (s : State) : (s.setTag t c).tag m = if m = t then c else s.tag m :=
  mget_mput ..
theorem State.tile_setTile (t m : Nat) (v : TileSt) (s : State) : (s.setTile t v).tile m = if m = t then v else s.tile m :=
  mget_mput ..
theorem State.ring_setRing (g m : Nat) (r : RingSt) (s : State) : (s.setRing g r).ring m = if m = g then r else s.ring m :=
  mget_mput ..
theorem State.dis_setDis (i m : Nat) (d : DisSlot) (s : State) : (s.setDis i d).dis m = if m = i then d else s.dis m :=
  mget_mput ..
theorem State.trig_setTrig (n m : Nat) (t : Trigger) (s : State) : (s.setTrig n t).trig m = if m = n then t else s.trig m :=
  mget_mput ..

end Sys2Proof.Machine
end

