-- ==== Sys2Proof/Laws/TileMemory.lean ====
section
/-! SUPPORT. The tile SRAM (R152 to R158): every write keeps the canonical form, a byte written reads back, and every other
byte is left alone; the placement of a plan's sections and reset have the form. -/

namespace Sys2Proof.Machine
open Sys2Proof

/-- What a run of writes at `a`, `a + 1`, … leaves at `j`. -/
theorem mget_foldl_range {α : Type} [DecidableEq α] (d : α) (a : Nat) (f : Nat → α) (m : FMap α) (j n : Nat) :
    mget d ((List.range n).foldl (fun m i => mput d m (a + i) (f i)) m) j =
      if a ≤ j ∧ j < a + n then f (j - a) else mget d m j := by
  induction n with
  | zero => rw [List.range_zero, List.foldl_nil, if_neg (by omega)]
  | succ n ih =>
    rw [List.range_succ, List.foldl_append, List.foldl_cons, List.foldl_nil, mget_mput, ih]
    by_cases h : j = a + n
    · rw [if_pos h, if_pos (by omega)]
      congr 1
      omega
    · rw [if_neg h]
      by_cases hj : a ≤ j ∧ j < a + n
      · rw [if_pos hj, if_pos (by omega)]
      · rw [if_neg hj, if_neg (by omega)]

/-- A run of writes keeps the canonical form. -/
theorem mwf_foldl_range {α : Type} [DecidableEq α] (d : α) (a : Nat) (f : Nat → α) (l : List Nat) (m : FMap α)
    (h : mwf d m = true) : mwf d (l.foldl (fun m i => mput d m (a + i) (f i)) m) = true :=
  mwf_foldl_mput d (fun i => a + i) f l m h

/-- A tile's SRAM with its poison marks is in canonical form. -/
def TileSt.memWf (v : TileSt) : Bool := mwf 0 v.sram && mwf false v.sramPoison

/-- A write keeps the form. -/
theorem TileSt.memWf_write (v : TileSt) (a : Nat) (l : List Byte) (bad : Bool) (h : v.memWf = true) :
    (v.write a l bad).memWf = true := by
  unfold TileSt.memWf at h ⊢
  rw [Bool.and_eq_true] at h ⊢
  exact ⟨mwf_foldl_range 0 a _ _ _ h.1, mwf_foldl_range false (a / 8) _ _ _ h.2⟩

/-- What a byte reads as after a write. -/
theorem TileSt.byte_write (v : TileSt) (a j : Nat) (l : List Byte) (bad : Bool) :
    mget 0 (v.write a l bad).sram j = if a ≤ j ∧ j < a + l.length then lget 0 l (j - a) else mget 0 v.sram j :=
  mget_foldl_range 0 a _ _ j l.length

/-- A byte outside the written ones is left alone. -/
theorem TileSt.byte_write_ne (v : TileSt) {a j : Nat} {l : List Byte} (bad : Bool) (h : j < a ∨ a + l.length ≤ j) :
    mget 0 (v.write a l bad).sram j = mget 0 v.sram j := by
  rw [TileSt.byte_write, if_neg (by omega)]

/-- A section written into an SRAM keeps the form. -/
theorem mwf_putSram (l : List Byte) : ∀ (m : FMap Byte) (a : Nat), mwf 0 m = true → mwf 0 (putSram m a l) = true := by
  induction l with
  | nil => exact fun _ _ h => h
  | cons b t ih => exact fun m a h => ih _ _ (mwf_mput 0 m a b h)

/-- The SRAM of a tile as a plan places it has the form. -/
theorem mwf_placedSram (i : PlanImage) (l : Nat) : mwf 0 (placedSram i l) = true := by
  unfold placedSram
  generalize i.secs.filter _ = secs
  suffices ∀ m : FMap Byte, mwf 0 m = true → mwf 0 (secs.foldl (fun m x => putSram m x.target x.bytes) m) = true from
    this [] rfl
  induction secs with
  | nil => exact fun _ h => h
  | cons x t ih => exact fun m h => ih _ (mwf_putSram x.bytes m x.target h)

/-- Reset has the form. -/
theorem TileSt.memWf_reset : TileSt.reset.memWf = true := rfl
theorem State.memWf_reset (t : Nat) : (State.reset.tile t).memWf = true := rfl

end Sys2Proof.Machine
end

