-- ==== Sys2Proof/Tests/Slice0.lean ====
section
/-! SUPPORT. Tests: ill-formed commands that WellFormed refuses; for every statement with hypotheses a state and operands that
meet them; and the spec's own worked values. -/

open Sys2Proof Sys2Proof.Machine

set_option Elab.async false
set_option maxRecDepth 4000

namespace Sys2Proof.Tests

/-! ## States -/

/-- A device in RUN: every domain ON, the link up, the host's firmware running. -/
def up : State :=
  { State.reset with dev.state := .run, dev.porstN := true, dev.perstN := true, dev.porterUp := true, hl.dlUp := true, hl.serves := true,
                     hl.powered := true, pm.dom := (List.range 96).map (fun d => (d, DomSt.on)), flt.defaults := false,
                     ao := 1000000 }

/-- A layer of row sums: at most 8 rows, FP32, one drawn at random. -/
def layer1 : PLayer :=
  { layer := 1, kind := 0, maxM := 8, cfmt := 12, sfmt := 12, body := 4, nT := 1, nW := 2, nD := 4, xfmt := 12, afmt := 12,
    k := 4, aorder := 0, srcOut := false, yfmt := 12, n := 4, rorder := 0, anchor := 0, dmax := 0, tol := 0, gM := 0, gE := 0,
    eM := 0, eE := 0 }

/-- A BSF stream of one line of 64 B, number 0, of F00. -/
def stream0 : PStream :=
  { num := 0, fn := 0, src := 2, key := (50000, 0, 0), lines := 1, active := 1, lbytes := 64, blank := [], slots := [(0, 0)],
    mirror := false, banks := 0xFFFF, window := 5000, stale := 5000, seq := true, period := 100000, a := 50000, d := 90000,
    f := 500000, k := 2, residency := 1000, ftti := 100000, p0 := false, c := 0, dual := false, fbDigest := 0, wReject := 64,
    wDoubt := 16, wAbsent := 16, wAccept := 1, tWatch := 64, tDemote := 128, requal := 10, initTrusted := true,
    reReveal := false, revealDeadline := 20000, regions := [(0, 1)],
    patterns := [{ bytes := [[0, 0, 0, 0]], expect := [(⟨1, 0⟩, ⟨0, 0⟩)] }], canaryFmt := 12, rfmts := [12], runs := 0x3F,
    required := 1, layers := [layer1], env := [], rels := [],
    golden := [{ bytes := List.replicate 64 0, expect := [(⟨0, 0⟩, ⟨0, 0⟩)] }], kaInterval := 1000000,
    digestInterval := 2000000, tiles := [], repeatTime := 1000 }

/-- The P0 stream, number 1. -/
def stream1 : PStream := { stream0 with num := 1, key := (50000, 0, 1), p0 := true, c := 40000, runs := 1, required := 0 }

/-- A CSI-2 stream, number 2, of two active lines. -/
def stream2 : PStream := { stream0 with num := 2, src := 0, key := (3, 0x2A, 0), lines := 2, active := 2, runs := 0, required := 0 }

/-- The plan's weight region: 128 bytes in steps of 64. -/
def region0 : PRegion := { fn := 0, index := 0, len := 128, digest := 0, step := 64 }

/-- A plan of three streams, without tiles. -/
def img0 : PlanImage :=
  { magic := 0, format := 1, hlen := 4096, planId := 7, ifvMajor := 1, ifvMinor := 0, ntiles := 0, nstreams := 3, nslots := 1,
    hper := 100000, flagP0 := true, imglen := 8192, resbytes := 0, hdrZeros := true, keyHash := 0, sigOk := true,
    sigZeros := true, hash := 0, secs := [], tiles := [], routes := [], holes := [], phi := [], ledgerPhases := [],
    streams := [stream0, stream1, stream2], regions := [region0], slots := [{ start := 0, quads := [], digest := true }],
    retention := 4, evRate := 0, hostIn := 0, hostOut := 0, gateCycle := 0, bsfPort := 50000, droopMv := 0 }

/-- The plan in its first slot. -/
def run0 : Running :=
  { img := img0, place := [], anchor := 0, slot := 0, hyper := 0, strobeAt := 1000000, struck := true, fromBank := none,
    forceOn := [], spares := 0, pwovr := 0 }

/-- The device with a plan that binds the three streams. -/
def bound : State := { up with run := some run0, kv.session := some 1 }

/-- A frame of stream 0 forwarded as 0, its result still to come. -/
def frame0 : Frame :=
  { stream := 0, num := 5, golden := false, fwd := some 0, ingressAo := 990000, closeAo := 991000, devSec := 0, devNs := 0,
    isOpen := false, lines := [(0, List.replicate 64 0)], nLines := 1, taints := [], tainted := false, buffers := [3],
    mirror := [], malformed := false, bankFailed := false, overrun := false, result := none, resultAo := 0, row := 0,
    reexec := 0, canary := 0, env := 0, rows := 0, canaryRec := none, resultRec := [], fbA := none, fbB := none,
    formed := none, lateDone := false, tiles := [], ktiles := [], viol := [], deliveredAo := none, keepUntil := none,
    dest := none, gotLast := true, owner := 2 }

/-- The device holding frames. -/
def holding (l : List Frame) : State := { bound with vd.frames := l, gate := [(0, { GateS.reset with fwdNext := 1 })] }

end Sys2Proof.Tests


namespace Sys2Proof.Tests

/-! ## Power, links, verdicts -/

/-- In DEGRADED for port 1, which has link. -/
def degraded : State :=
  { up with dev.state := .degraded, dev.degr.ports := 2, dev.degrStart := some 500000, bsc.linkUp := 2, bsc.chkPass := 2,
            sio.body := [(8, 2)] }
/-- A safety configuration whose connection 0 is sent on ports 0 and 1. -/
def replicatedBody : FMap Byte := [(0xC1A, 3)]

theorem wit_coldStart :
    State.reset.dev.porstN = false ∧ State.reset.dev.railReset = 0 ∧
    ({ State.reset with dev.railReset := 1 } : State).dev.railReset ≠ 0 ∧
    ({ State.reset with dev.railReset := 1, dev.porstN := true } : State).dev.porstN = true := by decide +kernel

theorem wit_chipReset :
    ({ up with dev.chipReq := some none } : State).ldr.phase ≠ .armed ∧
    ({ up with dev.chipReq := some (some 12), dev.state := .alarm } : State).dev.state = .alarm ∧
    ({ up with dev.chipReq := some (some 239) } : State).dev.chipReq = some (some 239) := by decide +kernel

theorem wit_supplyRebootAndLimit :
    up.dev.state ≠ .cold ∧ (up.src 62).asserted = false ∧
    ((up.setSrc 74 { SrcState.reset with asserted := true }).src 74).asserted = true ∧
    ({ up with dev.rebootDue := true } : State).dev.rebootDue = true ∧ up.dev.rebootDue = false ∧
    degraded.dev.degrStart = some 500000 ∧ degraded.degLimit.isSome = true ∧ degraded.dev.state = .degraded := by decide +kernel

theorem wit_ethernetPorts :
    degraded.dev.state ≠ .cold ∧ degraded.bsc.linkUp.getLsbD 1 = true ∧ (degraded.src 165).asserted = false ∧
    degraded.replicated 1 = false ∧ ({ degraded with sio.body := replicatedBody } : State).replicated 1 = true ∧
    degraded.bsc.linkUp.getLsbD 0 = false ∧ degraded.dom 0x47 = .on ∧ degraded.pm.pllBad.getLsbD 6 = false ∧
    (degraded.src 165).st = .clear ∧ degraded.bsc.eccSeen.getLsbD 1 = false ∧ degraded.bsc.chkPass.getLsbD 1 = true := by
  decide +kernel

/-- A frame with a counted result of stream 0, every assay passed. -/
def frameR : Frame := { frame0 with result := some 5, row := 1, reexec := 1, canary := 1, env := 1 }
/-- A frame of the P0 stream with its result, its evidence at the tiles. -/
def frameP : Frame := { frameR with stream := 1, deliveredAo := some 990500 }
/-- A frame of a REJECT, kept for its retention. -/
def frameK : Frame := { frameR with formed := some (3, 0), keepUntil := some 1400000 }
/-- In the blackout of a switch at boundary 1 000 000. -/
def dark : State := { holding [] with dev.state := .planLoad, dev.blackout := true, ldr.phase := .blackout, ldr.b := 1000000 }

theorem wit_ageLimitHoldsAndRetention :
    (holding [frame0]).dev.state ≠ .cold ∧ (holding [frame0]).ldr.phase ≠ .blackout ∧
    (holding [frame0]).pstream 0 = some stream0 ∧ (holding [frame0]).oldest 0 (fun f => f.result.isNone) = some frame0 ∧
    ((holding [frame0]).frameNow frame0).result = none ∧ (holding [frame0]).oldest 0 (fun _ => true) = some frame0 ∧
    (({ bound with streams := [(0, { StreamV.reset with fb := some (9, 400000) })] } : State).stream 0).hStale = false ∧
    dark.ldr.phase = .blackout ∧ dark.pstream 0 = some stream0 ∧ dark.holdPoint stream0 ≤ dark.ldr.b + 100000 ∧
    (holding [frameK]).vd.frames.find? (fun f => f.stream = 0 && f.keepUntil.isSome) = some frameK ∧
    (holding [frameK]).frameNow frameK = frameK ∧ (holding [frameK]).vd.dis = [] ∧ (holding [frameK]).vd.rangeDue = [] := by
  decide +kernel

theorem wit_verdictOrder :
    (holding [frameR]).oldest 0 (fun _ => true) = some frameR ∧ (holding [frameR]).frameNow frameR = frameR ∧
    frameR.result.isSome = true ∧ (holding [frameR]).anyViolated frameR = false ∧
    ((holding [frameR]).stream 0).standing = false ∧
    (holding [frameP]).oldest 1 (fun _ => true) = some frameP ∧
    (holding [frameP]).run.bind (fun r => r.img.streams.find? (fun q => q.p0)) = some stream1 ∧
    (holding [{ frameP with row := 0 }]).ready { frameP with row := 0 } = true := by
  decide +kernel

end Sys2Proof.Tests


namespace Sys2Proof.Tests

/-! ## Evidence -/

/-- An evidence record with its length, CMT and HCRC computed. -/
def evRec (type stream layer fwd count fmt flags round cmt : Nat) (payload : List Byte) : List Byte :=
  let h := leBytes 1 type ++ leBytes 1 stream ++ leBytes 2 layer ++ leBytes 4 fwd ++ leBytes 4 (32 + payload.length)
    ++ leBytes 4 count ++ leBytes 1 fmt ++ leBytes 1 flags ++ leBytes 2 round ++ leBytes 8 cmt
  h ++ leBytes 4 (crc32c h) ++ payload

/-- A COMMIT of two FP32 row sums of layer 1 for forward 0. -/
def recCommit : List Byte := evRec 1 0 1 0 2 12 0 0 (crc64 (leBytes 8 0x4000000040400000)) (leBytes 8 0x4000000040400000)
/-- The one SAMPLE part of row 1 of four FP32 elements. -/
def recSample : List Byte := evRec 3 0 1 0 1 12 2 0 77 (leBytes 4 1 ++ leBytes 4 4 ++ leBytes 16 5)
/-- A CANARY of one position. -/
def recCanary : List Byte := evRec 4 0 0 0 1 12 0 0 0 (leBytes 8 5)
/-- A RESULT of one component. -/
def recResult : List Byte := evRec 5 0 0 0 1 12 0 0 0 (leBytes 16 5)

/-- A frame before its result, with a result, and with every other assay passed. -/
def frameV : Frame := { frame0 with result := some 5 }
/-- The layer's commit with its reveal issued at 995 000. -/
def commit1 : Commit :=
  { stream := 0, fwd := 0, layer := 1, cmt := 77, kind := 0, count := 2, fmt := 12, payload := leBytes 8 0, at_ := 994000,
    idx := [1], st := 2, issuedAo := 995000, answered := 0, samples := [], outcome := 0, rows := 0, equivocated := false,
    reIdx := [], reSt := 0, reAo := 0, reAns := 0 }
/-- The device holding a frame, commits and one completed evidence record. -/
def received (f : Frame) (cs : List Commit) (t : Nat) (r : List Byte) : State :=
  { holding [f] with vd.commits := cs, vd.records := [(0, t, r)] }

theorem wit_drawsAndCommits :
    recordReady (received frameV [] 999000 recCommit) 0 1 999000 recCommit frameV stream0 ∧
    (received frameV [] 999000 recCommit).commitOf 0 0 1 = none ∧
    (received frameV [] 999000 recCommit).atD stream0 frameV = false ∧ frameV.result.isSome = true ∧
    planLayer stream0 (evLayer recCommit) = some layer1 ∧ evCount recCommit ≠ 0 := by
  unfold recordReady; and_intros <;> decide +kernel

theorem wit_evidenceRecords :
    recordReady (received frameV [commit1] 996000 recSample) 0 3 996000 recSample frameV stream0 ∧ evRound recSample = 0 ∧
    (received frameV [commit1] 996000 recSample).commitOf 0 0 1 = some commit1 ∧
    planLayer stream0 (evLayer recSample) = some layer1 ∧
    (received frameV [commit1] 996000 recSample).atD stream0 frameV = false ∧ commit1.st = 2 ∧ commit1.issuedAo ≤ 996000 ∧
    996000 < commit1.issuedAo + stream0.revealDeadline ∧ evCmt recSample = commit1.cmt.toNat ∧ evKind recSample = commit1.kind ∧
    sampleOk (sampleElems layer1) (sampleEntry layer1 12) commit1.idx 0 recSample 1 = true ∧
    (evLast recSample = true ↔ commit1.answered + 1 = commit1.idx.length) ∧
    recordReady (received frame0 [] 996000 recCanary) 0 4 996000 recCanary frame0 stream0 ∧ frame0.canaryRec = none ∧
    recordReady (received frame0 [] 1040000 recResult) 0 5 1040000 recResult frame0 stream0 ∧
    frame0.ingressAo + stream0.a ≤ 1040000 ∧
    recordReady (received frame0 [] 1039999 recResult) 0 5 1039999 recResult frame0 stream0 ∧
    1039999 < frame0.ingressAo + stream0.a ∧ (received frame0 [] 999000 recResult).required stream0 frame0 0 = true ∧
    stream0.required.getLsbD 3 = false ∧ frame0.fwd = some (evFwd recResult) := by
  unfold recordReady; and_intros <;> decide +kernel

/-- A reveal of the layer's commit. -/
def reveal1 : Reveal := { stream := 0, fwd := 0, layer := 1, round := 0, p0 := false, at_ := 994000 }
/-- The reveal waiting, with and without a registration. -/
def revealing (reg : Bool) : State :=
  { holding [frameV] with vd.commits := [{ commit1 with st := 1 }], vd.reveals := [reveal1],
                          q.revReg := if reg then [(0, some { addr := 0x1000, slots := 4, tly := false, tally := 0, k := 5 })] else [] }

theorem wit_reveals :
    (revealing true).vd.reveals = [reveal1] ∧ reveal1.round = 0 ∧
    (revealing true).commitOf 0 0 1 = some { commit1 with st := 1 } ∧ (revealing true).pstream 0 = some stream0 ∧
    (mget none (revealing true).q.revReg 0).isSome = true ∧ (revealing true).hl.dlUp = true ∧
    mget none (revealing false).q.revReg 0 = none ∧
    ({ holding [frameV] with vd.commits := [commit1] } : State).vd.commits.find? (fun c => c.stream = 0 && c.st = 2) =
      some commit1 := by decide +kernel

/-- A lane with the first 28 bytes of a record. -/
def laneOpen : State := { bound with hl.lanes := [(1, { st := .opened, bytes := recCommit.take 28 })] }

/-- Beside it another lane with the checked header of a record of 4 194 304 bytes. -/
def lanesFull : State :=
  { laneOpen with hl.lanes := laneOpen.hl.lanes ++ [(2, { st := .opened, bytes := leBytes 8 1 ++ leBytes 24 4194304 })] }

theorem wit_evidenceLanes :
    laneOpen.evOpen 0 = true ∧ ({ laneOpen with hl.dlUp := false } : State).evOpen 0 = false ∧
    (laneOpen.lane 0 1).st = .opened ∧ (laneOpen.lane 0 1).bytes.length = 28 ∧ (laneOpen.lane 0 0).st ≠ .opened ∧
    evHcrcOk recCommit = true ∧ evLenOk recCommit = true ∧ evType (recCommit.take (evLen recCommit)) = 1 ∧
    evHcrcOk ((0 : Byte) :: recCommit.drop 1) = false ∧ laneOpen.stagingUsed + evLen recCommit ≤ 4194304 ∧
    4194304 < lanesFull.stagingUsed + evLen recCommit ∧
    evHcrcOk (evRec 1 0 1 0 2 12 0 0 0 (leBytes 1 0)) = true ∧ evLenOk (evRec 1 0 1 0 2 12 0 0 0 (leBytes 1 0)) = false := by
  and_intros <;> decide +kernel

end Sys2Proof.Tests


namespace Sys2Proof.Tests

/-! ## Known-answer and digest assays, assay results, disagreement checks -/

/-- Four bytes of a digest step, and the pass over a region of 128 bytes before its last step, with a read in flight. -/
def digesting (off : Nat) (fl : Option (List Nat)) : State :=
  { bound with vd.digests := [(0, { DigestSt.reset with off := off, flying := fl })], q.digReg := [(0, 0x4000)],
               ldg.used := [(0, true)] }
/-- The plan of a region whose digest is that of 128 zero bytes. -/
def zeroRegion : PRegion := { region0 with digest := BitVec.ofNat 64 (crc64 (List.replicate 128 0)) }
/-- The running plan with that region. -/
def runZ : Running := { run0 with img := { img0 with regions := [zeroRegion] } }
/-- The pass before the last step of the region whose digest matches. -/
def lastStep : State :=
  { digesting 64 (some [0]) with run := some runZ,
                                 vd.digests := [(0, { off := 64, crc := BitVec.ofNat 64 (crcRun 64 0x42F0E1EBA9EA3693 true 0xFFFFFFFFFFFFFFFF (List.replicate 64 0)), retried := false, flying := some [0] })] }

theorem wit_knownAnswerInterval :
    hasGolden stream0 = true ∧ bound.dev.state ≠ .cold ∧ bound.ldr.phase ≠ .blackout ∧ stream0.num = 0 ∧
    (bound.gs 0).kaNext + (bound.gs 0).goldCopies.length < stream0.golden.length ∧
    (bound.frameAlloc stream0 (bound.gs 0).nextBank).isSome = true ∧
    ({ bound with ldg.failed := 0xFFFF } : State).frameAlloc stream0 0 = none ∧ bound.goldenReady stream0 = false := by
  decide +kernel

theorem wit_digestPass :
    (digesting 0 none).region 0 0 = some region0 ∧ mget 0 (digesting 0 none).q.digReg 0 ≠ 0 ∧
    ((digesting 0 none).digest 0 0).flying = none ∧ (digesting 0 none).digestSlot = true ∧
    (takeBufs ((List.range 16).filter (fun b => !(digesting 0 none).ldg.failed.toNat.testBit b)) 1 0
      (digesting 0 none).ldg.used).isSome = true ∧
    ((digesting 0 (some [0])).digest 0 0).flying = some [0] ∧ 0 + 64 < region0.len ∧ lastStep.region 0 0 = some zeroRegion ∧
    zeroRegion.len ≤ (lastStep.digest 0 0).off + 64 ∧
    reflect 64 (crcRun 64 0x42F0E1EBA9EA3693 true (lastStep.digest 0 0).crc.toNat (slice 0 64 (List.replicate 64 0)))
      ^^^ 0xFFFFFFFFFFFFFFFF = zeroRegion.digest.toNat ∧
    ((digesting 0 (some [0])).digest 0 0).retried = false ∧ stream0.runs.getLsbD 5 = true := by and_intros <;> decide +kernel

/-- A result record of R274 with its CRC computed. -/
def resRec (stream kind outcome flags fwd layer tile : Nat) (data : List Byte) : List Byte :=
  let b := leBytes 1 stream ++ leBytes 1 kind ++ leBytes 1 outcome ++ leBytes 1 flags ++ leBytes 4 fwd ++ leBytes 2 layer
    ++ leBytes 2 tile ++ leBytes 2 0 ++ leBytes 2 0 ++ slice 0 48 data
  slice 0 14 b ++ leBytes 2 (crc16 b) ++ slice 16 48 b
/-- The device with one result record waiting. -/
def resulting (s : State) (r : List Byte) : State := { s with vd.results := [(BitVec.ofNat 512 (leNat r), false)] }
/-- The layer's commit answered. -/
def commit3 : Commit := { commit1 with st := 3 }
/-- A frame with its CANARY record, before its result. -/
def frameC : Frame := { frame0 with canaryRec := some recCanary }
/-- A record of each kind for forward 0 of stream 0, from tile 9. -/
def rec1 : List Byte := resRec 0 1 3 0 0 1 9 []
def rec2 : List Byte := resRec 0 2 1 0 0 1 9 []
def rec3 : List Byte := resRec 0 3 3 0 0 0 9 []
def rec4 : List Byte := resRec 0 4 1 1 0 0 9 (leBytes 12 0xABC)
def rec5 : List Byte := resRec 0 5 1 0 0 1 9 (leBytes 4 7)
def rec6 : List Byte := resRec 0 6 3 0 0 1 9 []
/-- A number of a record. -/
def recNum (r : List Byte) : BitVec 512 := BitVec.ofNat 512 (leNat r)
/-- A procedure in slot 0 for a REJECT of forward 0, its pass still to end; tile 9 is a RESERVE tile. -/
def disputing : State :=
  { holding [frame0] with
    tiles := [(3, { TileSt.reset with role := .plan, logical := some 0 }), (9, { TileSt.reset with role := .reserve, logical := some 1 })],
    vd.dis := [(0, { DisSlot.reset with busy := true, layer := 1, origTiles := [3], stLeft := [3], orig := computed rec5,
                                        origTile := 3 })] }

theorem wit_assayResults :
    resultReady (resulting { holding [frame0] with vd.commits := [commit3] } rec1) 1 (recNum rec1) [] rec1 frame0 stream0 ∧
    resultReady (resulting { holding [frame0] with vd.commits := [commit3] } rec2) 2 (recNum rec2) [] rec2 frame0 stream0 ∧
    resultReady (resulting (holding [frameC]) rec3) 3 (recNum rec3) [] rec3 frameC stream0 ∧ commit3.outcome ≤ 3 ∧
    ({ holding [frame0] with vd.commits := [commit3] } : State).commitOf 0 0 1 = some commit3 ∧
    frame0.fwd = some (leField rec1 4 4) ∧ frameC.canaryRec.isSome = true := by unfold resultReady; and_intros <;> decide +kernel

theorem wit_fallbackRepeatFresh :
    resultReady (resulting (holding [frame0]) rec4) 4 (recNum rec4) [] rec4 frame0 stream0 ∧ frame0.tainted = false ∧
    stream0.dual = false ∧ leField rec4 2 1 = 1 ∧ leField rec4 3 1 % 2 = 1 ∧ (holding [frame0]).quarOwes 0 4 = false ∧
    leNat rec5 < 2 ^ 512 ∧ recordCrcOk rec5 = true ∧ (disputing.tile 9).role = .reserve ∧ leField rec5 10 2 = 9 ∧
    (disputing.dis 0).busy = true ∧ (disputing.dis 0).layer = leField rec5 8 2 ∧ ¬ 9 ∈ (disputing.dis 0).origTiles ∧
    (disputing.dis 0).failed = [] ∧ (disputing.dis 0).stLeft ≠ [] ∧ (disputing.tile 3).healthy = true ∧
    leField rec5 1 1 = 5 ∧ leField rec6 1 1 = 6 ∧ recordCrcOk rec6 = true := by unfold resultReady; and_intros <;> decide +kernel

end Sys2Proof.Tests


namespace Sys2Proof.Tests

/-! ## The stream gate -/

/-- A BSF packet of stream 0, whole frame in one packet: FS, 64 B of 0x5A. -/
def bsf0 : List Byte :=
  let data := List.replicate 64 (0x5A : Byte)
  let h := beBytes 2 0x4246 ++ leBytes 1 1 ++ leBytes 1 1 ++ leBytes 1 0 ++ leBytes 1 0 ++ beBytes 2 40 ++ beBytes 4 0
    ++ beBytes 4 7 ++ beBytes 2 0 ++ beBytes 2 1 ++ beBytes 2 64 ++ beBytes 2 0 ++ leBytes 8 0 ++ beBytes 4 (crc32c data)
  h ++ beBytes 4 (crc32c h) ++ data
/-- The gate of streams 0 and 2 with a reservation and a credit. -/
def gated (resv : Option (List Nat × List Nat)) (credits : Nat) : State :=
  let g := { GateS.reset with resv := resv, credits := credits, nextNum := 5 }
  { bound with gate := [(0, g), (2, g)] }
/-- An open CSI-2 frame of stream 2 after `n` lines. -/
def frameO (n : Nat) : Frame :=
  { frame0 with stream := 2, fwd := none, isOpen := true, nLines := n, lines := [(0, List.replicate 64 1)], gotLast := false,
                owner := 1 }
/-- A frame being forwarded: its descriptor of ring 3 of F00 says address 0x8000 and 64 bytes, kind 1. -/
def frameF : Frame := { frame0 with dest := some (3, 0x5010, leBytes 8 0x8000 ++ leBytes 4 64 ++ leBytes 1 1 ++ leBytes 19 0) }

theorem wit_admission :
    (gated (some ([3], [])) 1).openFrame 0 = none ∧ (gated (some ([3], [])) 1).boundTo 2 (50000, 0, 0) = some stream0 ∧
    (beNat (slice 8 4 bsf0), leField bsf0 4 1) = (0, 0) ∧ bsfOk stream0 bsf0 = true ∧ bsfBlankBad stream0 bsf0 = false ∧
    bsf0.length = 40 + beNat (slice 18 2 bsf0) * stream0.lbytes ∧ crc32c (bsf0.drop 40) = beNat (slice 32 4 bsf0) ∧
    (leField bsf0 3 1).testBit 0 = true ∧ (leField bsf0 3 1).testBit 1 = false ∧ (leField bsf0 3 1).testBit 2 = false ∧
    ((gated (some ([3], [])) 1).gs 0).resv.isSome = true ∧ ((gated (some ([3], [])) 1).gs 0).credits ≠ 0 ∧
    ((gated none 1).gs 0).resv = none ∧ ((gated (some ([3], [])) 0).gs 0).credits = 0 ∧
    (gated (some ([3], [])) 1).csiStreams 0 3 = [stream2] ∧ (gated (some ([3], [])) 1).ldr.phase ≠ .blackout ∧
    ({ dark with gate := [] } : State).csiStreams 0 3 = [stream2] ∧ dark.ldr.phase = .blackout := by and_intros <;> decide +kernel

theorem wit_packets :
    (true && false) = false ∧ bound.boundTo 0 (4, 0x2A, 0) = none ∧ (holding [frameO 1]).boundTo 0 (3, 0x2A, 0) = some stream2 ∧
    (holding [frameO 1]).openFrame 2 = some (frameO 1) ∧ (holding [frameO 1]).frameNow (frameO 1) = frameO 1 ∧
    (frameO 1).nLines < stream2.active ∧ (List.replicate 64 (7 : Byte)).length = stream2.lbytes ∧
    stream2.active ≤ (frameO 2).nLines ∧ (holding [frameO 2]).openFrame 2 = some (frameO 2) ∧
    (holding [frameO 1]).vd.frames = [frameO 1] ∧ (frameO 1).isOpen = true ∧ (holding [frameO 1]).pstream 2 = some stream2 ∧
    stream2.src = 0 := by decide +kernel

theorem wit_closingCreditsAndForwards :
    (holding [frameO 2]).openFrame 2 = some (frameO 2) ∧ (holding [frameO 2]).csiStreams 0 3 = [stream2] ∧
    (frameO 2).taints = [] ∧ (holding [frameO 2]).goldenReady stream2 = false ∧
    (holding [frameO 2]).descReady 0 2 = none ∧ (holding [frameO 2]).pstream 2 = some stream2 ∧
    (holding [frameF]).vd.frames.find? (fun f => f.stream = 0 && f.dest.isSome) = some frameF ∧ (holding [frameF]).hl.dlUp = true ∧
    frameF.dest = some (3, 0x5010, leBytes 8 0x8000 ++ leBytes 4 64 ++ leBytes 1 1 ++ leBytes 19 0) ∧
    leField (leBytes 8 0x8000 ++ leBytes 4 64 ++ leBytes 1 1 ++ leBytes 19 0) 12 1 = 1 := by and_intros <;> decide +kernel

end Sys2Proof.Tests


namespace Sys2Proof.Tests

/-! ## Tiles -/

/-- Context 0 may use every window, twin, stage and counter; it starts at 5 in slot 0. -/
def pctx0 : PCtx :=
  { entries := [(0, .start 5)], windows := List.replicate 4 (0, 0x5FFFF), twins := 0xFFFFFFFF, stages := 3,
    counters := 0xFFFFFFFFFFFFFFFF }
/-- A logical tile of one context, one code bank, and a receive ring of four words for counter 4. -/
def tileP (home : Nat) (reserve : Bool) : PTile :=
  { home := home, reserve := reserve, kc := 1, wheel := [0], ctxs := [(0, pctx0)], rings := [(4, { base := 0x8000, len := 4 })],
    owed := [{ ctx := 0, slot := 0, stream := 0, kind := 1, layer := 1 }], cycles := [100] }
/-- A route of one router. -/
def route (num : Nat) (src dst : RouteEnd) (q : Bool) : PRoute :=
  { num := num, src := src, dst := dst, counter := 4, resultQueue := q, phases := [0], path := [], waits := [[]], latest := 10 }
/-- Route 5 from tile 0 to a result queue, 6 from a column port to tile 0, 7 from tile 1 to tile 0. -/
def routes0 : List PRoute :=
  [route 5 (.tile 0) (.port 2) true, route 6 (.port 0) (.tile 0) false, route 7 (.tile 1) (.tile 0) false]
/-- The plan with two tiles, logical 0 at tile 3 and a reserve tile at 9. -/
def runT : Running :=
  { run0 with img := { img0 with ntiles := 2, tiles := [tileP 3 false, tileP 9 true], routes := routes0 }, place := [3, 9] }
/-- A context that runs at 5: A0 0x100, S1 -7, S2 3, S3 0x80000000, S4 poisoned. -/
def ctx0 : CtxSt :=
  { CtxSt.reset with st := .run, pc := 5, poison := 0x10, regs := [(1, 0xFFFFFFF9), (2, 3), (3, 0x80000000), (16, 0x100)] }
/-- Tile 3, running the plan, with bytes and a poisoned word in its SRAM. -/
def tile3 : TileSt :=
  { TileSt.reset with role := .plan, logical := some 0, ctxs := [(0, ctx0)],
                      sram := [(0x100, 0x81), (0x101, 0xFF), (0x102, 0x42), (0x140, 0x11)], sramPoison := [(0x28, true)] }
/-- The device with those tiles. -/
def tiled : State :=
  { bound with run := some runT, tiles := [(3, tile3), (9, { TileSt.reset with role := .reserve, logical := some 1 })] }
/-- The same with context 0's state replaced. -/
def withCtx (x : CtxSt) : State := { tiled with tiles := [(3, { tile3 with ctxs := [(0, x)] })] }

theorem wit_tileArithmetic :
    issues tiled 3 0 (encR 0x10 5 1 2 0) ∧ issues tiled 3 0 (encR 0x11 5 1 2 0) ∧ issues tiled 3 0 (encR 0x1C 5 1 2 0) ∧
    (tiled.ctx 3 0).sreg 2 ≠ 0 ∧ (tiled.ctx 3 0).sreg 6 = 0 ∧ issues tiled 3 0 (encI 0x30 5 1 0xFFFFFFFF) ∧
    issues tiled 3 0 (encI 0x3A 5 1 255) := by unfold issues; decide +kernel

theorem wit_tileControl :
    issues tiled 3 0 (encR 0x01 0 0 0 0) ∧ issues tiled 3 0 (encB 0x02 0 0 0 4095) ∧ condTable (tiled.ctx 3 0) 1 ∧
    ¬ condTable (tiled.ctx 3 0) 0 ∧ issues tiled 3 0 (encB 0x06 2 0 63 0) ∧
    2 ^ 31 ≤ (mget 0 (tiled.tile 3).counters 63 - (tiled.ctx 3 0).sreg 2).toNat ∧
    (mget 0 (tiled.tile 3).counters 63 - (tiled.ctx 3 0).sreg 6).toNat < 2 ^ 31 := by
  unfold issues condTable; and_intros <;> decide +kernel

theorem wit_tileMovesAndLogic :
    issues tiled 3 0 (encR 0x3F 5 1 2 1) ∧ issues tiled 3 0 (encR 0x46 5 0 0 0) ∧ (tiled.tile 3).logical = some 0 ∧
    tiled.slot < 64 ∧ issues tiled 3 0 (encR 0x2E 5 1 0 0) ∧ issues tiled 3 0 (encI 0x3D 0 1 7) := by
  unfold issues; decide +kernel

theorem wit_loadsAndStores :
    mget 0 (tiled.tile 3).plant (0x142 / 8) = 0 ∧ tiled.tileCfg 3 = some (tileP 3 false) ∧
    effAddr (ptileCtx (tileP 3 false) 0) (tiled.ctx 3 0) 0 0 0x42 = some 0x142 ∧ tiled.flt.injTarget ≠ 1 ∧
    effAddr (ptileCtx (tileP 3 false) 0) (tiled.ctx 3 0) 11 0 0x7EFF = some 0x5FFFF ∧
    effAddr (ptileCtx (tileP 3 false) 0) (tiled.ctx 3 0) 0 0 0x7F00 = none := by decide +kernel

theorem wit_stagesAndSends :
    issues tiled 3 0 (encM 0x58 0 0 0 1 5 2 0 0x42) ∧ issues tiled 3 0 (encM 0x80 0 0 0 0 0 0 5 0x42) ∧
    issues tiled 3 0 (encM 0x81 0 0 0 0 0 0 5 0x42) ∧
    effAddr (ptileCtx (tileP 3 false) 0) (tiled.ctx 3 0) 2 0 0x42 = some 0x10142 := by unfold issues; decide +kernel

theorem wit_lanesAndTwins :
    issues tiled 3 0 (encL 0x60 0 1 0 1 1 0 0 0 0 0 0x40) ∧ issues tiled 3 0 (encV 0x66 31 1 12 15 0 0 0 3 0x40) ∧
    issues tiled 3 0 (encT 0x70 31 0 0 5 0 0 0 0 0 0) ∧ issues tiled 3 0 (encT 0x74 31 5 12 0 0 0 0 0 0 0) ∧
    issues tiled 3 0 (encT 0x75 31 5 6 0 0 0 0 0 0 0) ∧ (Twin.reset).spill = false := by unfold issues; decide +kernel

/-- A flit of a result record of tile 3 on route 5; one of route 7. -/
def flit5 : Flit := { route := 5, data := recNum (resRec 0 1 1 0 0 1 3 []), poison := false }
def flit7 : Flit := { route := 7, data := 0xABCD, poison := true }

theorem wit_arrayEvents :
    tiled.run = some runT ∧ runT.struck = true ∧ ¬ runT.slot + 1 < runT.img.slots.length ∧
    tiled.pastSwitch runT 100000 = false ∧ tiled.tileCfg 3 = some (tileP 3 false) ∧ (tiled.tile 3).serves = true ∧
    ((tileP 3 false).ctxs.map Prod.fst).Nodup ∧ (0, pctx0) ∈ (tileP 3 false).ctxs ∧ tiled.dom (quadOf 3) = .on ∧
    ({ tiled with run := some { runT with forceOn := [(0, 1)] } } : State).quadWant { runT with forceOn := [(0, 1)] } 0 (quadOf 3) = 0 ∧
    mget .none pctx0.entries 0 = .start 5 ∧ (tiled.ctx 3 0).haltQ = false ∧ tiled.notClear 69 = false ∧
    (tiled.tile 3).plant = [] ∧ (tiled.tile 3).stStep < 46 ∧
    runT.img.routes.find? (fun x => x.num = 6) = some (route 6 (.port 0) (.tile 0) false) ∧
    tiled.pathBroken (route 6 (.port 0) (.tile 0) false) = false ∧ runT.place[0]? = some 3 ∧
    ({ tiled with flits := [flit7] } : State).flits = [flit7] ∧ recordOk (leBytes 64 flit5.data.toNat) = true ∧
    leField (leBytes 64 flit5.data.toNat) 10 2 = 3 ∧
    ((withCtx { ctx0 with st := .waitArr, await := some (4, 0) }).ctx 3 0).await = some (4, 0) := by and_intros <;> decide +kernel

theorem wit_tileTrapsAndHealth :
    tiled.vd.frames = [] ∧ tiled.vd.journal = [] ∧ tiled.vd.dis = [] ∧ tiled.canIssue 3 0 = true ∧
    tiled.whyNot 3 0 0 = some 5 ∧ tiled.whyNot 3 0 0xFF00000000000000 = some 1 ∧ issues tiled 3 0 (encM 0x50 5 0 0 0 0 0 0 0x7F00) ∧
    tiled.deepNext = some 0 ∧ tiled.deepTile = none ∧
    ({ tiled with tiles := [(7, { TileSt.reset with role := .deepTest })] } : State).deepTile = some 7 ∧
    ({ tiled with store.thrDirty := true } : State).dev.phys.flashOk = true := by unfold issues; decide +kernel

end Sys2Proof.Tests

namespace Sys2Proof.Tests

/-! ## Plans and the link -/

/-- An empty section of kind `k`. -/
def sec (k : Nat) : PSec :=
  { kind := k, index := 0, enc := false, host := k = 16, offset := 1408, len := 0, plen := 0, target := 0, zeros := true,
    tagOk := true, digestOk := true, crc := 0, bytes := [] }
/-- A plan of no stream and no tile that every check passes. -/
def goodImg : PlanImage :=
  { img0 with magic := 0x4E4C5042, format := 1, hlen := 128, planId := 8, nstreams := 0, nslots := 1, hper := 6250,
              imglen := 1408, secs := (List.range' 7 10).map sec, holes := [0], streams := [], regions := [],
              slots := [{ start := 0, quads := [], digest := true }], keyHash := 0x55 }
/-- The plan loader in a phase, with that image or another; its signer's key hash is in the safety configuration. -/
def loading (p : Phase) (i : PlanImage) (first : Bool) : State :=
  { (if first then { up with dev.state := .planLoad } else bound) with
      ldr := { Loader.reset with phase := p, img := some i, first := first, src := 1, cap := 8192, bytes := 128, armedAt := 1000100,
                                 b := 1000000 },
      sio.body := [(0xF, 1), (0xA2F, 0x55)], rv.rangeR := (0x10000, 0x10005), rv.rangeP := (0x10000, 0x10005) }
/-- The device in the blackout of a switch. -/
def switching : State := { loading .blackout goodImg false with dev.state := .planLoad, dev.blackout := true }

theorem wit_planLoads :
    (loading .header goodImg false).planHead 8192 goodImg = none ∧
    (loading .header { goodImg with magic := 0 } false).planHead 8192 { goodImg with magic := 0 } = some (1, 0x7FF) ∧
    (loading .auth goodImg false).planAuth goodImg = none ∧
    (loading .auth { goodImg with sigOk := false } false).planAuth { goodImg with sigOk := false } = some (5, 0x7FF) ∧
    (loading .scan goodImg false).ldr.bytes + 1279 < goodImg.imglen ∧ goodImg.imglen ≤ (loading .scan goodImg true).ldr.bytes + 1280 ∧
    (loading .scan goodImg true).planScan goodImg = none ∧
    (loading .scan { goodImg with secs := [] } false).planScan { goodImg with secs := [] } = some (6, 0x7FF) ∧
    (loading .place goodImg true).placement goodImg = .ok [] [] ∧
    (loading .place { goodImg with holes := [] } false).placement { goodImg with holes := [] } = .refused 0xE ∧
    (loading .armed goodImg true).dev.state = .planLoad ∧ (∀ n < 2, ((loading .armed goodImg true).srcCfg n).has 6 = false) := by
  decide +kernel

theorem wit_planSwitches :
    0 < run0.img.hper ∧ run0.anchor ≤ (loading .armed goodImg false).ldr.armedAt ∧
    (loading .armed goodImg false).vd.rangeDue = [] ∧ (loading .armed goodImg false).vd.dis = [] ∧
    (loading .armed goodImg false).vd.frames = [] ∧ (loading .armed goodImg false).pstream 0 = some stream0 ∧ frame0.golden = false ∧
    frame0.formed = none ∧ switching.ao ≤ 1099999 ∧ 1099999 < switching.ldr.b + 100000 ∧ switching.dev.state = .planLoad := by
  decide +kernel

/-- The device with the link down, able to train; with functions 1 to 3 and VF 1 in a function level reset; and unserved. -/
def linkDown : State := { up with hl.dlUp := false, hl.serves := false, hl.downAt := some 900000 }
def virtual : State := { up with hl.vfEnable := true, hl.numVfs := 3, hl.flr := [(1, true)], vd.jseq := 5, regs := [(0x10001000C, 9)] }
def unserved : State := { up with hl.serves := false }

theorem wit_linkAndResets :
    linkDown.hl.downAt = some 900000 ∧ linkDown.dom 0x45 = .on ∧ linkDown.pm.pllBad.getLsbD 5 = false ∧ 1 ∈ virtual.fns ∧ 63 ∉ virtual.fns ∧
    mget false virtual.hl.flr 1 = true ∧ virtual.hl.numVfs < 64 ∧ up.hl.dlUp = true ∧ up.dev.perstN = true ∧
    ({ up with dev.perstN := false } : State).dev.perstN = false := by decide +kernel

/-- A pending masked vector 5 and a moderated signal of ring 2; a digest read in flight. -/
def signalling : State :=
  { up with hl.vpend := [(5, true)], hl.vmask := [(0, false), (4, false)],
            q.rings := [(2, { RingSt.reset with sigPend := true, lastSig := some 999000, mod := 40, vec := 4 })] }

theorem wit_linkRequests :
    unserved.hl.serves = false ∧ up.ldr.phase ≠ .blackout ∧ 0 ∈ up.fns ∧ up.hl.vfEnable = false ∧ up.fnLive 0 = true ∧
    up.porterLive = true ∧ ({ up with rv.abi := (1, 5) } : State).rv.abi.1 ≤ (0x00050000 : W32).toNat / 65536 ∧
    ({ up with rv.abi := (1, 5) } : State).rv.abi.2 < (0x00060000 : W32).toNat / 65536 ∧
    (0xFF0 : BitVec 23).toNat % 4096 + 16 ≤ 4096 ∧ 4096 < (0xFF0 : BitVec 23).toNat % 4096 + 17 ∧
    (0x7DF3 : BitVec 23).toNat < 0x7E00 ∧ (0x7DF3 : BitVec 23).toNat % 32 < 20 ∧ bitsOf (up.rget 0x18) 0 0 = 0 ∧
    mget false signalling.hl.vpend (32 * 0 + 5) = true ∧ mget false signalling.hl.vpend (32 * 0 + 31) = false ∧
    (signalling.ring (ringId 0 2)).sigPend = true ∧ mget true signalling.hl.vmask (32 * 0 + 4) = false ∧
    (digesting 0 (some [1])).region 0 0 = some region0 ∧ ((digesting 0 (some [1])).digest 0 0).flying = some [1] := by decide +kernel

end Sys2Proof.Tests

namespace Sys2Proof.Tests

/-! ## Rings, commands, plies, updates -/

/-- A descriptor: opcode, CTL, host tag and the operands from ARG0 on; its CRC. -/
def desc (opc ctl utag : Nat) (args : List Nat) : List Byte :=
  let b := leBytes 1 opc ++ leBytes 1 ctl ++ leBytes 2 utag ++ leBytes 4 0 ++ (args.flatMap (leBytes 8)) ++ List.replicate (52 - 8 * args.length) 0
  b ++ leBytes 4 (crc32c b)
/-- The same as one number. -/
def descW (opc ctl utag : Nat) (args : List Nat) : BitVec 512 := BitVec.ofNat 512 (leNat (desc opc ctl utag args))
/-- A command of a function's ring 2 whose completion goes to its ring 3. -/
def cmd (f opc : Nat) (args : List Nat) (st : CmdSt) : Tag :=
  { fn := f, ring := 2, desc := desc opc 0 7 args, st := st, xfer := 0, info := 0, abortBy := [], moved := 0, due := none, order := 4,
    fetchAo := 990000, cpl := ringId f 3, fin := 0 }
/-- A ring of 8 entries. -/
def ringOf (type pi ci : Nat) : RingSt :=
  { RingSt.reset with base := 0x10000, size := 8, pi := BitVec.ofNat 32 pi, ci := BitVec.ofNat 32 ci, type := type, vec := 4, bind := 3 }.sealed
/-- A device with a CMD ring 2, a CPL ring 3 (`used` entries in use) and a bad record in ring 4; tag 0 holds a command. -/
def ringed (used : Nat) (tags : FMap (Option Tag)) : State :=
  { bound with q.rings := [(2, ringOf 1 1 0), (3, { ringOf 2 used 0 with bind := 0 }.sealed), (4, { ringOf 1 1 0 with scrc := 0 })],
               q.tags := tags, regs := [(fnAddr 0 4, 0x10)] }
/-- Tag 0 holds `c`. -/
def one (c : Tag) : State := ringed 0 [(0, some c)]

theorem wit_rings :
    (one (cmd 0 1 [] .ready)).dev.state ≠ .cold ∧ 0 ∈ (ringed 0 []).fns ∧ ((ringed 0 []).ring 1023).size = 0 ∧
    ((ringed 0 []).ring 2).size ≠ 0 ∧ ((ringed 0 []).ring 2).type ≠ 2 ∧
    ((8 : W32) - ((ringed 0 []).ring 2).pi).toNat + ((ringed 0 []).ring 2).used ≤ ((ringed 0 []).ring 2).size ∧
    ((ringed 0 []).ring 2).size < ((9 : W32) - ((ringed 0 []).ring 2).pi).toNat + ((ringed 0 []).ring 2).used ∧
    ((ringed 8 []).ring 3).type = 2 ∧ ((8 : W32) - ((ringed 8 []).ring 3).ci).toNat ≤ ((ringed 8 []).ring 3).used ∧
    ((ringed 8 []).ring 3).used < ((9 : W32) - ((ringed 8 []).ring 3).ci).toNat ∧
    (ringed 0 []).canFetch 2 = true ∧ (ringed 0 []).canFetch 4 = true ∧ ((ringed 0 []).ring 4).scrcOk = false ∧
    ((ringed 0 []).ring 2).scrcOk = true ∧ (ringed 0 []).freeTag 0 = some 0 ∧ (descW 1 2 0 []).getLsbD 9 = true ∧
    (ringed 0 []).descCheck 0 (descW 1 0 0 []) = none ∧ reqCrcOk (descW 1 0 0 [] + 1) = false ∧ opcListed 9 = false ∧
    reqCrcOk (descW 9 0 0 []) = true ∧ opcF00 0x20 = true ∧
    (ringed 0 [(0, some (cmd 0 1 [] (.done 0 0)))]).heldTags.all (fun p => p.2.fin = 0) = true ∧
    ((ringed 7 []).ring 3).used < ((ringed 7 []).ring 3).size ∧ ((ringed 8 []).ring 3).size ≤ ((ringed 8 []).ring 3).used ∧
    ((ringed 0 []).ring 5).size = 0 ∧ (RingArgs.of 5 0x1001 8).ok = false ∧ (RingArgs.of (5 + 2 * 2 ^ 16 + 4 * 2 ^ 24) 0x1000 65536).ok = true ∧
    (RingArgs.of (5 + 1 * 2 ^ 16 + 31 * 2 ^ 24) 0x1000 (8 + 5 * 2 ^ 32)).ok = true ∧
    (RingArgs.of (3 + 2 * 2 ^ 16 + 255 * 2 ^ 24) 0x10000 (8 + 1000 * 2 ^ 48)).ok = true ∧ ((ringed 0 []).ring 3).base.toNat = 0x10000 ∧
    ((ringed 0 []).ring 3).size = (RingArgs.of (3 + 2 * 2 ^ 16 + 255 * 2 ^ 24) 0x10000 (8 + 1000 * 2 ^ 48)).size := by and_intros <;> decide +kernel

/-- Two commands: tag 0 an ABORT of tag 1, which holds `c`. -/
def aborting (c : Tag) : State := ringed 0 [(0, some (cmd 0 2 [1 + 7 * 65536] .ready)), (1, some c)]
/-- Tag 1 waits on tally 9 for a count of 5. -/
def waiting (take : Bool) : State :=
  { ringed 0 [(0, some (cmd 0 6 [9, 5, 10] .ready)), (1, some { cmd 0 6 [9, 5, 10] .active with due := some 990500 })] with
      q.waits := [{ tag := 1, tally := 9, take := take, count := 5 }] }
/-- A request of the reeve, and the answer to tag 0's command at the head of the answer ring. -/
def answering (st : Nat) : State :=
  { ringed 0 [(0, some (cmd 0 0x20 [0x10] .active))] with rv.ansRing := [(BitVec.ofNat 256 (st * 2 ^ 48 + 9 * 2 ^ 128), 0)] }

theorem wit_shortCommands :
    holds (one (cmd 0 1 [] .ready)) 0 1 (cmd 0 1 [] .ready) ∧ holds (aborting (cmd 0 1 [] .ready)) 0 2 (cmd 0 2 [1 + 7 * 65536] .ready) ∧
    (aborting (cmd 0 6 [] .ready)).tag 2 = none ∧ (cmd 0 2 [1 + 7 * 65536] .ready).arg 0 % 512 = 1 ∧ (cmd 0 6 [] .ready).utag = 7 ∧
    opcAbortable 4 = false ∧ (cmd 0 0x19 [] .ready).opc = 0x19 ∧
    holds (one (cmd 0 4 [63, 0, 0] .ready)) 0 4 (cmd 0 4 [63, 0, 0] .ready) ∧ holds (one (cmd 0 5 [255, 64] .ready)) 0 5 (cmd 0 5 [255, 64] .ready) ∧
    (cmd 0 6 [9, 0, 0] .ready).arg 1 % 2 ^ 32 = 0 ∧ (cmd 0 6 [9 + 65536, 5, 10] .ready).arg 1 % 2 ^ 32 ≠ 0 ∧
    ((cmd 0 6 [9 + 65536, 5, 10] .ready).arg 0).testBit 16 = true ∧ ((5 : Nat) + 2 ^ 32 - 5) % 2 ^ 32 < 2 ^ 31 ∧
    2 ^ 31 ≤ ((4 : Nat) + 2 ^ 32 - 5) % 2 ^ 32 ∧ (one (cmd 0 6 [9, 5, 10] .ready)).q.waits = [] ∧
    (waiting true).tag 1 = some { cmd 0 6 [9, 5, 10] .active with due := some 990500 } ∧
    holds (one (cmd 0 0x10 [0] .ready)) 0 0x10 (cmd 0 0x10 [0] .ready) ∧ (one (cmd 0 0x10 [0] .ready)).ldr.phase = .idle ∧
    holds (one (cmd 0 0x20 [0x10] .ready)) 0 0x20 (cmd 0 0x20 [0x10] .ready) ∧
    reqCode (BitVec.ofNat 512 (leNat (cmd 0 0x20 [0x10] .ready).desc)) ∈ reeveCodes ∧ (answering 0).porterLive = true ∧
    (answering 3).rv.ansRing = [(BitVec.ofNat 256 (3 * 2 ^ 48 + 9 * 2 ^ 128), 0)] ∧
    (waiting false).q.waits.filter (fun x => x.tally = ringId 0 9) = [{ tag := 1, tally := 9, take := false, count := 5 }] ∧
    ((5 : W32) - 5).toNat < 2 ^ 31 ∧ (5 : W32).toNat ≤ (5 : W32).toNat ∧ (4 : W32).toNat < (5 : W32).toNat := by
  unfold holds; and_intros <;> decide +kernel

/-- An entry that boots bank A, and the selection record with the reeve's on trial where `tr`. -/
def entryA (tr : Bool) : SelEntry := { bank := false, trial := tr, prev := true, len := 0, hash := 0 }
/-- The store with the maintenance privilege held; the inactive bank of the reeve verified where `v`, the one in force on trial
where `tr`. -/
def storing (c : Tag) (v : BitVec 3) (tr : Bool) : State :=
  { one c with rv.privHeld := true, rv.leaseEnd := 9000000, store.verified := v, store.density := 1,
               store.sel0 := some { seq := 1, reeve := entryA tr, porter := entryA false, plan := entryA false, marks := 0 },
               store.sel1 := none }

theorem wit_pliesAndUpdates :
    (storing (cmd 0 7 [0, 0, 524289] .active) 0 false).leaseCheck = storing (cmd 0 7 [0, 0, 524289] .active) 0 false ∧
    holds (one (cmd 0 7 [0, 0, 0] .ready)) 0 7 (cmd 0 7 [0, 0, 0] .ready) ∧
    (one (cmd 0 7 [0, 0, 524289] .active)).plyNext = some (0, cmd 0 7 [0, 0, 524289] .active) ∧
    0 + min 524288 524289 < (cmd 0 7 [0, 0, 524289] .active).arg 2 ∧
    holds (one (cmd 0 0x18 [0, 0, 4096] .ready)) 0 0x18 (cmd 0 0x18 [0, 0, 4096] .ready) ∧
    (one (cmd 0 0x18 [0, 0, 4096] .ready)).store.selOr.reeve.trial = false ∧ mget 0 (one (cmd 0 1 [] .ready)).store.busy 0 = 0 ∧
    (storing (cmd 0 0x18 [0] .ready) 0 true).store.selOr.reeve.trial = true ∧
    (one (cmd 0 0x18 [0, 0, 0x7FFFFFFF] .ready)).store.bankSize 0 < (cmd 0 0x18 [0, 0, 0x7FFFFFFF] .ready).arg 2 ∧
    (storing (cmd 0 1 [] .ready) 0 false).store.density ≠ 0 ∧ (one (cmd 0 1 [] .ready)).dev.phys.flashOk = true ∧
    (one (cmd 0 0x18 [0, 0, 4096] .active)).plyNext = some (0, cmd 0 0x18 [0, 0, 4096] .active) ∧
    (one (cmd 0 0x19 [0] .active)).plyNext = some (0, cmd 0 0x19 [0] .active) ∧
    ((one (cmd 0 0x19 [0] .active)).verifyWhy 0).isSome = true ∧ (storing (cmd 0 0x1A [0] .ready) 1 false).rv.privHeld = true ∧
    (storing (cmd 0 0x1A [0] .ready) 1 false).store.verified.toNat.testBit 0 = true ∧
    (one (cmd 0 0x1A [2] .ready)).rv.privHeld = false := by
  unfold holds; and_intros <;> decide +kernel

end Sys2Proof.Tests

namespace Sys2Proof.Tests

/-! ## Mailboxes, the reeve complex, requests of the reeve -/

/-- A full box. -/
def box (type len : Nat) (body : BitVec 512) : Box :=
  { full := true, body := body, type := type, len := len, src := 0, seq := 5, bells := 0, sentAt := 999000 }
/-- F00's porter channel 0 and reeve channel 1. -/
def boxed (o i : Box) : State :=
  { up with q.boxes := [(0, { Chan2.reset with outb := o, inb := i, fnPoll := some 999500, farPoll := some 999400 }),
                        (1, { Chan2.reset with outb := o, inb := i })],
            dev.porterQ := [(0, 0x77, 0x82, 4)] }
/-- The body of a RING_BOOT for rings of 8 and 65 536 entries. -/
def bootBody (n : Nat) : BitVec 512 :=
  BitVec.ofNat 512 (leNat (leBytes 8 (65536 + 4 * 2 ^ 24) ++ leBytes 8 0x1000 ++ leBytes 8 (8 + 2 ^ 32) ++
    leBytes 8 (1 + 2 * 65536 + 255 * 2 ^ 24) ++ leBytes 8 0x2000 ++ leBytes 8 n))

theorem wit_mailboxChannels :
    (boxed .reset .reset).fnLive 0 = true ∧ (boxed .reset .reset).hasChan 0 1 = true ∧ bitsOf (0x4000 : W32) 14 8 ≤ 64 ∧ bitsOf (0x4000 : W32) 31 15 = 0 ∧
    64 < bitsOf (0x4100 : W32) 14 8 ∧ bitsOf (0x8000 : W32) 31 15 ≠ 0 ∧
    ((boxed .reset .reset).chan2 0 0).outb.full = false ∧ ((boxed (box 0 0 0) .reset).chan2 0 0).outb.full = true ∧
    ((boxed .reset (box 0 0 0)).chan2 0 1).inb.full = true ∧ (boxed .reset .reset).rv.ansQ = [] ∧
    mget none up.hl.latches (latchKey (.host 0) (mbAddr 0 0 0xC4)) = none ∧
    ((boxed (box 0 0 0) (box 0 0 0)).chan2 0 0).fnPoll = some 999500 ∧ ((boxed (box 0 0 0) (box 0 0 0)).chan2 0 0).cross = false ∧
    ((boxed (box 1 48 (bootBody 65536)) .reset).ringBoot 0 (box 1 48 (bootBody 65536))).1 = 0 ∧
    ((ringed 0 []).ringBoot 0 (box 1 48 (bootBody 65537))).1 = 2 ∧
    (({ up with q.rings := [(0, ringOf 1 0 0)] } : State).ringBoot 0 (box 1 48 (bootBody 8))).1 = 6 ∧
    (boxed .reset .reset).porterLive = true ∧ (boxed .reset .reset).dev.porterQ.find? (fun q => q.1 = 0) = some (0, 0x77, 0x82, 4) ∧
    (boxed (box 2 64 1) .reset).reeveUp = true ∧ ((boxed (box 0x20 64 0x100000) .reset).chan2 0 1).outb.len = 64 ∧
    (0x7F : Nat) ∉ [0, 2, 0x20] := by decide +kernel

/-- The reeve complex in a recovery pause that named core 0, with `n` transients of it before. -/
def pausing (n : Nat) : State := { up with rv.pause := some (999990, 0), sio.body := [(3, 3)], rv.transA := List.replicate n 999000 }
/-- A trio in which core A has diverged on input 5 for `n` rounds; a checked pair of A and B. -/
def diverging (n : Nat) : State := { up with rv.divRun := [(20, n)] }
def paired : State := { up with rv.mode := .pair, rv.coreC := .retiredSelftest }

theorem wit_reeveComplex :
    up.voting = true ∧ up.rv.pause = none ∧ up.rv.mode = .trio ∧ paired.voting = true ∧ paired.rv.mode = .pair ∧ up.rv.shadowFail = false ∧
    up.rv.onShadow = false ∧ (pausing 0).rv.pause = some (999990, 0) ∧ ((pausing 0).rv.trans 0).length = 0 ∧ 0 < (pausing 0).transLimit ∧
    (pausing 3).transLimit ≤ (((pausing 3).rv.trans 0).filter (fun x => decide ((1000000 : Nat) < x + 4320000000000))).length ∧
    (pausing 3).rv.core 0 = .active ∧ (diverging 1).divRun 5 0 < 2 ∧ (diverging 2).divRun 5 0 = 2 ∧ up.rv.coreA = .active ∧
    paired.rv.coreB = .active ∧ paired.rv.core 2 ∈ [.retiredSelftest, .retiredTransient, .retiredDiverge] := by decide +kernel

/-- A request: code, ARG1 to ARG4, SSEQ; its DCRC. -/
def req (code : Nat) (args : List Nat) (sseq : Nat) : BitVec 512 :=
  let b := [0x20, 0] ++ leBytes 2 7 ++ leBytes 4 0 ++ leBytes 8 code ++ (args.flatMap (leBytes 8)) ++
    List.replicate (40 - 8 * args.length) 0 ++ leBytes 4 sseq
  BitVec.ofNat 512 (leNat (b ++ leBytes 4 (crc32c b)))
/-- A state with that request on the ring path, of tag 0's SAFE command, or in the mailbox; the maintenance privilege held. -/
def ringReq (s : State) (r : BitVec 512) : State :=
  { s with rv.reqRing := [(r, 0)], rv.privHeld := true, rv.leaseEnd := 9000000, q.tags := [(0, some (cmd 0 0x20 [] .active))] }
def mbReq (s : State) (r : BitVec 512) : State := { s with rv.mbReq := some (r, 9), rv.privHeld := true, rv.leaseEnd := 9000000 }


/-- The factory configuration is replaced, in `conf`, by one of the operator's, staged with log entry 1. -/
def conf : State := { bound with sio.body := [(2, 0)], sio.bodyLen := 8864, sio.staging := some ([(2, 0)], 8864), sio.newSalt := some 5 }
/-- The request is accepted on the mailbox path. -/
def takes (s : State) (code : Nat) (args masks : List Nat) : Prop :=
  reqFieldsOk (req code args 1) masks = true ∧ codeState s.dev.state code = true ∧ (mbReq s (req code args 1)).rv.mbReq = some (req code args 1, 9) ∧
  (mbReq s (req code args 1)).reeveUp = true ∧ reqCrcOk (req code args 1) = true ∧ reqField (req code args 1) 56 4 = (s.rv.sseq + 1).toNat

theorem wit_requestChecks :
    (ringReq bound (req 1 [5] 1)).rv.reqRing = [(req 1 [5] 1, 0)] ∧ (ringReq bound (req 1 [5] 1)).leaseCheck.lockCheck = ringReq bound (req 1 [5] 1) ∧
    (ringReq bound (req 1 [5] 1)).reeveUp = true ∧ reqCrcOk (req 1 [5] 1) = true ∧ reqField (req 1 [5] 1) 56 4 = (bound.rv.sseq + 1).toNat ∧
    reqCrcOk (req 1 [5] 1 + 1) = false ∧ reqField (req 1 [5] 2) 56 4 ≠ (bound.rv.sseq + 1).toNat ∧
    reqFieldsOk (req 0x10 [64] 1) [63] = false ∧ reqFieldsOk (req 0x10 [63] 1) [63] = true ∧ codeState .safeHold 0x10 = false ∧
    (mbReq bound (req 2 [] 1)).rv.reqRing = [] ∧ reqCode (req 5 [] 1) ∉ reeveCodes ∧
    holds (one { cmd 0 0x20 [] .ready with desc := leBytes 64 (req 5 [] 1).toNat }) 0 0x20 { cmd 0 0x20 [] .ready with desc := leBytes 64 (req 5 [] 1).toNat } := by
  unfold holds; and_intros <;> decide +kernel

/-- The nonce of a challenge, with the right token of the operator's hash, which is zero here. -/
def challenged (s : State) (at_ : Nat) : State := { s with rv.nonce := some (0x1234, at_, true) }

theorem wit_privilege :
    takes bound 1 [all64] [all64] ∧ takes bound 2 [] [] ∧ takes bound 3 [1, 2, 3, 4] [all64, all64, all64, all64] ∧ takes bound 4 [] [] ∧
    (challenged conf 990000).rv.lockEnd = none ∧ (challenged conf 990000).ao ≤ 990000 + 500000000 ∧
    ({ challenged conf 990000 with ao := 600000000 } : State).rv.nonce = some (0x1234, 990000, true) ∧
    (conf.rv.fails < 4) ∧ ({ conf with rv.fails := 4 } : State).rv.fails = 4 ∧
    ({ conf with rv.lockEnd := some 2000000 } : State).lockCheck = { conf with rv.lockEnd := some 2000000 } ∧
    (mbReq conf 0).rv.privHeld = true := by
  unfold takes; decide +kernel

theorem wit_reeveCommands :
    takes bound 0x10 [63] [63] ∧ takes bound 0x11 [0] [63] ∧ takes tiled 0x20 [3] [255] ∧ (tiled.tile 3).role ∈ [Role.plan, .reserve] ∧
    takes tiled 0x21 [191] [255] ∧ takes bound 0x30 [] [] ∧ takes bound 0x31 [] [] ∧ bound.rv.mode ≠ .split ∧
    takes bound 0x120 [0x3FF] [0x3FF] ∧ takes bound 0x121 [1] [1] ∧ takes bound 0x200 [10 * 2 ^ 32 + 5, 1, 2] [all64, all64, all64] ∧
    2 * ((10 * 2 ^ 32 + 5) % 2 ^ 32) ≤ (10 * 2 ^ 32 + 5) / 2 ^ 32 ∧ takes bound 0x201 [] [] ∧ takes bound 0x202 [0x1BFF, 0] [0x1FFF, all64] ∧
    0x1BFF / 1024 % 4 ≠ 3 ∧ takes bound 0x300 [63] [255] ∧ takes bound 0x301 [0xFFFF0309] [0xFFFF03FF] ∧ takes bound 0x302 [255] [255] ∧
    (romCfg 17).reserved = true ∧ (romCfg 236).reserved = false ∧ takes bound 0x303 [255] [255] ∧
    ({ bound with sio.chans := [] } : State).dev.state = .run := by
  unfold takes; and_intros <;> decide +kernel

theorem wit_safetyConfiguration :
    takes conf 0x100 [8856] [0xFFFF] ∧ 8856 + 8 ≤ conf.sio.bodyLen ∧ conf.factory = false ∧ takes conf 0x101 [] [] ∧
    takes conf 0x102 [65512, 1, 2, 3] [0xFFFF, all64, all64, all64] ∧ conf.sio.staging = some ([(2, 0)], 8864) ∧ bound.sio.staging = none ∧
    takes conf 0x103 [1, 2] [all64, all64] ∧ bound.factory = true ∧ bodyOk [(2, 0)] = true ∧ conf.dev.phys.flashOk = true ∧
    takes conf 0x104 [] [] ∧ takes conf 0x110 [] [] ∧ takes conf 0x111 [0xFFFFFFFF] [0xFFFFFFFF] ∧ conf.sio.newSalt = some 5 ∧
    (challenged conf 990000).rv.nonce = some (0x1234, 990000, true) ∧ takes conf 0x122 [0x3FFFFFFFF] [0x3FFFFFFFF] ∧
    conf.store.log = [] := by
  unfold takes; and_intros <;> decide +kernel

end Sys2Proof.Tests

namespace Sys2Proof.Tests

/-! ## Registers -/

/-- The time unit's domain off. -/
def timeOff : State := { up with pm.dom := mput DomSt.off up.pm.dom 0x4F .off }
/-- A pair of SV_HWD_TOKEN writes open since `t`. -/
def pairOpen (t : Nat) : State := { up with hl.dx := [(3, some { off := 0x24, val := 0x55, who := 0, at_ := t })] }

theorem wit_registerWrites :
    up.fnLive 0 = true ∧ up.absentDom 0xC0008 = none ∧ mget none up.hl.dx 3 = none ∧
    (∀ a ∈ [0x18, 0x20, 0x90008, 0xC0008], regMapped a = true ∧ (regRow a).isSome = true ∧ regWritable a = true ∧ maxMask a = none ∧
      snapSet a = [] ∧ up.xpChanges a 1 = false) ∧
    ((regRow 0xC0008).map RegRow.w1c).isSome = true ∧ copiesBlock 0x70008 = true ∧ regMapped 0x70004 = true ∧
    regWritable 0x70004 = false ∧ 0xEFFFC % 4 = 0 ∧ regMapped 0xEFFFC = false ∧ copiesBlock 0xEFFFC = false ∧
    regMapped 0x50000 = true ∧ timeOff.dom 0x4F = .off ∧
    snapSet 0xC0000 ≠ [] ∧ up.xpChanges 0xC0000 1 = false := by decide +kernel

theorem wit_registerReadsAndPairs :
    latchHighs 0x28 ≠ [] ∧ maxMask 0x28 = none ∧ (regRow 0x28).isSome = true ∧ regMapped 0x28 = true ∧
    mget none up.hl.latches (latchKey (.host 0) 0x28) = none ∧ maxMask 0x302FC = some 0xFFFFFFFF ∧ (regRow 0x302FC).isSome = true ∧
    maxMask 0xA0050 = some 0xFFFFFFFF ∧ up.absentDom 0xA0050 = none ∧ up.dom (quadOf 191) ≠ .off ∧
    (pairOpen 999800).hl.dx = [(3, some { off := 0x24, val := 0x55, who := 0, at_ := 999800 })] ∧ up.ao ≤ 999800 + 200 ∧
    999799 + 200 < up.ao ∧ mget none up.hl.dx 3 = none ∧ (~~~(0x55 : W32)) = 0xFFFFFFAA := by decide +kernel

/-! ## Sources, safety inputs and outputs, the safe channel, supervisors -/

/-- Source `n` in a state. -/
def sourced (n : Nat) (st : SrcSt) (asserted : Bool) : State :=
  { bound with flt.src := [(n, { st := st, asserted := asserted, occ := 3, recov := [], quietAt := 999000, depAo := 0, units := [] })] }

theorem wit_sourceRaises :
    (romCfg 17).reserved = true ∧ (romCfg 237).reserved = false ∧ (sourced 62 .latched false).dev.state ≠ .cold ∧
    ((sourced 62 .latched false).src 62).st ≠ .clear ∧ bound.beatHeld = false ∧ ¬(231 ≤ 235 ∧ 235 ≤ 234) ∧
    bitAt (bound.rget 0x10100) 8 = false ∧ bitAt (({ bound with regs := [(0x10100, 0x100)] } : State).rget 0x10100) 8 = true ∧
    (bound.srcCfg 11).has 6 = true ∧ (bound.srcCfg 63).has 0 = true ∧ bound.kv.policy.toNat / 4 ^ 0 % 4 = 0 ∧
    bound.kv.policy.toNat / 4 ^ 3 % 4 ≠ 0 := by decide +kernel

/-- ERR_P high until `t`, with a RELEASE waiting where `rel`. -/
def errPHigh (t : Nat) (rel : Bool) : State := { bound with flt.errP := true, flt.errPMin := t, flt.errPRel := rel }

theorem wit_faultRecovery :
    (sourced 255 .quiet false).lineHeld 255 = false ∧ ({ bound with bsc.linkUp := 0 } : State).lineHeld 167 = true ∧
    ((sourced 62 .active true).src 62).st = .active ∧ ((sourced 62 .quiet false).src 62).st = .quiet ∧ (errPHigh 1000400 false).flt.errP = true ∧
    bitAt ((errPHigh 0 false).rget 0x1000C) 1 = false ∧ (errPHigh 1000000 true).flt.errPRel = true ∧ bound.flt.errP = false ∧
    regMapped 0x1000C = true ∧ (regRow 0x1000C).isSome = true ∧ (errPHigh 0 false).absentDom 0x1000C = none ∧
    bound.xpChanges 0x1000C 1 = false ∧ (1 : W32).getLsbD 0 = true ∧ (errPHigh 1000000 false).flt.errPMin ≤ (errPHigh 1000000 false).ao ∧
    (errPHigh 1000001 false).ao < (errPHigh 1000001 false).flt.errPMin ∧ regMapped 0x10010 = true ∧
    bitsOf (0x101 : W32) 7 0 ∈ [1, 2, 4, 5, 6, 7, 8] ∧ bitsOf (0x101 : W32) 9 8 ≠ 0 ∧ bound.testUnlock = false ∧
    bound.xpChanges 0x10010 0x101 = true ∧ bound.xpChanges 0x10010 0x109 = true ∧
    ({ bound with regs := [(0xE0000, 2)] } : State).testUnlock = true ∧
    (checkerAt checkers bound.flt.rotChk).1 ≠ 7 ∧ (injSource (checkerAt checkers 0).1 (checkerAt checkers 0).2 true).isSome = true := by
  decide +kernel

/-- Pair 15 in a state with a pattern since 900 000. -/
def inputs (st : PairSt) (pat : Pattern) (run : Nat) : State :=
  { bound with sio.pairs := [(15, { InPair.reset with st := st, pat := pat, patAt := 900000, demandRun := run })] }
/-- Hold channel 9 in a phase of its brake test; channel 7 energised. -/
def braking (bt : BtPhase) (due : Bool) : State :=
  { bound with sio.chans := [(7, { Chan.reset with energised := true }), (9, { Chan.reset with bt := bt, btStart := 900000, btDue := due, btDueAt := some 1000000 })],
               sio.fbWrong := [(9, 990000)] }
/-- The same with feedback enabled on channel 9. -/
def watched (bt : BtPhase) : State :=
  { braking bt false with sio.body := [(0x480 + 128 * 9 + 36, 1)], sio.feedback := 0x80000 }

theorem wit_safetyInputsAndChannels :
    ((inputs .demand .equal 0).pair 15).pat = .equal ∧ ((inputs .testPending .release 5).pair 15).st = .testPending ∧
    (pairCfg ([] : FMap Byte) 15).topen ≤ 5000000000 ∧ (inputs .release .release 0).rv.mode = .trio ∧
    (pairCfg ([] : FMap Byte) 15).blank = 0 ∧ (∀ k < 15, ((inputs .release .release 0).pair k).st = .unused) ∧
    pairPattern (pairCfg ([] : FMap Byte) 15).pol false false ≠ .release ∧
    (pairCfg ([] : FMap Byte) 15).mode = 0 := by
  decide +kernel

theorem wit_channels :
    ((braking .idle false).chan 7).energised = true ∧ ((braking .idle false).chan 0).energised = false ∧
    mget 0 (watched .idle).sio.fbWrong 9 = 990000 ∧ (chanCfg (watched .idle).sio.body 9).fbEn = true ∧
    mget 0 (watched .idle).sio.fbWrong 0 = 0 ∧ ((braking .apply false).chan 9).bt = .apply ∧ (watched .apply).fbBad 9 = true ∧
    (chanCfg (braking .apply false).sio.body 9).fbEn = false ∧ ((braking .torque false).chan 9).bt = .torque ∧
    ((braking .wait false).chan 9).bt = .wait ∧ ((braking .idle true).chan 9).btDueAt = some 1000000 ∧
    ((braking .idle true).chan 9).btDue = true ∧ bound.conds 0 = false := by decide +kernel

/-- A configuration: produced connection 15 on port 3, period 8 ms; consumed connection 7 of CID 5, VCID 6, port 3, TEXP at most 100 ms. -/
def bscBody : FMap Byte :=
  [(0xB80 + 96, 0x0A), (0xC00 + 64 * 15 + 26, 8), (0xC00 + 64 * 15 + 40, 8), (0x1000 + 64 * 7, 5), (0x1000 + 64 * 7 + 8, 6), (0x1000 + 64 * 7 + 20, 8),
   (0x1000 + 64 * 7 + 24, 100)]
/-- The safe channel with that configuration, port 3 up, one PDU queued where `q`. -/
def safeCh (v : CCon) (q : Bool) (link : BitVec 4) : State :=
  { bound with sio.body := bscBody, bsc.linkUp := link, bsc.ccon := [(7, v)],
               bsc.pcon := [(15, { PCon.reset with queue := if q then [{ bytes := [1, 2], queuedAt := 990000 }] else [] })] }
/-- The consumed connection in RUN after PDU 9. -/
def running : CCon := { CCon.reset with st := .run, last := 9, texp := 100, acceptAt := 990000, rtagSeq := some 4, rtagHist := 1 }

theorem wit_safeChannel :
    ((safeCh running true 8).pcon 15).queue = [{ bytes := [1, 2], queuedAt := 990000 }] ∧ (safeCh running true 8).upPorts 15 = [3] ∧
    (safeCh running true 0).upPorts 15 = [] ∧ (pconCfg (safeCh running true 8).sio.body 15).ports ≠ 0 ∧
    (pconCfg (safeCh running true 8).sio.body 0).ports = 0 ∧ (cconCfg (safeCh running true 8).sio.body 7).ports.getLsbD 3 = true ∧
    (safeCh running true 8).bsc.linkUp.getLsbD 3 = true ∧ 100 ≤ (cconCfg (safeCh running true 8).sio.body 7).texpMax ∧
    ((safeCh .reset true 8).ccon 7).st = .idle ∧ ((9 : W32) + 0x7FFFFFFF - ((safeCh running true 8).ccon 7).last).toNat < 2 ^ 31 ∧
    2 ^ 31 ≤ ((9 : W32) + 0x80000000 - ((safeCh running true 8).ccon 7).last).toNat ∧ 0x43 / 64 % 2 = 1 ∧ 3 / 64 % 2 = 0 ∧
    ((safeCh { running with st := .timeout, goodRun := 1 } true 8).ccon 7).goodRun = 1 ∧
    (safeCh running true 8).ao ≤ running.acceptAt + running.texp * 50000 ∧ 3 ≤ ({ running with badRun := 3 } : CCon).badRun ∧
    beNat (slice 4 8 ([] : List Byte)) ≠ (cconCfg (safeCh running true 8).sio.body 7).cid.toNat ∧
    running.rtagSeq = some 4 ∧ running.rtagHist.getLsbD 0 = true ∧
    beNat (bodyBytes (safeCh running true 8).sio.body (0xB80 + 32 * 3) 4) = 0x0A000000 := by and_intros <;> decide +kernel

/-- Both watchdogs armed; a late task reference. -/
def armed : State :=
  let d : Dog := { st := .run, chal := 7, seed := 9, prev := 990000, tOpen := 5000, tClose := 10000, heldAt := none }
  { bound with sv.rwd := d, sv.hwd := d, rv.privHeld := true, rv.leaseEnd := 9000000, hl.dx := [],
               sv.tasks := [(15, { TaskMon.reset with en := true, stream := 0, hi := 100, refs := [(0, 0, 995000)] })] }

theorem wit_watchdogs :
    armed.sv.rwd.st = .run ∧ armed.sv.rwd.heldAt = none ∧ armed.sv.rwd.prev + armed.sv.rwd.tOpen ≤ 1000000 ∧
    1000000 ≤ armed.sv.rwd.prev + armed.sv.rwd.tClose ∧ (BitVec.ofNat 32 (crc32c (leBytes 4 7 ++ leBytes 16 9))).toNat =
      crc32c (leBytes 4 armed.sv.hwd.chal.toNat ++ leBytes 16 armed.sv.hwd.seed.toNat) ∧
    armed.rv.privHeld = true ∧ armed.ao < armed.rv.leaseEnd ∧ armed.fnLive 0 = true ∧ mget none armed.hl.dx 3 = none ∧
    armed.reaches .porter (.dev 0x30024) = true ∧ ({ armed with dbg.auth := true } : State).dbg.auth = true ∧
    bound.sv.rwd.st = .disarmed ∧ (armed.task 15).refs = [(0, 0, 995000)] ∧ armed.isBound 0 = true ∧
    bound.isBound 5 = false := by decide +kernel

theorem wit_checkValueEngines :
    (∀ e < 8, ∀ o ∈ [0, 8, 0xC, 0x20, 0x2C], regMapped (cvAddr e o) = true ∧ (regRow (cvAddr e o)).isSome = true ∧
      (BitVec.ofNat 24 (cvAddr e o)).toNat = cvAddr e o ∧ up.absentDom (cvAddr e o) = none ∧ up.xpChanges (cvAddr e o) 1 = false) ∧
    bound.cvReserved 0 = true ∧ bound.cvReserved 1 = true ∧ up.cvReserved 1 = false ∧ up.cvSplit 3 = false ∧
    ({ up with regs := [(0x40010 + 12, 1)] } : State).cvSplit 3 = true ∧ regMapped 0x4001C = true ∧ (5 : Nat) ≤ 7 := by decide +kernel

end Sys2Proof.Tests

namespace Sys2Proof.Tests

/-! ## Time, power, key vault, debug -/

/-- The time unit on PTP, port 3 with link and in E2E mode, in a state of synchronisation after `good` and `bad` Syncs. -/
def timed (sync : SyncSt) (slave : Option Nat) (good bad : Nat) : State :=
  { up with bsc.linkUp := 0xF, regs := mput 0 (mput 0 [] 0x5000C 1) 0x5001C 1,
            tm := { TimeUnit.reset with sync := sync, slave := slave, good := good, bad := bad, lastSync := 990000 } }

theorem wit_timeSynchronisation :
    (timed .locking (some 3) 15 0).tm.slave = some 3 ∧ (timed .locking (some 3) 15 0).ptpUp 3 = true ∧
    (timed .locking (some 3) 15 0).ptpSelected 3 = true ∧ (timed .locking (some 3) 15 0).tm.good = 15 ∧
    (timed .locked (some 3) 0 3).tm.bad = 3 ∧ Max.max 1 (bitsOf ((timed .locked (some 3) 0 3).rget 0x50020) 15 0) < (-70000 : Int).natAbs ∧
    (1 : Int).natAbs ≤ Max.max 1 (bitsOf ((timed .locked (some 3) 0 3).rget 0x50020) 15 0) ∧ (timed .freerun none 0 0).tm.slave = none ∧
    (timed .locked (some 3) 0 3).tm.rates = [] ∧ up.ptpUp 3 = false ∧
    bitAt (({ timed .locking (some 3) 0 0 with regs := [(0x5000C, 0x200), (0x5001C, 1)] } : State).rget 0x5000C) 9 = true ∧
    up.dom 0x4F = .on ∧ timeOff.dom 0x4F ≠ .on ∧ 1342177280 < 1000 * ((1340000000 : Int) - 1342177280).natAbs ∧
    regMapped 0x50000 = true ∧ (regRow 0x50000).isSome = true ∧ up.absentDom 0x50000 = none ∧ up.xpChanges 0x50000 4 = false ∧
    ({ up with regs := [(0x5000C, 0)] } : State).tmSrc = 0 ∧ (timed .locked (some 3) 0 3).tmSrc ≠ 0 ∧ regMapped 0x5000C = true ∧ up.xpChanges 0x5000C 3 = false := by decide +kernel

/-- Trigger 15 armed in a mode, its next edge at `x`, its pulse active where `act`; capture 15 on rising edges, one record held. -/
def triggered (mode : Nat) (x : Nat) (act : Bool) : State :=
  { bound with regs := [(0x50200 + 480, BitVec.ofNat 32 mode), (0x50400 + 480, 1)],
               tm := { TimeUnit.reset with trigs := [(15, { Trigger.reset with next := some x, active := act, pulseEnd := 20000100 })],
                                           caps := [(15, { Capture.reset with queue := [⟨999999999, 1, 2, true, false⟩] })] } }

theorem wit_triggersAndCaptures :
    regMapped (0x50200 + 480) = true ∧ (regRow (0x50200 + 480)).isSome = true ∧ bound.absentDom (0x50200 + 480) = none ∧
    bound.xpChanges (0x50200 + 480) 3 = false ∧ ((triggered 1 0 false).trig 15).next = some 0 ∧
    (triggered 1 0 false).tm.at_ ≤ (triggered 1 0 false).ao ∧ (triggered 1 0 false).tm.rate.natAbs ≤ 2147483 ∧
    bitsOf ((triggered 3 0 false).rget (0x50200 + 480)) 1 0 = 3 ∧ bitsOf ((triggered 2 0 false).rget (0x50200 + 480)) 1 0 = 2 ∧
    (triggered 2 0 false).run = some run0 ∧ run0.img.slots[bitsOf ((triggered 2 0 false).rget (0x50200 + 480)) 8 3]? = run0.img.slots[0]? ∧
    run0.img.slots.length ≤ bitsOf ((triggered (2 + 8) 0 false).rget (0x50200 + 480)) 8 3 ∧ ((triggered 1 0 true).trig 15).active = true ∧
    (triggered 1 0 true).dom 0x4F = .on ∧ bitAt ((triggered 1 0 true).rget (0x50400 + 480)) 0 = true ∧
    regMapped (0x50408 + 480) = true ∧ (mget Capture.reset (triggered 1 0 true).tm.caps 15).queue = [⟨999999999, 1, 2, true, false⟩] := by
  decide +kernel

/-- Check-value pairs 2 and 3 requested; the clocks of PCIe and the array without lock; a domain waking. -/
def powered : State :=
  { bound with pm.wake := [(0x53, 1000050)], pm.req := [(0x53, true)], pm.pllBad := 0x22, regs := [(0x6000C, 0xC00)], hl.powered := false }

theorem wit_powerAndVault :
    mget 0 powered.pm.wake 0x53 ≠ 0 ∧ mget 0 powered.pm.wake 0x5A = 0 ∧ powered.dbg.waiting = none ∧ powered.clockRuns .pcie = true ∧
    pllBit .pcie = some 5 ∧ timeOff.clockRuns .ao = true ∧ powered.pm.pllBad &&& 6 ≠ 0 ∧ powered.pm.pllBad.getLsbD 5 = true ∧
    ({ powered with pm.dom := [] } : State).clockRuns .reeve = false ∧
    powered.run = some run0 ∧ powered.pm.hostless = false ∧ powered.hl.powered = false ∧ regMapped 0x6000C = true ∧
    (regRow 0x6000C).isSome = true ∧ powered.absentDom 0x6000C = none ∧ powered.xpChanges 0x6000C 960 = false ∧ powered.rv.stopped = false ∧
    bitAt (powered.rget 0x6000C) 10 = true ∧ bitAt (up.rget 0x6000C) 11 = false ∧
    regMapped 0xD0034 = true ∧ (regRow 0xD0034).isSome = true ∧ up.absentDom 0xD0034 = none ∧ up.kv.attBusy = false ∧
    ({ up with kv.attBusy := true } : State).kv.attBusy = true ∧ (up.src 234).asserted = false ∧
    up.kv.policy.toNat / 4 ^ 3 % 4 = 2 ∧ (sourced 234 .active true).src 234 ≠ .reset := by decide +kernel

/-- A debug session open, with DBGLINK selected, authenticated where `auth`; core A halted where `halted`. -/
def debugging (auth halted : Bool) : State :=
  { up with dbg := { Dbg.reset with ir := 0x10, sessionOpen := true, auth := auth, halted := halted, coreA := if halted then [(2 ^ 32 + 8, some 7)] else [] } }

theorem wit_jtagAndDebugLink :
    up.dev.state ≠ .boot ∧ up.dev.state ≠ .alarm ∧ ({ up with dev.state := .alarm } : State).dev.state = .alarm ∧ up.dev.split = false ∧
    ({ up with dev.split := true } : State).dev.split = true ∧ up.dbg.ir ≠ 0x10 ∧ (debugging false false).dbg.ir = 0x10 ∧
    (debugging false false).dom 0x5A = .on ∧ ({ up with dbg.ir := 0x10, pm.dom := mput .off up.pm.dom 0x5A .off } : State).dom 0x5A = .off ∧
    ({ debugging false false with dbg.waiting := some 0 } : State).dbg.waiting ≠ none ∧ (0xFFFFFFFC : W32).toNat % 4 = 0 ∧ (4 : BitVec 3).toNat ≤ 4 ∧
    (debugging true false).debugMay 0xEFFFC = true ∧ (debugging false false).debugMay 0xA0008 = false ∧ regMapped 0xA0008 = true ∧
    (debugging true false).absentDom 0xA0008 = none ∧ bitAt ((debugging true false).rget 0xE0000) 0 = false ∧
    mget none (debugging true true).dbg.coreA (2 ^ 32 + 8) = some 7 ∧ (debugging true true).dbg.halted = true ∧
    (debugging true true).dbg.forced = false ∧ up.dbg.sessionOpen = false := by decide +kernel

/-- A bench device with a session; the halt of core A pending where `p`. -/
def benched (p halted : Bool) : State :=
  { debugging true halted with dev.bench := true, dbg.haltPend := p, dbg.haltAt := 999990, regs := [(0xE0000, 2)] }

theorem wit_debugControl :
    regMapped 0xE0018 = true ∧ (regRow 0xE0018).isSome = true ∧ (debugging true false).absentDom 0xE0018 = none ∧
    up.xpChanges 0xE0018 1 = false ∧ regMapped (0xE0020 + 28) = true ∧ up.xpChanges (0xE0020 + 28) 5 = false ∧
    (debugging true false).dbg.sessionOpen = true ∧ (debugging true false).dbg.lockEnd = none ∧
    ({ up with dbg.lockEnd := some 2000000 } : State).dbg.lockEnd = some 2000000 ∧ (debugging true false).dom 0x5A = .on ∧
    regMapped 0xE0000 = true ∧ (benched false false).dev.bench = true ∧ up.dev.bench = false ∧ (2 : W32).getLsbD 1 = true ∧
    regMapped 0xE0040 = true ∧ (regRow 0xE0040).isSome = true ∧ up.xpChanges 0xE0040 0x11 = false ∧
    (∀ j < 5, j ≠ 3 → (1 : W32).getLsbD j = decide (j = 0)) ∧ (∀ j < 5, j ≠ 3 → (0x18 : W32).getLsbD j = decide (j = 4)) ∧
    (benched false false).benchOk = true ∧ up.benchOk = false ∧ (benched false true).dbg.halted = true ∧
    (benched true false).dbg.haltPend = true ∧ (benched true false).rv.pause = none ∧
    ({ benched true false with rv.mode := .split } : State).rv.mode = .split := by decide +kernel

theorem wit_coldIsIdle :
    State.reset.dev.state = .cold ∧ State.reset.dev.chipReq = none ∧ State.reset.ldr.phase = .idle ∧ (∀ d < 96, State.reset.dom d ≠ .on) := by
  decide +kernel


theorem wit_safeOutputs :
    (∀ k < 10, (State.reset.chan k).energised = false) ∧ (braking .idle false).dev.state = .run := by decide +kernel

end Sys2Proof.Tests

namespace Sys2Proof.Tests

/-! ## Ill-formed commands -/

theorem wf_link_speed : (Instr.linkUp 6 16 0).wf = false ∧ (Instr.linkUp 0 16 0).wf = false ∧ (Instr.linkUp 5 16 0).wf = true := by
  decide +kernel
theorem wf_link_width : (Instr.linkUp 5 3 0).wf = false ∧ (Instr.linkUp 1 1 0).wf = true := by decide +kernel
theorem wf_temperatures : (Instr.temperatureRead (List.replicate 7 20)).wf = false ∧ (Instr.temperatureRead (List.replicate 8 20)).wf = true := by
  decide +kernel
theorem wf_evidence_empty : (Instr.evidenceWrite 0 0 0 [] false 0).wf = false := by decide +kernel
theorem wf_evidence_long : (Instr.evidenceWrite 0 0 0 (List.replicate 513 0) false 0).wf = false ∧
    (Instr.evidenceWrite 0 0 0 (List.replicate 512 0) false 0).wf = true := by decide +kernel
theorem wf_evidence_past_lane : (Instr.evidenceWrite 0 3 0xFFFFF [1, 2] false 0).wf = false ∧ (Instr.evidenceWrite 0 3 0xFFFFF [1] false 0).wf = true := by
  decide +kernel

/-! ## Values that the spec states -/

/-- "123456789". -/
def digits : List Byte := [0x31, 0x32, 0x33, 0x34, 0x35, 0x36, 0x37, 0x38, 0x39]

/-- R527. -/
theorem test_crc32 : crc32 digits = 0xCBF43926 := by decide +kernel
/-- R275. -/
theorem test_crc16 : crc16 digits = 0x29B1 := by decide +kernel
/-- R101. -/
theorem test_crc64 : crc64 digits = 0x995DC9BBDF1939FA := by decide +kernel
/-- R578 with R488: CRC-32C. -/
theorem test_crc32c : crc32c digits = 0xE3069283 := by decide +kernel
/-- AES-256 (R123) on the example of FIPS 197, appendix C.3. -/
theorem test_aes256 :
    aes256 0x000102030405060708090A0B0C0D0E0F101112131415161718191A1B1C1D1E1F 0x00112233445566778899AABBCCDDEEFF =
      [0x8E, 0xA2, 0xB7, 0xCA, 0x51, 0x67, 0x45, 0xBF, 0xEA, 0xFC, 0x49, 0x90, 0x4B, 0x49, 0x60, 0x89] := by decide +kernel
/-- SHA-384 (R496) of "abc", the example of FIPS 180. -/
theorem test_sha384 :
    beNat (sha384 [0x61, 0x62, 0x63]) = 0xCB00753F45A35E8BB5A03D699AC65007272C32AB0EDED1631A8B605A43FF5BED8086072BA1E7CC2358BAECA134C825A7 := by
  decide +kernel
/-- The draws of R124 in ascending order: with all words 0 from two candidates, both. -/
theorem test_draw_all : drawIndices (fun _ => 0) 2 2 = [0, 1] := by decide +kernel
/-- Reset (R28, R630): COLD, no command, the AO count 0, ERR_S driven low. -/
theorem test_reset : State.reset.dev.state = .cold ∧ State.reset.pending = [] ∧ State.reset.ao = 0 ∧ State.reset.errSLow = true := by
  decide +kernel

end Sys2Proof.Tests
end

section
/-! O35, register writes by access code (R8, R16, R357, R375 to R379, R383): what an access error leaves, where a write of F00
goes, and what it does there. -/

namespace Sys2Proof.Machine
open Sys2Proof

/-! ## Bit fields of words -/

/-- A hardware set leaves its event bit set (R8). -/
theorem bitAt_or_twoPow (w : W32) {b : Nat} (hb : b < 32) : bitAt (w ||| BitVec.ofNat 32 (2 ^ b)) b = true := by
  simp only [bitAt, BitVec.toNat_or, BitVec.toNat_ofNat, Nat.testBit_or, Nat.testBit_mod_two_pow, Nat.testBit_two_pow_self, hb,
    decide_true, Bool.and_self, Bool.or_true]

/-- The bits of a word whose field [hi:lo] is replaced. -/
theorem bitAt_setBits (w : W32) (hi lo v : Nat) {i : Nat} (h : i < 32) :
    bitAt (setBits w hi lo v) i = if lo ≤ i ∧ i ≤ hi then v.testBit (i - lo) else bitAt w i := by
  have hones : (0xFFFFFFFF : Nat).testBit i = true := by
    rw [show (0xFFFFFFFF : Nat) = 2 ^ 32 - 1 from rfl, Nat.testBit_two_pow_sub_one, decide_eq_true h]
  simp only [bitAt, setBits, BitVec.toNat_ofNat, Nat.testBit_mod_two_pow, Nat.testBit_or, Nat.testBit_and, Nat.testBit_xor,
    Nat.testBit_shiftLeft, Nat.testBit_two_pow_sub_one, hones, decide_eq_true h, Bool.true_and]
  by_cases hlo : lo ≤ i
  · by_cases hhi : i ≤ hi
    · simp [hlo, hhi, show i - lo < hi + 1 - lo by omega]
    · simp [hlo, hhi, show ¬ i - lo < hi + 1 - lo by omega]
  · simp [hlo]

/-- A replaced field reads as what replaced it. -/
theorem bitsOf_setBits_same (w : W32) {hi lo : Nat} (v : Nat) (h : hi < 32) :
    bitsOf (setBits w hi lo v) hi lo = v % 2 ^ (hi + 1 - lo) := by
  refine Nat.eq_of_testBit_eq fun i => ?_
  simp only [bitsOf, Nat.testBit_mod_two_pow, Nat.testBit_shiftRight]
  by_cases hi' : i < hi + 1 - lo
  · have hset := bitAt_setBits w hi lo v (i := lo + i) (by omega)
    rw [if_pos (by omega), Nat.add_sub_cancel_left] at hset
    rw [← hset, bitAt]
  · simp [hi']

/-! ## Counts and fields in the register file -/

/-- Raising a 64-bit count (R377). -/
theorem rget64_rinc64 (a k : Nat) (s : State) : (s.rinc64 a k).rget64 a = (s.rget64 a + k) % 2 ^ 64 := by
  simp only [State.rinc64, State.rget64, rget_rset_same]
  rw [rget_rset_ne (by omega), rget_rset_same, BitVec.toNat_ofNat, BitVec.toNat_ofNat]
  omega

theorem rget_rinc64_ne {a b : Nat} (h : b ≠ a) (h' : b ≠ a + 4) (k : Nat) (s : State) :
    (s.rinc64 a k).rget b = s.rget b := by
  rw [State.rinc64, rget_rset_ne h', rget_rset_ne h]

theorem rget64_rset_ne {a b : Nat} (h : a ≠ b) (h' : a + 4 ≠ b) (v : W32) (s : State) :
    (s.rset b v).rget64 a = s.rget64 a := by
  simp only [State.rget64, rget_rset_ne h, rget_rset_ne h']

theorem SameRegs.rget64 {s e : State} (h : SameRegs s e) {a : Nat} (ha : ¬ reactReg a) (ha' : ¬ reactReg (a + 4)) :
    e.rget64 a = s.rget64 a := by
  simp only [State.rget64, h a ha, h (a + 4) ha']

theorem not_reactReg_of_quietReg {a : Nat} (h : quietReg a) : ¬ reactReg a := by
  unfold quietReg at h; unfold reactReg; omega

/-! ## Raises seen from an earlier state -/

/-- What was done before the raise does not matter where it left the sources alone. -/
theorem RaisedIn.of_sameSrc {n : Nat} {s t e : State} (hr : RaisedIn n t e) (h : SameSrc s t) : RaisedIn n s e := by
  simpa only [RaisedIn, src_congr h] using hr

/-- What is done after the raise does not matter where it leaves the sources alone. -/
theorem RaisedIn.then_sameSrc {n : Nat} {s t e : State} (hr : RaisedIn n s t) (h : SameSrc t e) : RaisedIn n s e := by
  simpa only [RaisedIn, src_congr h] using hr

/-- The sources of a discarded write, an access error and a posted write in error are in the fault table. -/
theorem accessSources_listed : ∀ n ∈ [9, 192, 197], (romCfg n).reserved = false := by decide +kernel

/-- No reaction touches the journal. -/
theorem Reacts.journal_eq {s e : State} (h : Reacts s e) : e.vd.journal = s.vd.journal := congrArg (fun t => t.vd.journal) h

/-! ## Access errors (R377) -/

theorem sameSrc_accRec (e : AccErr) (who : Initiator) (off : Nat) (s : State) : SameSrc s (s.accRec e who off) := rfl

/-- The record writes ID_ACCERR, ID_ACCADDR, whose low 24 bits are the offset, and the two words of ID_ACCCNT. -/
theorem accRec_eq (e : AccErr) (who : Initiator) (off : Nat) (s : State) : ∃ n, s.accRec e who off =
    ((s.revt 0x20 e.bit).rset 0x24 (BitVec.ofNat 32 (off % 2 ^ 24 + 2 ^ 24 * n))).rinc64 0x28 1 := by
  obtain ⟨f, hf⟩ : ∃ f, s.accRec e who off =
      ((s.revt 0x20 e.bit).rset 0x24 (BitVec.ofNat 32 (off % 2 ^ 24 + 2 ^ 24 * who.cls + 2 ^ 26 * f))).rinc64 0x28 1 := ⟨_, rfl⟩
  refine ⟨who.cls + 4 * f, ?_⟩
  rw [hf, show off % 2 ^ 24 + 2 ^ 24 * who.cls + 2 ^ 26 * f = off % 2 ^ 24 + 2 ^ 24 * (who.cls + 4 * f) by omega]

@[simp] theorem accRec_dev (e : AccErr) (who : Initiator) (off : Nat) (s : State) : (s.accRec e who off).dev = s.dev := by
  obtain ⟨n, hrec⟩ := accRec_eq e who off s
  simp [hrec]

@[simp] theorem accRec_vd (e : AccErr) (who : Initiator) (off : Nat) (s : State) : (s.accRec e who off).vd = s.vd := by
  obtain ⟨n, hrec⟩ := accRec_eq e who off s
  simp [hrec]

theorem rget_accRec_ne {b : Nat} (h : b ∉ [0x20, 0x24, 0x28, 0x2C]) (e : AccErr) (who : Initiator) (off : Nat) (s : State) :
    (s.accRec e who off).rget b = s.rget b := by
  simp only [List.mem_cons, List.not_mem_nil, or_false, not_or] at h
  obtain ⟨herr, haddr, hlo, hhi⟩ := h
  obtain ⟨n, hrec⟩ := accRec_eq e who off s
  rw [hrec, rget_rinc64_ne hlo hhi, rget_rset_ne haddr, State.revt, rget_rset_ne herr]

theorem bitAt_accRec (e : AccErr) (who : Initiator) (off : Nat) (s : State) :
    bitAt ((s.accRec e who off).rget 0x20) e.bit = true := by
  obtain ⟨n, hrec⟩ := accRec_eq e who off s
  rw [hrec, rget_rinc64_ne (by decide) (by decide), rget_rset_ne (by decide), rget_revt]
  exact bitAt_or_twoPow _ (by cases e <;> decide)

theorem bitsOf_accRec (e : AccErr) (who : Initiator) (off : Nat) (s : State) :
    bitsOf ((s.accRec e who off).rget 0x24) 23 0 = off % 2 ^ 24 := by
  obtain ⟨n, hrec⟩ := accRec_eq e who off s
  rw [hrec, rget_rinc64_ne (by decide) (by decide), rget_rset_same, bitsOf, BitVec.toNat_ofNat, Nat.shiftRight_zero]
  omega

theorem rget64_accRec (e : AccErr) (who : Initiator) (off : Nat) (s : State) :
    (s.accRec e who off).rget64 0x28 = (s.rget64 0x28 + 1) % 2 ^ 64 := by
  obtain ⟨n, hrec⟩ := accRec_eq e who off s
  rw [hrec, rget64_rinc64, rget64_rset_ne (by decide) (by decide), State.revt, rget64_rset_ne (by decide) (by decide)]

theorem sameRegs_accErr (e : AccErr) (who : Initiator) (off : Nat) (write : Bool) (s : State) :
    SameRegs (s.accRec e who off) (s.accErr e who off write) :=
  sameRegs_raiseWith (by decide) _ _ _

theorem raisedIn_accErr {s : State} (hc : s.dev.state ≠ .cold) (e : AccErr) (who : Initiator) (off : Nat) (write : Bool) :
    RaisedIn 192 s (s.accErr e who off write) := by
  have hc' : (s.accRec e who off).dev.state ≠ .cold := by rwa [accRec_dev]
  exact (raisedIn_raiseWith (accessSources_listed 192 (by simp)) hc' _ _).of_sameSrc (sameSrc_accRec e who off s)

/-- What R377 asks of an access error. -/
theorem accessError_accErr {s : State} (hc : s.dev.state ≠ .cold) (e : AccErr) (who : Initiator) (off : Nat) (write : Bool) :
    accessError s (s.accErr e who off write) e.bit off := by
  have hregs := sameRegs_accErr e who off write s
  have hid {a : Nat} (ha : a < 0x10000) : ¬ reactReg a := by unfold reactReg; omega
  refine ⟨?_, ?_, ?_, raisedIn_accErr hc e who off write⟩
  · rw [hregs 0x20 (hid (by decide))]; exact bitAt_accRec e who off s
  · rw [hregs 0x24 (hid (by decide))]; exact bitsOf_accRec e who off s
  · rw [hregs.rget64 (hid (by decide)) (hid (by decide))]; exact rget64_accRec e who off s

theorem rget_accErr_quiet {a : Nat} (hq : quietReg a) (ha : a ∉ [0x20, 0x24, 0x28, 0x2C]) (e : AccErr) (who : Initiator)
    (off : Nat) (write : Bool) (s : State) : (s.accErr e who off write).rget a = s.rget a := by
  rw [sameRegs_accErr e who off write s a (not_reactReg_of_quietReg hq), rget_accRec_ne ha]

/-- An access error from `t` is one from `s`, where `t` has the sources and the error count of `s`. -/
theorem accessError_of_before {s t e : State} {bit off : Nat} (hsrc : SameSrc s t) (hcnt : t.rget64 0x28 = s.rget64 0x28)
    (h : accessError t e bit off) : accessError s e bit off := by
  obtain ⟨hbit, haddr, hinc, hraised⟩ := h
  exact ⟨hbit, haddr, hcnt ▸ hinc, hraised.of_sameSrc hsrc⟩

/-- An access to an absent domain is an access error that names the domain in ID_ACCERR (R379). -/
theorem accessError_absentErr {s : State} (hc : s.dev.state ≠ .cold) (d : Nat) (who : Initiator) (a : Nat) (write : Bool) :
    accessError s (s.absentErr d who a write) 8 (offOf a) ∧ bitsOf ((s.absentErr d who a write).rget 0x20) 7 0 = d % 2 ^ 8 := by
  obtain ⟨hbit, haddr, hinc, hraised⟩ := accessError_accErr hc .absent who (offOf a) write
  unfold State.absentErr State.rfield
  refine ⟨⟨?_, ?_, ?_, hraised.then_sameSrc (sameSrc_rset _ _ _)⟩, ?_⟩
  · rw [rget_rset_same, bitAt_setBits _ _ _ _ (by decide), if_neg (by decide)]; exact hbit
  · rw [rget_rset_ne (by decide)]; exact haddr
  · rw [rget64_rset_ne (by decide) (by decide)]; exact hinc
  · rw [rget_rset_same, bitsOf_setBits_same _ _ (by decide)]

/-! ## Discarded writes (R16, R357) -/

/-- A write discarded under R16 raises FIREWALL and leaves the journal and the registers outside the ID_ block. -/
theorem firewall_discards {s : State} (hc : s.dev.state ≠ .cold) (who : Initiator) (off : Nat) :
    RaisedIn 9 s (s.firewall who off) ∧ (s.firewall who off).vd.journal = s.vd.journal ∧
    ∀ a, quietReg a → a ∉ [0x20, 0x24, 0x28, 0x2C] → (s.firewall who off).rget a = s.rget a := by
  have hc' : (s.accRec .fwall who off).dev.state ≠ .cold := by rwa [accRec_dev]
  have hraised : RaisedIn 9 (s.accRec .fwall who off) (s.firewall who off) :=
    raisedIn_raiseWith (accessSources_listed 9 (by simp)) hc' _ _
  refine ⟨hraised.of_sameSrc (sameSrc_accRec .fwall who off s), ?_, fun a hq ha => ?_⟩
  · have hreacts : Reacts (s.accRec .fwall who off) (s.firewall who off) := reacts_raiseWith ..
    rw [hreacts.journal_eq, accRec_vd]
  · rw [State.firewall, sameRegs_raiseWith (by decide) _ _ _ a (not_reactReg_of_quietReg hq), rget_accRec_ne ha]

/-- A posted write in error is reported through AER (R357); of the quiet registers only ID_LINKEVT takes part. -/
theorem aerUncorr_reports {s : State} (hc : s.dev.state ≠ .cold) (f : Nat) :
    RaisedIn 197 s (s.aerUncorr f) ∧ ∀ a, quietReg a → a ≠ 0x30 → (s.aerUncorr f).rget a = s.rget a := by
  have hraised : RaisedIn 197 (s.revt 0x30 5) (s.aerUncorr f) :=
    raisedIn_raiseU f (accessSources_listed 197 (by simp)) (by rwa [State.revt_dev])
  refine ⟨hraised.of_sameSrc (sameSrc_revt 0x30 5 s), fun a hq ha => ?_⟩
  rw [State.aerUncorr, State.raiseU, sameRegs_raiseWith (by decide) _ _ _ a (not_reactReg_of_quietReg hq), State.revt,
    rget_rset_ne ha]

/-! ## Where a write of F00 goes (R375, R376) -/

theorem reaches_f00_dev {s : State} (hl : s.fnLive 0 = true) {u : BitVec 24} (hu : u.toNat < 0xF0000) :
    s.reaches (.host 0) (.dev u) = true := by
  simp [State.reaches, hl, show u.toNat < 0x800000 by omega]

theorem offOf_dev {a : Nat} (ha : a < 0xF0000) : offOf a = a := if_neg (by omega)

theorem silentArea_dev {a : Nat} (ha : a < 0xF0000) : silentArea a = false := by
  simp [silentArea, show ¬ 0x100000000 ≤ a by omega, show ¬ 0xF0000 ≤ a by omega, show ¬ 0x400000 ≤ a by omega]

/-- An aligned write of one word goes to the register. -/
theorem regWrite_f00_word {s : State} (hl : s.fnLive 0 = true) {u : BitVec 24} (hu : u.toNat < 0xF0000) (h4 : u.toNat % 4 = 0)
    (v : W64) : s.regWrite (.host 0) (.dev u) 4 v false = s.writeMapped (.host 0) u.toNat (v.setWidth 32) := by
  simp [State.regWrite, State.writeWord, regAt, reaches_f00_dev hl hu, h4, silentArea_dev hu, Initiator.num]

theorem put_f00 {s : State} (hl : s.fnLive 0 = true) {u : BitVec 24} (hu : u.toNat < 0xF0000) (h4 : u.toNat % 4 = 0) (w : W32) :
    s.put (.host 0) (.dev u) w = s.writeMapped (.host 0) u.toNat w := by
  rw [State.put, regWrite_f00_word hl hu h4, BitVec.setWidth_setWidth_of_le w (by decide), BitVec.setWidth_eq]

theorem regWrite_f00_size {s : State} (hl : s.fnLive 0 = true) {u : BitVec 24} (hu : u.toNat < 0xF0000) {len : Nat}
    (h4 : len ≠ 4) (h8 : len ≠ 8) (v : W64) :
    s.regWrite (.host 0) (.dev u) len v false = s.accErr .size (.host 0) u.toNat true := by
  simp [State.regWrite, regAt, reaches_f00_dev hl hu, h4, h8, offOf_dev hu]

theorem regWrite_f00_bad {s : State} (hl : s.fnLive 0 = true) {u : BitVec 24} (hu : u.toNat < 0xF0000) (len : Nat) (v : W64) :
    s.regWrite (.host 0) (.dev u) len v true = s.aerUncorr 0 := by
  simp [State.regWrite, reaches_f00_dev hl hu]

/-! ## What a mapped write does -/

/-- Outside block 3 no pair takes part in a write. -/
theorem ne_dxToken {a : Nat} (h3 : a / 0x10000 ≠ 3) : a ≠ dxToken ∧ a ≠ dxToken + 0x8000 := by
  unfold dxToken; omega

/-- R16: a register of a safety-domain block that no write may act on. -/
theorem writeMapped_firewall {a : Nat} (h3 : a / 0x10000 ≠ 3) (hcopy : copiesBlock a = true) (hw : regWritable a = false)
    (who : Initiator) (w : W32) (s : State) : s.writeMapped who a w = s.firewall who (offOf a) := by
  simp [State.writeMapped, ne_dxToken h3, h3, hcopy, hw]

theorem writeMapped_unmapped {a : Nat} (h3 : a / 0x10000 ≠ 3) (hcopy : copiesBlock a = false) (hm : regMapped a = false)
    (who : Initiator) (w : W32) (s : State) : s.writeMapped who a w = s.accErr .unmap who (offOf a) true := by
  simp [State.writeMapped, ne_dxToken h3, h3, hcopy, hm]

theorem writeMapped_absent {a d : Nat} {s : State} (h3 : a / 0x10000 ≠ 3) (hcopy : copiesBlock a = false)
    (hm : regMapped a = true) (hd : s.absentDom a = some d) (who : Initiator) (w : W32) :
    s.writeMapped who a w = s.absentErr d who a true := by
  simp [State.writeMapped, ne_dxToken h3, h3, hcopy, hm, hd]

/-- A writable register of the blocks whose writes go by the access codes alone: ID_, SG_, VD_, PL_ and ST_. -/
def PlainReg (a : Nat) : Prop := a / 0x10000 ∈ [0, 9, 10, 11, 12] ∧ regWritable a = true ∧ maxMask a = none

theorem PlainReg.block {a : Nat} (hp : PlainReg a) :
    a / 0x10000 = 0 ∨ a / 0x10000 = 9 ∨ a / 0x10000 = 10 ∨ a / 0x10000 = 11 ∨ a / 0x10000 = 12 := by
  simpa using hp.1

/-- No write acts on ID_ACCADDR or ID_ACCCNT. -/
theorem PlainReg.not_record {a : Nat} (hp : PlainReg a) : a ∉ [0x24, 0x28, 0x2C] := by
  obtain ⟨_, hw, _⟩ := hp
  intro hmem
  have hro : ∀ b ∈ [0x24, 0x28, 0x2C], regWritable b = false := by decide
  rw [hro a hmem] at hw
  cases hw

/-- The write is accepted, and reported where it changes an XP field outside test-unlock. -/
theorem writeMapped_plain {a : Nat} (hp : PlainReg a) {s : State} (hm : regMapped a = true) (hd : s.absentDom a = none)
    (who : Initiator) (w : W32) : s.writeMapped who a w =
      if s.xpChanges a w && !s.testUnlock then (s.regEffect who a w).accErr .xpchg who (offOf a) true
      else s.regEffect who a w := by
  have hblk := hp.block
  have h3 : a / 0x10000 ≠ 3 := by omega
  have h4 : a / 0x10000 ≠ 4 := by omega
  have hdb : a ≠ 0xE0000 := by omega
  obtain ⟨_, hw, hx⟩ := hp
  simp [State.writeMapped, ne_dxToken h3, h3, hw, hm, hd, hdb, hx, State.cvDiscards, h4]

theorem regEffect_plain {a : Nat} (hp : PlainReg a) (who : Initiator) (w : W32) (s : State) : s.regEffect who a w =
    if (snapSet a).isEmpty then s.regStore a w
    else if bitAt w 0 then (s.regStore a w).snapNow a else s.regStore a w := by
  have hblk := hp.block
  have hfn : ¬ 0x100000000 ≤ a := by omega
  have hown : a ≠ 0x10010 ∧ a ≠ 0x1000C ∧ a ≠ 0x6000C ∧ a ≠ 0xD0034 := by omega
  have hcode : a / 0x10000 ≠ 4 ∧ a / 0x10000 ≠ 5 ∧ a / 0x10000 ≠ 14 := by omega
  simp [State.regEffect, hfn, hown, hcode]

/-- What a register holds after a write by the access codes (R8): RW and XP bits as written, W1C bits written with 1 cleared. -/
def RegRow.stored (r : RegRow) (x w : W32) : W32 :=
  ((x &&& ~~~(BitVec.ofNat 32 (r.rw ||| r.xp))) ||| (w &&& BitVec.ofNat 32 (r.rw ||| r.xp))) &&& ~~~(w &&& BitVec.ofNat 32 r.w1c)

theorem regStore_eq {a : Nat} {r : RegRow} (hr : regRow a = some r) (w : W32) (s : State) :
    s.regStore a w = s.rset a (r.stored (s.rget a) w) := by
  simp [State.regStore, hr, RegRow.stored]

/-- From `s` to `e` register `a` took the value `x` and nothing else changed. -/
def OnlyReg (s : State) (a : Nat) (x : W32) (e : State) : Prop :=
  e = { s with regs := e.regs } ∧ e.rget a = x ∧ ∀ b, b ≠ a → e.rget b = s.rget b

theorem onlyReg_rset (a : Nat) (x : W32) (s : State) : OnlyReg s a x (s.rset a x) :=
  ⟨rfl, rget_rset_same a x s, fun _ hb => rget_rset_ne hb x s⟩

/-! ## Snapshots (R383) -/

/-- What a fold of writes leaves at a key. -/
theorem mget_foldl_mput {α : Type} [DecidableEq α] (d g : Nat → α) (b : Nat) (l : List Nat) (m : FMap α) :
    mget (d b) (l.foldl (fun m a => mput (d a) m a (g a)) m) b = if b ∈ l then g b else mget (d b) m b := by
  induction l generalizing m with
  | nil => simp
  | cons a t ih =>
    rw [List.foldl_cons, ih]
    by_cases hb : b = a
    · subst hb; simp
    · rw [mget_mput_other _ _ m (g a) hb]; simp [hb]

theorem mget_snapNow {ctl b : Nat} (hb : b ∈ snapSet ctl) (s : State) :
    mget (regReset b) (s.snapNow ctl).hl.snap b = s.regLive b := by
  rw [State.snapNow, mget_foldl_mput regReset s.regLive, if_pos hb]

/-! ## The commands -/

/-- A command that acts outside COLD. -/
theorem completes_act {i : Instr} {f : State → State} {s : State} {P : State → Prop} (hi : exec i s = s.act f)
    (hc : s.dev.state ≠ .cold) (h : P (f s)) : Completes i s P :=
  ⟨f s, by rw [hi, State.act, if_neg hc, done_eq], h⟩

theorem completes_registerWrite {s : State} (hc : s.dev.state ≠ .cold) {who : Initiator} {p : RegAddr} {len : Fin 65} {v : W64}
    {bad : Bool} {P : State → Prop} (h : P (s.regWrite who p len.val v bad)) :
    Completes (.registerWrite who p len v bad) s P :=
  completes_act (f := State.regWrite who p len.val v bad) rfl hc h

theorem completes_w1cWrite {s : State} (hc : s.dev.state ≠ .cold) {who : Initiator} {p : RegAddr} {r : RegRow} {w : W32}
    {P : State → Prop} (hr : regRow (regAt p) = some r) (hw1c : r.w1c ≠ 0) (h : P (s.put who p w)) :
    Completes (.w1cWrite who p w) s P := by
  refine completes_act rfl hc ?_
  simpa [hr, hw1c, State.onlyIf] using h

theorem completes_snapshot {s : State} (hc : s.dev.state ≠ .cold) {who : Initiator} {p : RegAddr} {w : W32} {P : State → Prop}
    (hsnap : snapSet (regAt p) ≠ []) (hbit : bitAt w 0 = true) (h : P (s.put who p w)) :
    Completes (.snapshot who p w) s P := by
  refine completes_act rfl hc ?_
  simpa [hsnap, hbit, State.onlyIf] using h

/-! ## Writes by access code -/

/-- A write that changes no XP field leaves the register as the access codes have it, and nothing else. -/
theorem onlyReg_writeMapped {a : Nat} {r : RegRow} {s : State} {w : W32} (hp : PlainReg a) (hm : regMapped a = true)
    (hr : regRow a = some r) (hd : s.absentDom a = none) (hsnap : snapSet a = []) (hsame : s.xpChanges a w = false)
    (who : Initiator) : OnlyReg s a (r.stored (s.rget a) w) (s.writeMapped who a w) := by
  have heff : s.writeMapped who a w = s.rset a (r.stored (s.rget a) w) := by
    simp [writeMapped_plain hp hm hd, regEffect_plain hp, hsame, hsnap, regStore_eq hr]
  rw [heff]
  exact onlyReg_rset _ _ _

/-- A change of an XP field outside test-unlock takes effect and is reported. -/
theorem accessError_writeMapped_xp {a : Nat} {r : RegRow} {s : State} {w : W32} (hc : s.dev.state ≠ .cold) (hp : PlainReg a)
    (hm : regMapped a = true) (hr : regRow a = some r) (hd : s.absentDom a = none) (ha : a < 0xF0000) (hsnap : snapSet a = [])
    (hchg : s.xpChanges a w = true) (hlock : s.testUnlock = false) (hacc : a ≠ 0x20) (who : Initiator) :
    accessError s (s.writeMapped who a w) 12 a ∧ (quietReg a → (s.writeMapped who a w).rget a = r.stored (s.rget a) w) := by
  have heff : s.writeMapped who a w = (s.rset a (r.stored (s.rget a) w)).accErr .xpchg who a true := by
    simp [writeMapped_plain hp hm hd, regEffect_plain hp, hchg, hlock, hsnap, regStore_eq hr, offOf_dev ha]
  have hrec := hp.not_record
  have hcnt : 0x28 ≠ a ∧ 0x28 + 4 ≠ a := ⟨fun h => hrec (by simp [← h]), fun h => hrec (by simp [← h])⟩
  have hc' : (s.rset a (r.stored (s.rget a) w)).dev.state ≠ .cold := by rwa [State.rset_dev]
  rw [heff]
  refine ⟨accessError_of_before (sameSrc_rset _ _ s) (rget64_rset_ne hcnt.1 hcnt.2 _ s) (accessError_accErr hc' .xpchg who a true),
    fun hq => ?_⟩
  rw [rget_accErr_quiet hq (by simpa [hacc] using hrec), rget_rset_same]

/-- SNAP written with 1 stores the control register and captures the block's registers. -/
theorem snapshot_writeMapped {a : Nat} {r : RegRow} {s : State} {w : W32} (hp : PlainReg a) (hm : regMapped a = true)
    (hr : regRow a = some r) (hd : s.absentDom a = none) (hsnap : snapSet a ≠ []) (hsame : s.xpChanges a w = false)
    (hbit : bitAt w 0 = true) (who : Initiator) :
    s.writeMapped who a w = (s.rset a (r.stored (s.rget a) w)).snapNow a := by
  simp [writeMapped_plain hp hm hd, regEffect_plain hp, hsame, hsnap, hbit, regStore_eq hr]

/-! ## Accesses outside the plain registers -/

theorem absentDom_timeUnit {s : State} {a : Nat} (h5 : a / 0x10000 = 5) (hoff : s.dom 0x4F = .off) :
    s.absentDom a = some 0x4F := by
  have hfn : ¬ 0x100000000 ≤ a := by omega
  have htile : inTileWindow a = false := by simp [inTileWindow, show ¬ 0x100000 ≤ a by omega]
  simp [State.absentDom, State.regDom, hfn, htile, h5, hoff]

theorem copiesBlock_block {a : Nat} (h : copiesBlock a = true) : a / 0x10000 ∈ [1, 2, 3, 6, 7, 8, 10, 13] := by
  simpa using (Bool.and_eq_true_iff.1 h).2

theorem copiesBlock_ne_three {a : Nat} (h : copiesBlock a = false) : a / 0x10000 ≠ 3 := by
  intro h3
  simp [copiesBlock, h3, show a < 0x100000 by omega] at h

/-- No safety-domain register holds an access error's record. -/
theorem copiesBlock_not_record {a : Nat} (h : copiesBlock a = true) : a ∉ [0x20, 0x24, 0x28, 0x2C] := by
  have hblk := copiesBlock_block h
  intro hmem
  simp only [List.mem_cons, List.not_mem_nil, or_false] at hblk hmem
  omega

/-- Settles O35: each clause is the place where `State.writeMapped` or `State.regWrite` sends the write, with the lemma above that
says what is done there. -/
theorem registerWrites : Obligations.RegisterWrites := by
  unfold Obligations.RegisterWrites
  intro s o r v len hreach
  obtain ⟨hc, hl, ho, h4, hm, hr, hd, -⟩ := hreach
  have hword (u : BitVec 24) (hu : u.toNat < 0xF0000) (hu4 : u.toNat % 4 = 0) (hlen : len.val = 4) :
      s.regWrite (.host 0) (.dev u) len.val v false = s.writeMapped (.host 0) u.toNat (v.setWidth 32) := by
    rw [hlen]; exact regWrite_f00_word hl hu hu4 v
  refine ⟨?code, ?w1c, ?xp, ?snap, ?fwall, ?size, ?bad, ?unmap, ?absent⟩
  case code =>
    intro hp hsnap hsame hlen
    refine completes_registerWrite hc ?_
    rw [hword o ho h4 hlen]
    exact onlyReg_writeMapped hp hm hr hd hsnap hsame _
  case w1c =>
    intro hp hsnap hsame hw1c
    refine completes_w1cWrite hc hr hw1c ?_
    rw [put_f00 hl ho h4]
    exact onlyReg_writeMapped hp hm hr hd hsnap hsame _
  case xp =>
    intro hp hsnap hchg hlock hacc hlen
    refine completes_registerWrite hc ?_
    rw [hword o ho h4 hlen]
    obtain ⟨herr, hval⟩ := accessError_writeMapped_xp hc hp hm hr hd ho hsnap hchg hlock hacc (.host 0)
    exact ⟨herr, fun hq _ _ _ => hval hq⟩
  case snap =>
    intro hp hsnap hsame hbit
    refine completes_snapshot hc hsnap hbit ?_
    rw [put_f00 hl ho h4, snapshot_writeMapped hp hm hr hd hsnap hsame hbit]
    exact ⟨_, onlyReg_rset _ _ s, rfl, fun b hb => mget_snapNow hb _⟩
  case fwall =>
    intro hcopy hw hlen h3
    refine completes_registerWrite hc ?_
    rw [hword o ho h4 hlen, writeMapped_firewall h3 hcopy hw]
    obtain ⟨hraised, hjournal, hregs⟩ := firewall_discards hc (.host 0) (offOf o.toNat)
    exact ⟨hraised, hjournal, fun hq => hregs _ hq (copiesBlock_not_record hcopy)⟩
  case size =>
    intro hlen4 hlen8
    refine completes_registerWrite hc ?_
    rw [regWrite_f00_size hl ho hlen4 hlen8]
    exact accessError_accErr hc .size _ _ _
  case bad =>
    refine completes_registerWrite hc ?_
    rw [regWrite_f00_bad hl ho]
    obtain ⟨hraised, hregs⟩ := aerUncorr_reports hc 0
    exact ⟨hraised, hregs _⟩
  case unmap =>
    intro u hu4 hu hum hcopy _ hlen
    refine completes_registerWrite hc ?_
    rw [hword u hu hu4 hlen, writeMapped_unmapped (copiesBlock_ne_three hcopy) hcopy hum, offOf_dev hu]
    exact accessError_accErr hc .unmap _ _ _
  case absent =>
    intro u h5 hum hu4 hoff hlen
    have hu : u.toNat < 0xF0000 := by omega
    have hcopy : copiesBlock u.toNat = false := by simp [copiesBlock, h5]
    refine completes_registerWrite hc ?_
    rw [hword u hu hu4 hlen,
      writeMapped_absent (by omega) hcopy hum (absentDom_timeUnit h5 hoff)]
    have herr := accessError_absentErr hc 0x4F (.host 0) u.toNat true
    rwa [offOf_dev hu] at herr

end Sys2Proof.Machine
end

section
/-! What a step keeps (O58, O59): the AO count at or above a bound, the queue, and the safe outputs (R29). The rules for a change
of a channel and of the device's state; every other change leaves what is watched as it was. -/

namespace Sys2Proof.Machine
open Sys2Proof

variable {T : Nat → Prop} {b s e : State} {m : Nat}

/-- What the AO count, the queue and the safe outputs are told from. -/
abbrev State.watch (s : State) : Nat × List Instr × DevState × Bool × FMap Chan :=
  (s.ao, s.pending, s.dev.state, s.dev.blackout, s.sio.chans)

/-- From `b` to `e` the AO count has come to satisfy `T`, the queue is as it was, and safe outputs have stayed safe. -/
structure Keeps (T : Nat → Prop) (b e : State) : Prop where
  time : T e.ao
  queue : e.pending = b.pending
  safe : safeOutputs b → safeOutputs e

theorem Keeps.start (ht : T b.ao) : Keeps T b b := ⟨ht, rfl, id⟩

/-- What changes no watched field keeps everything. -/
theorem Keeps.upd (h : Keeps T b s) (hw : e.watch = s.watch) : Keeps T b e := by
  obtain ⟨htime, hqueue, hsafe⟩ := h
  simp only [State.watch, Prod.mk.injEq] at hw
  obtain ⟨hao, hpend, hst, hbl, hch⟩ := hw
  refine ⟨hao ▸ htime, hpend ▸ hqueue, fun hb => ?_⟩
  have hs := hsafe hb
  unfold safeOutputs State.chan at hs ⊢
  rwa [hst, hbl, hch]

theorem Keeps.ite {c : Prop} [Decidable c] {x y : State} (hx : Keeps T b x) (hy : Keeps T b y) :
    Keeps T b (if c then x else y) := by
  split <;> assumption

theorem Keeps.iteSnd {α : Type} {c : Prop} [Decidable c] {x y : α × State} (hx : Keeps T b x.2) (hy : Keeps T b y.2) :
    Keeps T b (if c then x else y).2 := by
  split <;> assumption

theorem Keeps.iteReply {c : Prop} [Decidable c] {x y : Nat × Nat × State} (hx : Keeps T b x.2.2)
    (hy : Keeps T b y.2.2) : Keeps T b (if c then x else y).2.2 := by
  split <;> assumption

theorem Keeps.forAll {α : Type} {l : List α} {f : α → State → State} (hf : ∀ a t, Keeps T b t → Keeps T b (f a t))
    (h : Keeps T b s) : Keeps T b (forAll l f s) :=
  forAll_keeps (Keeps T b) f hf l s h

/-! ## Channels -/

/-- A channel set without being energised. -/
theorem Keeps.setChan {k : Nat} {c : Chan} (h : Keeps T b s)
    (hc : c.energised = true → (s.chan k).energised = true) : Keeps T b (s.setChan k c) := by
  refine ⟨h.time, h.queue, fun hb hrun hdeg hmis hblk j hj => ?_⟩
  have hs := h.safe hb hrun hdeg hmis hblk
  rw [State.chan_setChan]
  split
  · next heq => rw [heq] at hj; exact Bool.eq_false_iff.2 fun hon => absurd (hc hon) (by rw [hs k hj]; decide)
  · exact hs j hj

theorem Keeps.driveOff {k : Nat} (h : Keeps T b s) : Keeps T b (s.drive k false) :=
  .upd (.setChan (k := k) (c := { s.chan k with energised := false, cmdAt := s.ao }) h (by simp)) rfl

/-- A device state in which some channel may be energised is one that R29 excepts. -/
theorem not_conds_of_safe {k : Nat} (hrun : s.dev.state ≠ .run) (hdeg : s.dev.state ≠ .degraded)
    (hmis : s.dev.state ≠ .mismatchHold) : s.conds k = false := by
  have hdev : s.condDev (chanCfg s.sio.body k) = false := by
    unfold State.condDev
    split
    · exact absurd ‹_› hrun
    · exact absurd ‹_› hdeg
    · exact absurd ‹_› hmis
    · rfl
  simp [State.conds, hdev]

/-- A channel whose conditions hold is driven in a state that R29 excepts. -/
theorem Keeps.driveOn {k : Nat} (h : Keeps T b s) (hc : s.conds k = true) : Keeps T b (s.drive k true) :=
  ⟨h.time, h.queue, fun _ hrun hdeg hmis _ => absurd hc (by simp [not_conds_of_safe (s := s) hrun hdeg hmis])⟩

theorem Keeps.btStop {k : Nat} (h : Keeps T b s) : Keeps T b (s.btStop k) :=
  .upd (.setChan (k := k) (c := { s.chan k with bt := .idle }) h id) rfl

theorem Keeps.evalChan {k : Nat} (h : Keeps T b s) : Keeps T b (s.evalChan k) := by
  unfold State.evalChan
  extract_lets c ch s1
  have h1 : Keeps T b s1 := .ite h.driveOff h
  split
  · exact .ite h.driveOff h
  · split
    · next hc => exact .ite (h.driveOn hc) h
    · exact .ite h1.btStop h1

theorem Keeps.evalChans (h : Keeps T b s) : Keeps T b s.evalChans := .forAll (fun _ _ => .evalChan) h

/-- Outside the states that R29 excepts. -/
def Unexcepted (s : State) : Prop :=
  s.dev.state ≠ .run ∧ s.dev.state ≠ .degraded ∧ s.dev.state ≠ .mismatchHold ∧
    ¬ (s.dev.state = .planLoad ∧ s.dev.blackout = true)

theorem chan_drive (k j : Nat) (on : Bool) (s : State) :
    (s.drive k on).chan j = if j = k then { s.chan k with energised := on, cmdAt := s.ao } else s.chan j :=
  State.chan_setChan k j { s.chan k with energised := on, cmdAt := s.ao } s

theorem chan_btStop (k j : Nat) (s : State) :
    (s.btStop k).chan j = if j = k then { s.chan k with bt := .idle } else s.chan j :=
  State.chan_setChan k j { s.chan k with bt := .idle } s

@[simp] theorem dev_drive (k : Nat) (on : Bool) (s : State) : (s.drive k on).dev = s.dev := rfl
@[simp] theorem dev_btStop (k : Nat) (s : State) : (s.btStop k).dev = s.dev := rfl

theorem dev_evalChan (k : Nat) (s : State) : (s.evalChan k).dev = s.dev := by
  unfold State.evalChan
  dsimp only
  split
  · split <;> rfl
  · split
    · split <;> rfl
    · split <;> split <;> rfl

/-- There the evaluation of a channel leaves it off, and every other channel as it was. -/
theorem energised_evalChan (hu : Unexcepted s) (k j : Nat) :
    ((s.evalChan k).chan j).energised = if j = k then false else (s.chan j).energised := by
  obtain ⟨hrun, hdeg, hmis, hblk⟩ := hu
  have hblk' : (s.dev.state == .planLoad && s.dev.blackout) = false := by simpa using hblk
  unfold State.evalChan
  extract_lets c ch s1
  have h1 (i : Nat) : (s1.chan i).energised = if i = k then false else (s.chan i).energised := by
    by_cases hch : ch.energised = true
    · rw [show s1 = s.drive k false from if_pos hch, chan_drive]; split <;> rfl
    · rw [show s1 = s from if_neg hch]
      split
      · next heq => rw [heq]; simpa using hch
      · rfl
  rw [hblk', not_conds_of_safe hrun hdeg hmis, if_neg (by decide), if_neg (by decide), ← h1 j]
  split
  · rw [chan_btStop]
    split
    · next heq => rw [heq]
    · rfl
  · rfl

/-- Where evaluations end outside the excepted states, they began there, and the channels evaluated are off with those that
were. -/
theorem energised_forAll_evalChan (l : List Nat) (s : State) (hu : Unexcepted (forAll l State.evalChan s)) :
    Unexcepted s ∧ ∀ j, j ∈ l ∨ (s.chan j).energised = false →
      ((forAll l State.evalChan s).chan j).energised = false := by
  induction l generalizing s with
  | nil => exact ⟨hu, fun j hj => hj.resolve_left (by simp)⟩
  | cons k t ih =>
    obtain ⟨hk, hoff⟩ := ih (s.evalChan k) hu
    have hs : Unexcepted s := by unfold Unexcepted at hk ⊢; rwa [dev_evalChan] at hk
    refine ⟨hs, fun j hj => hoff j ?_⟩
    rw [energised_evalChan hs]
    by_cases hjk : j = k <;> simp_all

/-- The evaluation of every channel leaves the outputs safe. -/
theorem safeOutputs_evalChans (s : State) : safeOutputs s.evalChans := by
  unfold State.evalChans
  intro hrun hdeg hmis hblk j hj
  exact (energised_forAll_evalChan _ s ⟨hrun, hdeg, hmis, hblk⟩).2 j (.inl (List.mem_range.2 hj))

/-- An evaluation of every channel makes good what was done since `t`. -/
theorem Keeps.settled {t : State} (h : Keeps T t e) (hq : t.pending = b.pending) : Keeps T b e.evalChans := by
  have he := h.evalChans
  exact ⟨he.time, he.queue.trans hq, fun _ => safeOutputs_evalChans e⟩

/-- Time only goes forward. -/
theorem Keeps.advance {t : Nat} (h : Keeps (m ≤ ·) b s) : Keeps (m ≤ ·) b (s.advance t) := by
  refine ⟨?_, h.queue, h.safe⟩
  have ht := h.time
  unfold State.advance
  dsimp only at ht ⊢
  split <;> omega

theorem Reacts.ao (h : Reacts s e) : e.ao = s.ao := congrArg (fun t => t.ao) h
theorem Reacts.pending (h : Reacts s e) : e.pending = s.pending := congrArg (fun t => t.pending) h

/-- With every channel de-energised the outputs are safe in every state. -/
theorem Keeps.off (h : Keeps T b s) (hao : e.ao = s.ao) (hq : e.pending = s.pending)
    (hoff : ∀ k, k < 10 → (e.chan k).energised = false) : Keeps T b e :=
  ⟨hao ▸ h.time, hq.trans h.queue, fun _ _ _ _ _ => hoff⟩

/-- In the states that R29 excepts nothing is asked of the outputs. -/
theorem Keeps.excepted (h : Keeps T b s) (hao : e.ao = s.ao) (hq : e.pending = s.pending) (hx : ¬ Unexcepted e) :
    Keeps T b e :=
  ⟨hao ▸ h.time, hq.trans h.queue, fun _ hrun hdeg hmis hblk => absurd ⟨hrun, hdeg, hmis, hblk⟩ hx⟩

/-- An evaluation of every channel makes good what a reaction did. -/
theorem Keeps.reacted (h : Keeps T b s) (hr : Reacts s e) : Keeps T b e.evalChans :=
  .settled (t := e) (.start (hr.ao ▸ h.time)) (hr.pending.trans h.queue)

/-! ## Changes of the device's state -/

theorem Keeps.msix {f v : Nat} (h : Keeps T b s) : Keeps T b (s.msix f v) := .ite (.upd h rfl) (.upd h rfl)
theorem Keeps.fnEvt {f v : Nat} (h : Keeps T b s) : Keeps T b (s.fnEvt f v) := .msix (.upd h rfl)
theorem Keeps.fnEvtAll {v : Nat} (h : Keeps T b s) : Keeps T b (s.fnEvtAll v) := .forAll (fun _ _ => .fnEvt) h

theorem watch_msix (f v : Nat) (s : State) : (s.msix f v).watch = s.watch := by unfold State.msix; dsimp only; split <;> rfl
theorem watch_fnEvtAll (v : Nat) (s : State) : (s.fnEvtAll v).watch = s.watch :=
  forAll_const State.watch _ (fun f t => watch_msix f 2 (t.revt (fnAddr f 0x10) v)) _ s

/-- The device takes state `d`; of what is watched nothing else changes. -/
theorem watch_devTo (d : DevState) (s : State) : (s.devTo d).watch = { s with dev.state := d }.watch := by
  unfold State.devTo
  split
  · next heq => rw [← heq]
  · exact watch_fnEvtAll 0 _

theorem devTo_state (d : DevState) (s : State) : (s.devTo d).dev.state = d :=
  congrArg (fun w => w.2.2.1) (watch_devTo d s)

/-- The device moves to a state in which channels may be energised. -/
theorem Keeps.devTo {d : DevState} (h : Keeps T b s) (hd : d = .run ∨ d = .degraded ∨ d = .mismatchHold) :
    Keeps T b (s.devTo d) := by
  refine h.excepted (reacts_devTo d s).ao (reacts_devTo d s).pending fun hu => ?_
  obtain ⟨hrun, hdeg, hmis, -⟩ := hu
  rw [devTo_state] at hrun hdeg hmis
  tauto

/-- The device leaves a state in which no channel is energised. -/
theorem Keeps.devFrom {d : DevState} (h : Keeps T b s) (hu : Unexcepted s) : Keeps T b (s.devTo d) := by
  obtain ⟨hrun, hdeg, hmis, hblk⟩ := hu
  refine .upd (s := { s with dev.state := d }) ⟨h.time, h.queue, fun hb _ _ _ _ => ?_⟩ (watch_devTo d s)
  exact h.safe hb hrun hdeg hmis hblk

theorem Keeps.startCount (h : Keeps T b s) : Keeps T b s.startCount := by
  unfold State.startCount
  split
  · exact h
  · exact .upd h rfl

theorem Keeps.degrade {f : Degr → Degr} (h : Keeps T b s) : Keeps T b (s.degrade f) := by
  unfold State.degrade
  extract_lets _ s1
  have h1 : Keeps T b s1 := .upd h rfl
  split
  · exact .evalChans (.startCount (.devTo h1 (by simp)))
  · exact .startCount h1
  · exact h1

theorem Keeps.undegrade {f : Degr → Degr} (h : Keeps T b s) : Keeps T b (s.undegrade f) := by
  unfold State.undegrade
  extract_lets _ s1
  have h1 : Keeps T b s1 := .upd h rfl
  split
  · exact .ite h1 (.evalChans (.upd (.devTo h1 (by simp)) rfl))
  · exact h1

theorem Keeps.holdAll {f : StreamV → StreamV} (h : Keeps T b s) : Keeps T b (s.holdAll f) :=
  .forAll (fun _ _ h => .upd h rfl) h
theorem Keeps.endPriv (h : Keeps T b s) : Keeps T b s.endPriv := .ite (.upd h rfl) h

theorem Keeps.domsOn {l : List Nat} (h : Keeps T b s) : Keeps T b (s.domsOn l) := .forAll (fun _ _ h => .upd h rfl) h

theorem Keeps.wakeDom {d : Nat} (h : Keeps T b s) : Keeps T b (s.wakeDom d) := by
  unfold State.wakeDom
  extract_lets _ s1
  have h1 : Keeps T b s1 := .upd h rfl
  split
  · exact h1
  · exact .upd h1 rfl
  · exact .ite h1 (.upd h1 rfl)

theorem Keeps.ownDom {d : Nat} {want : Bool} (h : Keeps T b s) : Keeps T b (s.ownDom d want) :=
  .ite (.wakeDom h) (.ite h (.upd h rfl))
theorem Keeps.ownDoms (h : Keeps T b s) : Keeps T b s.ownDoms := .forAll (fun _ _ => .ownDom) (.ownDom h)

theorem Keeps.finishTag {t status detail : Nat} (h : Keeps T b s) : Keeps T b (s.finishTag t status detail) := by
  unfold State.finishTag
  split
  · exact .upd h rfl
  · exact h

theorem Keeps.planEvt (h : Keeps T b s) : Keeps T b s.planEvt := .fnEvtAll h

theorem Keeps.planDomsOff (h : Keeps T b s) : Keeps T b s.planDomsOff := by
  unfold State.planDomsOff
  extract_lets s1 s2 s3
  have h1 : Keeps T b s1 := .forAll (fun _ _ h => .ite (.upd h rfl) (.upd h rfl)) h
  have h2 : Keeps T b s2 := .forAll (fun _ _ h => .upd h rfl) h1
  have h3 : Keeps T b s3 := .upd h2 (by simp [s3, State.watch])
  clear_value s3
  exact .ownDoms (.upd h3 rfl)

theorem Keeps.abandonSwitch (h : Keeps T b s) : Keeps T b s.abandonSwitch := by
  unfold State.abandonSwitch
  split
  · extract_lets s1
    have h1 : Keeps T b s1 := by dsimp only [s1]; split; exacts [.finishTag h, h]
    exact .planEvt (.planDomsOff (.upd h1 rfl))
  · exact h

theorem Keeps.enterSafeHold {src : Option Nat} (h : Keeps T b s) : Keeps T b (s.enterSafeHold src) := by
  unfold State.enterSafeHold
  split
  · exact .reacted h.abandonSwitch ((((reacts_heldDev _ _).trans (reacts_devTo _ _)).trans (reacts_holdAll _ _)).trans
      (reacts_endPriv _))
  · exact h

theorem Keeps.enterAlarm (h : Keeps T b s) : Keeps T b s.enterAlarm := by
  unfold State.enterAlarm
  split
  · exact h
  · exact h
  · exact .reacted h.abandonSwitch ((((reacts_heldDev _ _).trans (reacts_devTo _ _)).trans (reacts_holdAll _ _)).trans
      (reacts_endPriv _))

theorem Keeps.enterMismatch_held (h : Keeps T b s) :
    let t := { s.abandonSwitch with dev.blackout := false, dev.bootHealthy := false }
    let u := ((t.devTo .mismatchHold).holdAll (fun v => { v with hMismatch := true })).endPriv
    Keeps T b (if u.dev.degr.any then u.startCount else u).evalChans := by
  intro t u
  have hr : Reacts t (t.devTo .mismatchHold) := reacts_devTo _ _
  have hu : Keeps T (t.devTo .mismatchHold) u := .endPriv (.holdAll (.start (hr.ao ▸ h.abandonSwitch.time)))
  exact .settled (.ite (.startCount hu) hu) (hr.pending.trans h.abandonSwitch.queue)

theorem Keeps.enterMismatch (h : Keeps T b s) : Keeps T b s.enterMismatch := by
  unfold State.enterMismatch
  split
  · exact h.enterMismatch_held
  · exact h.enterMismatch_held
  · exact h.enterMismatch_held
  · exact h.enterMismatch_held
  · exact h

end Sys2Proof.Machine
end

section
/-! What a step keeps (O58, O59): each operation of the model, in the order of its definitions, keeps what it found. -/

namespace Sys2Proof.Machine
open Sys2Proof

variable {T : Nat → Prop} {b s e : State} {m : Nat}

/-! ## Registers, free values, interrupt vectors -/

theorem Keeps.rset {a : Nat} {v : W32} (h : Keeps T b s) : Keeps T b (s.rset a v) := .upd h rfl
theorem Keeps.rfield {a hi lo v : Nat} (h : Keeps T b s) : Keeps T b (s.rfield a hi lo v) := .rset h
theorem Keeps.revt {a b' : Nat} (h : Keeps T b s) : Keeps T b (s.revt a b') := .rset h
theorem Keeps.rincSat {a hi lo k : Nat} (h : Keeps T b s) : Keeps T b (s.rincSat a hi lo k) := .rfield h
theorem Keeps.rinc64 {a k : Nat} (h : Keeps T b s) : Keeps T b (s.rinc64 a k) := .rset (.rset h)
theorem Keeps.rset64 {a v : Nat} (h : Keeps T b s) : Keeps T b (s.rset64 a v) := .rset (.rset h)
theorem Keeps.rmax {a hi lo v : Nat} (h : Keeps T b s) : Keeps T b (s.rmax a hi lo v) := .ite (.rfield h) h
theorem Keeps.tickFree (h : Keeps T b s) : Keeps T b s.tickFree := .upd h rfl
theorem Keeps.rsetFree {a mx : Nat} (h : Keeps T b s) : Keeps T b (s.rsetFree a mx) := .upd h rfl
theorem Keeps.rmaxFree {a mx : Nat} (h : Keeps T b s) : Keeps T b (s.rmaxFree a mx) := .upd h rfl
theorem Keeps.emit {e : OutEv} (h : Keeps T b s) : Keeps T b (s.emit e) := .upd h rfl
theorem Keeps.releaseDom {d : Nat} (h : Keeps T b s) : Keeps T b (s.releaseDom d) := .upd h rfl
theorem Keeps.quadOff {q : Nat} (h : Keeps T b s) : Keeps T b (s.quadOff q) := .upd h rfl
theorem Keeps.setTag {t : Nat} {c : Option Tag} (h : Keeps T b s) : Keeps T b (s.setTag t c) := .upd h rfl

theorem Keeps.tagInfo {t v : Nat} (h : Keeps T b s) : Keeps T b (s.tagInfo t v) := by
  unfold State.tagInfo
  split
  · exact .setTag h
  · exact h

theorem Keeps.stopPlan (h : Keeps T b s) : Keeps T b s.stopPlan := .upd h rfl

/-! ## Raising a fault source and its reactions -/

theorem Keeps.setSrc {n : Nat} {v : SrcState} (h : Keeps T b s) : Keeps T b (s.setSrc n v) := .upd h rfl
theorem Keeps.setGs {n : Nat} {g : GateS} (h : Keeps T b s) : Keeps T b (s.setGs n g) := .upd h rfl
theorem Keeps.setStream {n : Nat} {v : StreamV} (h : Keeps T b s) : Keeps T b (s.setStream n v) := .upd h rfl
theorem Keeps.fbWatch {k : Nat} (h : Keeps T b s) : Keeps T b (s.fbWatch k) := .upd h rfl
theorem Keeps.errPRaise (h : Keeps T b s) : Keeps T b s.errPRaise := .ite (.upd h rfl) (.ite (.upd h rfl) (.upd h rfl))
theorem Keeps.errPFall (h : Keeps T b s) : Keeps T b s.errPFall := .upd h rfl
theorem Keeps.capture {n : Nat} {c : Cap} (h : Keeps T b s) : Keeps T b (s.capture n c) :=
  .ite (.rincSat h) (.rset64 (.rset (.rset (.rset h))))
theorem Keeps.trip {n mask : Nat} (h : Keeps T b s) : Keeps T b (s.trip n mask) :=
  .evalChans (.rmaxFree (.revt (.rset (.rset h))))
theorem Keeps.dropMask {mask : Nat} (h : Keeps T b s) : Keeps T b (s.dropMask mask) :=
  .forAll (fun _ _ h => .ite (.driveOff h) h) h

theorem Keeps.blockReset {n : Nat} (h : Keeps T b s) : Keeps T b (s.blockReset n) := by
  unfold State.blockReset
  split
  · exact .upd h rfl
  · split
    · refine .forAll (fun _ _ h => ?_) h
      split
      · exact .ite (.setGs h) h
      · exact h
    · exact .ite (.upd h rfl) (.ite (.upd h rfl) (.ite (.ite h (.upd h rfl)) h))

theorem Keeps.react {n : Nat} (h : Keeps T b s) : Keeps T b (s.react n) := by
  unfold State.react
  extract_lets _ s1 _ _ _ s2 _ s3 s4 s5 s6 s7 s8
  have h1 : Keeps T b s1 := .rinc64 h
  have h2 : Keeps T b s2 := .ite (.msix (.revt h1)) h1
  have h3 : Keeps T b s3 := .ite (.upd h2 rfl) h2
  have h4 : Keeps T b s4 := .ite (.errPRaise h3) h3
  have h5 : Keeps T b s5 := .ite (.trip (.dropMask h4)) h4
  have h6 : Keeps T b s6 := .ite (.trip (.enterSafeHold h5)) h5
  have h7 : Keeps T b s7 := .ite (.trip (.enterAlarm h6)) h6
  have h8 : Keeps T b s8 := .ite (.blockReset h7) h7
  exact .ite (.upd h8 rfl) h8

theorem Keeps.raiseWith {n : Nat} {level : Bool} {c : Cap} (h : Keeps T b s) : Keeps T b (s.raiseWith n level c) := by
  unfold State.raiseWith
  split
  · exact h
  · extract_lets _ _ _ s1 s2
    have h1 : Keeps T b s1 := .capture h
    have h2 : Keeps T b s2 := .setSrc h1
    split
    · exact .evalChans (.react h2)
    · exact .setSrc h1
    · exact .setSrc h1
    · exact .setSrc h1

theorem Keeps.raise {n : Nat} (h : Keeps T b s) : Keeps T b (s.raise n) := .raiseWith h
theorem Keeps.raiseU {n u : Nat} (h : Keeps T b s) : Keeps T b (s.raiseU n u) := .raiseWith h
theorem Keeps.raiseLevel {n u : Nat} (h : Keeps T b s) : Keeps T b (s.raiseLevel n u) := .ite h (.raiseWith h)
theorem Keeps.deassert {n : Nat} (h : Keeps T b s) : Keeps T b (s.deassert n) :=
  .ite (.ite (.revt (.setSrc h)) (.setSrc h)) (.setSrc h)
theorem Keeps.lower {n : Nat} (h : Keeps T b s) : Keeps T b (s.lower n) := .ite (.deassert h) h

/-! ## The verdict journal -/

theorem Keeps.setPcon {c : Nat} {p : PCon} (h : Keeps T b s) : Keeps T b (s.setPcon c p) := .upd h rfl

theorem Keeps.formPdu {c kind : Nat} {payload : List Byte} (h : Keeps T b s) :
    Keeps T b (s.formPdu c kind payload) :=
  .setPcon h

theorem Keeps.queuePdu {r : JRec} (h : Keeps T b s) : Keeps T b (s.queuePdu r) := by
  unfold State.queuePdu
  split
  · exact h
  · exact .ite h (.forAll (fun _ _ h => .ite (.formPdu h) h) h)

theorem Keeps.overwrite (h : Keeps T b s) : Keeps T b s.overwrite := by
  unfold State.overwrite
  split
  · exact h
  · exact .ite (.upd h rfl) h

theorem Keeps.journal {r : JRec} (h : Keeps T b s) : Keeps T b (s.journal r) := by
  unfold State.journal
  extract_lets _ _ s1 _ s2 s3 s4 s5 s6
  have h1 : Keeps T b s1 := .overwrite h
  have h2 : Keeps T b s2 := .upd h1 rfl
  have h3 : Keeps T b s3 := .ite (.msix h2) h2
  have h4 : Keeps T b s4 := by
    dsimp only [s4]
    split
    · exact .rinc64 h3
    · exact h3
  have h5 : Keeps T b s5 := .ite (.revt h4) h4
  have h6 : Keeps T b s6 := .ite (.raiseU (.revt h5)) h5
  exact .queuePdu h6

theorem Keeps.putStream {n : Nat} {v : StreamV} (h : Keeps T b s) : Keeps T b (s.putStream n v) := by
  unfold State.putStream
  extract_lets _ s1 s2
  have h1 : Keeps T b s1 := .setStream h
  have h2 : Keeps T b s2 := .ite (.raiseU (.revt h1)) h1
  exact .ite h2 (.evalChans h2)

theorem Keeps.settle {n : Nat} (h : Keeps T b s) : Keeps T b (s.settle n) := by
  unfold State.settle
  extract_lets
  split
  · exact h
  · split
    · exact .putStream h
    · exact h

theorem Keeps.holdSet {n : Nat} {f : StreamV → StreamV} (h : Keeps T b s) : Keeps T b (s.holdSet n f) :=
  .ite (.settle (.putStream h)) (.putStream h)

theorem Keeps.correct {kind n : Nat} {rs : List JRec} {newv tile : Nat} (h : Keeps T b s) :
    Keeps T b (s.correct kind n rs newv tile) := by
  unfold State.correct
  split
  · exact .journal (.ite h (.putStream h))
  · exact h

theorem Keeps.standing54 {n since : Nat} (h : Keeps T b s) : Keeps T b (s.standing54 n since) := .correct h
theorem Keeps.tileRange {tile ref : Nat} (h : Keeps T b s) : Keeps T b (s.tileRange tile ref) :=
  .forAll (fun _ _ => .correct) h

/-! ## Verdicts, quarantines, disagreements -/

theorem Keeps.setTile {t : Nat} {v : TileSt} (h : Keeps T b s) : Keeps T b (s.setTile t v) := .upd h rfl

theorem Keeps.quarState {t cause : Nat} (h : Keeps T b s) : Keeps T b (s.quarState t cause) := by
  unfold State.quarState
  extract_lets _ _ _ _ s1 _ _ s2 s3 s4
  have h1 : Keeps T b s1 := .setTile h
  have h2 : Keeps T b s2 := .upd h1 rfl
  have h3 : Keeps T b s3 := .upd h2 rfl
  have h4 : Keeps T b s4 := .raiseU (.revt h3)
  split
  · exact h
  · exact h
  · exact h
  · exact .ite (.degrade (.raiseU h4)) h4

theorem Keeps.flushRange (h : Keeps T b s) : Keeps T b s.flushRange := by
  unfold State.flushRange
  extract_lets _ _ s1
  have h1 : Keeps T b s1 := .upd h rfl
  refine .forAll (fun _ _ h => ?_) h1
  split
  · exact .tileRange h
  · exact h

theorem Keeps.setFrame {f : Frame} (h : Keeps T b s) : Keeps T b (s.setFrame f) := .upd h rfl
theorem Keeps.setCommit {c : Commit} (h : Keeps T b s) : Keeps T b (s.setCommit c) := .upd h rfl
theorem Keeps.freeBufs {bs : List Nat} (h : Keeps T b s) : Keeps T b (s.freeBufs bs) := .upd h rfl

theorem Keeps.dropEvidence {n : Nat} {fwd : Option Nat} (h : Keeps T b s) : Keeps T b (s.dropEvidence n fwd) := by
  unfold State.dropEvidence
  split
  · exact h
  · exact .upd h rfl

theorem Keeps.releaseFrame {f : Frame} (h : Keeps T b s) : Keeps T b (s.releaseFrame f) := .setFrame (.freeBufs h)
theorem Keeps.setDis {i : Nat} {d : DisSlot} (h : Keeps T b s) : Keeps T b (s.setDis i d) := .upd h rfl

theorem Keeps.unkeep {n jseq : Nat} (h : Keeps T b s) : Keeps T b (s.unkeep n jseq) := by
  unfold State.unkeep
  split
  · exact .setFrame h
  · exact h

theorem Keeps.closeRec {n jseq kind tile : Nat} (h : Keeps T b s) : Keeps T b (s.closeRec n jseq kind tile) :=
  .journal h

theorem Keeps.closeDis {i outcome : Nat} {tiles : List Nat} (h : Keeps T b s) :
    Keeps T b (s.closeDis i outcome tiles) := by
  unfold State.closeDis
  extract_lets _ _ s1 s2 s3 s4 s5
  have h1 : Keeps T b s1 := .setDis h
  have h2 : Keeps T b s2 := .unkeep h1
  have h3 : Keeps T b s3 := .ite (.forAll (fun _ _ => .quarState) h2) h2
  have h4 : Keeps T b s4 := .closeRec h3
  have h5 : Keeps T b s5 := .raiseU (.revt h4)
  exact .ite (.correct h5) (.ite (.revt h4) h4)

theorem Keeps.pollDis {i : Nat} (h : Keeps T b s) : Keeps T b (s.pollDis i) := by
  unfold State.pollDis
  exact .ite h (.ite (.closeDis h) (.ite (.ite (.closeDis h) (.ite (.closeDis h) (.closeDis h))) h))

theorem Keeps.pollAll (h : Keeps T b s) : Keeps T b s.pollAll := .flushRange (.forAll (fun _ _ => .pollDis) h)
theorem Keeps.quarantine {t cause : Nat} (h : Keeps T b s) : Keeps T b (s.quarantine t cause) := .pollAll (.quarState h)
theorem Keeps.queueReveal {r : Reveal} (h : Keeps T b s) : Keeps T b (s.queueReveal r) := .upd h rfl

theorem Keeps.reReveal {n fwd layer : Nat} {p0 : Bool} (h : Keeps T b s) : Keeps T b (s.reReveal n fwd layer p0) := by
  unfold State.reReveal
  split
  · exact .queueReveal (.setCommit h)
  · exact h

theorem Keeps.openDis {p : PStream} {f : Frame} {assay jseq : Nat} (h : Keeps T b s) :
    Keeps T b (s.openDis p f assay jseq) := by
  unfold State.openDis
  split
  · exact h
  · extract_lets _ _ _ _ _ _ _ _ _ s1 s2 s3
    have h1 : Keeps T b s1 := .setDis h
    have h2 : Keeps T b s2 := .forAll (fun _ _ => .setTile) h1
    have h3 : Keeps T b s3 := .ite (.reReveal h2) h2
    exact .pollAll h3

theorem Keeps.closeEvidence {f : Frame} (h : Keeps T b s) : Keeps T b (s.closeEvidence f) := .upd h rfl

theorem Keeps.formWith {p : PStream} {f : Frame} {code reason : Nat} (h : Keeps T b s) :
    Keeps T b (s.formWith p f code reason) := by
  unfold State.formWith
  extract_lets _ _ _ _ dec _ _ _ s1 s2 _ _ _ _ _ s3 _ s4 s5 s6
  have h1 : Keeps T b s1 := .putStream h
  have h2 : Keeps T b s2 := .ite (.revt h1) h1
  have h3 : Keeps T b s3 := .journal h2
  have h4 : Keeps T b s4 := .ite (.setStream h3) h3
  have h6 : Keeps T b s6 := .closeEvidence (.setFrame h4)
  clear_value dec
  split
  · exact .ite (.openDis h6) (.revt (.closeRec h6))
  · exact h6

theorem Keeps.form {f : Frame} (h : Keeps T b s) : Keeps T b (s.form f) := by
  unfold State.form
  split
  · exact .formWith h
  · exact h

theorem Keeps.formIfReady {f : Frame} (h : Keeps T b s) : Keeps T b (s.formIfReady f) := .ite (.form h) h
theorem Keeps.formReady (h : Keeps T b s) : Keeps T b s.formReady :=
  .forAll (fun _ _ h => .forAll (fun _ _ => .formIfReady) h) h
theorem Keeps.quarantineForm {t cause : Nat} (h : Keeps T b s) : Keeps T b (s.quarantineForm t cause) :=
  .formReady (.quarantine h)
theorem Keeps.dropGolden {f : Frame} (h : Keeps T b s) : Keeps T b (s.dropGolden f) := .dropEvidence (.upd h rfl)

theorem Keeps.judgeGolden {p : PStream} {f : Frame} {inTol : Bool} (h : Keeps T b s) :
    Keeps T b (s.judgeGolden p f inTol) := by
  unfold State.judgeGolden
  extract_lets _ _ s1
  have h1 : Keeps T b s1 := .setStream h
  split
  · exact h
  · exact .dropGolden (.setStream h)
  · exact .dropGolden (.ite h1 (.standing54 h1))

theorem Keeps.lateViolation {f : Frame} (h : Keeps T b s) : Keeps T b (s.lateViolation f) := by
  unfold State.lateViolation
  split
  · exact .ite (.correct (.setFrame h)) h
  · exact h

/-! ## Operands of tile instructions -/

theorem Keeps.setCtx {t c : Nat} {x : CtxSt} (h : Keeps T b s) : Keeps T b (s.setCtx t c x) := .setTile h
theorem Keeps.ctxUpd {t c : Nat} {f : CtxSt → CtxSt} (h : Keeps T b s) : Keeps T b (s.ctxUpd t c f) := .setCtx h
theorem Keeps.setTwin {t w : Nat} {x : Twin} (h : Keeps T b s) : Keeps T b (s.setTwin t w x) := .setTile h
theorem Keeps.planted {t ea : Nat} (h : Keeps T b s) : Keeps T b (s.planted t ea) := .ite (.upd h rfl) h
theorem Keeps.bounds {t c : Nat} (h : Keeps T b s) : Keeps T b (s.bounds t c) :=
  .formReady (.forAll (fun _ _ => .setFrame) (.raiseU (.revt (.setCtx h))))

theorem Keeps.illegal {t c w why : Nat} (h : Keeps T b s) : Keeps T b (s.illegal t c w why) := by
  unfold State.illegal
  exact .quarantineForm (.raiseU (.ite (.revt (.setCtx h)) (.rset (.rset64 (.revt (.setCtx h))))))

theorem Keeps.eccDone {t : Nat} {e : EccOut} (h : Keeps T b s) : Keeps T b (s.eccDone t e) := by
  unfold State.eccDone
  split
  · exact h
  · exact .raiseU (.revt (.rinc64 h))
  · exact .quarantineForm (.raiseU (.revt h))

theorem Keeps.eccMark {t a : Nat} {e : EccOut} (h : Keeps T b s) : Keeps T b (s.eccMark t a e) := by
  unfold State.eccMark
  split
  · exact .setTile h
  · exact h

theorem Keeps.residue {t : Nat} {ok : Bool} (h : Keeps T b s) : Keeps T b (s.residue t ok) :=
  .ite h (.quarantineForm (.raiseU (.revt h)))

theorem Keeps.memOp {t c : Nat} {p : PCtx} {bank ar : Nat} {disp : Int} {ecc : EccOut} {f : Nat → State → State}
    (hf : ∀ a t, Keeps T b t → Keeps T b (f a t)) (h : Keeps T b s) :
    Keeps T b (s.memOp t c p bank ar disp ecc f) := by
  unfold State.memOp
  split
  · exact .bounds h
  · exact .eccDone (hf _ _ (.eccMark h))

theorem Keeps.traceEntry {t c w halted : Nat} (h : Keeps T b s) : Keeps T b (s.traceEntry t c w halted) := .upd h rfl
theorem Keeps.trace {t c w halted : Nat} (h : Keeps T b s) : Keeps T b (s.trace t c w halted) := .ite (.traceEntry h) h

theorem Keeps.issue {t c w : Nat} {eff : PCtx → State → State} (heff : ∀ a t, Keeps T b t → Keeps T b (eff a t))
    (h : Keeps T b s) :
    Keeps T b (s.issue t c w eff) := by
  unfold State.issue
  split
  · split
    · exact heff _ _ (.trace h)
    · exact .illegal (.trace h)
    · exact h
  · exact h

/-! ## Input pairs and safety configurations -/

theorem Keeps.setPair {n : Nat} {p : InPair} (h : Keeps T b s) : Keeps T b (s.setPair n p) := .upd h rfl
theorem Keeps.evalHolds (h : Keeps T b s) : Keeps T b s.evalHolds := .forAll (fun _ _ h => .ite h (.holdSet h)) h

theorem Keeps.inputRestart {k since : Nat} (h : Keeps T b s) : Keeps T b (s.inputRestart k since) := by
  unfold State.inputRestart
  extract_lets d
  refine .ite (.forAll (fun c t ht => ?_) h) h
  dsimp only
  split
  · next hg => exact ht.driveOn hg.2.2.2
  · exact ht

theorem Keeps.brakeFail {h' last : Nat} (h : Keeps T b s) : Keeps T b (s.brakeFail h' last) :=
  .evalChans (.raiseU (.revt (.setChan (.btStop h) id)))
theorem Keeps.standstillLost {n : Nat} (h : Keeps T b s) : Keeps T b (s.standstillLost n) :=
  .forAll (fun _ _ h => .ite (.brakeFail h) h) h

theorem Keeps.pairTo {n : Nat} {st : PairSt} (h : Keeps T b s) : Keeps T b (s.pairTo n st) := by
  unfold State.pairTo
  extract_lets _ s1 s2 s3 s4 s5
  have h1 : Keeps T b s1 := .setPair h
  have h2 : Keeps T b s2 := .ite (.raiseLevel h1) (.lower h1)
  have h3 : Keeps T b s3 := .ite (.standstillLost (.revt h2)) h2
  have h4 : Keeps T b s4 := .ite (.revt h3) h3
  have h5 : Keeps T b s5 := .evalChans (.evalHolds h4)
  exact .ite h (.ite (.inputRestart h5) h5)

theorem Keeps.evalPair {n : Nat} (h : Keeps T b s) : Keeps T b (s.evalPair n) := by
  unfold State.evalPair
  extract_lets
  split
  · exact h
  · exact .ite (.pairTo h) h
  · exact .ite (.pairTo h) (.ite (.pairTo h) h)
  · exact .ite (.pairTo h) h
  · exact .ite (.pairTo h) (.ite (.pairTo h) h)

theorem Keeps.adoptPair {n : Nat} (h : Keeps T b s) : Keeps T b (s.adoptPair n) := .ite h (.setPair h)
theorem Keeps.evalPairs (h : Keeps T b s) : Keeps T b s.evalPairs := .forAll (fun _ _ h => .evalPair (.adoptPair h)) h
theorem Keeps.startTests (h : Keeps T b s) : Keeps T b s.startTests := .forAll (fun _ _ h => .ite (.pairTo h) h) h
theorem Keeps.unwrapKey (h : Keeps T b s) : Keeps T b s.unwrapKey :=
  .ite (.upd h rfl) (.ite (.upd h rfl) (.revt (.upd h rfl)))

theorem Keeps.takeCfg {b' : FMap Byte} (h : Keeps T b s) : Keeps T b (s.takeCfg b') := by
  unfold State.takeCfg
  extract_lets _ _ _ _ _ s1 _ s2 s3
  have h1 : Keeps T b s1 := .upd h rfl
  have h2 : Keeps T b s2 := .forAll (fun _ _ h => .ite (.lower (.setPair h)) (.ite (.lower (.setPair h)) h)) h1
  have h3 : Keeps T b s3 := by
    refine .forAll (fun k t ht => .ite ?_ ht) h2
    extract_lets t1 t2
    have ht1 : Keeps T b t1 := .ite ht.driveOff ht
    have ht2 : Keeps T b t2 := .ite ht1.btStop ht1
    exact .ite (.setChan ht2 id) ht2
  exact .ownDoms (.evalChans (.evalHolds (.unwrapKey (.revt h3))))

/-! ## Frame buffers -/

theorem Keeps.nobuf {a u : Nat} (h : Keeps T b s) : Keeps T b (s.nobuf a u) := .raiseU (.revt (.rincSat h))

theorem Keeps.reserve {n : Nat} (h : Keeps T b s) : Keeps T b (s.reserve n) := by
  unfold State.reserve
  split
  · exact h
  · extract_lets
    split
    · exact h
    · split
      · exact .upd h rfl
      · exact .nobuf (.setGs h)

theorem Keeps.reserveAgain (h : Keeps T b s) : Keeps T b s.reserveAgain := .forAll (fun _ _ h => .ite (.reserve h) h) h
theorem Keeps.kaBegin {p : PStream} {k t : Nat} (h : Keeps T b s) : Keeps T b (s.kaBegin p k t) := .setGs h
theorem Keeps.dropFrame {n cause : Nat} (h : Keeps T b s) : Keeps T b (s.dropFrame n cause) :=
  .ite (.rincSat (.revt (.rincSat (.setGs h)))) (.revt (.rincSat (.setGs h)))
theorem Keeps.taint {f : Frame} {cause : Nat} (h : Keeps T b s) : Keeps T b (s.taint f cause) := .setFrame h

theorem Keeps.markTainted {src : Nat} {f : Frame} (h : Keeps T b s) : Keeps T b (s.markTainted src f) := by
  unfold State.markTainted
  extract_lets _ s1
  have h1 : Keeps T b s1 := .setFrame h
  split
  · exact h
  · exact .raiseU (.revt (.rincSat (.setGs h1)))

/-! ## Refusing, starting and switching plans -/

theorem Keeps.loaderIdle (h : Keeps T b s) : Keeps T b s.loaderIdle := .upd h rfl

theorem Keeps.loadTag {status detail : Nat} (h : Keeps T b s) : Keeps T b (s.loadTag status detail) := by
  unfold State.loadTag
  split
  · extract_lets s1
    have h1 : Keeps T b s1 := by
      dsimp only [s1]
      split
      · exact h
      · exact .tagInfo h
      · exact h
    exact .finishTag h1
  · exact h

theorem Keeps.planRefuse {code sec : Nat} (h : Keeps T b s) : Keeps T b (s.planRefuse code sec) := by
  unfold State.planRefuse
  exact .loaderIdle (.raise (.revt (.ite (.upd (.loadTag h) rfl) (.rsetFree (.upd (.loadTag h) rfl)))))

theorem Keeps.rearm (h : Keeps T b s) : Keeps T b s.rearm := by
  unfold State.rearm
  split
  · split
    · exact .ite h (.upd h rfl)
    · exact .planRefuse (.revt h)
  · exact h

theorem Keeps.placeTile {i : PlanImage} {l t : Nat} (h : Keeps T b s) : Keeps T b (s.placeTile i l t) := by
  unfold State.placeTile
  split
  · exact h
  · exact .rfield (.domsOn (.setTile h))

theorem Keeps.streamStart {keep : Bool} {i : PlanImage} {p : PStream} (h : Keeps T b s) :
    Keeps T b (s.streamStart keep i p) :=
  .upd h rfl

theorem Keeps.drawKey (h : Keeps T b s) : Keeps T b s.drawKey := .upd h rfl
theorem Keeps.enterRun (h : Keeps T b s) : Keeps T b s.enterRun :=
  .ite (.startCount (.devTo h (by simp))) (.upd (.devTo h (by simp)) rfl)
theorem Keeps.brakeFirst (h : Keeps T b s) : Keeps T b s.brakeFirst := .forAll (fun _ _ h => .ite (.setChan h id) h) h
theorem Keeps.installGate {i : PlanImage} (h : Keeps T b s) : Keeps T b (s.installGate i) := .upd h rfl

theorem Keeps.startPlan {i : PlanImage} {place : List Nat} {routes : List PRoute} {old : Option PlanImage} (h :
    Keeps T b s) :
    Keeps T b (s.startPlan i place routes old) := by
  unfold State.startPlan
  extract_lets _ s1 s2 s3 s4 s5 _ _ _ _ s6 s7 s8 s9 _ s10 s11 s12 _ _ s13
  have h1 : Keeps T b s1 := .upd h rfl
  have h2 : Keeps T b s2 := .forAll (fun _ _ h => .ite (.upd h rfl) h) h1
  have h3 : Keeps T b s3 := .stopPlan h2
  have h4 : Keeps T b s4 := .upd h3 rfl
  have h5 : Keeps T b s5 := .forAll (fun _ _ => .placeTile) h4
  have h6 : Keeps T b s6 := .upd h5 rfl
  have h7 : Keeps T b s7 := .forAll (fun _ _ => .streamStart) h6
  have h8 : Keeps T b s8 := .forAll (fun _ _ => .reserve) h7
  have h9 : Keeps T b s9 := .forAll (fun _ _ => .releaseDom) h8
  have h10 : Keeps T b s10 := .ite (.upd h9 rfl) h9
  have h11 : Keeps T b s11 := .domsOn (.domsOn (.domsOn h10))
  have h12 : Keeps T b s12 := .installGate h11
  have h13 : Keeps T b s13 := .upd h12 rfl
  exact .planEvt (.loaderIdle (.ownDoms h13))

theorem Keeps.doubtAll (h : Keeps T b s) : Keeps T b s.doubtAll := by
  unfold State.doubtAll
  refine .forAll (fun _ _ h => .forAll (fun _ _ h => ?_) h) h
  split
  · exact .formWith (.setFrame h)
  · exact h

theorem Keeps.boundaryB (h : Keeps T b s) : Keeps T b s.boundaryB := by
  unfold State.boundaryB
  extract_lets _ s1 s2 s3 s4 _ _ s5 _ _ s6
  have h2 : Keeps T b s2 := .doubtAll (.upd h rfl)
  have h3 : Keeps T b s3 := .forAll (fun _ _ h => .ite (.closeDis h) h) h2
  have h4 : Keeps T b s4 := .flushRange h3
  clear_value s4
  have h6 : Keeps T b s6 := .upd (s := s5) (.upd h4 rfl) rfl
  clear_value s6
  have hb : Keeps T b { s6.devTo .planLoad with dev.blackout := true } :=
    .excepted h6 (reacts_devTo .planLoad s6).ao (reacts_devTo .planLoad s6).pending
      (fun hu => hu.2.2.2 ⟨devTo_state .planLoad s6, rfl⟩)
  split
  · exact hb
  · exact hb
  · exact h6

/-! ## Resets and the start-up sequence -/

/-- COLD begins the AO count at 0, with every channel de-energised. -/
theorem Keeps.coldBase (h0 : T 0) (hq : s.pending = b.pending) : Keeps T b s.coldBase :=
  ⟨h0, hq, fun _ _ _ _ _ _ _ => rfl⟩

theorem Keeps.chipBase {cause : Option Nat} (h : Keeps T b s) : Keeps T b (s.chipBase cause) :=
  .off h rfl rfl (fun _ _ => rfl)
theorem Keeps.lossOf (h : Keeps T b s) : Keeps T b s.lossOf := .ite (.raise h) (.upd h rfl)
theorem Keeps.retire {c : Nat} {why : CoreSt} (h : Keeps T b s) : Keeps T b (s.retire c why) :=
  .ite h (.degrade (.lossOf (.raise (.revt (.upd h rfl)))))

theorem Keeps.voterOutcome {prim shad : BitVec 6} {runtime : Bool} (h : Keeps T b s) :
    Keeps T b (s.voterOutcome prim shad runtime) := by
  unfold State.voterOutcome
  extract_lets s1 _ _ _ _ s2
  have h1 : Keeps T b s1 := .rset h
  have h2 : Keeps T b s2 := .ite (.raise (.revt h1)) h1
  exact .ite (.raise h2) (.ite (.degrade (.lossOf (.upd h2 rfl))) (.ite (.lossOf (.upd h2 rfl)) h2))

theorem Keeps.bootTests (h : Keeps T b s) : Keeps T b s.bootTests := by
  unfold State.bootTests
  split
  · exact .upd h rfl
  · extract_lets s1 bad
    have h1 : Keeps T b s1 := .voterOutcome h
    clear_value bad
    split
    · exact h1
    · exact .retire h1
    · exact .raise h1

theorem Keeps.rollback (h : Keeps T b s) : Keeps T b s.rollback := .raise (.revt (.upd h rfl))

theorem Keeps.bootSelector (h : Keeps T b s) : Keeps T b s.bootSelector := by
  unfold State.bootSelector
  split
  · exact .upd h rfl
  · exact .ite (.ite (.rollback h) (.upd h rfl)) h

theorem Keeps.chooseFw {k : Nat} (h : Keeps T b s) : Keeps T b (s.chooseFw k).1 := by
  unfold State.chooseFw
  split
  · exact h
  · extract_lets s1 _ x e'
    have h1 : Keeps T b s1 := .ite (.rollback h) h
    split
    · exact h1
    · split
      · exact .raise (.revt (.upd h1 rfl))
      · exact h1

theorem Keeps.bootCfg (h : Keeps T b s) : Keeps T b s.bootCfg.1 := by
  unfold State.bootCfg
  split
  · exact h
  · extract_lets s1 _ s2 s3
    have h1 : Keeps T b s1 := .ite (.upd h rfl) h
    have h3 : Keeps T b s3 := .takeCfg (.upd h1 rfl)
    exact .ite h3 (.raise h3)

theorem Keeps.bootHealth (h : Keeps T b s) : Keeps T b s.bootHealth := by
  unfold State.bootHealth
  split
  · exact .upd h rfl
  · exact .forAll (fun _ _ => .setTile) h

theorem Keeps.failBank {b' : Nat} (h : Keeps T b s) : Keeps T b (s.failBank b') :=
  .ite h (.degrade (.raiseU (.upd h rfl)))
theorem Keeps.draw32 (h : Keeps T b s) : Keeps T b s.draw32.2 := .tickFree h
theorem Keeps.armReeve (h : Keeps T b s) : Keeps T b s.armReeve := .upd (.draw32 (.tickFree h)) rfl
theorem Keeps.firstLoad (h : Keeps T b s) : Keeps T b s.firstLoad := .domsOn (.upd h rfl)

theorem Keeps.toPlanLoad (h : Keeps T b s) : Keeps T b s.toPlanLoad := by
  unfold State.toPlanLoad
  split
  · exact h
  · next hboot =>
    extract_lets _ s1
    have hu : Unexcepted s := by simp_all [Unexcepted]
    have h1 : Keeps T b s1 := .devFrom (.upd h rfl) hu
    split
    · exact .enterSafeHold h1
    · exact .upd h1 rfl

theorem Keeps.releasePorter (h : Keeps T b s) : Keeps T b s.releasePorter := .upd h rfl

/-- A boot keeps everything when it begins with every channel de-energised. -/
theorem Keeps.bootFrom3 (h : Keeps T b s) (hoff : ∀ k, k < 10 → (s.chan k).energised = false) :
    Keeps T b s.bootFrom3 := by
  unfold State.bootFrom3
  extract_lets _ s1 s2 _ s3 s4 _ s5 s6 _ s7 s8 c0 s9
  have h1 : Keeps T b s1 := .off h rfl rfl hoff
  have h4 : Keeps T b s4 := .bootTests (.upd h1.domsOn rfl)
  clear_value s4
  have h6 : Keeps T b s6 := .forAll (fun _ _ => .failBank) (.ownDoms (.domsOn h4))
  have h9 : Keeps T b s9 := .chooseFw (.bootSelector (.upd h6 rfl))
  clear_value s9
  refine .ite (.upd h4 rfl) ?_
  split
  · exact .upd (h9.enterSafeHold (src := none)) rfl
  · refine .ite (.upd (h9.enterSafeHold (src := none)) rfl) ?_
    extract_lets s10 k s11 c1 _ s12
    have hk : Keeps T b k.1 := .bootCfg (.armReeve (.upd h9 rfl))
    have h12 : Keeps T b s12 := .upd (.chooseFw (k := 1) (.bootHealth hk)) rfl
    clear_value s12 k
    refine .ite hk.enterSafeHold ?_
    split
    · exact .toPlanLoad h12
    · extract_lets q s13 _ s14 s15 s16
      have h14 : Keeps T b s14 := .upd (s := s13) (.upd h12 rfl) rfl
      have h16 : Keeps T b s16 := .releasePorter (.ite (.degrade h14) h14)
      exact .ite (.toPlanLoad h12) (.ite (.toPlanLoad h16) (.enterMismatch h16))

theorem Keeps.coldStart {supply split bench : Bool} {phys : Phys} (h0 : T 0) (hq : s.pending = b.pending) :
    Keeps T b (s.coldStart supply split bench phys) := by
  unfold State.coldStart
  extract_lets s1 _ _ _ s2 s3
  have h1 : Keeps T b s1 := .coldBase h0 hq
  have hoff : ∀ k, k < 10 → (s3.chan k).energised = false := fun _ _ => rfl
  have h3 : Keeps T b s3 := .off h1 rfl rfl hoff
  clear_value s3
  exact .ite (.upd (h3.raise (n := 68)) rfl) (.bootFrom3 h3 hoff)

theorem Keeps.chipReset {cause : Option Nat} (h : Keeps T b s) : Keeps T b (s.chipReset cause) :=
  .bootFrom3 (.chipBase h) (fun _ _ => rfl)

theorem Keeps.finish (h : Keeps T b s) : Keeps T b s.finish := by
  unfold State.finish
  extract_lets s1
  have h1 : Keeps T b s1 := .rearm h
  split
  · exact h1
  · split
    · exact .upd h1 rfl
    · exact .upd h1 rfl
    · exact .chipReset h1

/-! ## Ethernet ports -/

theorem Keeps.startStable {p : Nat} (h : Keeps T b s) : Keeps T b (s.startStable p) := .upd h rfl
theorem Keeps.cleared {n : Nat} (h : Keeps T b s) : Keeps T b (s.cleared n) := .evalChans (.ite (.startStable h) h)

/-! ## The fault collector -/

theorem Keeps.arm {target mode unit : Nat} {byReg : Bool} (h : Keeps T b s) :
    Keeps T b (s.arm target mode unit byReg) :=
  .ite (.upd h rfl) (.upd h rfl)

theorem Keeps.disarm (h : Keeps T b s) : Keeps T b s.disarm := .arm h
theorem Keeps.injSeen {n : Nat} (h : Keeps T b s) : Keeps T b (s.injSeen n) := .ite (.disarm h) h
theorem Keeps.raiseSeen {n : Nat} (h : Keeps T b s) : Keeps T b (s.raiseSeen n) :=
  .ite (.upd (.injSeen h) rfl) (.injSeen h)

theorem Keeps.latchSeen {n : Nat} (h : Keeps T b s) : Keeps T b (s.latchSeen n) := by
  unfold State.latchSeen
  extract_lets
  split
  · exact .forAll (fun _ _ h => .ite (.failBank h) h) h
  · exact .ite (.forAll (fun _ _ h => .ite (.quarantineForm h) h) (.upd h rfl)) h

theorem Keeps.quietEnd {n : Nat} (h : Keeps T b s) : Keeps T b (s.quietEnd n) :=
  .ite (.latchSeen (.revt (.setSrc h))) (.cleared (.revt (.setSrc h)))

theorem Keeps.errPWrite {v : W32} (h : Keeps T b s) : Keeps T b (s.errPWrite v) := by
  unfold State.errPWrite
  exact .ite (.rfield h) (.ite (.ite (.errPFall (.rfield h)) (.rfield h)) (.ite (.upd h rfl) (.rfield h)))

theorem Keeps.scrubErr {corr unc addr unit : Nat} {e : EccOut} (h : Keeps T b s) :
    Keeps T b (s.scrubErr corr unc addr unit e) := by
  unfold State.scrubErr
  extract_lets
  split
  · exact h
  · exact .raiseSeen (.raiseWith h)
  · exact .raiseSeen (.raiseWith h)

/-! ## Mailbox boxes -/

theorem Keeps.setChan2 {f ch : Nat} {c : Chan2} (h : Keeps T b s) : Keeps T b (s.setChan2 f ch c) := .upd h rfl
theorem Keeps.bells {f : Nat} {mask : W32} (h : Keeps T b s) : Keeps T b (s.bells f mask) :=
  .ite (.msix (.rset h)) (.rset h)
theorem Keeps.mbSend {f ch : Nat} {v : W32} (h : Keeps T b s) : Keeps T b (s.mbSend f ch v) :=
  .ite (.revt h) (.ite (.raiseU (.bells (.rincSat (.revt (.setChan2 h))))) (.setChan2 h))
theorem Keeps.farTake {f ch : Nat} (h : Keeps T b s) : Keeps T b (s.farTake f ch) := .bells (.setChan2 h)

theorem Keeps.farSend {f ch : Nat} {body : BitVec 512} {type len : Nat} {bells : W32} (h : Keeps T b s) :
    Keeps T b (s.farSend f ch body type len bells) :=
  .bells (.setChan2 h)

theorem Keeps.reeveFlush (h : Keeps T b s) : Keeps T b s.reeveFlush := by
  unfold State.reeveFlush
  split
  · exact h
  · extract_lets
    split
    · split
      · exact h
      · exact .setChan2 h
    · exact .farSend (.upd h rfl)

theorem Keeps.reeveSay {body : BitVec 512} {type len : Nat} (h : Keeps T b s) :
    Keeps T b (s.reeveSay body type len) :=
  .reeveFlush (.upd h rfl)

theorem Keeps.porterSay {f : Nat} {body : BitVec 512} {type len : Nat} (h : Keeps T b s) :
    Keeps T b (s.porterSay f body type len) := by
  unfold State.porterSay
  extract_lets _ s1
  have h1 : Keeps T b s1 := .upd h rfl
  split
  · split
    · exact h1
    · exact .setChan2 h1
  · exact h1

theorem Keeps.mbTake {f ch : Nat} (h : Keeps T b s) : Keeps T b (s.mbTake f ch) :=
  .ite (.ite (.reeveFlush (.setChan2 h)) (.setChan2 h)) h

theorem Keeps.mbPoll {f ch : Nat} (h : Keeps T b s) : Keeps T b (s.mbPoll f ch) := by
  unfold State.mbPoll
  extract_lets
  split
  · exact .setChan2 h
  · exact h

theorem Keeps.mbReset {f ch : Nat} (h : Keeps T b s) : Keeps T b (s.mbReset f ch) := .setChan2 h

/-! ## Rings, tallies, tags -/

theorem Keeps.setRing {g : Nat} {r : RingSt} (h : Keeps T b s) : Keeps T b (s.setRing g r) := .upd h rfl
theorem Keeps.ringErr {g code : Nat} (h : Keeps T b s) : Keeps T b (s.ringErr g code) := .setRing h
theorem Keeps.ringKill {g code : Nat} (h : Keeps T b s) : Keeps T b (s.ringKill g code) :=
  .raiseU (.setRing (.ringErr (.setRing h)))
theorem Keeps.ringPi {g : Nat} {v : W32} (h : Keeps T b s) : Keeps T b (s.ringPi g v) :=
  .ite (.ringErr h) (.ite (.setRing h) (.ringErr h))
theorem Keeps.ringCi {g : Nat} {v : W32} (h : Keeps T b s) : Keeps T b (s.ringCi g v) :=
  .ite (.ringErr h) (.ite (.setRing h) (.ringErr h))
theorem Keeps.ringSignal {g : Nat} (h : Keeps T b s) : Keeps T b (s.ringSignal g) :=
  .ite h (.ite (.msix (.setRing h)) (.setRing h))
theorem Keeps.ringConfig {f : Nat} {a : RingArgs} (h : Keeps T b s) : Keeps T b (s.ringConfig f a).2 :=
  .iteSnd h (.iteSnd h (.iteSnd h (.iteSnd h (.iteSnd h (.upd h rfl)))))

theorem Keeps.tagXfer {t n : Nat} (h : Keeps T b s) : Keeps T b (s.tagXfer t n) := by
  unfold State.tagXfer
  split
  · exact .setTag h
  · exact h

theorem Keeps.tagActive {t : Nat} (h : Keeps T b s) : Keeps T b (s.tagActive t) := by
  unfold State.tagActive
  split
  · exact .setTag h
  · exact h

theorem Keeps.tallySet {y : Nat} {v : W32} (h : Keeps T b s) : Keeps T b (s.tallySet y v) := .upd h rfl

theorem Keeps.tallyTest {y n : Nat} (h : Keeps T b s) : Keeps T b (s.tallyTest y n) := by
  induction n generalizing s with
  | zero => exact h
  | succ n ih =>
    unfold State.tallyTest
    split
    · exact h
    · exact ih (.finishTag (.tagInfo (.ite (.upd h rfl) h)))

theorem Keeps.tallyTested {y : Nat} (h : Keeps T b s) : Keeps T b (s.tallyTested y) := .tallyTest h
theorem Keeps.tallyPut {y : Nat} {v : W32} (h : Keeps T b s) : Keeps T b (s.tallyPut y v) := .tallyTested (.tallySet h)
theorem Keeps.tallyInc {f t : Nat} (h : Keeps T b s) : Keeps T b (s.tallyInc f t) := .tallyPut h

theorem Keeps.abortEnd {target status : Nat} {a : List Nat} (h : Keeps T b s) :
    Keeps T b (s.abortEnd target status a) :=
  .forAll (fun _ _ => .finishTag) h

theorem Keeps.afterCommit {c : Tag} {status : Nat} (h : Keeps T b s) : Keeps T b (s.afterCommit c status) :=
  .ite (.upd h rfl) h

theorem Keeps.commitTag {t : Nat} {err : Bool} (h : Keeps T b s) : Keeps T b (s.commitTag t err) := by
  unfold State.commitTag
  split
  · exact h
  · split
    · split
      · exact h
      · extract_lets _ _ s1 _ _ s2 s3 s4 s5 s6
        have h1 : Keeps T b s1 := .ite (.ringKill h) h
        have h2 : Keeps T b s2 := .setRing h1
        have h3 : Keeps T b s3 := .setTag h2
        have h4 : Keeps T b s4 := .emit h3
        have h5 : Keeps T b s5 := .ite (.tallyInc h4) h4
        have h6 : Keeps T b s6 := .ite (.raiseU (.ringErr h3)) (.ite (.ringSignal h5) h5)
        exact .ite (.afterCommit (.abortEnd (.setTag (.ringErr h1)))) (.ite h1 (.afterCommit (.abortEnd h6)))
    · exact h

theorem Keeps.takeDesc {g : Nat} {d : List Byte} {size : Nat} (h : Keeps T b s) :
    Keeps T b (s.takeDesc g d size).2 := by
  unfold State.takeDesc
  split
  · exact .ringKill h
  · split
    · exact .ringErr (.setRing h)
    · split
      · exact .setRing h
      · exact .setRing h

theorem Keeps.writeBack {g a : Nat} {d : List Byte} {fwd len wst : Nat} (h : Keeps T b s) :
    Keeps T b (s.writeBack g a d fwd len wst) := by
  unfold State.writeBack
  extract_lets _ s1 s2
  have h1 : Keeps T b s1 := .ite (.emit h) h
  have h2 : Keeps T b s2 := .ite (.tallyInc h1) h1
  exact .ite (.ringSignal h2) h2

/-! ## Evidence and assay results -/

theorem Keeps.setTask {m : Nat} {t : TaskMon} (h : Keeps T b s) : Keeps T b (s.setTask m t) := .upd h rfl
theorem Keeps.taskRef {chk stream a b' at_ : Nat} (h : Keeps T b s) : Keeps T b (s.taskRef chk stream a b' at_) :=
  .forAll (fun _ _ h => .ite (.setTask h) h) h

theorem Keeps.taskEvent {chk stream a b' at_ : Nat} (h : Keeps T b s) :
    Keeps T b (s.taskEvent chk stream a b' at_) := by
  unfold State.taskEvent
  refine .forAll (fun _ t h => ?_) h
  extract_lets
  split
  · split
    · exact h
    · exact .ite (.raise (.revt (.setTask h))) (.setTask h)
  · exact h

theorem Keeps.setLane {f k : Nat} {l : Lane} (h : Keeps T b s) : Keeps T b (s.setLane f k l) := .upd h rfl
theorem Keeps.lateRec {n : Nat} (h : Keeps T b s) : Keeps T b (s.lateRec n) := .revt (.rincSat h)

theorem Keeps.evCheck {f : Nat} {r : List Byte} {k : PStream → Frame → State → State}
    (hk : ∀ p x t, Keeps T b t → Keeps T b (k p x t)) (h : Keeps T b s) : Keeps T b (s.evCheck f r k) := by
  unfold State.evCheck
  extract_lets
  split
  · exact .ite (.lateRec h) (.ite (.setFrame h) (hk _ _ _ h))
  · exact .ite (.lateRec h) h
  · exact h

theorem Keeps.evComplete {f : Nat} {r : List Byte} (h : Keeps T b s) : Keeps T b (s.evComplete f r) := by
  unfold State.evComplete
  extract_lets s1 s2
  have h1 : Keeps T b s1 := .rinc64 h
  have h2 : Keeps T b s2 := by
    dsimp only [s2]
    split
    · exact .ite h1 (.ite (.taskEvent (.taskEvent h1)) (.taskEvent h1))
    · exact h1
  exact .ite (.upd h2 rfl) (.evCheck (fun _ _ _ h => h) h2)

theorem Keeps.evTake {f type t : Nat} {r : List Byte} (h : Keeps T b s) (he : s.evTake f type = some (t, r, e)) :
    Keeps T b e := by
  unfold State.evTake at he
  split at he
  · split at he
    · simp only [Option.some.injEq, Prod.mk.injEq] at he
      exact .upd h (he.2.2 ▸ rfl)
    · simp at he
  · simp at he

theorem Keeps.progress {p : PStream} {f : Frame} (h : Keeps T b s) : Keeps T b (s.progress p f) :=
  .ite (.judgeGolden h) (.formIfReady h)
theorem Keeps.reLayer {p : PStream} {f : Frame} (h : Keeps T b s) : Keeps T b (s.reLayer p f) := .progress (.setFrame h)
theorem Keeps.crcFail {t : Nat} (h : Keeps T b s) : Keeps T b (s.crcFail t) :=
  .ite (.quarantineForm (.setTile (.raiseU h))) (.setTile (.raiseU h))

theorem Keeps.takeResult {kind : Nat} {l : List Byte} {sound : Bool} (h : Keeps T b s)
    (he : s.takeResult kind = some (l, sound, e)) : Keeps T b e := by
  unfold State.takeResult at he
  split at he
  · simp at he
  · dsimp only at he
    split at he
    · simp only [Option.some.injEq, Prod.mk.injEq] at he
      exact .upd h (he.2.2 ▸ rfl)
    · simp at he

theorem Keeps.assayResult {kind : Nat} (h : Keeps T b s) : Keeps T b (s.assayResult kind) := by
  unfold State.assayResult
  split
  · exact h
  · next l sound t ht =>
    replace h := h.takeResult ht
    extract_lets n tl o s1
    have h1 : Keeps T b s1 := by
      dsimp only [s1]
      split
      · refine .ite (.ite (.lateViolation (.upd h rfl)) (.upd h rfl)) (.ite ?_ ?_) <;> split
        · exact .progress (.upd h rfl)
        · exact .upd h rfl
        · exact .reLayer (.upd h rfl)
        · exact .upd h rfl
      · exact h
    exact .ite (.crcFail h1) h1

/-! ## Access errors -/

theorem Keeps.accRec {e : AccErr} {who : Initiator} {off : Nat} (h : Keeps T b s) :
    Keeps T b (s.accRec e who off) :=
  .rinc64 (.rset (.revt h))

theorem Keeps.accErr {e : AccErr} {who : Initiator} {off : Nat} {write : Bool} (h : Keeps T b s) :
    Keeps T b (s.accErr e who off write) :=
  .raiseWith (.accRec h)

theorem Keeps.firewall {who : Initiator} {off : Nat} (h : Keeps T b s) : Keeps T b (s.firewall who off) :=
  .raiseWith (.accRec h)

/-! ## The reeve complex -/

theorem Keeps.answer {p : ReqPath} {r : BitVec 512} {rstat info : Nat} (h : Keeps T b s) :
    Keeps T b (s.answer p r rstat info) := by
  unfold State.answer
  extract_lets _ s1 s2
  have h1 : Keeps T b s1 := .rset (.revt (.rincSat h))
  have h2 : Keeps T b s2 := .ite (.rincSat h) (.ite (.raise h1) h1)
  split
  · split
    · exact h2
    · exact .upd h2 rfl
  · exact .reeveSay (.upd h2 rfl)

theorem Keeps.leaseCheck (h : Keeps T b s) : Keeps T b s.leaseCheck := .ite (.endPriv h) h

theorem Keeps.lockCheck (h : Keeps T b s) : Keeps T b s.lockCheck := by
  unfold State.lockCheck
  split
  · exact .ite (.upd h rfl) h
  · exact h

theorem Keeps.refuseHead {p : ReqPath} {r : BitVec 512} (h : Keeps T b s) : Keeps T b (s.refuseHead p r) :=
  .ite (.answer h) (.ite (.answer h) (.answer (.upd h rfl)))

theorem Keeps.drainPath {p : ReqPath} {n : Nat} (h : Keeps T b s) : Keeps T b (s.drainPath p n) := by
  induction n generalizing s with
  | zero => exact h
  | succ n ih =>
    unfold State.drainPath
    split
    · exact .ite (ih (.refuseHead h)) h
    · exact h

theorem Keeps.drain (h : Keeps T b s) : Keeps T b s.drain := .drainPath (.drainPath h)
theorem Keeps.lastMis {minor cls : Nat} (h : Keeps T b s) : Keeps T b (s.lastMis minor cls) := .rset (.rset h)
theorem Keeps.classify {cls : Nat} (h : Keeps T b s) : Keeps T b (s.classify cls) := .rfield h
theorem Keeps.dogHold (h : Keeps T b s) : Keeps T b s.dogHold := .upd h rfl

theorem Keeps.dogRelease (h : Keeps T b s) : Keeps T b s.dogRelease := by
  unfold State.dogRelease
  split
  · exact .upd h rfl
  · exact h

theorem Keeps.stopCores {src : Nat} (h : Keeps T b s) : Keeps T b (s.stopCores src) := .raise (.upd h rfl)

theorem Keeps.mismatch {minority : Option Nat} (h : Keeps T b s) : Keeps T b (s.mismatch minority) := by
  unfold State.mismatch
  split
  · exact h
  · extract_lets s1
    have h1 : Keeps T b s1 := .raise (.rinc64 (.revt h))
    split
    · exact .dogHold (.upd h1 rfl)
    · exact .stopCores (.lastMis h1)

theorem Keeps.resume {us : Nat} (h : Keeps T b s) : Keeps T b (s.resume us) :=
  .reeveFlush (.drain (.dogRelease (.rmax (.upd h rfl))))

theorem Keeps.recover {pass : BitVec 3} {us : Nat} (h : Keeps (m ≤ ·) b s) : Keeps (m ≤ ·) b (s.recover pass us) := by
  unfold State.recover
  split
  · exact h
  · extract_lets s1 _ s2
    have h1 : Keeps (m ≤ ·) b s1 := .advance h
    have h2 : Keeps (m ≤ ·) b s2 := .upd h1 rfl
    split
    · exact .ite (.resume (.retire (.classify h2))) (.resume (.revt (.classify h2)))
    · exact .ite (.resume (.retire (.classify h1))) (.stopCores (.classify h1))
    · exact .stopCores (.classify h1)

theorem Keeps.setDiv {i c n : Nat} (h : Keeps T b s) : Keeps T b (s.setDiv i c n) := .upd h rfl
theorem Keeps.diverged {i c : Nat} (h : Keeps T b s) : Keeps T b (s.diverged i c) := .raise (.revt (.rset (.rincSat h)))

theorem Keeps.trioDiv {i c : Nat} {differs : Bool} (h : Keeps T b s) : Keeps T b (s.trioDiv i c differs) := by
  unfold State.trioDiv
  extract_lets _ s1 s2 s3
  have h1 : Keeps T b s1 := .setDiv h
  have h2 : Keeps T b s2 := .setDiv h
  have h3 : Keeps T b s3 := .diverged h2
  split
  · exact .ite h (.ite (.rincSat h1) h1)
  · split
    · split
      · exact .ite (.resume (.retire (.classify h3))) (.stopCores (.classify h3))
      · exact .ite (.retire (.lastMis h3)) h3
    · exact h2

theorem Keeps.pairRound {x y : W64} (h : Keeps T b s) : Keeps T b (s.pairRound x y) := by
  unfold State.pairRound
  refine .forAll (fun i t ht => ?_) h
  extract_lets bx by' n put t1 t2 t3 t4
  have hput (v : Bool) (u : State) (hu : Keeps T b u) : Keeps T b (put v u) := .upd hu rfl
  clear_value put
  have ht2 : Keeps T b t2 := .ite ht (.ite (.rincSat (.setDiv ht)) (.setDiv ht))
  have ht3 : Keeps T b t3 := .setDiv ht
  exact .ite (hput _ _ ht2) (.ite (hput _ _ (.ite (.diverged ht3) ht3)) ht3)

theorem Keeps.adopt {a b' c : W64} (h : Keeps T b s) : Keeps T b (s.adopt a b' c) := by
  unfold State.adopt
  split
  · exact .upd h rfl
  · exact .pairRound h
  · exact .forAll (fun _ _ h => .trioDiv (.trioDiv (.trioDiv h))) (.upd h rfl)

/-! ## Plan loads and switches -/

theorem Keeps.rollPlan (h : Keeps T b s) : Keeps T b s.rollPlan := .raise (.revt (.upd h rfl))
theorem Keeps.refuseLoad {code sec : Nat} (h : Keeps T b s) : Keeps T b (s.refuseLoad code sec) :=
  .ite (.firstLoad (.rollPlan (.planRefuse h))) (.planRefuse h)

theorem Keeps.scanned {i : PlanImage} (h : Keeps T b s) : Keeps T b (s.scanned i) := by
  unfold State.scanned
  split
  · exact .refuseLoad h
  · split
    · exact .upd h rfl
    · extract_lets _ s1
      have h1 : Keeps T b s1 := .upd h rfl
      split
      · exact .refuseLoad h1
      · exact .ite (.upd h1 rfl) (.refuseLoad (.upd h1 rfl))

theorem Keeps.loadPly {n : Nat} {src build back : Bool} (h : Keeps T b s) :
    Keeps T b (s.loadPly n src build back) := by
  unfold State.loadPly
  split
  · split
    · split
      · exact .refuseLoad h
      · split
        · exact .refuseLoad h
        · exact .upd h rfl
    · exact .refuseLoad h
  · split
    · split
      · exact .refuseLoad h
      · exact .upd h rfl
    · exact h
  · split
    · exact .ite (.refuseLoad h) (.ite (.upd h rfl) (.scanned (.upd h rfl)))
    · exact h
  · split
    · split
      · exact .refuseLoad h
      · exact .ite (.upd h rfl) (.refuseLoad h)
    · exact h
  · exact .ite (.upd h rfl) (.refuseLoad h)
  · exact h

theorem Keeps.switchFail (h : Keeps T b s) : Keeps T b s.switchFail := by
  unfold State.switchFail
  extract_lets s1 _ _ s2 s3
  have h1 : Keeps T b s1 := .loadTag h
  have h2 : Keeps T s2 s2 := .start h1.time
  have h3 : Keeps T s2 s3 := .raise (.raise (.revt (.revt h2)))
  have h4 : Keeps T s2 s3.loaderIdle.stopPlan.planDomsOff.planEvt :=
    .planEvt (.planDomsOff (.stopPlan (.loaderIdle h3)))
  exact .firstLoad (.settled h4 h1.queue)

theorem Keeps.blackoutDone {n : Nat} (h : Keeps T b s) : Keeps T b (s.blackoutDone n) := .rmax (.rset h)

/-! ## Updates -/

theorem Keeps.updFail {t k code refusal : Nat} (h : Keeps T b s) : Keeps T b (s.updFail t k code refusal) :=
  .finishTag (.raise (.revt (.rset (.ite (.revt h) h))))
theorem Keeps.updEnd {k : Nat} (h : Keeps T b s) : Keeps T b (s.updEnd k) := .upd h rfl
theorem Keeps.updBegin {t k : Nat} (h : Keeps T b s) : Keeps T b (s.updBegin t k) := .upd (.tagActive h) rfl
theorem Keeps.flashReadFail (h : Keeps T b s) : Keeps T b s.flashReadFail := .raise (.revt h)

theorem Keeps.updStage {t : Nat} {confirm : Bool} {f : Nat → State → State} {c : Tag}
    (hf : ∀ a t, Keeps T b t → Keeps T b (f a t)) (h : Keeps T b s) :
    Keeps T b (s.updStage t confirm f c) :=
  .ite (.updFail h) (.ite (.updFail h) (hf _ _ h))

theorem Keeps.downloaded {t k : Nat} {fw : Option FwImage} {pl : Option PlanImage} (h : Keeps T b s) :
    Keeps T b (s.downloaded t k fw pl) :=
  .finishTag (.revt (.updEnd (.rset (.upd h rfl))))

theorem Keeps.verified {t k : Nat} (h : Keeps T b s) : Keeps T b (s.verified t k) := by
  unfold State.verified
  extract_lets s1 _ s2
  have h1 : Keeps T b s1 := .updEnd (.rset h)
  have h2 : Keeps T b s2 := .upd h1 rfl
  split
  · exact .updFail h1
  · exact .finishTag (.revt h2)

/-! ## Ring commands -/

theorem Keeps.take {g t : Nat} {d : BitVec 512} (h : Keeps T b s) : Keeps T b (s.take g t d) := by
  unfold State.take
  extract_lets _ _ _ s1 s2 _ s3
  have h1 : Keeps T b s1 := .setRing h
  have h2 : Keeps T b s2 := .setTag h1
  have h3 : Keeps T b s3 := .upd h2 rfl
  split
  · exact .finishTag h3
  · exact h3

theorem Keeps.fetchCmd {g : Nat} {desc : BitVec 512} {err : Bool} (h : Keeps T b s) :
    Keeps T b (s.fetchCmd g desc err) := by
  unfold State.fetchCmd
  split
  · exact h
  · split
    · exact .ringKill h
    · split
      · exact .upd h rfl
      · exact .ite (.ringKill h) (.ite (.upd h rfl) (.take h))

theorem Keeps.abortWaits {t x : Nat} {c : Tag} (h : Keeps T b s) : Keeps T b (s.abortWaits t x c) :=
  .tagActive (.setTag h)

/-! ## Commands in plies -/

theorem Keeps.plyMoved {t n x : Nat} (h : Keeps T b s) : Keeps T b (s.plyMoved t n x) := by
  unfold State.plyMoved
  split
  · exact .setTag h
  · exact h

theorem Keeps.plyAbort {t : Nat} (h : Keeps T b s) : Keeps T b (s.plyAbort t) := by
  unfold State.plyAbort
  split
  · exact .ite h (.finishTag h)
  · exact h

theorem Keeps.dmaPly {t : Nat} {c : Tag} {unc : Option Nat} (h : Keeps T b s) : Keeps T b (s.dmaPly t c unc) := by
  unfold State.dmaPly
  extract_lets _ _ _ _ s1 s2 s3
  have h1 : Keeps T b s1 := .emit h
  have h2 : Keeps T b s2 := .ite h (.upd h1 rfl)
  have h3 : Keeps T b s3 := .plyMoved h2
  exact .ite (.finishTag (.raiseWith h3)) (.ite (.finishTag h3) (.plyAbort h3))

theorem Keeps.downPly {t : Nat} {c : Tag} {n : Nat} {err flash : Bool} {fw : Option FwImage} {pl : Option PlanImage}
    (h : Keeps T b s) :
    Keeps T b (s.downPly t c n err flash fw pl) := by
  unfold State.downPly
  extract_lets _ _ s1
  have h1 : Keeps T b s1 := .rset (.plyMoved h)
  split
  · exact .finishTag (.raiseU (.updEnd h))
  · exact .ite (.updFail (.updEnd h)) (.ite (.downloaded h1) (.ite h1 (.plyAbort (.updEnd h1))))

theorem Keeps.verifyPly {t : Nat} {c : Tag} {n : Nat} {flash : Bool} (h : Keeps T b s) :
    Keeps T b (s.verifyPly t c n flash) := by
  unfold State.verifyPly
  extract_lets _ _ s1
  have h1 : Keeps T b s1 := .rset (.plyMoved h)
  split
  · exact .updFail (.flashReadFail (.updEnd h))
  · exact .ite (.verified h1) (.ite h1 (.plyAbort (.updEnd h1)))

theorem Keeps.ply {n : Nat} {err flash : Bool} {unc : Option Nat} {fw : Option FwImage} {pl : Option PlanImage}
    (h : Keeps T b s) :
    Keeps T b (s.ply n err flash unc fw pl) := by
  unfold State.ply
  split
  · exact h
  · extract_lets _ s1
    have h1 : Keeps T b s1 := .upd h rfl
    split
    · exact .dmaPly h1
    · exact .downPly h1
    · exact .verifyPly h1

/-! ## The stream gate -/

theorem Keeps.nextDesc {p : PStream} {ds : Descs} (h : Keeps T b s) : Keeps T b (s.nextDesc p ds).2.2 := by
  unfold State.nextDesc
  split
  · exact h
  · split
    · exact .ringKill h
    · exact .takeDesc h

theorem Keeps.fwdErr {n : Nat} (h : Keeps T b s) : Keeps T b (s.fwdErr n) := .revt (.rincSat h)
theorem Keeps.forward {p : PStream} {f : Frame} {d : Taken} (h : Keeps T b s) : Keeps T b (s.forward p f d) :=
  .ite (.setFrame (.rset (.setGs h))) (.fwdErr (.writeBack (.setFrame (.rset (.setGs h)))))

theorem Keeps.forwardGolden {p : PStream} {d : Taken} (h : Keeps T b s) : Keeps T b (s.forwardGolden p d) := by
  unfold State.forwardGolden
  extract_lets
  split
  · exact .forward (.upd h rfl)
  · exact h

theorem Keeps.goldens {p : PStream} {t : GateS → Bool} {k : Nat} {ds : Descs} (h : Keeps T b s) :
    Keeps T b (s.goldens p t k ds).2 := by
  induction k generalizing s ds with
  | zero => exact h
  | succ k ih =>
    have hn : Keeps T b (s.nextDesc p ds).2.2 := .nextDesc h
    unfold State.goldens
    split
    · exact h
    · split
      · next heq => rw [heq] at hn; exact hn
      · next heq => rw [heq] at hn; exact ih hn.forwardGolden

theorem Keeps.forwardClosed {p : PStream} {f : Frame} {ds : Descs} (h : Keeps T b s) :
    Keeps T b (s.forwardClosed p f ds) := by
  unfold State.forwardClosed
  extract_lets r
  have hn : Keeps T b (r.2.nextDesc p r.1).2.2 := .nextDesc (.goldens h)
  split
  · next heq => rw [heq] at hn; exact .upd hn rfl
  · next heq => rw [heq] at hn; exact .forward hn

theorem Keeps.closeFrame {p : PStream} {f : Frame} {last : Bool} {ds : Descs} (h : Keeps T b s) :
    Keeps T b (s.closeFrame p f last ds) :=
  .forwardClosed (.markTainted (.setFrame h))

theorem Keeps.closeOpen {p : PStream} {ds : Descs} (h : Keeps T b s) : Keeps T b (s.closeOpen p ds) := by
  unfold State.closeOpen
  split
  · exact .closeFrame h
  · exact h

theorem Keeps.openAt {p : PStream} {num : Nat} {tstamp : Option Nat} {ds : Descs} (h : Keeps T b s) :
    Keeps T b (s.openAt p num tstamp ds) := by
  unfold State.openAt
  extract_lets _ s1 _ _ _ _ _ _ _ s2 _ s3 _ s4 s5 s6 s7
  have h1 : Keeps T b s1 := .closeOpen h
  have h2 : Keeps T b s2 := .setGs h1
  have h3 : Keeps T b s3 := .upd h2 rfl
  have h4 : Keeps T b s4 := .setStream h3
  have h5 : Keeps T b s5 := .rinc64 (.rset h4)
  have h6 : Keeps T b s6 := .ite h5 (.revt (.rincSat h5))
  have h7 : Keeps T b s7 := .taskRef (.taskRef h6)
  split
  · exact .dropFrame h1
  · exact .reserve h7

theorem Keeps.srcCount {c off : Nat} (h : Keeps T b s) : Keeps T b (s.srcCount c off) := .rincSat h
theorem Keeps.unbound {c : Nat} (h : Keeps T b s) : Keeps T b (s.unbound c) := .revt (.srcCount h)
theorem Keeps.orphan {p : PStream} (h : Keeps T b s) : Keeps T b (s.orphan p) := .ite h (.revt (.srcCount h))
theorem Keeps.pktCount {c : Nat} (h : Keeps T b s) : Keeps T b (s.pktCount c) := .rinc64 h

theorem Keeps.taintOpen {n cause : Nat} (h : Keeps T b s) : Keeps T b (s.taintOpen n cause) := by
  unfold State.taintOpen
  split
  · exact .taint h
  · exact h

theorem Keeps.bsfIn {p : PStream} {b' : List Byte} {ds : Descs} (h : Keeps T b s) : Keeps T b (s.bsfIn p b' ds) := by
  unfold State.bsfIn
  extract_lets _ s1 _ s2
  have h1 : Keeps T b s1 := .srcCount h
  have h2 : Keeps T b s2 := .ite (.openAt h) h
  split
  · exact h1
  · split
    · exact .taintOpen h1
    · split
      · exact h1
      · split
        · exact .taintOpen h1
        · split
          · exact .ite h2 (.orphan h2)
          · exact .ite (.closeFrame (.pktCount (.setFrame h2))) (.pktCount (.setFrame h2))

theorem Keeps.csiLine {p : PStream} {f : Frame} {data : List Byte} {crcOk : Bool} (h : Keeps T b s) :
    Keeps T b (s.csiLine p f data crcOk) := by
  unfold State.csiLine
  extract_lets s1 s2
  have h1 : Keeps T b s1 := .ite h (.taint h)
  have h2 : Keeps T b s2 := .ite h1 (.taint h1)
  exact .ite (.taint h1) (.pktCount (.setFrame h2))

theorem Keeps.taintPort {port cause : Nat} (h : Keeps T b s) : Keeps T b (s.taintPort port cause) :=
  .forAll (fun _ _ => .taint) h
theorem Keeps.setDigest {f i : Nat} {d : DigestSt} (h : Keeps T b s) : Keeps T b (s.setDigest f i d) := .upd h rfl

theorem Keeps.passDone {f i : Nat} {good : Bool} {p : PStream} (h : Keeps T b s) :
    Keeps T b (s.passDone f i good p) :=
  .ite (.setStream h) (.ite (.setStream h) (.standing54 (.setStream h)))

theorem Keeps.digestDone {f : Fn} {i : Fin 256} {data : List Byte} {err : Bool} (h : Keeps T b s) :
    Keeps T b (s.digestDone f i data err) := by
  unfold State.digestDone
  extract_lets
  split
  · extract_lets s1
    have h1 : Keeps T b s1 := .freeBufs h
    split
    · exact .raiseU (.setDigest h1)
    · exact .ite (.setDigest h1) (.forAll (fun _ _ => .passDone) (.setDigest h1))
  · exact h

/-! ## Tile memory and mesh -/

theorem Keeps.load {t c d n : Nat} {signed : Bool} {ea : Nat} (h : Keeps T b s) :
    Keeps T b (s.load t c d n signed ea) := by
  unfold State.load
  exact .ctxUpd h

theorem Keeps.storeN {t c d n ea : Nat} (h : Keeps T b s) : Keeps T b (s.storeN t c d n ea) :=
  .ctxUpd (.planted (.setTile h))

theorem Keeps.inject {route : Nat} {data : BitVec 512} {bad : Bool} (h : Keeps T b s) :
    Keeps T b (s.inject route data bad) :=
  .upd h rfl

/-! ## Tile lanes -/

theorem Keeps.spend {q cost : Nat} (h : Keeps T b s) : Keeps T b (s.spend q cost) := by
  unfold State.spend
  extract_lets _ _ _ _ s1 s2 _ s3 s4
  have h1 : Keeps T b s1 := .upd h rfl
  have h2 : Keeps T b s2 := .revt (.rinc64 h1)
  have h3 : Keeps T b s3 := .upd h2 rfl
  have h4 : Keeps T b s4 := .ite h3 (.raise h3)
  exact .ite h1 (.upd h4 rfl)

theorem Keeps.contribute {t c w : Nat} {xs : List Elem} {mags : Option (List Elem)} {bad : Bool} (h : Keeps T b s) :
    Keeps T b (s.contribute t c w xs mags bad) :=
  .ite (.setTwin h) (.setCtx (.setTwin h))

theorem Keeps.laneStep {t c op tw stg : Nat} {neg : Bool} {fa fb : Nat} {sg : Int} {eoff rsel : Nat} {res : Bool}
    {ea : Nat} (h : Keeps T b s) :
    Keeps T b (s.laneStep t c op tw stg neg fa fb sg eoff rsel res ea) := by
  unfold State.laneStep
  exact .residue (.ctxUpd (.ite (.contribute (.spend h)) (.forAll (fun _ _ => .contribute) (.spend h))))

theorem Keeps.value {t c tw : Nat} {x : Elem} {bad res : Bool} (h : Keeps T b s) :
    Keeps T b (s.value t c tw x bad res) :=
  .residue (.ctxUpd (.contribute h))

/-! ## Events of the array -/

theorem Keeps.overrun {t c : Nat} (h : Keeps T b s) : Keeps T b (s.overrun t c) :=
  .raiseU (.rset (.revt (.forAll (fun _ _ => .setFrame) h)))

theorem Keeps.quadSet {r : Running} {k q : Nat} (h : Keeps T b s) : Keeps T b (s.quadSet r k q) := by
  unfold State.quadSet
  split
  · exact .wakeDom h
  · split
    · exact .ite (.wakeDom h) h
    · exact .ite (.upd h rfl) h
    · exact h
  · exact .ite (.releaseDom h) (.quadOff h)

theorem Keeps.grants {r : Running} {k : Nat} (h : Keeps T b s) : Keeps T b (s.grants r k) := by
  unfold State.grants
  extract_lets _ _ _ _ _ _ _ s1
  have h1 : Keeps T b s1 := .rset (.rset h)
  clear_value s1
  exact .upd h1 rfl

theorem Keeps.tileStrobe {k t : Nat} (h : Keeps T b s) : Keeps T b (s.tileStrobe k t) := by
  unfold State.tileStrobe
  split
  · exact h
  · exact .ite (.setTile h) (.setTile h)

theorem Keeps.returnBufs (h : Keeps T b s) : Keeps T b s.returnBufs :=
  .forAll (fun _ _ h => .dropEvidence (.releaseFrame h)) h
theorem Keeps.traceStart {k : Nat} (h : Keeps T b s) : Keeps T b (s.traceStart k) := .ite (.upd h rfl) h

theorem Keeps.strobe {r : Running} {h' k t : Nat} (h : Keeps (m ≤ ·) b s) : Keeps (m ≤ ·) b (s.strobe r h' k t) := by
  unfold State.strobe
  extract_lets s1 _ s2 s3 s4 s5 s6 s7
  have h1 : Keeps (m ≤ ·) b s1 := .advance h
  have h2 : Keeps (m ≤ ·) b s2 := .forAll (fun _ _ => .overrun) h1
  have h3 : Keeps (m ≤ ·) b s3 := .upd h2 rfl
  have h4 : Keeps (m ≤ ·) b s4 := .returnBufs h3
  have h5 : Keeps (m ≤ ·) b s5 := .forAll (fun _ _ => .quadSet) h4
  have h6 : Keeps (m ≤ ·) b s6 := .forAll (fun _ _ => .tileStrobe) h5
  have h7 : Keeps (m ≤ ·) b s7 := .traceStart (.grants h6)
  exact .formReady (.reserveAgain h7)

theorem Keeps.scrubWord {t a : Nat} {e : EccOut} (h : Keeps T b s) : Keeps T b (s.scrubWord t a e) := by
  unfold State.scrubWord
  extract_lets o _ _ s1
  have h1 : Keeps T b s1 := by
    dsimp only [s1]
    clear_value o
    split
    · exact h
    · exact .setTile h
    · exact .setTile h
  exact .eccDone h1

theorem Keeps.passed {t : Nat} (h : Keeps T b s) : Keeps T b (s.passed t) := by
  unfold State.passed
  exact .formReady (.pollAll (.forAll (fun _ _ h => .ite (.setDis h) h) (.setTile (.rset64 (.rinc64 h)))))

theorem Keeps.arrive {t k : Nat} {ring : Ring} {data : BitVec 512} {bad : Bool} (h : Keeps T b s) :
    Keeps T b (s.arrive t k ring data bad) :=
  .planted (.setTile h)

theorem Keeps.queueResult {data : BitVec 512} {bad : Bool} (h : Keeps T b s) :
    Keeps T b (s.queueResult data bad) :=
  .ite h (.ite (.upd h rfl) (.ite (.crcFail h) h))

/-! ## The host link -/

theorem Keeps.dropTags {f : Nat} (h : Keeps T b s) : Keeps T b (s.dropTags f) :=
  .upd (.forAll (fun _ _ => .setTag) h) rfl
theorem Keeps.fnReset {f : Nat} (h : Keeps T b s) : Keeps T b (s.fnReset f) :=
  .upd (.ite (.mbReset (.mbReset (.dropTags h))) (.mbReset (.dropTags h))) rfl
theorem Keeps.cvPower {pair : Nat} {on : Bool} (h : Keeps T b s) : Keeps T b (s.cvPower pair on) :=
  .ite (.wakeDom h) (.upd h rfl)
theorem Keeps.reqReset (h : Keeps T b s) : Keeps T b s.reqReset := .cvPower (.cvPower (.rset h))

theorem Keeps.linkLost {surprise : Bool} (h : Keeps T b s) : Keeps T b (s.linkLost surprise) := by
  unfold State.linkLost
  split
  · exact h
  · extract_lets _ s1 s2 s3 s4 _ s5
    have h1 : Keeps T b s1 := .upd h rfl
    have h2 : Keeps T b s2 := .rincSat (.revt h1)
    have h3 : Keeps T b s3 := .ite (.revt h2) h2
    have h4 : Keeps T b s4 := .forAll (fun _ _ => .fnReset) h3
    clear_value s4
    exact .raise (.reqReset (.upd h4 rfl))

theorem Keeps.unmasked {f v : Nat} (h : Keeps T b s) : Keeps T b (s.unmasked f v) := .ite (.emit (.upd h rfl)) h

theorem Keeps.setVfs {en : Bool} {n : Nat} (h : Keeps T b s) : Keeps T b (s.setVfs en n) := by
  unfold State.setVfs
  extract_lets _ _ s1
  have h1 : Keeps T b s1 := .upd h rfl
  exact .forAll (fun _ _ h => .upd (.fnReset h) rfl) h1

theorem Keeps.announce {f : Nat} {v : W32} (h : Keeps T b s) : Keeps T b (s.announce f v) := by
  unfold State.announce
  extract_lets _ _ s1
  have h1 : Keeps T b s1 := .fnEvt (.rfield (.rfield h))
  exact .ite (.rfield (.rfield h)) (.ite (.rfield (.rfield h)) (.ite (.enterMismatch h1) h1))

theorem Keeps.drvWrite {f : Nat} {v : W32} (h : Keeps T b s) : Keeps T b (s.drvWrite f v) :=
  .ite (.announce (.rset h)) (.rset h)
theorem Keeps.aerUncorr {f : Nat} (h : Keeps T b s) : Keeps T b (s.aerUncorr f) := .raiseU (.revt h)
theorem Keeps.apertureByte {a : Nat} {b' : Byte} (h : Keeps T b s) : Keeps T b (s.apertureByte a b') := .setRing h

theorem Keeps.apertureWrite {who : Initiator} {a : Nat} {data : List (Option Byte)} (h : Keeps T b s) :
    Keeps T b (s.apertureWrite who a data) := by
  unfold State.apertureWrite
  extract_lets
  split
  · exact .firewall h
  · split
    · refine .forAll (fun _ _ h => ?_) h
      split
      · exact .apertureByte h
      · exact h
    · exact h

theorem Keeps.vecMask {f v : Nat} {m : Bool} (h : Keeps T b s) : Keeps T b (s.vecMask f v m) := .unmasked (.upd h rfl)

/-! ## The time unit -/

theorem Keeps.tmRebase (h : Keeps T b s) : Keeps T b s.tmRebase := .upd h rfl
theorem Keeps.setRate {r : Int} (h : Keeps T b s) : Keeps T b (s.setRate r) := .ite (.upd h rfl) (.upd h rfl)
theorem Keeps.servo (h : Keeps T b s) : Keeps T b s.servo := .setRate (.upd h rfl)
theorem Keeps.setTrig {n : Nat} {t : Trigger} (h : Keeps T b s) : Keeps T b (s.setTrig n t) := .upd h rfl
theorem Keeps.trigStep {n old new : Nat} (h : Keeps T b s) : Keeps T b (s.trigStep n old new) :=
  .ite (.ite (.setTrig h) (.revt (.setTrig h))) h
theorem Keeps.stepTo {t : Nat} (h : Keeps T b s) : Keeps T b (s.stepTo t) :=
  .forAll (fun _ _ => .trigStep) (.revt (.rincSat (.upd h rfl)))
theorem Keeps.holdover (h : Keeps T b s) : Keeps T b s.holdover := .ite (.raise (.revt (.upd h rfl))) h
theorem Keeps.noSlave (h : Keeps T b s) : Keeps T b s.noSlave := .holdover (.rset64 (.upd h rfl))
theorem Keeps.offsetStep {offset : Int} (h : Keeps T b s) : Keeps T b (s.offsetStep offset) := .ite (.stepTo h) h

theorem Keeps.syncIn {offset : Int} (h : Keeps T b s) : Keeps T b (s.syncIn offset) := by
  unfold State.syncIn
  extract_lets _ _ _ _ s1
  have h1 : Keeps T b s1 := .rset (.upd h rfl)
  split
  · exact .servo (.offsetStep (.upd h1 rfl))
  · exact .servo (.offsetStep (.upd h1 rfl))
  · exact .ite (.servo (.revt (.upd h1 rfl))) (.servo (.upd h1 rfl))
  · exact .ite (.servo (.upd (.offsetStep (.tmRebase h1)) rfl)) (.servo (.upd h1 rfl))

theorem Keeps.ptpRole {p role : Nat} {gm : W64} (h : Keeps T b s) : Keeps T b (s.ptpRole p role gm) := by
  unfold State.ptpRole
  exact .ite h (.ite (.ite (.rset64 (.rfield (.upd h rfl))) h) (.ite (.noSlave (.rfield h)) (.rfield h)))

theorem Keeps.tmCfg {v : W32} (h : Keeps T b s) : Keeps T b (s.tmCfg v) := by
  unfold State.tmCfg
  extract_lets s1 s2
  have h1 : Keeps T b s1 := .rfield h
  have h2 : Keeps T b s2 := .tmRebase h1
  split
  · exact .rset64 (.upd h2 rfl)
  · split
    · exact .ite h1 (.noSlave h1)
    · exact h1

theorem Keeps.tmPort {p : Nat} {v : W32} (h : Keeps T b s) : Keeps T b (s.tmPort p v) := by
  unfold State.tmPort
  extract_lets _ s1 s2 s3
  have h1 : Keeps T b s1 := .rfield h
  have h2 : Keeps T b s2 := .ite (.rfield h1) h1
  have h3 : Keeps T b s3 := .ite (.noSlave h2) h2
  exact .ownDoms h3

theorem Keeps.tmLoad (h : Keeps T b s) : Keeps T b s.tmLoad := .ite (.stepTo h) (.revt h)
theorem Keeps.tmSetNs {v : W32} (h : Keeps T b s) : Keeps T b (s.tmSetNs v) := .ite (.revt h) (.rfield h)

theorem Keeps.tmTrig {n : Nat} {v : W32} (h : Keeps T b s) : Keeps T b (s.tmTrig n v) := by
  unfold State.tmTrig
  extract_lets s1 _ s2
  have h1 : Keeps T b s1 := .rfield h
  have h2 : Keeps T b s2 := by
    dsimp only [s2]
    split <;> exact .setTrig h1
  exact .ownDoms h2

theorem Keeps.edge {n : Nat} {next : Option Nat} (h : Keeps T b s) : Keeps T b (s.edge n next) := .setTrig h
theorem Keeps.capPop {n : Nat} (h : Keeps T b s) : Keeps T b (s.capPop n) := .upd h rfl

/-! ## Clocks and host-less operation -/

theorem Keeps.hotSource {n : Nat} {limit t : Int} (h : Keeps T b s) : Keeps T b (s.hotSource n limit t) :=
  .ite (.raiseLevel h) (.ite (.lower h) h)

theorem Keeps.pmReq {v : W32} (h : Keeps T b s) : Keeps T b (s.pmReq v) := by
  unfold State.pmReq
  extract_lets _ s1 s2 s3
  have h1 : Keeps T b s1 := .ite h (.rfield h)
  have h2 : Keeps T b s2 := .rfield h1
  have h3 : Keeps T b s3 := .ite h2 (.cvPower h2)
  exact .ite h3 (.cvPower h3)

/-! ## Safety I/O -/

theorem Keeps.capCommit {n : Nat} {r : CapRec} (h : Keeps T b s) : Keeps T b (s.capCommit n r) :=
  .ite (.upd h rfl) (.revt (.upd h rfl))

theorem Keeps.capRound {n : Nat} {u v : Bool} (h : Keeps T b s) : Keeps T b (s.capRound n u v) := by
  unfold State.capRound
  extract_lets _ hit _ _ _ _ _ s1 s2
  have h1 : Keeps T b s1 := .upd h rfl
  have h2 : Keeps T b s2 := .ite h1 (.revt h1)
  clear_value hit
  split
  · exact h
  · split
    · exact .capCommit h2
    · exact h2

theorem Keeps.adopted {old : W64} (h : Keeps T b s) : Keeps T b (s.adopted old) := by
  unfold State.adopted
  extract_lets _ s1 _ s2 s3
  have h1 : Keeps T b s1 := .ite h (.upd h rfl)
  have h2 : Keeps T b s2 := .ite (.upd h1 rfl) h1
  have h3 : Keeps T b s3 := .forAll (fun _ _ => .capRound) h2
  exact .evalPairs h3

/-! ## The reeve's commands -/

theorem Keeps.authFail (h : Keeps T b s) : Keeps T b s.authFail := .ite (.revt (.upd h rfl)) (.upd h rfl)
theorem Keeps.tileClear {t : Nat} (h : Keeps T b s) : Keeps T b (s.tileClear t) := .upd h rfl

theorem Keeps.writeCfg {c : FMap Byte} {opid old new : W32} {kind : Byte} (h : Keeps T b s)
    (he : s.writeCfg c opid old new kind = some e) : Keeps T b e := by
  unfold State.writeCfg at he
  split at he
  · simp only [Option.some.injEq] at he
    exact .upd h (he ▸ rfl)
  · simp at he

/-! ## The key vault -/

theorem Keeps.attRequest {hi : W32} (h : Keeps T b s) : Keeps T b (s.attRequest hi) := .ite (.rset h) (.upd h rfl)
theorem Keeps.eraseKeys (h : Keeps T b s) : Keeps T b s.eraseKeys := .revt (.upd h rfl)

/-! ## The debug block -/

theorem Keeps.haltEnd (h : Keeps T b s) : Keeps T b s.haltEnd :=
  .reeveFlush (.drain (.dogRelease (.ite (.upd h rfl) (.upd h rfl))))

theorem Keeps.sessionEnd (h : Keeps T b s) : Keeps T b s.sessionEnd := by
  unfold State.sessionEnd
  extract_lets _ s1 s2 s3
  have h1 : Keeps T b s1 := .upd h rfl
  have h2 : Keeps T b s2 := .ite (.haltEnd h1) h1
  clear_value s2
  exact .ite h (.releaseDom (.upd h2 rfl))

theorem Keeps.dbChal (h : Keeps T b s) : Keeps T b s.dbChal := .upd h rfl
theorem Keeps.dbAuth {i : Nat} {v : W32} (h : Keeps T b s) : Keeps T b (s.dbAuth i v) :=
  .ite h (.ite (.upd h rfl) (.ite (.upd h rfl) (.ite (.upd h rfl) (.revt (.upd h rfl)))))
theorem Keeps.dbCtl {v : W32} (h : Keeps T b s) : Keeps T b (s.dbCtl v) :=
  .ite (.rfield (.rfield h)) (.ite (.rfield (.rfield h)) (.revt (.rfield h)))
theorem Keeps.haltNow (h : Keeps T b s) : Keeps T b s.haltNow := .dogHold (.ite (.upd h rfl) (.upd h rfl))
theorem Keeps.forceHalt (h : Keeps T b s) : Keeps T b s.forceHalt :=
  .ite (.haltNow h) (.ite (.revt (.upd h rfl)) (.raise (.revt (.upd h rfl))))
theorem Keeps.dbHalt (h : Keeps T b s) : Keeps T b s.dbHalt := .ite h (.ite (.upd h rfl) (.revt h))
theorem Keeps.dbResume (h : Keeps T b s) : Keeps T b s.dbResume := .ite (.haltEnd h) h
theorem Keeps.dbStep (h : Keeps T b s) : Keeps T b s.dbStep := .ite (.upd h rfl) h

theorem Keeps.dbReeve {v : W32} (h : Keeps T b s) : Keeps T b (s.dbReeve v) := by
  unfold State.dbReeve
  extract_lets s1 s2 s3
  have h1 : Keeps T b s1 := .rfield h
  have h2 : Keeps T b s2 := .ite (.forceHalt h1) (.ite (.dbHalt h1) h1)
  have h3 : Keeps T b s3 := .ite (.dbStep h2) h2
  exact .ite (.dbResume h3) h3

theorem Keeps.trCfg {v : W32} (h : Keeps T b s) : Keeps T b (s.trCfg v) :=
  .ite (.rfield h) (.ite (.rfield (.upd h rfl)) (.upd h rfl))

/-! ## Mailboxes -/

theorem Keeps.porterMsg {f : Nat} {t : Nat → Bool} {act : Box → State → State}
    (hact : ∀ a t, Keeps T b t → Keeps T b (act a t)) (h : Keeps T b s) :
    Keeps T b (s.porterMsg f t act) :=
  .ite (hact _ _ (.farTake h)) h

theorem Keeps.porterStatus {f : Nat} {b' : Box} {st : Nat} (h : Keeps T b s) :
    Keeps T b (s.porterStatus f b' st) :=
  .porterSay h

theorem Keeps.ringBoot {f : Nat} {b' : Box} (h : Keeps T b s) : Keeps T b (s.ringBoot f b').2 :=
  .iteSnd h (.iteSnd h (.ringConfig (.ringConfig h)))

theorem Keeps.reeveMsg {t : Nat → Bool} {act : Box → State → State}
    (hact : ∀ a t, Keeps T b t → Keeps T b (act a t)) (h : Keeps T b s) :
    Keeps T b (s.reeveMsg t act) :=
  .ite (hact _ _ (.farTake (.upd h rfl))) h

theorem Keeps.reeveNak {b' : Box} {st : Nat} (h : Keeps T b s) : Keeps T b (s.reeveNak b' st) := .reeveSay h

/-! ## The Bolrax Safe Channel -/

theorem Keeps.sendOne {c : Nat} (h : Keeps T b s) : Keeps T b (s.sendOne c) := by
  unfold State.sendOne
  extract_lets
  split
  · exact h
  · exact .ite h (.forAll (fun _ _ => .emit) (.rinc64 (.setPcon h)))

theorem Keeps.setCcon {c : Nat} {v : CCon} (h : Keeps T b s) : Keeps T b (s.setCcon c v) :=
  .evalChans (.ite (.raiseLevel (.upd h rfl)) (.lower (.upd h rfl)))
theorem Keeps.consumerTimeout {c : Nat} {v : CCon} (h : Keeps T b s) : Keeps T b (s.consumerTimeout c v) :=
  .setCcon (.revt h)

theorem Keeps.acceptPdu {c : Nat} {v : CCon} {seq : W32} {texp : Nat} {permits : W16} (h : Keeps T b s) :
    Keeps T b (s.acceptPdu c v seq texp permits) := by
  unfold State.acceptPdu
  extract_lets
  split
  · exact .ite (.setCcon h) (.setCcon h)
  · exact .setCcon h

theorem Keeps.takePdu {c : Nat} {pdu : List Byte} (h : Keeps T b s) : Keeps T b (s.takePdu c pdu) := by
  unfold State.takePdu
  extract_lets _ _ _ _ _ _ _ _ _ _ _ _ s1 _ _ s2
  have h1 : Keeps T b s1 := .revt h
  have h2 : Keeps T b s2 := .revt h1
  split
  · exact .ite (.consumerTimeout h1) (.setCcon h1)
  · split
    · exact .setCcon (.revt h)
    · split
      · exact .acceptPdu h
      · split
        · exact .setCcon h
        · exact .ite (.acceptPdu h) (.ite (.ite (.consumerTimeout h2) (.setCcon h2)) (.setCcon h1))

/-! ## Watchdogs, monitors, check-value engines -/

theorem Keeps.rwdViolate (h : Keeps T b s) : Keeps T b s.rwdViolate := .raise (.upd h rfl)
theorem Keeps.hwdViolate {why : Nat} (h : Keeps T b s) : Keeps T b (s.hwdViolate why) :=
  .raiseLevel (.rincSat (.revt (.upd h rfl)))

theorem Keeps.hwdService {who : Initiator} {token : W32} (h : Keeps T b s) : Keeps T b (s.hwdService who token) := by
  unfold State.hwdService
  extract_lets s1 _ _ s2 _ s3
  have h1 : Keeps T b s1 := .leaseCheck h
  have h2 : Keeps T b s2 := .draw32 h1
  have h3 : Keeps T b s3 := .upd h2 rfl
  split
  · split
    · exact h1
    · split
      · exact .rset (.rincSat h3)
      · exact .hwdViolate h1
      · exact .hwdViolate h1
      · exact .hwdViolate h1
  · exact .raiseWith (.rincSat (.revt h1))

theorem Keeps.setCv {e : Nat} {v : CvEng} (h : Keeps T b s) : Keeps T b (s.setCv e v) := .upd h rfl
theorem Keeps.cvCompare {k : Nat} (h : Keeps T b s) : Keeps T b (s.cvCompare k) :=
  .ite (.raiseLevel h) (.ite (.lower h) h)

theorem Keeps.cvWrite {e : Nat} {f : Nat → State → State} (hf : ∀ a t, Keeps T b t → Keeps T b (f a t)) (h :
    Keeps T b s) :
    Keeps T b (s.cvWrite e f) :=
  .ite (.revt h) (.ite (hf _ _ h) (.ite (.revt h) (.cvCompare (hf _ _ (hf _ _ h)))))

theorem Keeps.cvInit {alg e : Nat} (h : Keeps T b s) : Keeps T b (s.cvInit alg e) := .setCv h
theorem Keeps.cvFeed {l : List Byte} {e : Nat} (h : Keeps T b s) : Keeps T b (s.cvFeed l e) := .ite h (.setCv h)

theorem Keeps.cvRun {hi : Bool} {x : W32} {e : Nat} (h : Keeps T b s) : Keeps T b (s.cvRun hi x e) := by
  unfold State.cvRun
  extract_lets
  split
  · exact h
  · exact .ite (.ite h (.setCv h)) (.ite (.setCv h) (.setCv h))

theorem Keeps.cvCmp {e : Nat} (h : Keeps T b s) : Keeps T b (s.cvCmp e) := .ite h (.ite (.revt h) (.raise (.revt h)))
theorem Keeps.cvPairctl {k : Nat} {x : W32} (h : Keeps T b s) : Keeps T b (s.cvPairctl k x) :=
  .ite (.revt (.revt h)) (.cvCompare (.rset h))

/-! ## Register access -/

theorem Keeps.absentErr {d : Nat} {who : Initiator} {a : Nat} {write : Bool} (h : Keeps T b s) :
    Keeps T b (s.absentErr d who a write) :=
  .rfield (.accErr h)

theorem Keeps.snapNow {ctl : Nat} (h : Keeps T b s) : Keeps T b (s.snapNow ctl) := .upd h rfl
theorem Keeps.clearMax {a m : Nat} (h : Keeps T b s) : Keeps T b (s.clearMax a m) := .upd h rfl

theorem Keeps.regStore {a : Nat} {v : W32} (h : Keeps T b s) : Keeps T b (s.regStore a v) := by
  unfold State.regStore
  split
  · exact .rset h
  · exact h

theorem Keeps.xpStore {a : Nat} {v : W32} (h : Keeps T b s) : Keeps T b (s.xpStore a v) := by
  unfold State.xpStore
  split
  · exact .rset h
  · exact h

theorem Keeps.dxFail {who : Initiator} {a : Nat} (h : Keeps T b s) : Keeps T b (s.dxFail who a) := .accErr h
theorem Keeps.dxClose (h : Keeps T b s) : Keeps T b s.dxClose := .upd h rfl

theorem Keeps.dxBreak {who : Initiator} {a : Nat} (h : Keeps T b s) : Keeps T b (s.dxBreak who a) := by
  unfold State.dxBreak
  split
  · exact .dxFail (.dxClose h)
  · exact h

theorem Keeps.dxOpen {who : Initiator} {v : W32} (h : Keeps T b s) : Keeps T b (s.dxOpen who v) := .upd h rfl

theorem Keeps.dxComplement {who : Initiator} {v : W32} (h : Keeps T b s) : Keeps T b (s.dxComplement who v) := by
  unfold State.dxComplement
  split
  · exact .dxFail h
  · exact .ite (.hwdService (.dxClose h)) (.dxFail (.dxClose h))

theorem Keeps.injWrite {who : Initiator} {v : W32} (h : Keeps T b s) : Keeps T b (s.injWrite who v) :=
  .ite (.ite (.raiseWith h) h) (.arm h)

theorem Keeps.cvReg {a : Nat} {v : W32} (h : Keeps T b s) : Keeps T b (s.cvReg a v) := by
  unfold State.cvReg
  split
  · exact .cvPairctl h
  · extract_lets o take
    have ht : ∀ f, (∀ e t, Keeps T b t → Keeps T b (f e t)) → Keeps T b (take f s) :=
      fun f hf => .cvWrite (fun _ _ h => hf _ _ (.xpStore h)) h
    clear_value o take
    split
    · exact ht _ fun _ _ => .cvInit
    · exact ht _ fun _ _ => .cvRun
    · exact ht _ fun _ _ => .cvRun
    · exact ht _ fun _ _ => .cvFeed
    · exact ht _ fun _ _ => .cvFeed
    · exact ht _ fun _ _ => .cvFeed
    · exact ht _ fun _ _ => .cvFeed
    · exact ht _ fun _ _ h => .ite (.cvCmp (.ite (.cvInit h) h)) (.ite (.cvInit h) h)
    · exact ht _ fun _ _ => .regStore

theorem Keeps.tmReg {a : Nat} {v : W32} (h : Keeps T b s) : Keeps T b (s.tmReg a v) := by
  unfold State.tmReg
  split
  · extract_lets s1 s2
    have h1 : Keeps T b s1 := .regStore h
    have h2 : Keeps T b s2 := .ite (.snapNow h1) h1
    exact .ite (.tmLoad h2) h2
  · split
    · exact .ownDoms (.tmCfg (.xpStore h))
    · split
      · exact .ownDoms (.tmPort (.xpStore h))
      · split
        · exact .tmSetNs (.xpStore h)
        · exact .ite (.ownDoms (.tmTrig (.xpStore h))) (.ite (.ownDoms (.regStore h)) (.regStore h))

theorem Keeps.dbReg {a : Nat} {v : W32} (h : Keeps T b s) : Keeps T b (s.dbReg a v) := by
  unfold State.dbReg
  split
  · exact .dbCtl (.xpStore h)
  · split
    · exact .ite (.dbChal (.xpStore h)) (.xpStore h)
    · exact .ite (.dbAuth h) (.ite (.dbReeve (.xpStore h)) (.ite (.trCfg (.xpStore h)) (.regStore h)))

theorem Keeps.vrwPop {f : Nat} (h : Keeps T b s) : Keeps T b (s.vrwPop f) := by
  unfold State.vrwPop
  split
  · exact .upd h rfl
  · exact h

theorem Keeps.fnReg {a : Nat} {v : W32} (h : Keeps T b s) : Keeps T b (s.fnReg a v) := by
  unfold State.fnReg
  extract_lets
  split
  · exact .drvWrite h
  · split
    · exact .mbSend h
    · split
      · exact .mbSend h
      · split
        · exact .regStore h
        · split
          · exact .vecMask (.regStore h)
          · split
            · split
              · exact .ringPi h
              · exact .ringCi h
              · exact .regStore h
            · split
              · split
                · exact .tallyPut h
                · exact .tallyPut h
                · exact .regStore h
              · exact .ite (.ite (.vrwPop h) h) (.regStore h)

theorem Keeps.regEffect {who : Initiator} {a : Nat} {v : W32} (h : Keeps T b s) :
    Keeps T b (s.regEffect who a v) := by
  unfold State.regEffect
  split
  · exact .fnReg h
  · split
    · exact .injWrite h
    · split
      · exact .errPWrite (.xpStore h)
      · split
        · exact .ite h (.pmReq (.xpStore h))
        · split
          · exact .ite h (.attRequest h)
          · split
            · exact .cvReg h
            · split
              · exact .tmReg h
              · exact .ite (.dbReg h) (.ite (.regStore h) (.ite (.snapNow (.regStore h)) (.regStore h)))

theorem Keeps.writeMapped {who : Initiator} {a : Nat} {v : W32} (h : Keeps T b s) :
    Keeps T b (s.writeMapped who a v) := by
  unfold State.writeMapped
  split
  · exact .dxOpen (.dxBreak h)
  · split
    · exact .dxComplement h
    · extract_lets s1 _ s2
      have h1 : Keeps T b s1 := .ite (.dxBreak h) h
      have h2 : Keeps T b s2 := .regEffect h1
      split
      · exact .firewall h1
      · split
        · exact .accErr h1
        · split
          · exact .absentErr h1
          · split
            · exact .accErr h1
            · split
              · exact .clearMax h1
              · exact .ite (.accErr h2) h2

theorem Keeps.writeWord {who : Initiator} {a : Nat} {v : W32} (h : Keeps T b s) :
    Keeps T b (s.writeWord who a v) :=
  .ite (.accErr h) (.ite h (.writeMapped h))

theorem Keeps.regWrite {who : Initiator} {p : RegAddr} {len : Nat} {v : W64} {bad : Bool} (h : Keeps T b s) :
    Keeps T b (s.regWrite who p len v bad) := by
  unfold State.regWrite
  extract_lets
  split
  · exact h
  · split
    · split
      · exact .aerUncorr h
      · exact h
    · exact .ite (.writeWord h) (.ite (.writeWord (.writeWord h)) (.accErr h))

theorem Keeps.readEffect {who : Initiator} {a : Nat} (h : Keeps T b s) : Keeps T b (s.readEffect who a) := by
  unfold State.readEffect
  split
  · exact h
  · split
    · exact .clearMax h
    · extract_lets
      split
      · split
        · exact .mbTake h
        · split
          · exact .mbTake h
          · exact .ite (.mbPoll h) (.ite (.mbPoll h) (.ite (.ite h (.tallyPut h)) (.ite (.upd h rfl) h)))
      · exact .ite (.rfield h) (.ite (.capPop h) h)

theorem Keeps.latch {who : Initiator} {a : Nat} (h : Keeps T b s) : Keeps T b (s.latch who a) := .upd h rfl

theorem Keeps.readWord {who : Initiator} {a : Nat} (h : Keeps T b s) : Keeps T b (s.readWord who a).2 := by
  unfold State.readWord
  split
  · exact .accErr h
  · split
    · exact h
    · split
      · exact h
      · split
        · exact .accErr h
        · split
          · exact .absentErr h
          · exact .readEffect (.latch h)

theorem Keeps.readOut {who : Initiator} {a : Nat} (h : Keeps T b s) : Keeps T b (s.readOut who a) := .emit (.readWord h)

theorem Keeps.regRead {who : Initiator} {p : RegAddr} {len : Nat} (h : Keeps T b s) :
    Keeps T b (s.regRead who p len) :=
  .ite h (.ite (.readOut h) (.ite (.readOut (.readOut h)) (.emit (.accErr h))))

/-! ## Register commands -/

theorem Keeps.put {who : Initiator} {p : RegAddr} {v : W32} (h : Keeps T b s) : Keeps T b (s.put who p v) := .regWrite h
theorem Keeps.putDev {who : Initiator} {a : Nat} {v : W32} (h : Keeps T b s) : Keeps T b (s.putDev who a v) := .put h

theorem Keeps.onlyIf {p : Bool} {f : State → State} (hf : ∀ t, Keeps T b t → Keeps T b (f t)) (h : Keeps T b s) :
    Keeps T b (s.onlyIf p f) :=
  .ite (hf _ h) h

/-! ## The debug link -/

theorem Keeps.selectIr {ir : BitVec 6} {boot alarm : Bool} (h : Keeps T b s) :
    Keeps T b (s.selectIr ir boot alarm) :=
  .ite (.upd h rfl) h

theorem Keeps.selectBsr {ir : BitVec 6} {data : BitVec 64} {boot : Bool} (h : Keeps T b s) :
    Keeps T b (s.selectBsr ir data boot) :=
  .ite (.upd h rfl) h

theorem Keeps.openWord (h : Keeps T b s) : Keeps T b s.openWord.2 := .tickFree h

theorem Keeps.coreWord {win addr : Nat} {keep : Bool} (h : Keeps T b s) : Keeps T b (s.coreWord win addr keep).2 := by
  unfold State.coreWord
  extract_lets _ r
  have hr : Keeps T b r.2 := .openWord h
  split
  · exact h
  · exact .ite (.upd hr rfl) hr

theorem Keeps.coreSet {win addr : Nat} {v : W32} (h : Keeps T b s) : Keeps T b (s.coreSet win addr v) := .upd h rfl
theorem Keeps.dbgErr {addr : Nat} {write : Bool} (h : Keeps T b s) : Keeps T b (s.dbgErr addr write) := .accErr h

theorem Keeps.window0 {r : DbgReq} (h : Keeps T b s) : Keeps T b (s.window0 r).2 := by
  unfold State.window0
  extract_lets write a
  clear_value a
  exact .iteSnd (.dbgErr h) (.iteSnd (.iteSnd (.regWrite h) (.iteSnd (.readWord h) (.accErr h)))
    (.iteSnd (.dbgErr h) (.iteSnd (.apertureWrite h) (.upd h rfl))))

theorem Keeps.window1 {r : DbgReq} (h : Keeps T b s) : Keeps T b (s.window1 r).2 := by
  unfold State.window1
  split
  · exact .ite (.coreSet h) (.firewall h)
  · exact .coreWord h

theorem Keeps.window2 {r : DbgReq} (h : Keeps T b s) : Keeps T b (s.window2 r).2 := by
  unfold State.window2
  split
  · split
    · exact .coreSet h
    · exact .ite (.upd h rfl) (.upd h rfl)
  · exact .coreWord h

theorem Keeps.window3 {r : DbgReq} (h : Keeps T b s) : Keeps T b (s.window3 r).2 := by
  unfold State.window3
  split
  · exact h
  · split
    · exact .openWord h
    · exact h

theorem Keeps.window4 {r : DbgReq} (h : Keeps T b s) : Keeps T b (s.window4 r).2 := by
  unfold State.window4
  split
  · exact .dbgErr h
  · exact h

theorem Keeps.window {r : DbgReq} (h : Keeps T b s) : Keeps T b (s.window r).2 := by
  unfold State.window
  split
  · exact .window0 h
  · split
    · exact .dbgErr h
    · split
      · exact .window1 h
      · exact .window2 h
      · exact .window3 h
      · exact .window4 h

theorem Keeps.dbgRun {r : DbgReq} (h : Keeps T b s) : Keeps T b (s.dbgRun r) :=
  .ite h (.ite (.upd h rfl) (.upd (.window h) rfl))
theorem Keeps.sessionBegin (h : Keeps T b s) : Keeps T b s.sessionBegin :=
  .wakeDom (.ite (.upd h rfl) (.raise (.upd h rfl)))

theorem Keeps.dbgScan {r : DbgReq} (h : Keeps T b s) : Keeps T b (s.dbgScan r) := by
  unfold State.dbgScan
  split
  · exact h
  · split
    · exact .emit h
    · split
      · exact .emit h
      · extract_lets s1 s2
        have h1 : Keeps T b s1 := .emit h
        have h2 : Keeps T b s2 := .ite h1 (.sessionBegin h1)
        exact .ite (.dbgRun h2) (.upd h2 rfl)

theorem Keeps.wakeEnd {d : Nat} (h : Keeps (m ≤ ·) b s) : Keeps (m ≤ ·) b (s.wakeEnd d) := by
  unfold State.wakeEnd
  extract_lets _ s1 _ s2 s3
  have h1 : Keeps (m ≤ ·) b s1 := .advance h
  have h2 : Keeps (m ≤ ·) b s2 := .upd h1 rfl
  have h3 : Keeps (m ≤ ·) b s3 := .domsOn h2
  split
  · exact h
  · split
    · exact h2
    · split
      · exact .dbgRun (.upd h3 rfl)
      · exact h3

/-! ## Evidence writes -/

theorem Keeps.ageFire {n : Nat} {f : Frame} (h : Keeps T b s) : Keeps T b (s.ageFire n f) :=
  .form (.ite h (.revt (.rincSat (.raise h))))
theorem Keeps.laneDrop {f k reg : Nat} {st : LaneSt} (h : Keeps T b s) : Keeps T b (s.laneDrop f k reg st) :=
  .setLane (.fnEvt (.rincSat h))

theorem Keeps.laneAppend {f k : Nat} {data : List Byte} (h : Keeps T b s) : Keeps T b (s.laneAppend f k data) := by
  unfold State.laneAppend
  extract_lets _ _ _ s1
  have h1 : Keeps T b s1 := .ite (.rincSat h) h
  split
  · exact .laneDrop h
  · split
    · exact .evComplete (.setLane h)
    · exact .ite (.laneDrop (.raise h)) (.ite (.evComplete (.setLane h1)) (.setLane h))

theorem Keeps.laneWrite {f k o : Nat} {data : List Byte} (h : Keeps T b s) : Keeps T b (s.laneWrite f k o data) := by
  unfold State.laneWrite
  extract_lets s1
  have h1 : Keeps T b s1 := .ite (.ite (.laneDrop h) (.setLane h)) h
  exact .ite (.ite (.laneDrop h1) (.setLane h1)) (.laneAppend h1)

theorem Keeps.delivered {p : PStream} {f : Frame} (h : Keeps T b s) : Keeps T b (s.delivered p f) :=
  .ite (.setFrame h) h

theorem Keeps.takeCommit {r : List Byte} {p : PStream} {f : Frame} (h : Keeps T b s) :
    Keeps T b (s.takeCommit r p f) := by
  unfold State.takeCommit
  split
  · exact .ite h (.ite (.reLayer (.setCommit h)) (.setFrame h))
  · split
    · exact h
    · split
      · exact h
      · extract_lets _ _ _ s1 s2
        have h1 : Keeps T b s1 := .upd h rfl
        have h2 : Keeps T b s2 := .ite (.setFrame h1) h1
        exact .ite (.reLayer h2) (.queueReveal h2)

theorem Keeps.takeSample {r : List Byte} {t : Nat} {p : PStream} {f : Frame} (h : Keeps T b s) :
    Keeps T b (s.takeSample r t p f) := by
  unfold State.takeSample
  extract_lets s1
  have h1 : Keeps T b s1 := .setFrame h
  split
  · extract_lets _ _ _ _ _ s2 s3
    have h2 : Keeps T b s2 := .setCommit h
    have h3 : Keeps T b s3 := .ite (.taskEvent h2) h2
    exact .ite h (.ite h (.ite h1 (.ite (.delivered h3) h3)))
  · exact h1

theorem Keeps.takeCanary {r : List Byte} {p : PStream} {f : Frame} (h : Keeps T b s) :
    Keeps T b (s.takeCanary r p f) :=
  .ite h (.delivered (.setFrame h))

theorem Keeps.lateResult (h : Keeps T b s) : Keeps T b s.lateResult := .revt (.rinc64 h)

theorem Keeps.takeResultRec {r : List Byte} {t : Nat} {p : PStream} {f : Frame} (h : Keeps T b s) :
    Keeps T b (s.takeResultRec r t p f) := by
  unfold State.takeResultRec
  split
  · exact .ite h (.setFrame h)
  · extract_lets _ _ _ s1
    have h1 : Keeps T b s1 := .rmax (.setFrame h)
    exact .ite (.progress (.setFrame h)) (.ite h (.ite (.lateResult h) (.progress (.delivered h1))))

theorem Keeps.lateAfter {f t : Nat} {r : List Byte} (h : Keeps T b s) : Keeps T b (s.lateAfter f t r) := by
  unfold State.lateAfter
  split
  · exact .ite (.lateResult h) h
  · exact h

theorem Keeps.freshMissing {n fwd layer : Nat} (h : Keeps T b s) : Keeps T b (s.freshMissing n fwd layer) :=
  .pollAll (.forAll (fun _ _ h => .ite (.setDis h) h) h)

theorem Keeps.publishFb {p : PStream} {f : Frame} {v : BitVec 96} (h : Keeps T b s) :
    Keeps T b (s.publishFb p f v) :=
  .ite (.holdSet (.setStream h)) (.setStream h)

theorem Keeps.disResult {l : List Byte} {sound : Bool} {g : DisSlot → DisSlot} (h : Keeps T b s) :
    Keeps T b (s.disResult l sound g) := by
  unfold State.disResult
  extract_lets _ s1
  have h1 : Keeps T b s1 := .ite (.pollAll (.forAll (fun _ _ h => .ite (.setDis h) h) h)) h
  exact .ite (.crcFail h1) h1

end Sys2Proof.Machine
end

section
/-! What a step keeps (O58, O59): the commands. -/

namespace Sys2Proof.Machine
open Sys2Proof

variable {T : Nat → Prop} {b s e : State} {m : Nat}

/-- Whatever state the outcome is, it keeps all from `b`. -/
def Answers (T : Nat → Prop) (b : State) (o : Host.Outcome State Fault Refusal) : Prop := ∀ e, o = .next e → Keeps T b e
theorem Keeps.okInfo {info : Nat} (h : Keeps T b s) : Keeps T b (okInfo info s).2.2 := h

theorem Answers.next (h : Keeps T b s) : Answers T b (.next s) := by
  intro e he
  cases he
  exact h

theorem Answers.done (h : Keeps T b s) : Answers T b s.done := .next h.finish

theorem Answers.ite {c : Prop} [Decidable c] {x y : Host.Outcome State Fault Refusal} (hx : Answers T b x)
    (hy : Answers T b y) : Answers T b (if c then x else y) := by
  split <;> assumption

theorem Answers.act {f : State → State} (h : Keeps T b s) (hf : Keeps T b (f s)) : Answers T b (s.act f) :=
  .ite (.next h) (.done hf)

theorem Answers.onTag {t opc : Nat} {f : Tag → State → State} (h : Keeps T b s)
    (hf : ∀ c s, Keeps T b s → Keeps T b (f c s)) : Answers T b (s.onTag t opc f) := by
  refine .act h ?_
  split
  · exact .ite (hf _ _ h) h
  · exact h

theorem Answers.reeveCmd {p : ReqPath} {code : Nat} {masks : List Nat} {rangesOk priv : BitVec 512 → Bool}
    {f : BitVec 512 → State → Nat × Nat × State} (h : Keeps T b s)
    (hf : ∀ r s, Keeps T b s → Keeps T b (f r s).2.2) : Answers T b (s.reeveCmd p code masks rangesOk priv f) := by
  refine .act h ?_
  split
  · exact h
  · extract_lets s1 _ s2 _ s3 q
    have h2 : Keeps T b s2 := .upd (.lockCheck (.leaseCheck h)) rfl
    have h3 : Keeps T b s3 := .upd h2 rfl
    have hq : Keeps T b q.2.2 := hf _ _ h3
    exact .ite h (.ite (.drain (.answer h2)) (.ite (.drain (.answer h2)) (.ite (.drain (.answer h3))
      (.ite (.drain (.answer h3)) (.ite (.drain (.answer h3)) (.drain (.answer hq)))))))

/-! ## Commands whose own case split says why -/

theorem Answers.porstNAssert {ns : Nat} (h0 : T 0) (h : Keeps T b s) : Answers T b (execPorstNAssert ns s) := by
  exact .ite (.next h) (.next (.coldBase h0 h.queue))

theorem Answers.porstNRelease {split bench : BitVec 8} {phys : Phys} (h0 : T 0) (h : Keeps T b s) :
    Answers T b (execPorstNRelease split bench phys s) := by
  exact .ite (.next h) (.ite (.done (.coldStart h0 h.queue)) (.next (.upd h rfl)))

theorem Answers.supplyReset {rail : Rail} (h0 : T 0) (h : Keeps T b s) : Answers T b (execSupplyReset rail s) :=
  .next (.coldBase h0 h.queue)

theorem Answers.supplyRestored {split bench : BitVec 8} {phys : Phys} (h0 : T 0) (h : Keeps T b s) :
    Answers T b (execSupplyRestored split bench phys s) := by
  exact .ite (.next h) (.ite (.done (.coldStart h0 h.queue)) (.next (.upd h rfl)))

theorem Answers.degradedLimit (h : Keeps (m ≤ ·) b s) : Answers (m ≤ ·) b (execDegradedLimit s) := by
  refine .act h ?_
  split
  · exact .ite (.enterSafeHold (.raise (.advance h))) h
  · exact h

theorem Answers.sourceDeassert {n : Src} (h : Keeps T b s) : Answers T b (execSourceDeassert n s) := by
  refine .act h ?_
  split
  · exact h
  · extract_lets _ _ s1 _ s2
    have h1 : Keeps T b s1 := .ite (.upd h rfl) (.ite (.upd h rfl) (.ite (.upd h rfl) h))
    have h2 : Keeps T b s2 := .deassert h1
    exact .ite (.latchSeen h2) h2

theorem Answers.checkerRotation {pass silent : Bool} (h : Keeps T b s) :
    Answers T b (execCheckerRotation pass silent s) := by
  refine .act h ?_
  extract_lets _ _ s1 _ s2 s3
  have h1 : Keeps T b s1 := .upd h rfl
  have h2 : Keeps T b s2 := by
    dsimp only [s2]
    split
    · exact .raiseSeen (.raiseU h1)
    · exact h1
  have h3 : Keeps T b s3 := .revt h2
  exact .ite (.ite (.upd h1 rfl) h1) (.ite (.raise h3) h3)

theorem Answers.recoveryTimeout (h : Keeps (m ≤ ·) b s) : Answers (m ≤ ·) b (execRecoveryTimeout s) := by
  refine .act h ?_
  split
  · exact h
  · exact .stopCores (.advance h)

theorem Answers.voterDisagreement {prim shad : BitVec 6} (h : Keeps T b s) :
    Answers T b (execVoterDisagreement prim shad s) := by
  refine .act h ?_
  exact .ite h (.rmaxFree (.ite (.rincSat (.voterOutcome (.raise h))) (.voterOutcome (.raise h))))

theorem Answers.hourlyCoreSelftest {core : Fin 3} {pass : Bool} (h : Keeps T b s) :
    Answers T b (execHourlyCoreSelftest core pass s) := by
  refine .act h ?_
  split
  · exact .rfield h
  · exact .rfield h
  · exact .rfield h
  · exact h

theorem Answers.planFirstBoundary (h : Keeps (m ≤ ·) b s) : Answers (m ≤ ·) b (execPlanFirstBoundary s) := by
  refine .act h ?_
  split
  · split
    · extract_lets s1 _ s2 s3 s4
      have h1 : Keeps (m ≤ ·) b s1 := .advance h
      have h2 : Keeps (m ≤ ·) b s2 := .loadTag h1
      have h3 : Keeps (m ≤ ·) b s3 := .startPlan (.drawKey h2)
      have h4 : Keeps (m ≤ ·) b s4 := .revt h3
      exact .ite (.evalChans (.startTests (.brakeFirst (.enterRun h4)))) (.evalChans h4)
    · exact h
  · exact h

theorem Answers.planSwitchBoundary (h : Keeps (m ≤ ·) b s) : Answers (m ≤ ·) b (execPlanSwitchBoundary s) := by
  refine .act h ?_
  split
  · exact .ite (.boundaryB (.advance h)) h
  · exact h

theorem Answers.planSwitchPlaced {at_ : Nat} {good : Bool} (h : Keeps (m ≤ ·) b s) :
    Answers (m ≤ ·) b (execPlanSwitchPlaced at_ good s) := by
  refine .act h ?_
  split
  · refine .ite h (.ite (.switchFail (.advance h)) ?_)
    extract_lets s1 s2 n rs s3 s4 s5
    have h3 : Keeps (m ≤ ·) b s3 := .loadTag (.advance (.advance h))
    have h5 : Keeps (m ≤ ·) b s5 := .upd (.blackoutDone (.startPlan h3)) rfl
    have hr : Keeps (m ≤ ·) { s5 with dev.blackout := false } { s5 with dev.blackout := false }.enterRun :=
      .enterRun (.start h5.time)
    exact .ite (.settled hr h5.queue) (.evalChans h5)
  · exact h

theorem Answers.holdRecord {n : Stream} (h : Keeps (m ≤ ·) b s) : Answers (m ≤ ·) b (execHoldRecord n s) := by
  refine .act h ?_
  split
  · exact .ite h (.journal (.upd (.advance h) rfl))
  · exact h

theorem Answers.updDownload {tag : Fin 512} (h : Keeps T b s) : Answers T b (execUpdDownload tag s) := by
  refine .onTag h (fun c s h => .updStage (fun k s h => ?_) h)
  exact .ite (.updFail h) (.ite (.updFail (.upd h rfl)) (.ite (.finishTag (.revt (.upd h rfl))) (.updBegin (.upd h rfl))))

theorem Answers.updActivate {tag : Fin 512} (h : Keeps T b s) : Answers T b (execUpdActivate tag s) := by
  refine .onTag h (fun c s h => .updStage (fun k s h => ?_) h)
  have hl : Keeps T b s.leaseCheck := .leaseCheck h
  exact .ite (.updFail hl) (.ite (.updFail hl) (.ite (.updFail hl) (.ite (.updFail hl) (.ite (.updFail hl)
    (.ite (.updFail hl) (.finishTag (.revt (.upd hl rfl))))))))

theorem Answers.updConfirm {tag : Fin 512} (h : Keeps T b s) : Answers T b (execUpdConfirm tag s) := by
  refine .onTag h (fun c s h => .updStage (fun k s h => ?_) h)
  extract_lets s1 _ _ _ _ _ s2
  have h1 : Keeps T b s1 := .leaseCheck h
  have h2 : Keeps T b s2 := .finishTag (.revt (.upd h1 rfl))
  refine .ite (.updFail h1) (.ite (.updFail h1) (.ite (.updFail h1) (.ite (.updFail h1) ?_)))
  split
  · exact .ite (.undegrade h2) h2
  · exact h2

theorem Answers.abort {tag : Fin 512} (h : Keeps T b s) : Answers T b (execAbort tag s) := by
  refine .onTag h (fun c s h => ?_)
  extract_lets x no
  have hno (st : Nat) : Keeps T b (no st) := .finishTag h
  clear_value no
  split
  · exact hno 9
  · next d _ =>
    extract_lets w
    have hw : Keeps T b w := .abortWaits h
    refine .ite (hno 9) ?_
    split
    · exact hno 8
    · exact .ite hw.finishTag (hno 10)
    · exact .ite (hno 10) (.ite hw.finishTag (.ite (.ite (.revt (hno 8)) hw.refuseLoad) hw))

theorem Answers.tallyWaitTimeout {tag : Fin 512} (h : Keeps (m ≤ ·) b s) :
    Answers (m ≤ ·) b (execTallyWaitTimeout tag s) := by
  refine .act h ?_
  split
  · split
    · exact .ite (.finishTag (.advance h)) h
    · exact h
  · exact h

theorem Answers.safeAnswer {corrupt : Bool} (h : Keeps T b s) : Answers T b (execSafeAnswer corrupt s) := by
  refine .act h ?_
  split
  · exact h
  · split
    · exact h
    · extract_lets _ s1
      have h1 : Keeps T b s1 := .upd h rfl
      exact .ite (.finishTag (.raise h1)) (.ite (.finishTag (.tagInfo h1)) (.finishTag h1))

theorem Answers.vectorModerationEnd {f : Fn} {ring : Fin 1024} (h : Keeps (m ≤ ·) b s) :
    Answers (m ≤ ·) b (execVectorModerationEnd f ring s) := by
  unfold execVectorModerationEnd
  refine .act h ?_
  extract_lets r
  split
  · exact .msix (.setRing (.advance h))
  · exact h

theorem Answers.bsfPacket {e : Fin 2} {dport : W16} {data : List Byte} {formOk sumOk : Bool} {descs : Descs}
    {at_ : Nat} (h : Keeps (m ≤ ·) b s) :
    Answers (m ≤ ·) b (execBsfPacket e dport data formOk sumOk descs at_ s) := by
  refine .act h ?_
  extract_lets s1
  have h1 : Keeps (m ≤ ·) b s1 := .advance h
  split
  · exact .srcCount h1
  · split
    · exact .unbound h1
    · exact .bsfIn h1

theorem Answers.csiLongPacket {port : Fin 2} {vc : Fin 16} {dt : BitVec 6} {data : List Byte} {crcOk : Bool} (h :
    Keeps T b s) :
    Answers T b (execCsiLongPacket port vc dt data crcOk s) := by
  refine .act h ?_
  split
  · exact .unbound h
  · split
    · exact .csiLine h
    · exact .orphan h

theorem Answers.csiFrameEnd {port : Fin 2} {vc : Fin 16} {descs : Descs} {at_ : Nat} (h : Keeps (m ≤ ·) b s) :
    Answers (m ≤ ·) b (execCsiFrameEnd port vc descs at_ s) := by
  refine .act h ?_
  extract_lets s1
  have h1 : Keeps (m ≤ ·) b s1 := .advance h
  refine .forAll (fun _ _ h => ?_) h1
  split
  · exact .closeFrame h
  · exact h

theorem Answers.ingressWindowEnd {n : Stream} {descs : Descs} (h : Keeps (m ≤ ·) b s) :
    Answers (m ≤ ·) b (execIngressWindowEnd n descs s) := by
  refine .act h ?_
  split
  · exact .closeFrame (.advance h)
  · exact h

theorem Answers.creditEarn {n : Stream} (h : Keeps (m ≤ ·) b s) : Answers (m ≤ ·) b (execCreditEarn n s) := by
  refine .act h ?_
  split
  · exact .setGs (.advance h)
  · exact h

theorem Answers.forwardDone {n : Stream} {err : Bool} {written : Nat} (h : Keeps T b s) :
    Answers T b (execForwardDone n err written s) := by
  refine .act h ?_
  split
  · split
    · exact h
    · extract_lets _ _ _ _ s1 s2 s3
      have h1 : Keeps T b s1 := .setFrame h
      have h2 : Keeps T b s2 := .ite (.emit h1) h1
      have h3 : Keeps T b s3 := .ite (.raiseU (.fwdErr h2)) h2
      exact .ite (.writeBack h3) h3
  · exact h

theorem Answers.knownAnswerIntervalEnd {n : Stream} {descs : Descs} (h : Keeps (m ≤ ·) b s) :
    Answers (m ≤ ·) b (execKnownAnswerIntervalEnd n descs s) := by
  refine .act h ?_
  split
  · exact .ite h (.kaBegin (.setStream (.goldens (.advance h))))
  · exact h

theorem Answers.goldenCopy {n : Stream} (h : Keeps T b s) : Answers T b (execGoldenCopy n s) := by
  refine .act h ?_
  split
  · extract_lets
    split
    · exact h
    · split
      · exact .upd h rfl
      · exact .nobuf h
  · exact h

theorem Answers.digestStep {f : Fn} {i : Fin 256} (h : Keeps T b s) : Answers T b (execDigestStep f i s) := by
  refine .act h ?_
  extract_lets
  split
  · split
    · exact h
    · extract_lets
      split
      · exact .nobuf h
      · exact .emit (.setDigest (.upd h rfl))
  · exact h

theorem Answers.digestIntervalEnd {n : Stream} (h : Keeps (m ≤ ·) b s) :
    Answers (m ≤ ·) b (execDigestIntervalEnd n s) := by
  refine .act h ?_
  split
  · exact .ite h (.upd (.advance h) rfl)
  · exact h

theorem Answers.stld {t : Tile} {c : Ctx} {stg : Fin 2} {row : Fin 8} {cnt : Fin 4} {bank : Fin 16} {ar : Fin 4}
    {disp : W16} {hit : Fin 4} {ecc : EccOut} (h : Keeps T b s) :
    Answers T b (execStld t c stg row cnt bank ar disp hit ecc s) := by
  refine .done (.issue (fun p s h => ?_) h)
  split
  · exact .bounds h
  · extract_lets es s1 s2
    have h2 : Keeps T b s2 := .forAll (fun _ _ => .setTile) (.forAll (fun _ _ => .eccMark) h)
    exact .forAll (fun _ _ => .eccDone) (.ctxUpd h2)

theorem Answers.tstore {t : Tile} {c : Ctx} {tw : Fin 32} {bank : Fin 16} {ar : Fin 4} {disp : BitVec 10}
    (h : Keeps T b s) : Answers T b (execTstore t c tw bank ar disp s) := by
  refine .done (.issue (fun p s h => ?_) h)
  split
  · exact .bounds h
  · exact .ctxUpd (.planted (.setTile h))

theorem Answers.tjudgey {t : Tile} {c : Ctx} {tw : Fin 32} {d bank1 : Fin 16} {ar1 : Fin 4} {bank2 : Fin 16}
    {ar2 : Fin 4}
    {disp1 disp2 : BitVec 10} {hit : Bool} {ecc : EccOut} (h : Keeps T b s) :
    Answers T b (execTjudgey t c tw d bank1 ar1 bank2 ar2 disp1 disp2 hit ecc s) := by
  refine .done (.issue (fun p s h => ?_) h)
  extract_lets
  split
  · exact .eccDone (.eccDone (.ctxUpd (.eccMark (.eccMark h))))
  · exact .bounds h

theorem Answers.slotStrobe (h : Keeps (m ≤ ·) b s) : Answers (m ≤ ·) b (execSlotStrobe s) := by
  refine .act h ?_
  split
  · exact h
  · exact .ite h (.strobe h)

theorem Answers.residentStep {t : Tile} {sigOk : Bool} {ecc : List EccOut} {at_ : Nat} (h : Keeps (m ≤ ·) b s) :
    Answers (m ≤ ·) b (execResidentStep t sigOk ecc at_ s) := by
  refine .act h ?_
  extract_lets _ s1 _ _ s2 s3 s4
  have h1 : Keeps (m ≤ ·) b s1 := .advance h
  have h2 : Keeps (m ≤ ·) b s2 := .setTile h1
  have h3 : Keeps (m ≤ ·) b s3 := .rset h2
  have h4 : Keeps (m ≤ ·) b s4 := .forAll (fun _ _ => .scrubWord) h3
  exact .ite (.ite h4 (.ite (.ite (.passed h4) h4) (.quarantineForm (.raiseU (.revt h4))))) h

theorem Answers.meshDelivery {route : BitVec 12} {data : BitVec 512} {coll : Bool} {link : Option (Fin 768)}
    (h : Keeps T b s) : Answers T b (execMeshDelivery route data coll link s) := by
  refine .act h ?_
  split
  · exact h
  · split
    · exact h
    · extract_lets src
      clear_value src
      split
      · exact h
      · extract_lets s1 _ s2
        have h1 : Keeps T b s1 := .upd h rfl
        have h2 : Keeps T b s2 := by
          dsimp only [s2]
          split
          · exact .raiseU (.revt (.ite (.disarm h1) h1))
          · exact h1
        split
        · exact .ite (.queueResult h2) h2
        · split
          · exact .ite (.raiseU (.revt (.arrive h2))) (.arrive h2)
          · exact h2

theorem Answers.awaitResume {t : Tile} {c : Ctx} (h : Keeps T b s) : Answers T b (execAwaitResume t c s) := by
  refine .act h ?_
  split
  · exact .ite (.ctxUpd h) h
  · exact h

theorem Answers.deepTestStart (h : Keeps T b s) : Answers T b (execDeepTestStart s) := by
  refine .act h ?_
  split
  · exact h
  · exact .wakeDom (.setTile h)
  · exact h

theorem Answers.deepTestEnd {pass routerOk : Bool} {at_ : Nat} (h : Keeps (m ≤ ·) b s) :
    Answers (m ≤ ·) b (execDeepTestEnd pass routerOk at_ s) := by
  refine .act h ?_
  split
  · exact h
  · extract_lets s1 _ _ s2 _ _ s3 _ s4
    have h1 : Keeps (m ≤ ·) b s1 := .advance h
    have h2 : Keeps (m ≤ ·) b s2 := .setTile h1
    have h3 : Keeps (m ≤ ·) b s3 := .setTile h1
    have h4 : Keeps (m ≤ ·) b s4 := .upd h3 rfl
    exact .ite (.ite (.setTile h1) (.upd h2 rfl)) (.raiseU (.raiseU (.revt h4)))

theorem Answers.droopEvent {q : Fin 48} {n : Fin 8} (h : Keeps T b s) : Answers T b (execDroopEvent q n s) := by
  refine .act h ?_
  exact .ite (.rset (.upd (.raise (.revt (.rinc64 h))) rfl)) (.upd (.raise (.revt (.rinc64 h))) rfl)

theorem Answers.illegalWord {t : Tile} {c : Ctx} {w : W64} (h :
    Keeps T b s) : Answers T b (execIllegalWord t c w s) := by
  refine .done (.ite ?_ h)
  split
  · exact .illegal (.trace h)
  · exact h

theorem Answers.perstNAssert {at_ : Nat} (h : Keeps (m ≤ ·) b s) :
    Answers (m ≤ ·) b (execPerstNAssert at_ s) := by
  exact .ite (.next (.upd h rfl)) (.ite (.done h) (.done (.linkLost (.upd (.advance h) rfl))))

theorem Answers.hostLinkPowerOff (h : Keeps (m ≤ ·) b s) : Answers (m ≤ ·) b (execHostLinkPowerOff s) := by
  refine .act h ?_
  split
  · exact .upd (.advance h) rfl
  · exact h

theorem Answers.perstNRelease {at_ : Nat} (h : Keeps (m ≤ ·) b s) :
    Answers (m ≤ ·) b (execPerstNRelease at_ s) := by
  refine .ite (.next (.upd h rfl)) (.ite (.done h) ?_)
  extract_lets s1 _ _ s2 s3
  have h2 : Keeps (m ≤ ·) b s2 := .upd (.advance h) rfl
  exact .done (.ite h2 (.upd (.forAll (fun _ _ => .wakeDom) h2) rfl))

theorem Answers.configRequest {f : Fn} {vfs : Option (Bool × Fin 64)} {fmask : Option Bool} (h : Keeps T b s) :
    Answers T b (execConfigRequest f vfs fmask s) := by
  refine .act h ?_
  split
  · exact h
  · split
    · exact .emit h
    · split
      · exact .emit h
      · extract_lets s1 _ s2
        have h1 : Keeps T b s1 := by
          dsimp only [s1]
          split
          · exact .ite (.setVfs h) h
          · exact h
        have h2 : Keeps T b s2 := by
          dsimp only [s2]
          split
          · exact .forAll (fun _ _ => .unmasked) (.upd h1 rfl)
          · exact h1
        exact .emit h2

theorem Answers.apertureAccess {off : BitVec 23} {data : Option (List (Option Byte))} {len : Fin 513} {unc : Bool}
    (h : Keeps T b s) :
    Answers T b (execApertureAccess off data len unc s) := by
  refine .act h ?_
  split
  · exact h
  · extract_lets _ _ s1 s2
    have h1 : Keeps T b s1 := .emit h
    have h2 : Keeps T b s2 := .upd h1 rfl
    split
    · exact h
    · split
      · exact .aerUncorr h
      · split
        · exact .apertureWrite h
        · exact .ite (.raiseWith h2) h2

theorem Answers.dmaReadTimeout {r : DmaRead} (h : Keeps T b s) : Answers T b (execDmaReadTimeout r s) := by
  refine .act h ?_
  split
  · exact .digestDone h
  · exact .fetchCmd h
  · split
    · exact .ite (.ply h) h
    · exact h
  · exact .ite (.loadPly h) h

theorem Answers.ptpMessage {port : Port} {announce : Bool} {role : Option (Fin 6)} {gm : W64} {reply : Bool}
    {at_ : Nat} (h : Keeps (m ≤ ·) b s) :
    Answers (m ≤ ·) b (execPtpMessage port announce role gm reply at_ s) := by
  refine .act h ?_
  split
  · exact h
  · extract_lets s1 _ s2 s3
    have h1 : Keeps (m ≤ ·) b s1 := .advance h
    have h2 : Keeps (m ≤ ·) b s2 := .ite (.upd h1 rfl) h1
    have h3 : Keeps (m ≤ ·) b s3 := by
      dsimp only [s3]
      split
      · exact .ptpRole h2
      · exact h2
    exact .ite (.emit h3) h3

theorem Answers.syncLossTimeout (h : Keeps (m ≤ ·) b s) : Answers (m ≤ ·) b (execSyncLossTimeout s) := by
  refine .act h ?_
  split
  · exact .ite (.holdover (.advance h)) h
  · exact h

theorem Answers.txTimestampWriteback {port : Port} {ptp : Bool} {at_ : Nat} (h : Keeps (m ≤ ·) b s) :
    Answers (m ≤ ·) b (execTxTimestampWriteback port ptp at_ s) := by
  refine .act h ?_
  extract_lets s1
  have h1 : Keeps (m ≤ ·) b s1 := .advance h
  split
  · exact .ite (.rset64 (.rset (.rset h1))) h1
  · split
    · exact .ite (.rmaxFree h1) h1
    · exact h1

theorem Answers.triggerEdge {n : Fin 16} (h : Keeps (m ≤ ·) b s) : Answers (m ≤ ·) b (execTriggerEdge n s) := by
  refine .act h ?_
  split
  · exact h
  · exact h
  · split
    · exact .edge (.advance h)
    · exact h
  · exact .edge (.advance h)

theorem Answers.pllMonitorFault {pll : Pll} (h : Keeps T b s) : Answers T b (execPllMonitorFault pll s) := by
  refine .act h ?_
  split
  · extract_lets _ s1 s2
    have h1 : Keeps T b s1 := by
      dsimp only [s1]
      split
      · exact .upd h rfl
      · exact h
    have h2 : Keeps T b s2 := by
      dsimp only [s2]
      split
      · exact .blockReset h1
      · exact h1
    exact .raiseLevel (.revt h2)
  · exact h

theorem Answers.pllRelock {pll : Pll} {ok : Bool} (h : Keeps T b s) : Answers T b (execPllRelock pll ok s) := by
  refine .act h ?_
  split
  · exact .ite (.ite (.lower (.revt (.upd h rfl))) (.revt (.upd h rfl))) h
  · exact h

theorem Answers.temperatureRead {r : List ℤ} (h : Keeps T b s) : Answers T b (execTemperatureRead r s) := by
  refine .act h ?_
  split
  · exact .hotSource (.hotSource (.rfield h))
  · exact h

theorem Answers.hostlessEntry (h : Keeps (m ≤ ·) b s) : Answers (m ≤ ·) b (execHostlessEntry s) := by
  refine .act h ?_
  split
  · exact .ite (.reqReset (.forAll (fun _ _ => .releaseDom) (.revt (.upd (.advance h) rfl)))) h
  · exact h

theorem Answers.hostlessExit (h : Keeps (m ≤ ·) b s) : Answers (m ≤ ·) b (execHostlessExit s) := by
  refine .act h ?_
  split
  · exact .ite (.revt (.upd (.advance h) rfl)) h
  · exact h

theorem Answers.agreementRound {a b' c : W64} {fb : BitVec 20} {at_ : Nat} (h : Keeps (m ≤ ·) b s) :
    Answers (m ≤ ·) b (execAgreementRound a b' c fb at_ s) := by
  refine .act h ?_
  extract_lets s1 _ s2 _ s3
  have h1 : Keeps (m ≤ ·) b s1 := .advance h
  have h2 : Keeps (m ≤ ·) b s2 := .forAll (fun _ _ => .fbWatch) (.upd h1 rfl)
  have h3 : Keeps (m ≤ ·) b s3 := .adopt h2
  exact .ite h2 (.ite (.upd h3 rfl) (.adopted h3))

theorem Answers.brakeApplyEnd {h' : Fin 2} (h : Keeps (m ≤ ·) b s) :
    Answers (m ≤ ·) b (execBrakeApplyEnd h' s) := by
  refine .act h ?_
  extract_lets k c s1
  have h1 : Keeps (m ≤ ·) b s1 := .advance h
  have h2 : Keeps (m ≤ ·) b (s1.setChan k { c with bt := .torque }) := .setChan h1 id
  exact .ite (.ite (.brakeFail h1) (.upd h2 rfl)) h

theorem Answers.brakeTorqueEnd {h' : Fin 2} (h : Keeps (m ≤ ·) b s) :
    Answers (m ≤ ·) b (execBrakeTorqueEnd h' s) := by
  refine .act h ?_
  extract_lets k c bc s1 _ s2 due
  have h2 : Keeps (m ≤ ·) b s2 := .upd (.advance h) rfl
  refine .ite (.upd (.setChan h2 ?_) rfl) h
  exact id

theorem Answers.brakeReenergise {h' : Fin 2} (h : Keeps (m ≤ ·) b s) :
    Answers (m ≤ ·) b (execBrakeReenergise h' s) := by
  refine .act h ?_
  extract_lets k c bc s1 s2
  have h2 : Keeps (m ≤ ·) b s2 := .setChan (.advance h) id
  refine .ite ?_ h
  split
  · next hc => exact h2.driveOn hc
  · exact h2

theorem Answers.brakeTestDue {h' : Fin 2} (h : Keeps (m ≤ ·) b s) :
    Answers (m ≤ ·) b (execBrakeTestDue h' s) := by
  refine .act h ?_
  extract_lets
  split
  · exact .setChan (.advance h) id
  · exact h

theorem Answers.brakeTestOverdue {h' : Fin 2} (h : Keeps (m ≤ ·) b s) :
    Answers (m ≤ ·) b (execBrakeTestOverdue h' s) := by
  refine .act h ?_
  extract_lets
  split
  · exact .ite (.brakeFail (.advance h)) h
  · exact h

theorem Answers.privLockoutEnd (h : Keeps (m ≤ ·) b s) : Answers (m ≤ ·) b (execPrivLockoutEnd s) := by
  refine .act h ?_
  split
  · exact .lockCheck (.advance h)
  · exact h

theorem Answers.cfgWrite {p : ReqPath} (h : Keeps T b s) : Answers T b (execCfgWrite p s) := by
  refine .reeveCmd h (fun r s h => ?_)
  split
  · exact h
  · exact .upd h rfl

theorem Answers.cfgCommit {p : ReqPath} (h : Keeps T b s) : Answers T b (execCfgCommit p s) := by
  refine .reeveCmd h (fun r s h => ?_)
  split
  · exact h
  · split
    · exact h
    · split
      · exact h
      · split
        · exact .raise h
        · next hw => exact .takeCfg (.upd (h.writeCfg hw) rfl)

theorem Answers.pwdSet {p : ReqPath} (h : Keeps T b s) : Answers T b (execPwdSet p s) := by
  refine .reeveCmd h (fun r s h => ?_)
  split
  · extract_lets good _ s1
    have h1 : Keeps T b s1 := .upd h rfl
    clear_value good
    split
    · exact .authFail h1
    · extract_lets
      split
      · exact .raise h1
      · next hw => exact .revt (.upd (h1.writeCfg hw) rfl)
  · exact h

theorem Answers.outRestart {p : ReqPath} (h : Keeps T b s) : Answers T b (execOutRestart p s) := by
  refine .reeveCmd h (fun r s h => .forAll (fun k t ht => ?_) h)
  split
  · next hg => exact ht.driveOn hg.2.2.2.2.1
  · exact ht

theorem Answers.logRead {p : ReqPath} (h : Keeps T b s) : Answers T b (execLogRead p s) := by
  refine .reeveCmd h (fun r s h => ?_)
  split
  · exact h
  · exact h

theorem Answers.tamperAssert {n : Fin 4} (h : Keeps T b s) : Answers T b (execTamperAssert n s) := by
  refine .act h ?_
  exact .ite h (.ite (.eraseKeys (.raiseLevel (.revt (.upd h rfl)))) (.raiseLevel (.revt (.upd h rfl))))

theorem Answers.debugAuthLockoutEnd (h : Keeps (m ≤ ·) b s) :
    Answers (m ≤ ·) b (execDebugAuthLockoutEnd s) := by
  refine .act h ?_
  split
  · exact .upd (.advance h) rfl
  · exact h

theorem Answers.mailboxTimeout {f : Fn} {ch : Fin 2} {far : Bool} (h : Keeps (m ≤ ·) b s) :
    Answers (m ≤ ·) b (execMailboxTimeout f ch far s) := by
  refine .act h ?_
  extract_lets _ _ s1 _ s2 s3 _ s4
  have h1 : Keeps (m ≤ ·) b s1 := .advance h
  have h2 : Keeps (m ≤ ·) b s2 := .setChan2 h1
  have h3 : Keeps (m ≤ ·) b s3 := .advance h
  have h4 : Keeps (m ≤ ·) b s4 := .setChan2 h3
  exact .ite (.ite (.ite (.reeveFlush h2) h2) h) (.ite (.bells (.rincSat (.revt h4))) h)

theorem Answers.crossing {f : Fn} {ch : Fin 2} (h : Keeps (m ≤ ·) b s) :
    Answers (m ≤ ·) b (execCrossing f ch s) := by
  refine .act h ?_
  extract_lets
  split
  · exact .ite (.bells (.setChan2 (.advance h))) h
  · exact h

theorem Answers.doorbell {f : Fn} {far : Option W32} (h : Keeps T b s) :
    Answers T b (execDoorbell f far s) := by
  refine .act h ?_
  split
  · exact .porterMsg (fun _ _ h => .ite h (.porterStatus h)) h
  · exact .ite (.farSend h) h

theorem Answers.porterAnswerSend {f : Fn} (h : Keeps T b s) : Answers T b (execPorterAnswerSend f s) := by
  refine .act h ?_
  split
  · exact .ite (.ite (.setChan2 (.farSend (.upd h rfl))) (.farSend (.upd h rfl))) h
  · exact h

theorem Answers.reeveDoorbell {far : Option W32} (h : Keeps T b s) : Answers T b (execReeveDoorbell far s) := by
  refine .act h ?_
  split
  · exact .reeveMsg (fun _ _ h => .ite h (.reeveNak h)) h
  · exact .ite (.farSend h) h

theorem Answers.reservedMailboxMessage {f : Fn} {ch : Fin 2} (h : Keeps T b s) :
    Answers T b (execReservedMailboxMessage f ch s) := by
  refine .act h ?_
  split
  · exact .porterMsg (fun _ _ h => .porterStatus h) h
  · exact .ite (.reeveMsg (fun _ _ h => .reeveNak h) h) h

theorem Answers.bscRefresh {c : Fin 16} (h : Keeps (m ≤ ·) b s) : Answers (m ≤ ·) b (execBscRefresh c s) := by
  refine .act h ?_
  extract_lets _ s1 _ s2
  have h1 : Keeps (m ≤ ·) b s1 := .advance h
  have h2 : Keeps (m ≤ ·) b s2 := .ite (.formPdu h1) (.formPdu h1)
  exact .ite h (.ite (.sendOne h2) h2)

theorem Answers.bscQueueTimeout {c : Fin 16} (h : Keeps (m ≤ ·) b s) :
    Answers (m ≤ ·) b (execBscQueueTimeout c s) := by
  refine .act h ?_
  extract_lets
  split
  · exact h
  · exact .ite (.raise (.revt (.setPcon (.advance h)))) h

theorem Answers.bscPduReceive {port : Port} {con : Fin 8} {rtag : Option W16} {pdu : List Byte} (h : Keeps T b s) :
    Answers T b (execBscPduReceive port con rtag pdu s) := by
  refine .act h ?_
  extract_lets
  split
  · split
    · exact .takePdu h
    · exact .ite (.takePdu (.upd h rfl)) (.upd h rfl)
  · exact h

theorem Answers.reeveWdogService {token : W32} {at_ : Nat} (h : Keeps (m ≤ ·) b s) :
    Answers (m ≤ ·) b (execReeveWdogService token at_ s) := by
  refine .act h ?_
  exact .ite h (.ite (.rmax (.rfield (.upd (.draw32 (.advance h)) rfl))) (.rwdViolate (.advance h)))

theorem Answers.taskLate {m' : Fin 16} (h : Keeps (m ≤ ·) b s) : Answers (m ≤ ·) b (execTaskLate m' s) := by
  refine .act h ?_
  extract_lets
  split
  · exact h
  · exact .ite (.raise (.revt (.setTask (.advance h)))) h

theorem Answers.dxPairTimeout (h : Keeps (m ≤ ·) b s) : Answers (m ≤ ·) b (execDxPairTimeout s) := by
  refine .act h ?_
  split
  · exact .dxFail (.dxClose (.advance h))
  · exact h

theorem Answers.resultAgeLimit {n : Stream} (h : Keeps (m ≤ ·) b s) :
    Answers (m ≤ ·) b (execResultAgeLimit n s) := by
  refine .act h ?_
  split
  · exact .ageFire (.advance h)
  · exact h

theorem Answers.verdictDeadline {n : Stream} (h : Keeps (m ≤ ·) b s) :
    Answers (m ≤ ·) b (execVerdictDeadline n s) := by
  refine .act h ?_
  split
  · exact .ite (.ageFire (.advance h)) (.form (.advance h))
  · exact h

theorem Answers.p0ComputeCut (h : Keeps (m ≤ ·) b s) : Answers (m ≤ ·) b (execP0ComputeCut s) := by
  refine .act h ?_
  split
  · split
    · exact .ite (.form (.advance h)) (.form (.revt (.setFrame (.advance h))))
    · exact h
  · exact h

theorem Answers.retentionEnd {n : Stream} (h : Keeps (m ≤ ·) b s) :
    Answers (m ≤ ·) b (execRetentionEnd n s) := by
  refine .act h ?_
  split
  · extract_lets _ s1 s2
    have h1 : Keeps (m ≤ ·) b s1 := .pollAll (.advance h)
    have h2 : Keeps (m ≤ ·) b s2 := .forAll (fun _ _ h => .ite (.closeDis h) h) h1
    exact .flushRange (.dropEvidence (.releaseFrame h2))
  · exact h

theorem Answers.fbStale {n : Stream} (h : Keeps (m ≤ ·) b s) : Answers (m ≤ ·) b (execFbStale n s) := by
  refine .act h ?_
  split
  · exact .ite (.advance h) (.holdSet (.advance h))
  · exact h

theorem Answers.evidenceWrite {f : Fn} {lane : Fin 4} {off : BitVec 20} {data : List Byte} {bad : Bool} {at_ : Nat}
    (h : Keeps (m ≤ ·) b s) :
    Answers (m ≤ ·) b (execEvidenceWrite f lane off data bad at_ s) := by
  refine .act h ?_
  extract_lets s1
  have h1 : Keeps (m ≤ ·) b s1 := .advance h
  exact .ite h1 (.ite (.ite (.laneDrop h1) (.setLane (.rincSat h1))) (.laneWrite h1))

theorem Answers.commit {f : Fn} (h : Keeps T b s) : Answers T b (execCommit f s) := by
  refine .act h ?_
  split
  · next he => exact .evCheck (fun _ _ _ => .takeCommit) (h.evTake he)
  · exact h

theorem Answers.sample {f : Fn} (h : Keeps T b s) : Answers T b (execSample f s) := by
  refine .act h ?_
  split
  · next he => exact .evCheck (fun _ _ _ => .takeSample) (h.evTake he)
  · exact h

theorem Answers.canary {f : Fn} (h : Keeps T b s) : Answers T b (execCanary f s) := by
  refine .act h ?_
  split
  · next he => exact .evCheck (fun _ _ _ => .takeCanary) (h.evTake he)
  · exact h

theorem Answers.result {f : Fn} (h : Keeps T b s) : Answers T b (execResult f s) := by
  refine .act h ?_
  split
  · next he => exact .evCheck (fun _ _ _ => .takeResultRec) (.lateAfter (h.evTake he))
  · exact h

theorem Answers.revealIssue (h : Keeps T b s) : Answers T b (execRevealIssue s) := by
  refine .act h ?_
  split
  · exact h
  · extract_lets _ s1
    have h1 : Keeps T b s1 := .upd h rfl
    split
    · extract_lets k s2
      split
      · extract_lets a s3 _ s4 s5
        have h3 : Keeps T b s3 := .emit (.taskRef h1)
        clear_value s3
        have h4 : Keeps T b s4 := .upd h3 rfl
        have h5 : Keeps T b s5 := .ite (.setCommit h4) (.setCommit h4)
        exact .ite (.ite (.setCommit h1) (.freshMissing (.setCommit h1))) (.ite (.tallyInc h5) h5)
      · exact .ite (.setCommit h1) (.freshMissing (.setCommit h1))
    · exact h1

theorem Answers.revealDeadline {n : Stream} {re : Bool} (h : Keeps (m ≤ ·) b s) :
    Answers (m ≤ ·) b (execRevealDeadline n re s) := by
  refine .act h ?_
  split
  · exact .ite (.freshMissing (.setCommit (.advance h))) (.setCommit (.advance h))
  · exact h

theorem Answers.fallback (h : Keeps T b s) : Answers T b (execFallback s) := by
  refine .act h ?_
  split
  · exact h
  · next l sound t ht =>
    replace h := h.takeResult ht
    extract_lets n tl good v s1
    have h1 : Keeps T b s1 := by
      dsimp only [s1]
      split
      · refine .ite h (.ite (.publishFb h) ?_)
        split
        · exact .ite (.publishFb (.upd h rfl)) (.raiseU (.upd h rfl))
        · exact .upd h rfl
      · exact h
    exact .ite (.crcFail h1) h1

theorem Answers.repeatRec (h : Keeps T b s) : Answers T b (execRepeatRec s) := by
  refine .act h ?_
  split
  · exact h
  · next ht => exact .disResult (h.takeResult ht)

theorem Answers.freshRec (h : Keeps T b s) : Answers T b (execFreshRec s) := by
  refine .act h ?_
  split
  · exact h
  · next ht => exact .disResult (h.takeResult ht)

/-! ## Every command -/

/-- The commands that begin at COLD or take the device there. -/
def restarts : Instr → Bool
  | .porstNAssert _ | .porstNRelease _ _ _ | .supplyReset _ | .supplyRestored _ _ _ => true
  | _ => false

/-- Every other command keeps all. -/
theorem answers_exec {i : Instr} (hi : restarts i = false) (h : Keeps (m ≤ ·) b s) : Answers (m ≤ ·) b (exec i s) := by
  unfold exec
  cases i with
  | porstNAssert | porstNRelease | supplyReset | supplyRestored => cases hi
  | supplyWarning => exact .act h (.raiseLevel (.upd h rfl))
  | updateReboot => exact .act h (.ite (.upd h rfl) h)
  | degradedLimit => exact .degradedLimit h
  | ethLinkDown => exact .act h (.ite (.ite (.degrade (.raiseLevel (.upd h rfl))) (.raiseLevel (.upd h rfl))) h)
  | ethLinkUp => exact .act h (.ite h (.lower (.startStable (.upd h rfl))))
  | ethPortStable => exact .act h (.ite (.ite (.undegrade (.advance h)) (.startStable (.advance h))) h)
  | sourceRaise => exact .act h (.ite h (.raiseSeen (.raiseWith h)))
  | sourceDeassert => exact .sourceDeassert h
  | quietPeriodEnd => exact .act h (.ite (.quietEnd (.advance h)) h)
  | errPMinimumEnd => exact .act h (.ite (.ite (.errPFall (.advance h)) (.advance h)) h)
  | errPLowEnd => exact .act h (.ite h (.ite (.upd (.advance h) rfl) (.advance h)))
  | collectorRotation => exact .act h (.ite (.upd h rfl) (.raise (.revt (.upd h rfl))))
  | checkerRotation => exact .checkerRotation h
  | memoryScrub => exact .act h (.scrubErr (.scrubErr (.upd h rfl)))
  | voteMismatch => exact .act h (.mismatch h)
  | recoveryResume => exact .act h (.recover h)
  | recoveryTimeout => exact .recoveryTimeout h
  | voterDisagreement => exact .voterDisagreement h
  | hourlyCoreSelftest => exact .hourlyCoreSelftest h
  | planLoadPly => exact .act h (.loadPly h)
  | planLoad => exact .onTag h (fun _ _ h => .ite (.finishTag h) (.domsOn (.upd (.tagActive h) rfl)))
  | planFirstBoundary => exact .planFirstBoundary h
  | planSwitchBoundary => exact .planSwitchBoundary h
  | planSwitchPlaced => exact .planSwitchPlaced h
  | planSwitchTimeout => exact .act h (.ite (.switchFail (.advance h)) h)
  | holdRecord => exact .holdRecord h
  | updDownload => exact .updDownload h
  | updVerify => exact .onTag h (fun _ _ h => .updStage (fun _ _ h => .updBegin h) h)
  | updActivate => exact .updActivate h
  | updConfirm => exact .updConfirm h
  | rdPiWrite => exact .act h (.ite h (.ite (.accErr h) (.ringPi h)))
  | rdCiWrite => exact .act h (.ite h (.ite (.accErr h) (.ringCi h)))
  | commandFetch => exact .act h (.fetchCmd h)
  | completionCommit => exact .act h (.ite (.commitTag h) h)
  | cmdNop => exact .onTag h (fun _ _ h => .finishTag h)
  | abort => exact .abort h
  | ringConfig => exact .onTag h (fun _ _ h => .finishTag (.ringConfig h))
  | revealSet | digestSet => exact .onTag h (fun _ _ h => .finishTag (.upd h rfl))
  | tallyWait => exact .onTag h (fun _ _ h => .ite (.finishTag (.tagInfo h)) (.tallyTested (.setTag (.upd h rfl))))
  | tallyWaitTimeout => exact .tallyWaitTimeout h
  | safe => exact .onTag h (fun _ _ h => .ite h (.drain (.upd (.tagActive h) rfl)))
  | safeAnswer => exact .safeAnswer h
  | tyAdd | tySet => exact .act h (.ite (.tallyPut h) h)
  | tyTake => exact .act h (.ite h (.ite (.emit h) (.tallyPut (.emit h))))
  | vectorModerationEnd => exact .vectorModerationEnd h
  | dmaOut => exact .onTag h (fun _ _ h => .ite (.finishTag h) (.tagActive h))
  | ply => exact .act h (.ply h)
  | bsfPacket => exact .bsfPacket h
  | csiFrameStart => exact .act h (.forAll (fun _ _ => .openAt) (.advance h))
  | csiLongPacket => exact .csiLongPacket h
  | csiFrameEnd => exact .csiFrameEnd h
  | csiEccError => exact .act h (.ite (.srcCount h) (.taintPort h))
  | phyError => exact .act h (.taintPort (.srcCount h))
  | ingressWindowEnd => exact .ingressWindowEnd h
  | creditEarn => exact .creditEarn h
  | forwardDone => exact .forwardDone h
  | knownAnswerIntervalEnd => exact .knownAnswerIntervalEnd h
  | goldenCopy => exact .goldenCopy h
  | digestStep => exact .digestStep h
  | digestStepDone => exact .act h (.digestDone h)
  | digestIntervalEnd => exact .digestIntervalEnd h
  | ldW | ldH | ldHu | ldB | ldBu => exact .done (.issue (fun _ _ h => .memOp (fun _ _ h => .load h) h) h)
  | stW | stH | stB => exact .done (.issue (fun _ _ h => .memOp (fun _ _ h => .storeN h) h) h)
  | stld => exact .stld h
  | send => exact .done (.issue (fun _ _ h => .memOp (fun _ _ h => .ctxUpd (.inject h)) h) h)
  | rpost => exact .done (.issue (fun _ _ h => .memOp (fun _ _ h => .ctxUpd (.inject (.setTile h))) h) h)
  | arrd | rxptr | tinfo | nop | br | bc | loop | slotend | await | fclr | frd | addW | addS | subW | subS | negW
  | negS | absW | absS | mulW | mulS | mulh | mulhu | divW | divS | rem | divu | remu | and | or | xor | andn
  | shlW | shlS | shr | sar | cmp | min | max | minu | maxu | clz | popc | addiW | addiS | subiW | subiS | muliW
  | muliS | andi | ori | xori | shliW | shliS | shri | sari | cmpi | movi | sel | mov | mova | movs | ldai | adda
  | addai | ctxid => exact .done (.issue (fun _ _ h => .ctxUpd h) h)
  | lopI8 | lopF8 | lopF16 | lopF32 | lopCx64 | lopCx128 =>
    exact .done (.issue (fun _ _ h => .memOp (fun _ _ h => .laneStep h) h) h)
  | vadd | vaddc | vaddc128 => exact .done (.issue (fun _ _ h => .memOp (fun _ _ h => .value h) h) h)
  | vadds => exact .done (.issue (fun _ _ h => .value h) h)
  | tclr => exact .done (.issue (fun _ _ h => .ctxUpd (.setTwin h)) h)
  | tstore => exact .tstore h
  | tjudge => exact .done (.issue (fun _ _ h => .memOp (fun _ _ h => .ctxUpd h) h) h)
  | tjudgey => exact .tjudgey h
  | tcvt => exact .done (.issue (fun _ _ h => .ite (.ctxUpd h) (.ctxUpd h)) h)
  | slotStrobe => exact .slotStrobe h
  | residentStep => exact .residentStep h
  | meshDelivery => exact .meshDelivery h
  | awaitResume => exact .awaitResume h
  | deepTestStart => exact .deepTestStart h
  | deepTestEnd => exact .deepTestEnd h
  | tileHealthWrite => exact .act h (.ite h (.ite (.revt h) (.ite (.upd h rfl) (.upd h rfl))))
  | droopEvent => exact .droopEvent h
  | illegalWord => exact .illegalWord h
  | linkDown => exact .act h (.linkLost (.advance h))
  | perstNAssert => exact .perstNAssert h
  | hostLinkPowerOff => exact .hostLinkPowerOff h
  | perstNRelease => exact .perstNRelease h
  | linkUp => exact .act h (.ite h (.reeveFlush (.upd (.ite (.revt (.advance h)) (.advance h)) rfl)))
  | configRequest => exact .configRequest h
  | vfDisable => exact .act h (.ite (.setVfs h) h)
  | functionLevelReset => exact .act h (.ite (.upd (.fnReset h) rfl) h)
  | functionLevelResetComplete => exact .act h (.ite (.ite (.reeveFlush (.upd h rfl)) (.upd h rfl)) h)
  | fnDrvWrite => exact .act h (.ite (.drvWrite h) h)
  | apertureAccess => exact .apertureAccess h
  | dmaReadTimeout => exact .dmaReadTimeout h
  | msixUnmask => exact .act h (.ite (.vecMask (.rfield h)) h)
  | ptpSync => exact .act h (.ite (.syncIn (.advance h)) h)
  | ptpMessage => exact .ptpMessage h
  | announceReceiptTimeout => exact .act h (.ite (.noSlave (.rfield (.advance h))) h)
  | syncLossTimeout => exact .syncLossTimeout h
  | txTimestampWriteback => exact .txTimestampWriteback h
  | timeCrossCheck => exact .act h (.ite h (.ite (.raise (.revt (.upd (.advance h) rfl))) (.upd (.advance h) rfl)))
  | triggerEdge => exact .triggerEdge h
  | triggerPulseEnd => exact .act h (.ite (.setTrig (.advance h)) h)
  | captureEdge => exact .act h (.ite (.upd (.advance h) rfl) (.advance h))
  | pllMonitorFault => exact .pllMonitorFault h
  | arrayRelock => exact .act h (.ite (.lower (.revt (.upd h rfl))) h)
  | pllRelock => exact .pllRelock h
  | temperatureRead => exact .temperatureRead h
  | hostlessEntry => exact .hostlessEntry h
  | hostlessExit => exact .hostlessExit h
  | agreementRound => exact .agreementRound h
  | discrepancyTimeout | releaseFilterEnd => exact .act h (.ite (.evalPair (.advance h)) h)
  | testPulse => exact .act h (.ite (.raiseU h) h)
  | feedbackTimeout => exact .act h (.ite (.raiseU (.advance h)) h)
  | brakeApplyEnd => exact .brakeApplyEnd h
  | brakeTorqueEnd => exact .brakeTorqueEnd h
  | brakeReenergise => exact .brakeReenergise h
  | brakeTestDue => exact .brakeTestDue h
  | brakeTestOverdue => exact .brakeTestOverdue h
  | echo | cfgRead => exact .reeveCmd h (fun _ _ h => h)
  | privChallenge | cfgBegin | cfgAbort | pwdNewsalt | taskSet => exact .reeveCmd h (fun _ _ h => .upd h rfl)
  | privAcquire =>
    exact .reeveCmd h (fun _ _ h => .iteReply h (.iteReply (.revt (.upd h rfl)) (.authFail (.upd h rfl))))
  | privRelease => exact .reeveCmd h (fun _ _ h => .endPriv h)
  | privLeaseExpiry => exact .act h (.ite (.endPriv (.advance h)) h)
  | privLockoutEnd => exact .privLockoutEnd h
  | streamHold | streamRelease => exact .reeveCmd h (fun _ _ h => .okInfo (.holdSet h))
  | tileQuarantine => exact .reeveCmd h (fun _ _ h => .okInfo (.quarantineForm h))
  | tileClear => exact .reeveCmd h (fun _ _ h => .tileClear h)
  | safeHoldReq => exact .reeveCmd h (fun _ _ h => .raise h)
  | voterTest => exact .reeveCmd h (fun _ _ h => .ite h (.rmaxFree (.voterOutcome h)))
  | cfgWrite => exact .cfgWrite h
  | cfgCommit => exact .cfgCommit h
  | pwdSet => exact .pwdSet h
  | outRestart => exact .outRestart h
  | brakeTest => exact .reeveCmd h (fun _ _ h => .iteReply (.setChan (.driveOff h) id) h)
  | logRead => exact .logRead h
  | hwdArm => exact .reeveCmd h (fun _ _ h => .lower (.rset (.upd (.draw32 h) rfl)))
  | hwdDisarm => exact .reeveCmd h (fun _ _ h => .lower (.upd h rfl))
  | faultClear => exact .reeveCmd h (fun _ _ h => .iteReply (.iteReply h (.okInfo (.cleared (.setSrc h)))) h)
  | faultInject => exact .reeveCmd h (fun _ _ h => .arm h)
  | faultRaise => exact .reeveCmd h (fun _ _ h => .raiseSeen (.raise h))
  | capRearm => exact .reeveCmd h (fun _ _ h => .forAll (fun _ _ h => .ite (.rfield h) h) h)
  | attestationDone => exact .act h (.ite (.revt (.forAll (fun _ _ => .rsetFree) (.rset64 (.upd h rfl)))) h)
  | drbgReseed => exact .act h (.ite (.lower (.upd h rfl)) (.raiseLevel (.revt (.upd h rfl))))
  | tamperAssert => exact .tamperAssert h
  | debugSessionEnd => exact .act h (.ite (.upd (.sessionEnd h) rfl) (.sessionEnd h))
  | debugAuthLockoutEnd => exact .debugAuthLockoutEnd h
  | haltAtBoundary => exact .act h (.ite (.haltNow h) h)
  | haltDeferralExpiry => exact .act h (.ite (.ite (.forceHalt (.advance h)) (.revt (.upd (.advance h) rfl))) h)
  | mailboxSend => exact .act h (.ite (.mbSend h) h)
  | mailboxTimeout => exact .mailboxTimeout h
  | crossing => exact .crossing h
  | doorbell => exact .doorbell h
  | ringBoot => exact .act h (.porterMsg (fun _ _ h => .porterStatus (.ringBoot h)) h)
  | porterPing => exact .act h (.porterMsg (fun _ _ h => .porterSay h) h)
  | porterAnswerSend => exact .porterAnswerSend h
  | reeveDoorbell => exact .reeveDoorbell h
  | reevePing => exact .act h (.reeveMsg (fun _ _ h => .reeveSay h) h)
  | safeReq => exact .act h (.ite h (.reeveMsg (fun _ _ h => .ite (.drain (.upd h rfl)) (.reeveNak h)) h))
  | reservedMailboxMessage => exact .reservedMailboxMessage h
  | bscPduTransmit => exact .act h (.sendOne h)
  | bscRefresh => exact .bscRefresh h
  | bscQueueTimeout => exact .bscQueueTimeout h
  | bscPduReceive => exact .bscPduReceive h
  | bscConsumerTimeout => exact .act h (.ite (.consumerTimeout (.advance h)) h)
  | listenerEliminationReset => exact .act h (.ite (.upd (.advance h) rfl) h)
  | arpRequest => exact .act h (.ite (.emit h) h)
  | reeveWdogService => exact .reeveWdogService h
  | watchdogClose => exact .act h (.ite h (.ite (.hwdViolate (.advance h)) (.rwdViolate (.advance h))))
  | taskLate => exact .taskLate h
  | registerWrite => exact .act h (.regWrite h)
  | w1cWrite | snapshot | maximumWrite => exact .act h (.onlyIf (fun _ h => .put h) h)
  | lowWordRead | maximumRead => exact .act h (.onlyIf (fun _ h => .regRead h) h)
  | registerReadAccessError => exact .act h (.ite h (.regRead h))
  | dxWrite | dxComplement | injectionArm | pmCapRequest | cvPairRequest | attestationRequest | cvCfgWrite
  | cvRunWrite | cvDinWrite | cvPairctlWrite | timeSourceSelect | triggerArm | debugAuth | testUnlock =>
    exact .act h (.putDev h)
  | dxPairTimeout => exact .dxPairTimeout h
  | hostWdogService => exact .act h (.putDev (.putDev h))
  | vrwPop => exact .act h (.put h)
  | vrwLostRead | twOvrRead | mailboxTake | outboxPoll | capturePop => exact .act h (.regRead h)
  | errPRelease | cvInit | cvCmp | timeLoad | debugChallenge | reeveHalt | reeveResume | reeveStep | forcedHalt =>
    exact .act h (.onlyIf (fun _ h => .putDev h) h)
  | extest | samplePreload => exact .act h (.selectBsr h)
  | idcode | clamp | highz | bypass | dbglink => exact .act h (.selectIr h)
  | dbglinkRead | dbglinkWrite | dbglinkStatus => exact .act h (.dbgScan h)
  | domainWake => exact .act h (.wakeEnd h)
  | resultAgeLimit => exact .resultAgeLimit h
  | verdictDeadline => exact .verdictDeadline h
  | p0ComputeCut => exact .p0ComputeCut h
  | retentionEnd => exact .retentionEnd h
  | fbStale => exact .fbStale h
  | evidenceWrite => exact .evidenceWrite h
  | commit => exact .commit h
  | sample => exact .sample h
  | canary => exact .canary h
  | result => exact .result h
  | revealIssue => exact .revealIssue h
  | revealDeadline => exact .revealDeadline h
  | rowChecksum | reexec | canaryOutcome => exact .act h (.assayResult h)
  | fallback => exact .fallback h
  | repeatRec => exact .repeatRec h
  | freshRec => exact .freshRec h

end Sys2Proof.Machine
end

section
/-! O58 and O59: the AO count (R22, R630) and the safe outputs (R29) after a step. -/

namespace Sys2Proof.Machine
open Sys2Proof

variable {s e : State}

/-- A restart takes the device to COLD or starts it from there, the AO count at 0, or leaves the count as it was. -/
theorem time_of_restarts {i : Instr} (hi : restarts i = true) (he : exec i s = .next e) :
    s.ao ≤ e.ao ∨ e.ao = 0 ∧ (e.dev.state = .cold ∨
      ∃ sp bn ph, i = .porstNRelease sp bn ph ∨ i = .supplyRestored sp bn ph) := by
  have hs : Keeps (fun n => s.ao ≤ n ∨ n = 0) s s := .start (.inl (Nat.le_refl _))
  unfold restarts at hi
  split at hi
  · unfold exec execPorstNAssert at he
    dsimp only at he
    split at he <;> cases he
    · exact .inl (Nat.le_refl _)
    · exact .inr ⟨rfl, .inl rfl⟩
  · have ht := (Answers.porstNRelease (.inr rfl) hs e he).time
    exact ht.imp_right fun h0 => ⟨h0, .inr ⟨_, _, _, .inl rfl⟩⟩
  · cases he
    exact .inr ⟨rfl, .inl rfl⟩
  · have ht := (Answers.supplyRestored (.inr rfl) hs e he).time
    exact ht.imp_right fun h0 => ⟨h0, .inr ⟨_, _, _, .inr rfl⟩⟩
  · cases hi

/-- A restart keeps the outputs safe. -/
theorem safeOutputs_of_restarts {i : Instr} (hi : restarts i = true) (he : exec i s = .next e) (hb : safeOutputs s) :
    safeOutputs e := by
  have hs : Keeps (fun _ => True) s s := .start trivial
  unfold restarts at hi
  split at hi
  · exact (Answers.porstNAssert trivial hs e he).safe hb
  · exact (Answers.porstNRelease trivial hs e he).safe hb
  · exact (Answers.supplyReset trivial hs e he).safe hb
  · exact (Answers.supplyRestored trivial hs e he).safe hb
  · cases hi

/-- Settles O58: only a restart sets the AO count, and it sets it to 0. -/
theorem aoCountRises : Obligations.AoCountRises := by
  intro s s' hstep
  unfold step at hstep
  split at hstep
  · cases hstep
    left
    unfold State.tick
    split
    · exact Nat.le_refl _
    · exact Nat.le_succ _
  · next c t hq =>
    cases hi : restarts c
    · exact .inl (answers_exec hi (.start (b := { s with pending := t }) (Nat.le_refl s.ao)) s' hstep).time
    · simpa [hq] using time_of_restarts hi hstep

/-- Settles O59: each change of a channel or of the device's state keeps the outputs safe. -/
theorem safeOutputs_step : Obligations.SafeOutputs := by
  intro s s' hs hstep
  unfold step at hstep
  split at hstep
  · cases hstep
    unfold State.tick
    split <;> exact hs
  · next c t hq =>
    cases hi : restarts c
    · exact (answers_exec hi (.start (b := { s with pending := t }) (Nat.le_refl s.ao)) s' hstep).safe hs
    · exact safeOutputs_of_restarts hi hstep hs

end Sys2Proof.Machine
end

section
/-! O60: COLD does nothing (R28, R675). A command acts where the device is not in COLD, and a tile issues where its quad is on. -/

namespace Sys2Proof.Machine
open Sys2Proof

variable {s : State}

/-- A command that acts leaves COLD as it is. -/
theorem act_cold {f : State → State} (hcold : s.dev.state = .cold) : s.act f = .next s := if_pos hcold

theorem onTag_cold {t opc : Nat} {f : Tag → State → State} (hcold : s.dev.state = .cold) : s.onTag t opc f = .next s :=
  act_cold hcold

theorem reeveCmd_cold {p : ReqPath} {code : Nat} {masks : List Nat} {rangesOk priv : BitVec 512 → Bool}
    {f : BitVec 512 → State → Nat × Nat × State} (hcold : s.dev.state = .cold) :
    s.reeveCmd p code masks rangesOk priv f = .next s := act_cold hcold

theorem execVectorModerationEnd_cold {f : Fn} {ring : Fin 1024} (hcold : s.dev.state = .cold) :
    execVectorModerationEnd f ring s = .next s := by
  unfold execVectorModerationEnd
  exact act_cold hcold

/-- Nothing waits for the end of a command where no plan is being loaded and no reset is due. -/
theorem finish_idle (hreq : s.dev.chipReq = none) (hidle : s.ldr.phase = .idle) : s.finish = s := by
  have hrearm : s.rearm = s := by simp [State.rearm, hidle]
  simp [State.finish, hrearm, hreq]

/-- No tile issues with its quad off. -/
theorem canIssue_off (hoff : ∀ d, s.dom d ≠ .on) (t c : Nat) : s.canIssue t c = false := by
  have hquad : (s.dom (quadOf t) == .on) = false := beq_eq_false_iff_ne.2 (hoff _)
  simp [State.canIssue, hquad]

/-- A tile instruction is not issued with its quad off. -/
theorem done_issue_off {t c w : Nat} {eff : PCtx → State → State} (hreq : s.dev.chipReq = none)
    (hidle : s.ldr.phase = .idle) (hoff : ∀ d, s.dom d ≠ .on) : (s.issue t c w eff).done = .next s := by
  rw [State.issue, if_neg (by simp [canIssue_off hoff]), State.done, finish_idle hreq hidle]

/-- Nor is a word that is no instruction. -/
theorem execIllegalWord_off {t : Tile} {c : Ctx} {w : W64} (hreq : s.dev.chipReq = none)
    (hidle : s.ldr.phase = .idle) (hoff : ∀ d, s.dom d ≠ .on) : execIllegalWord t c w s = .next s := by
  rw [execIllegalWord, if_neg (by simp [canIssue_off hoff]), State.done, finish_idle hreq hidle]

/-- Settles O60: a tile instruction is not issued, and every other command acts outside COLD alone. -/
theorem coldIsIdle : Obligations.ColdIsIdle := by
  intro s i hcold hreq hidle hoff hi
  unfold exec
  cases i with
  | porstNAssert | porstNRelease | supplyReset | supplyRestored | perstNAssert | perstNRelease => exact hi.elim
  | illegalWord => exact execIllegalWord_off hreq hidle hoff
  | nop | br | bc | loop | slotend | await | fclr | frd | addW | addS | subW | subS | negW | negS | absW | absS
  | mulW | mulS | mulh | mulhu | divW | divS | rem | divu | remu | and | or | xor | andn | shlW | shlS | shr | sar
  | cmp | min | max | minu | maxu | clz | popc | addiW | addiS | subiW | subiS | muliW | muliS | andi | ori | xori
  | shliW | shliS | shri | sari | cmpi | movi | sel | mov | mova | movs | ldai | adda | addai | ctxid | ldW | ldH
  | ldHu | ldB | ldBu | stW | stH | stB | stld | lopI8 | lopF8 | lopF16 | lopF32 | lopCx64 | lopCx128 | vadd | vaddc
  | vaddc128 | vadds | tclr | tstore | tjudge | tjudgey | tcvt | tinfo | send | rpost | arrd | rxptr => exact done_issue_off hreq hidle hoff
  | cmdNop | abort | ringConfig | revealSet | digestSet | tallyWait | dmaOut | planLoad | updDownload | updVerify
  | updActivate | updConfirm | safe => exact onTag_cold hcold
  | echo | privChallenge | privAcquire | privRelease | streamHold | streamRelease | tileQuarantine | tileClear
  | safeHoldReq | voterTest | cfgRead | cfgBegin | cfgWrite | cfgCommit | cfgAbort | pwdNewsalt | pwdSet | outRestart
  | brakeTest | logRead | hwdArm | hwdDisarm | taskSet | faultClear | faultInject | faultRaise | capRearm =>
    exact reeveCmd_cold hcold
  | vectorModerationEnd => exact execVectorModerationEnd_cold hcold
  | _ => exact act_cold hcold

end Sys2Proof.Machine
end

section
/-! O2: the machine at `State.reset` (R13, R28, R29, R630). -/

namespace Sys2Proof.Machine
open Sys2Proof

/-- Settles O2: at reset every map is empty, so each register, source, channel and domain reads as its map's default. -/
theorem resetState : Obligations.ResetState := by
  have hregs (a : Nat) : State.reset.rget a = regReset a := mget_nil ..
  have hsrc (n : Nat) : State.reset.src n = .reset := mget_nil ..
  have hchan (k : Nat) : State.reset.chan k = .reset := mget_nil ..
  have hdom (d : Nat) : State.reset.dom d = .off := mget_nil ..
  refine ⟨rfl, rfl, rfl, rfl, rfl, hregs, fun n => ?_, fun k => ?_, rfl, hdom, rfl⟩
  · rw [hsrc]; rfl
  · rw [hchan]; rfl

end Sys2Proof.Machine
end

section
/-! O7: Ethernet links lost, gained, and stable for 1 s (R32, R34). -/

namespace Sys2Proof.Machine
open Sys2Proof

/-! ## What a degrading condition does -/

theorem dev_evalChans (s : State) : s.evalChans.dev = s.dev :=
  forAll_const State.dev _ dev_evalChan _ s

theorem ao_devTo (d : DevState) (s : State) : (s.devTo d).ao = s.ao := (reacts_devTo d s).ao
theorem ao_evalChans (s : State) : s.evalChans.ao = s.ao := (reacts_evalChans s).ao
theorem degr_devTo (d : DevState) (s : State) : (s.devTo d).dev.degr = s.dev.degr :=
  congrArg (fun t => t.dev.degr) (reacts_devTo d s)

@[simp] theorem startCount_degr (s : State) : s.startCount.dev.degr = s.dev.degr := by
  unfold State.startCount; split <;> rfl

@[simp] theorem startCount_state (s : State) : s.startCount.dev.state = s.dev.state := by
  unfold State.startCount; split <;> rfl

theorem degr_degrade (f : Degr → Degr) (s : State) : (s.degrade f).dev.degr = f s.dev.degr := by
  unfold State.degrade
  extract_lets _ s1
  split
  · rw [dev_evalChans, startCount_degr, degr_devTo]
  · exact startCount_degr s1
  · rfl

/-- A degrading condition ends RUN (R32). -/
theorem state_degrade (f : Degr → Degr) (s : State) : (s.degrade f).dev.state ≠ .run := by
  unfold State.degrade
  extract_lets _ s1
  split
  · rw [dev_evalChans, startCount_state, devTo_state]; decide
  · next hst => rw [startCount_state, hst]; decide
  · next hrun _ => exact hrun

/-- `s` with the degrading conditions and the start of their count as `e` has them. -/
def withDegr (s e : State) : State :=
  { s with dev.degr := e.dev.degr, dev.degrStart := e.dev.degrStart }

theorem Reacts.withDegr {s e : State} (h : Reacts s e) (t : State) : Reacts (withDegr s t) (withDegr e t) :=
  congrArg (fun x => Machine.withDegr x t) h

/-- Beside a reaction's effects, a degrading condition changes the conditions and the start of their count. -/
theorem reacts_degrade (f : Degr → Degr) (s : State) : Reacts (withDegr s (s.degrade f)) (s.degrade f) := by
  unfold State.degrade
  extract_lets _ s1
  split
  · have hto : Reacts s1 (s1.devTo .degraded) := reacts_devTo _ _
    have hev := reacts_evalChans (s1.devTo .degraded).startCount
    have hcount : withDegr (s1.devTo .degraded) (s1.devTo .degraded).startCount.evalChans =
        (s1.devTo .degraded).startCount := by
      unfold withDegr
      rw [dev_evalChans]
      unfold State.startCount
      split <;> rfl
    exact (hcount ▸ hto.withDegr _).trans hev
  · unfold State.startCount
    split <;> rfl
  · rfl

/-! ## A source's line lowered -/

theorem lower_frame (n : Nat) (s : State) :
    (s.lower n).bsc = s.bsc ∧ (s.lower n).dev = s.dev ∧ (s.lower n).vd = s.vd ∧ (s.lower n).sio = s.sio := by
  unfold State.lower State.deassert
  split
  · dsimp only
    split
    · split <;> exact ⟨rfl, rfl, rfl, rfl⟩
    · exact ⟨rfl, rfl, rfl, rfl⟩
  · exact ⟨rfl, rfl, rfl, rfl⟩

theorem asserted_lower (n : Nat) (s : State) : ((s.lower n).src n).asserted = false := by
  unfold State.lower State.deassert
  split
  · dsimp only
    split
    · split
      · rw [src_congr (sameSrc_revt _ _ _), src_setSrc, if_pos rfl]
      · rw [src_setSrc, if_pos rfl]
    · rw [src_setSrc, if_pos rfl]
  · next h => exact Bool.eq_false_iff.2 h

/-! ## Ports -/

theorem ethLink_listed : ∀ p : Port, (romCfg (164 + p)).reserved = false := by decide +kernel

theorem testBit_portBit_clear (p : Port) (w : BitVec 4) : (w &&& ~~~portBit p).getLsbD p = false := by
  revert p w; decide

theorem testBit_portBit_set (p : Port) (w : BitVec 4) : (w ||| portBit p).getLsbD p = true := by
  revert p w; decide

/-- Whether a port is replicated lies in the safety configuration. -/
theorem replicated_congr {s e : State} (h : e.sio.body = s.sio.body) (p : Nat) : e.replicated p = s.replicated p := by
  unfold State.replicated; rw [h]

theorem Reacts.body {s e : State} (h : Reacts s e) : e.sio.body = s.sio.body := congrArg (fun t => t.sio.body) h
theorem Reacts.linkUp {s e : State} (h : Reacts s e) : e.bsc.linkUp = s.bsc.linkUp := congrArg (fun t => t.bsc.linkUp) h

/-- Port `p` without link. -/
def unlinked (p : Port) (s : State) : State := { s with bsc.linkUp := s.bsc.linkUp &&& ~~~(portBit p) }

/-- A lost link raises ETH_LINKp; a port with a replicated connection is then a degrading condition. -/
theorem completes_ethLinkDown {p : Port} {s : State} {P : State → Prop} (hc : s.dev.state ≠ .cold)
    (hup : s.bsc.linkUp.getLsbD p = true)
    (h : P (if s.replicated p then ((unlinked p s).raiseLevel (164 + p) p).degrade
      (fun d => { d with ports := d.ports ||| portBit p }) else (unlinked p s).raiseLevel (164 + p) p)) :
    Completes (.ethLinkDown p) s P := by
  refine completes_act rfl hc ?_
  have hrepl : ((unlinked p s).raiseLevel (164 + p) p).replicated p = s.replicated p :=
    replicated_congr (reacts_raiseLevel _ _ _).body p
  rw [if_pos (show s.bsc.linkUp.toNat.testBit p = true from hup)]
  unfold unlinked at hrepl h
  dsimp only
  rwa [hrepl]

/-- A port whose domain is ON gains link: its second starts and the line of ETH_LINKp is lowered. -/
theorem completes_ethLinkUp {p : Port} {s : State} {P : State → Prop} (hc : s.dev.state ≠ .cold)
    (hdown : s.bsc.linkUp.getLsbD p = false) (hdom : s.dom (0x47 + p) = .on) (hpll : s.pm.pllBad.getLsbD (6 + p) = false)
    (h : P ((State.startStable p { s with bsc.linkUp := s.bsc.linkUp ||| portBit p }).lower (164 + p))) :
    Completes (.ethLinkUp p) s P := by
  refine completes_act (f := fun s =>
    if s.bsc.linkUp.toNat.testBit p || s.dom (0x47 + p) != .on || s.pm.pllBad.toNat.testBit (6 + p.val) then s
    else (State.startStable p { s with bsc.linkUp := s.bsc.linkUp ||| portBit p }).lower (164 + p)) rfl hc ?_
  have hlinked : s.bsc.linkUp.toNat.testBit p = false := hdown
  have hlocked : s.pm.pllBad.toNat.testBit (6 + p.val) = false := hpll
  simp only [hlinked, hlocked, hdom, bne_self_eq_false, Bool.or_false, Bool.false_eq_true, if_false]
  exact h

/-- `d` without the condition of port `p`. -/
def portOk (p : Port) (d : Degr) : Degr := { d with ports := d.ports &&& ~~~portBit p }

/-- A port that has been up for 1 s clears its condition where no buffer check failed and a rotation passed. -/
theorem completes_ethPortStable {p : Port} {s : State} {P : State → Prop} (hc : s.dev.state ≠ .cold)
    (hup : s.bsc.linkUp.getLsbD p = true) (hclear : (s.src (164 + p)).st = .clear)
    (hecc : s.bsc.eccSeen.getLsbD p = false) (hchk : s.bsc.chkPass.getLsbD p = true)
    (h : P ((s.advance (mget 0 s.bsc.upSince p + Config.aoPerS)).undegrade (portOk p))) :
    Completes (.ethPortStable p) s P := by
  refine completes_act rfl hc ?_
  have hnot : ¬ s.notClear (164 + p) = true := by simp [State.notClear, hclear]
  have hstable : (!s.bsc.eccSeen.toNat.testBit p && s.bsc.chkPass.toNat.testBit p) = true := by
    rw [show s.bsc.eccSeen.toNat.testBit p = false from hecc, show s.bsc.chkPass.toNat.testBit p = true from hchk]
    rfl
  rw [if_pos ⟨hup, hnot⟩]
  dsimp only
  rw [State.advance_bsc, if_pos hstable]
  exact h

theorem le_ao_advance (t : Nat) (s : State) : s.ao ≤ (s.advance t).ao := by
  unfold State.advance; dsimp only; split <;> omega

theorem le_advance_ao (t : Nat) (s : State) : t ≤ (s.advance t).ao := by
  unfold State.advance; dsimp only; split <;> omega

theorem degr_undegrade (f : Degr → Degr) (s : State) : (s.undegrade f).dev.degr = f s.dev.degr := by
  unfold State.undegrade
  extract_lets _ s1
  split
  · split
    · rfl
    · rw [dev_evalChans]; exact degr_devTo .run s1
  · rfl

theorem ao_undegrade (f : Degr → Degr) (s : State) : (s.undegrade f).ao = s.ao := by
  unfold State.undegrade
  extract_lets _ s1
  split
  · split
    · rfl
    · rw [ao_evalChans]; exact ao_devTo .run s1
  · rfl

/-- With no condition left, DEGRADED returns to RUN and the count is reset (R34). -/
theorem undegrade_last {f : Degr → Degr} {s : State} (hs : s.dev.state = .degraded) (hf : (f s.dev.degr).any = false) :
    (s.undegrade f).dev.state = .run ∧ (s.undegrade f).dev.degrStart = none := by
  unfold State.undegrade
  extract_lets _ s1
  split
  · rw [if_neg (by rw [hf]; decide), dev_evalChans]
    exact ⟨devTo_state .run s1, rfl⟩
  · next hne => exact absurd hs hne

/-- Elsewhere, and with a condition left, the state stays. -/
theorem state_undegrade {f : Degr → Degr} {s : State} (h : s.dev.state ≠ .degraded ∨ (f s.dev.degr).any = true) :
    (s.undegrade f).dev.state = s.dev.state := by
  unfold State.undegrade
  extract_lets _ s1
  split
  · next hst => rw [if_pos (h.resolve_left (fun hne => hne hst))]
  · rfl

/-- What clearing a port's condition does to a device that has run on to `t`. -/
theorem undegrade_portOk {p : Port} {s t : State} (hdev : t.dev = s.dev) :
    (t.undegrade (portOk p)).dev.degr = portOk p s.dev.degr ∧
    (s.dev.state = .degraded → (t.undegrade (portOk p)).dev.degr.any = false →
      (t.undegrade (portOk p)).dev.state = .run ∧ (t.undegrade (portOk p)).dev.degrStart = none) ∧
    (s.dev.state ≠ .degraded ∨ (t.undegrade (portOk p)).dev.degr.any = true →
      (t.undegrade (portOk p)).dev.state = s.dev.state) := by
  rw [degr_undegrade, ← hdev]
  exact ⟨rfl, undegrade_last, state_undegrade⟩

/-- Settles O7: a lost link raises ETH_LINKp and degrades a replicated port, a link gained starts the port's second, and a
stable second clears the port's condition. -/
theorem ethernetPorts : Obligations.EthernetPorts := by
  intro p s hc
  have hraise : Reacts (unlinked p s) ((unlinked p s).raiseLevel (164 + p) p) := reacts_raiseLevel _ _ _
  refine ⟨fun hup ha hrepl => ?_, fun hup hrepl => ?_, fun hdown hdom hpll => ?_, fun hup hclear hecc hchk => ?_⟩
  · refine completes_ethLinkDown hc hup ?_
    rw [if_neg (by rw [hrepl]; decide)]
    exact ⟨raisedIn_raiseLevel (s := unlinked p s) _ (ethLink_listed p) hc ha, hraise⟩
  · refine completes_ethLinkDown hc hup ?_
    rw [if_pos hrepl]
    have hdegr := reacts_degrade (fun d => { d with ports := d.ports ||| portBit p })
      ((unlinked p s).raiseLevel (164 + p) p)
    refine ⟨?_, ?_, state_degrade _ _, (hraise.withDegr _).trans hdegr⟩
    · rw [hdegr.linkUp]
      exact hraise.linkUp ▸ testBit_portBit_clear p _
    · rw [degr_degrade]
      exact testBit_portBit_set p _
  · refine completes_ethLinkUp hc hdown hdom hpll ?_
    obtain ⟨hbsc, hdev, hvd, hsio⟩ := lower_frame (164 + p)
      (State.startStable p { s with bsc.linkUp := s.bsc.linkUp ||| portBit p })
    rw [hbsc, hdev, hvd, hsio]
    exact ⟨rfl, mget_mput_same .., testBit_portBit_clear p _, testBit_portBit_clear p _, asserted_lower _ _,
      rfl, rfl, rfl⟩
  · refine completes_ethPortStable hc hup hclear hecc hchk ?_
    obtain ⟨hdegr, hback, hstay⟩ :=
      undegrade_portOk (p := p) (State.advance_dev (mget 0 s.bsc.upSince p + Config.aoPerS) s)
    refine ⟨hdegr, ?_, ?_, hback, hstay⟩
    · rw [ao_undegrade]
      exact le_ao_advance _ _
    · rw [ao_undegrade]
      exact le_advance_ao _ _

end Sys2Proof.Machine
end

section
/-! O29: the array's events (R25, R163, R170, R181, R182, R251, R272, R273, R297). -/

namespace Sys2Proof.Machine
open Sys2Proof

/-! ## What raising a source leaves of the array -/

/-- What the running plan works on: time, tiles, flits, verdicts, the plan and its loader, and the domains. -/
def State.array (s : State) : Nat × FMap TileSt × List Flit × Verd × Option Running × Loader × Power :=
  (s.ao, s.tiles, s.flits, s.vd, s.run, s.ldr, s.pm)

/-- From `s` to `e` the array is as it was, and a device outside COLD stays outside. -/
structure Steady (s e : State) : Prop where
  array : e.array = s.array
  notCold : s.dev.state ≠ .cold → e.dev.state ≠ .cold

variable {s e t : State}

theorem Steady.refl (s : State) : Steady s s := ⟨rfl, id⟩
theorem Steady.trans (h : Steady s t) (h' : Steady t e) : Steady s e := ⟨h'.array.trans h.array, h'.notCold ∘ h.notCold⟩
/-- An update of neither the array nor the device. -/
theorem Steady.of (h : e.array = s.array) (hd : e.dev = s.dev) : Steady s e := ⟨h, fun hc => hd ▸ hc⟩
theorem Steady.ite {c : Prop} [Decidable c] {x y : State} (hx : Steady s x) (hy : Steady s y) : Steady s (if c then x else y) := by
  split <;> assumption
theorem Steady.forAll {α : Type} {l : List α} {f : α → State → State} (hf : ∀ a t, Steady s t → Steady t (f a t)) :
    Steady s (forAll l f s) :=
  forAll_keeps (Steady s) f (fun a t ht => ht.trans (hf a t ht)) l s (.refl s)

theorem Steady.ao (h : Steady s e) : e.ao = s.ao := congrArg (·.1) h.array
theorem Steady.tiles (h : Steady s e) : e.tiles = s.tiles := congrArg (·.2.1) h.array
theorem Steady.vd (h : Steady s e) : e.vd = s.vd := congrArg (·.2.2.2.1) h.array
theorem Steady.run (h : Steady s e) : e.run = s.run := congrArg (·.2.2.2.2.1) h.array
theorem Steady.ldr (h : Steady s e) : e.ldr = s.ldr := congrArg (·.2.2.2.2.2.1) h.array
theorem Steady.pm (h : Steady s e) : e.pm = s.pm := congrArg (·.2.2.2.2.2.2) h.array
theorem Steady.tile (h : Steady s e) (u : Nat) : e.tile u = s.tile u := congrArg (mget TileSt.reset · u) h.tiles
theorem Steady.noBlackout (h : Steady s e) (hp : s.ldr.phase ≠ .blackout) : e.ldr.phase ≠ .blackout := h.ldr ▸ hp

theorem steady_rset (a : Nat) (v : W32) (s : State) : Steady s (s.rset a v) := .of rfl rfl
theorem steady_revt (a b : Nat) (s : State) : Steady s (s.revt a b) := .of rfl rfl
theorem steady_rset64 (a v : Nat) (s : State) : Steady s (s.rset64 a v) := .of rfl rfl
theorem steady_rinc64 (a k : Nat) (s : State) : Steady s (s.rinc64 a k) := .of rfl rfl
theorem steady_rincSat (a hi lo k : Nat) (s : State) : Steady s (s.rincSat a hi lo k) := .of rfl rfl
theorem steady_msix (f v : Nat) (s : State) : Steady s (s.msix f v) := .ite (.of rfl rfl) (.of rfl rfl)
theorem steady_fnEvtAll (b : Nat) (s : State) : Steady s (s.fnEvtAll b) :=
  .forAll fun _ _ _ => (steady_revt _ _ _).trans (steady_msix _ _ _)
theorem steady_setSrc (k : Nat) (v : SrcState) (s : State) : Steady s (s.setSrc k v) := .of rfl rfl
theorem steady_drive (k : Nat) (on : Bool) (s : State) : Steady s (s.drive k on) := .of rfl rfl
theorem steady_btStop (k : Nat) (s : State) : Steady s (s.btStop k) := .of rfl rfl

theorem steady_evalChan (k : Nat) (s : State) : Steady s (s.evalChan k) := by
  unfold State.evalChan
  dsimp only
  split
  · exact .ite (steady_drive ..) (.refl s)
  · split
    · exact .ite (steady_drive ..) (.refl s)
    · have hoff : Steady s (if (s.chan k).energised then s.drive k false else s) := .ite (steady_drive ..) (.refl s)
      exact .ite (hoff.trans (steady_btStop ..)) hoff

theorem steady_evalChans (s : State) : Steady s s.evalChans := .forAll fun k t _ => steady_evalChan k t

theorem steady_devTo {d : DevState} (hd : d ≠ .cold) (s : State) : Steady s (s.devTo d) := by
  refine ⟨?_, fun _ => by rw [devTo_state]; exact hd⟩
  unfold State.devTo
  split
  · rfl
  · exact (steady_fnEvtAll 0 { s with dev.state := d }).array

/-- What follows the device's own part of the entry into a held state. -/
theorem steady_held {d : DevState} (hd : d ≠ .cold) (f : StreamV → StreamV) (h : Steady s t) :
    Steady s (((t.devTo d).holdAll f).endPriv).evalChans := by
  have hto : Steady s (t.devTo d) := h.trans (steady_devTo hd t)
  have hall : Steady s ((t.devTo d).holdAll f) := hto.trans (.forAll fun _ _ _ => .of rfl rfl)
  refine .trans (hall.trans ?_) (steady_evalChans _)
  unfold State.endPriv
  exact .ite (.of rfl rfl) (.refl _)

theorem steady_enterSafeHold (hp : s.ldr.phase ≠ .blackout) (c : Option Nat) : Steady s (s.enterSafeHold c) := by
  unfold State.enterSafeHold State.abandonSwitch
  rw [if_neg hp]
  split
  · exact steady_held (by decide) _ ⟨rfl, id⟩
  · exact .refl s

theorem steady_enterAlarm (hp : s.ldr.phase ≠ .blackout) : Steady s s.enterAlarm := by
  unfold State.enterAlarm State.abandonSwitch
  rw [if_neg hp]
  split
  · exact .refl s
  · exact .refl s
  · exact steady_held (by decide) _ ⟨rfl, id⟩

theorem steady_errPRaise (s : State) : Steady s s.errPRaise := by
  unfold State.errPRaise
  exact .ite (.of rfl rfl) (.ite (.of rfl rfl) (.of rfl rfl))

theorem steady_capture (n : Nat) (c : Cap) (s : State) : Steady s (s.capture n c) := by
  unfold State.capture
  extract_lets a s1 s2 s3
  exact .ite (steady_rincSat ..)
    (((steady_rset _ _ s).trans (steady_rset _ _ _)).trans ((steady_rset _ _ _).trans (steady_rset64 _ _ _)))

theorem steady_rmaxFree (a m : Nat) (s : State) : Steady s (s.rmaxFree a m) := .of rfl rfl

theorem steady_trip (n m : Nat) (s : State) : Steady s (s.trip n m) := by
  unfold State.trip
  exact (((steady_rset _ _ s).trans (steady_rset _ _ _)).trans ((steady_revt _ _ _).trans (steady_rmaxFree _ _ _))).trans
    (steady_evalChans _)

theorem steady_dropMask (m : Nat) (s : State) : Steady s (s.dropMask m) :=
  .forAll fun _ _ _ => .ite (steady_drive ..) (.refl _)

/-- The loader's block apart, a block reset leaves the array alone. -/
theorem steady_blockReset {n : Nat} (hn : n ≠ 225) (s : State) : Steady s (s.blockReset n) := by
  unfold State.blockReset
  refine .ite ⟨rfl, id⟩ (.ite (.forAll fun k t _ => ?_) (.ite (.of rfl rfl) (.ite (.of rfl rfl) ?_)))
  · dsimp only
    split
    · exact .ite (.of rfl rfl) (.refl t)
    · exact .refl t
  · rw [if_neg hn]
    exact .refl s

theorem steady_react {n : Nat} (hn : n ≠ 225) (hp : s.ldr.phase ≠ .blackout) : Steady s (s.react n) := by
  unfold State.react
  extract_lets cfg s1 tam pol r s2 rv s3 s4 s5 s6 s7 s8
  have h1 : Steady s s1 := steady_rinc64 ..
  have h2 : Steady s s2 := h1.trans (.ite ((steady_revt _ _ _).trans (steady_msix _ _ _)) (.refl _))
  have h3 : Steady s s3 := h2.trans (.ite (.of rfl rfl) (.refl _))
  have h4 : Steady s s4 := h3.trans (.ite (steady_errPRaise _) (.refl _))
  have h5 : Steady s s5 := h4.trans (.ite ((steady_dropMask _ _).trans (steady_trip _ _ _)) (.refl _))
  have h6 : Steady s s6 := h5.trans (.ite ((steady_enterSafeHold (h5.noBlackout hp) _).trans (steady_trip _ _ _)) (.refl _))
  have h7 : Steady s s7 := h6.trans (.ite ((steady_enterAlarm (h6.noBlackout hp)).trans (steady_trip _ _ _)) (.refl _))
  have h8 : Steady s s8 := h7.trans (.ite (steady_blockReset hn _) (.refl _))
  exact h8.trans (.ite ⟨rfl, id⟩ (.refl _))

/-- A raise outside a blackout leaves the array alone. -/
theorem steady_raiseU {n : Nat} (hn : n ≠ 225) (hp : s.ldr.phase ≠ .blackout) (u : Nat) : Steady s (s.raiseU n u) := by
  unfold State.raiseU State.raiseWith
  split
  · exact .refl s
  · extract_lets o us v s1
    have h1 : Steady s s1 := steady_capture ..
    split
    · have hset := h1.trans (steady_setSrc n { v with st := .active, depAo := s1.ao } s1)
      exact hset.trans ((steady_react hn (hset.noBlackout hp)).trans (steady_evalChans _))
    · exact h1.trans (steady_setSrc ..)
    · exact h1.trans (steady_setSrc ..)
    · exact h1.trans (steady_setSrc ..)

theorem steady_degrade (f : Degr → Degr) (s : State) : Steady s (s.degrade f) := by
  have hcount (t : State) : Steady t t.startCount := by
    unfold State.startCount
    split
    · exact .refl t
    · exact ⟨rfl, id⟩
  have hset : Steady s { s with dev.degr := f s.dev.degr } := ⟨rfl, id⟩
  unfold State.degrade
  dsimp only
  split
  · exact hset.trans ((steady_devTo (by decide) _).trans ((hcount _).trans (steady_evalChans _)))
  · exact hset.trans (hcount _)
  · exact hset

end Sys2Proof.Machine
end

section
/-! O29: a tile's quarantine and its resident self-test (R181, R182, R189 to R191). -/

namespace Sys2Proof.Machine
open Sys2Proof

variable {s e t : State}

/-! ## With no frame, no record and no open procedure -/

/-- A fold of steps that do nothing. -/
theorem forAll_fixed {α σ : Type} {f : α → σ → σ} {s : σ} (hf : ∀ a, f a s = s) : ∀ l : List α, forAll l f s = s
  | [] => rfl
  | a :: l => by rw [forAll_cons, hf a, forAll_fixed hf l]

/-- Without frames no verdict can be formed. -/
theorem formReady_none (h : s.vd.frames = []) : s.formReady = s :=
  forAll_fixed (fun n => by rw [h]; rfl) _

/-- An empty journal has no record to correct. -/
theorem tileRange_none (h : s.vd.journal = []) (tile ref : Nat) : s.tileRange tile ref = s :=
  forAll_fixed (fun n => by rw [State.verdicts, h]; rfl) _

theorem flushRange_none (h : s.vd.journal = []) : s.flushRange = { s with vd.rangeDue := [] } := by
  unfold State.flushRange
  dsimp only
  refine forAll_fixed (fun tile => ?_) _
  split
  · exact tileRange_none (s := { s with vd.rangeDue := [] }) h _ _
  · rfl

/-- A closed procedure has nothing to poll. -/
theorem pollDis_closed {i : Nat} (h : (s.dis i).busy = false) : s.pollDis i = s := by
  unfold State.pollDis
  extract_lets d failed
  have hd : (!d.busy) = true := by rw [show d.busy = false from h]; rfl
  rw [if_pos hd]

/-- With every procedure closed and an empty journal, polling only empties the corrections due. -/
theorem pollAll_none (hd : ∀ i, (s.dis i).busy = false) (hj : s.vd.journal = []) :
    s.pollAll = { s with vd.rangeDue := [] } := by
  have hpoll : forAll [0, 1, 2, 3, 0, 1, 2, 3] State.pollDis s = s :=
    forAll_fixed (fun i => pollDis_closed (hd i)) _
  rw [State.pollAll, hpoll, flushRange_none hj]

theorem calm_congr (h : e.vd.frames = s.vd.frames) (hj : e.vd.journal = s.vd.journal) (hd : e.vd.dis = s.vd.dis)
    (hs : calm s) : calm e := by
  unfold calm State.dis at *
  rwa [h, hj, hd]

theorem calm_of_vd (h : e.vd = s.vd) (hs : calm s) : calm e :=
  calm_congr (by rw [h]) (by rw [h]) (by rw [h]) hs

/-! ## Quarantine (R189 to R191) -/

/-- The contexts of a tile, every one halted. -/
@[irreducible] def haltAll (m : FMap CtxSt) : FMap CtxSt :=
  (List.range 48).foldl (fun m c => mput CtxSt.reset m c (mget CtxSt.reset m c).halt) m

/-- A tile in service after its quarantine. -/
def quarTile (v : TileSt) (cause : Nat) : TileSt :=
  { v with role := .quarantined, qcount := satAdd 255 v.qcount 1, qcause := cause,
           ctxs := haltAll v.ctxs,
           stReq := false, stBusy := false }

/-- Every context of a quarantined tile is halted. -/
theorem halted_foldl (l : List Nat) (m : FMap CtxSt) {c : Nat}
    (h : c ∈ l ∨ (mget CtxSt.reset m c).st = .halted ∧ (mget CtxSt.reset m c).haltQ = true) :
    let x := mget CtxSt.reset (l.foldl (fun m c => mput CtxSt.reset m c (mget CtxSt.reset m c).halt) m) c
    x.st = .halted ∧ x.haltQ = true := by
  induction l generalizing m with
  | nil => exact h.resolve_left List.not_mem_nil
  | cons d l ih =>
    refine ih _ ?_
    rw [mget_mput]
    by_cases hd : c = d
    · rw [if_pos hd]
      exact .inr ⟨rfl, rfl⟩
    · rw [if_neg hd]
      exact h.imp_left fun hm => (List.mem_cons.1 hm).resolve_left hd

theorem halted_haltAll (m : FMap CtxSt) {c : Nat} (hc : c < 48) :
    (mget CtxSt.reset (haltAll m) c).st = .halted ∧ (mget CtxSt.reset (haltAll m) c).haltQ = true := by
  unfold haltAll
  exact halted_foldl _ m (.inl (List.mem_range.2 hc))

/-- From `s` to `u` results and flits were discarded and corrections made due. -/
def Discards (s u : State) : Prop :=
  u = { s with vd.rangeDue := u.vd.rangeDue, vd.results := u.vd.results, flits := u.flits }

/-- A quarantine sets the tile, discards its results and raises TILE_QUAR; a plan left without a spare degrades. -/
theorem quarState_serves {tl cause : Nat} (h : (s.tile tl).serves = true) :
    ∃ u w : State, Discards (s.setTile tl (quarTile (s.tile tl) cause)) u ∧
      w = (u.revt (twAddr tl 0x10) 9).raiseU 106 tl ∧
      (s.quarState tl cause = w ∨ ∃ f, s.quarState tl cause = (w.raiseU 107 tl).degrade f) := by
  have hin : ((s.tile tl).role == .plan || (s.tile tl).role == .reserve) = true := h
  unfold State.quarState
  extract_lets v inPlan noSpare ctxs s1 ref vd s2 s3 w
  have hctxs : ctxs = haltAll v.ctxs := by
    unfold haltAll
    exact if_pos hin
  split
  · next hr => simp [show (s.tile tl).role = _ from hr] at hin
  · next hr => simp [show (s.tile tl).role = _ from hr] at hin
  · next hr => simp [show (s.tile tl).role = _ from hr] at hin
  · refine ⟨s3, w, ?_, rfl, ?_⟩
    · unfold s3 s2 vd s1
      rw [hctxs]
      rfl
    · split
      · exact .inr ⟨_, rfl⟩
      · exact .inl rfl

theorem quarSources_listed : ∀ n ∈ [102, 106], (romCfg n).reserved = false := by decide +kernel

theorem sameSrc_degrade (f : Degr → Degr) (s : State) : SameSrc s (s.degrade f) := by
  have hcount (t : State) : SameSrc t t.startCount := by
    unfold State.startCount
    split <;> rfl
  unfold State.degrade
  extract_lets _ s1
  split
  · exact (sameSrc_devTo .degraded s1).trans ((hcount _).trans (sameSrc_evalChans _))
  · exact hcount s1
  · rfl

/-- The quarantine of a tile in service raises TILE_QUAR and no other source but 107; the rest of the array is as before. -/
theorem quarState_raises {tl cause : Nat} (hs : (s.tile tl).serves = true) (hc : s.dev.state ≠ .cold)
    (hp : s.ldr.phase ≠ .blackout) :
    (∃ u, Discards (s.setTile tl (quarTile (s.tile tl) cause)) u ∧ Steady u (s.quarState tl cause)) ∧
    RaisedIn 106 s (s.quarState tl cause) ∧ ∀ n, n ≠ 106 → n ≠ 107 → (s.quarState tl cause).src n = s.src n := by
  obtain ⟨u, w, hu, hw, hq⟩ := quarState_serves (cause := cause) hs
  have hphase : u.ldr.phase ≠ .blackout := by rw [hu]; exact hp
  have hcold : u.dev.state ≠ .cold := by rw [hu]; exact hc
  have hevt := steady_revt (twAddr tl 0x10) 9 u
  have hsrc : SameSrc s (u.revt (twAddr tl 0x10) 9) := by rw [hu]; rfl
  have hsteady : Steady u w := by
    rw [hw]
    exact hevt.trans (steady_raiseU (by decide) (hevt.noBlackout hphase) tl)
  have hraised : RaisedIn 106 s w := by
    rw [hw]
    exact (raisedIn_raiseU tl (quarSources_listed _ (by decide)) (hevt.notCold hcold)).of_sameSrc hsrc
  have hother (n : Nat) (hn : n ≠ 106) : w.src n = s.src n := by
    rw [hw, State.raiseU, src_raiseWith_ne hn, src_congr hsrc]
  rcases hq with hq | ⟨f, hq⟩
  · rw [hq]
    exact ⟨⟨u, hu, hsteady⟩, hraised, fun n hn _ => hother n hn⟩
  · rw [hq]
    have hsame (n : Nat) (hn : n ≠ 107) : ((w.raiseU 107 tl).degrade f).src n = w.src n := by
      rw [src_congr (sameSrc_degrade f _), State.raiseU, src_raiseWith_ne hn]
    refine ⟨⟨u, hu, ?_⟩, ?_, fun n hn hn' => (hsame n hn').trans (hother n hn)⟩
    · exact hsteady.trans ((steady_raiseU (by decide) (hsteady.noBlackout hphase) tl).trans (steady_degrade f _))
    · unfold RaisedIn
      rw [hsame 106 (by decide)]
      exact hraised

/-- In a calm state nothing follows a quarantine but the corrections that it made due. -/
theorem quarantineForm_calm {tl cause : Nat} (hcalm : calm (s.quarState tl cause)) :
    s.quarantineForm tl cause = { s.quarState tl cause with vd.rangeDue := [] } := by
  obtain ⟨hframes, hjournal, hdis⟩ := hcalm
  rw [State.quarantineForm, State.quarantine, pollAll_none hdis hjournal]
  exact formReady_none hframes

theorem quarantined_of {tl cause : Nat} (hraised : RaisedIn 106 s e)
    (htile : ∀ v, e.tile v = if v = tl then quarTile (s.tile tl) cause else s.tile v) : quarantined s e tl cause := by
  have htl := (htile tl).trans (if_pos rfl)
  refine ⟨congrArg TileSt.role htl, congrArg TileSt.qcause htl, congrArg TileSt.qcount htl, fun c hlt => ?_, hraised,
    fun v hv => (htile v).trans (if_neg hv)⟩
  unfold State.ctx
  rw [htl]
  exact halted_haltAll _ hlt

/-- A quarantine of a tile in service, in a calm state outside a blackout (R189 to R191). Sources 106 and 107 apart, every
source is as it was. -/
theorem quarantined_quarantineForm {tl cause : Nat} (hs : (s.tile tl).serves = true) (hcalm : calm s)
    (hc : s.dev.state ≠ .cold) (hp : s.ldr.phase ≠ .blackout) :
    quarantined s (s.quarantineForm tl cause) tl cause ∧
    ∀ n, n ≠ 106 → n ≠ 107 → (s.quarantineForm tl cause).src n = s.src n := by
  obtain ⟨⟨u, hu, hsteady⟩, hraised, hsame⟩ := quarState_raises (cause := cause) hs hc hp
  have hvd : (s.quarState tl cause).vd = { s.vd with rangeDue := u.vd.rangeDue, results := u.vd.results } := by
    rw [hsteady.vd, hu]; rfl
  have hform := quarantineForm_calm (s := s) (tl := tl) (cause := cause)
    (calm_congr (by rw [hvd]) (by rw [hvd]) (by rw [hvd]) hcalm)
  have htile (v : Nat) : (s.quarState tl cause).tile v = if v = tl then quarTile (s.tile tl) cause else s.tile v := by
    rw [← State.tile_setTile, hsteady.tile, hu]
    rfl
  rw [hform]
  generalize s.quarState tl cause = q at *
  exact ⟨quarantined_of hraised htile, hsame⟩

end Sys2Proof.Machine
end

section
/-! O29: a tile's resident self-test (R181, R182). -/

namespace Sys2Proof.Machine
open Sys2Proof

variable {s e t : State}

theorem ao_advance (n : Nat) (s : State) : (s.advance n).ao = Max.max s.ao n := by
  unfold State.advance
  dsimp only
  split <;> omega

/-- A tile without planted errors reads clean, so its scrub does nothing (R181). -/
theorem scrubWord_clean {tl a : Nat} (h : (s.tile tl).plant = []) : s.scrubWord tl a .ok = s := by
  have heccAt (n : Nat) : (s.tile tl).eccAt n .ok = .ok := by unfold TileSt.eccAt; rw [h]; rfl
  have hout : (s.tile tl).scrubOut a .ok = .ok := by
    unfold TileSt.scrubOut
    simp only [heccAt]
    rfl
  unfold State.scrubWord
  rw [hout]
  rfl

/-- Tile `tl` after step `k` of its resident self-test: the next step and the next word to scrub. -/
def stepped (v : TileSt) (k : Nat) : TileSt :=
  { v with stStep := (k + 1) % 47, stReq := false, stBusy := decide (k < 46), scrub := (v.scrub % 512 + 1) % 512 }

/-- The state in which step `k` of tile `tl` ends, at AO count `n`. -/
def State.stepAt (tl k n : Nat) (s : State) : State :=
  ((s.advance n).setTile tl (stepped (s.tile tl) k)).rset (twAddr tl 0x30)
    (BitVec.ofNat 32 (((s.tile tl).scrub % 512 + 1) % 512))

theorem stepAt_tile (tl k n u : Nat) (s : State) :
    (s.stepAt tl k n).tile u = if u = tl then stepped (s.tile tl) k else s.tile u :=
  State.tile_setTile tl u (stepped (s.tile tl) k) (s.advance n)

theorem stepAt_ao (tl k n : Nat) (s : State) : (s.stepAt tl k n).ao = Max.max s.ao n := ao_advance n s

/-- What ends step `k` of the self-test: after the last, the signature tells whether the tile passed. -/
def State.signed (tl k : Nat) (sig : Bool) (s : State) : State :=
  if k < 46 then s
  else if sig then (if (s.tile tl).serves then s.passed tl else s)
  else ((s.revt (twAddr tl 0x10) 6).raiseU 102 tl).quarantineForm tl 4

/-- A resident step of a served tile in an ON quad, with no planted error (R181 to R184). -/
theorem completes_residentStep {tl : Tile} {sig : Bool} {n : Nat} {P : State → Prop} (hc : s.dev.state ≠ .cold)
    (hrun : s.run.isSome = true) (hs : (s.tile tl).serves = true) (hdom : s.dom (quadOf tl) = .on)
    (hok : s.notClear 69 = false) (hplant : (s.tile tl).plant = [])
    (h : let k := if (s.tile tl).stReq then 0 else (s.tile tl).stStep
      P ((s.stepAt tl k n).signed tl k sig)) :
    Completes (.residentStep tl sig [] n) s P := by
  have hexec : exec (.residentStep tl sig [] n) s = execResidentStep tl sig [] n s := rfl
  unfold execResidentStep at hexec
  refine completes_act hexec hc ?_
  have hgo : ((s.tile tl).serves && s.run.isSome && s.dom (quadOf tl) == .on && !s.notClear 69) = true := by
    rw [hs, hrun, hdom, hok]; rfl
  rw [if_pos hgo]
  generalize hk : (if (s.tile tl).stReq then 0 else (s.tile tl).stStep) = k at h ⊢
  have hscrub : forAll (List.range 12) (fun b t => State.scrubWord tl (0x8000 * b + 64 * ((s.tile tl).scrub % 512))
      (lget .ok [] b) t) (s.stepAt tl k n) = s.stepAt tl k n := by
    refine forAll_fixed (fun b => scrubWord_clean ?_) _
    rw [stepAt_tile, if_pos rfl]
    exact hplant
  change P (State.signed tl k sig (forAll (List.range 12) (fun b t =>
    State.scrubWord tl (0x8000 * b + 64 * ((s.tile tl).scrub % 512)) (lget .ok [] b) t) (s.stepAt tl k n)))
  rw [hscrub]
  exact h

/-- The record of a passed self-test: its count, its time in the register and in the tile. -/
def State.stamped (tl : Nat) (s : State) : State :=
  let s := (s.rinc64 (twAddr tl 0x20) 1).rset64 (twAddr tl 0x28) s.ao
  s.setTile tl { s.tile tl with passAt := some s.ao }

theorem steady_passRegs (tl : Nat) (s : State) : Steady s ((s.rinc64 (twAddr tl 0x20) 1).rset64 (twAddr tl 0x28) s.ao) :=
  (steady_rinc64 (twAddr tl 0x20) 1 s).trans (steady_rset64 (twAddr tl 0x28) s.ao _)

theorem stamped_vd (tl : Nat) (s : State) : (s.stamped tl).vd = s.vd := (steady_passRegs tl s).vd

theorem stamped_tile (tl u : Nat) (s : State) :
    (s.stamped tl).tile u = if u = tl then { s.tile tl with passAt := some s.ao } else s.tile u := by
  have hsteady := steady_passRegs tl s
  unfold State.stamped
  dsimp only
  rw [State.tile_setTile, hsteady.tile, hsteady.tile, hsteady.ao]

theorem stamped_rget (tl : Nat) (s : State) : (s.stamped tl).rget (twAddr tl 0x28) = BitVec.ofNat 32 s.ao := by
  change ((s.rinc64 (twAddr tl 0x20) 1).rset64 (twAddr tl 0x28) s.ao).rget (twAddr tl 0x28) = _
  unfold State.rset64
  rw [rget_rset_ne (show twAddr tl 0x28 ≠ twAddr tl 0x28 + 4 by omega), rget_rset_same]

/-- In a calm state a passed self-test is counted and stamped (R182), and only the corrections due follow. -/
theorem passed_calm {tl : Nat} (hcalm : calm s) : s.passed tl = { s.stamped tl with vd.rangeDue := [] } := by
  obtain ⟨hframes, hjournal, hdis⟩ : calm (s.stamped tl) :=
    calm_of_vd (stamped_vd tl s) hcalm
  change (State.pollAll (forAll [0, 1, 2, 3] _ (s.stamped tl))).formReady = _
  rw [forAll_fixed (s := s.stamped tl) (fun i => ?_), pollAll_none hdis hjournal]
  · exact formReady_none (s := { s.stamped tl with vd.rangeDue := [] }) hframes
  · dsimp only
    rw [if_neg (by rw [hdis i]; decide)]

theorem passed_tile {tl : Nat} (hcalm : calm s) (u : Nat) :
    (s.passed tl).tile u = if u = tl then { s.tile tl with passAt := some s.ao } else s.tile u := by
  rw [passed_calm hcalm]
  exact stamped_tile tl u s

theorem passed_rget {tl : Nat} (hcalm : calm s) : (s.passed tl).rget (twAddr tl 0x28) = BitVec.ofNat 32 s.ao := by
  rw [passed_calm hcalm]
  exact stamped_rget tl s

theorem stepped_qcount (v : TileSt) (k : Nat) : (stepped v k).qcount = v.qcount := rfl

theorem stepped_of_lt (v : TileSt) {k : Nat} (hk : k < 46) : stepped v k =
    { v with stReq := false, scrub := (v.scrub % 512 + 1) % 512, stStep := k + 1, stBusy := true } := by
  unfold stepped
  rw [Nat.mod_eq_of_lt (show k + 1 < 47 by omega), decide_eq_true hk]

theorem stepAt_frame (tl k n : Nat) (s : State) : (s.stepAt tl k n).vd = s.vd ∧ (s.stepAt tl k n).dev = s.dev ∧
    (s.stepAt tl k n).ldr = s.ldr ∧ SameSrc s (s.stepAt tl k n) := ⟨rfl, rfl, rfl, rfl⟩

/-- A step before the last moves the tile on by one step and one scrubbed word. -/
theorem signed_of_lt {tl k : Nat} (hk : k < 46) (sig : Bool) (s : State) : s.signed tl k sig = s := if_pos hk

/-- The last step of a passed self-test in a calm state (R182). -/
theorem signed_passed {tl n : Nat} (hcalm : calm s) (hs : (s.tile tl).serves = true) :
    ((s.stepAt tl 46 n).signed tl 46 true).tile tl =
        { s.tile tl with stReq := false, scrub := ((s.tile tl).scrub % 512 + 1) % 512, stStep := 0, stBusy := false,
                         passAt := some (Max.max s.ao n) } ∧
    ((s.stepAt tl 46 n).signed tl 46 true).rget (twAddr tl 0x28) = BitVec.ofNat 32 (Max.max s.ao n) := by
  have htile : (s.stepAt tl 46 n).tile tl = stepped (s.tile tl) 46 := (stepAt_tile ..).trans (if_pos rfl)
  have hserves : ((s.stepAt tl 46 n).tile tl).serves = true := htile ▸ hs
  have hsigned : (s.stepAt tl 46 n).signed tl 46 true = (s.stepAt tl 46 n).passed tl := by
    unfold State.signed
    rw [if_neg (by decide), if_pos rfl, if_pos hserves]
  obtain ⟨hvd, -, -, -⟩ := stepAt_frame tl 46 n s
  have hcalm' : calm (s.stepAt tl 46 n) := calm_of_vd hvd hcalm
  rw [hsigned, passed_tile hcalm', passed_rget hcalm', if_pos rfl, htile, stepAt_ao]
  exact ⟨rfl, rfl⟩

/-- The last step of a failed self-test in a calm state: the tile is quarantined and FS102 raised. -/
theorem signed_failed {tl n : Nat} (hcalm : calm s) (hs : (s.tile tl).serves = true) (hc : s.dev.state ≠ .cold)
    (hp : s.ldr.phase ≠ .blackout) :
    quarantined s ((s.stepAt tl 46 n).signed tl 46 false) tl 4 ∧
      RaisedIn 102 s ((s.stepAt tl 46 n).signed tl 46 false) := by
  obtain ⟨hvd, hdev, hldr, hsrc⟩ := stepAt_frame tl 46 n s
  have htile (u : Nat) := stepAt_tile tl 46 n u s
  generalize s.stepAt tl 46 n = a at *
  have hevt := steady_revt (twAddr tl 0x10) 6 a
  have hpa : a.ldr.phase ≠ .blackout := hldr ▸ hp
  have hca : a.dev.state ≠ .cold := hdev ▸ hc
  have hb : Steady a ((a.revt (twAddr tl 0x10) 6).raiseU 102 tl) :=
    hevt.trans (steady_raiseU (by decide) (hevt.noBlackout hpa) tl)
  have hraised : RaisedIn 102 s ((a.revt (twAddr tl 0x10) 6).raiseU 102 tl) :=
    (raisedIn_raiseU tl (quarSources_listed _ (by decide)) (hevt.notCold hca)).of_sameSrc
      (hsrc.trans (sameSrc_revt _ _ _))
  have hsrc106 : ((a.revt (twAddr tl 0x10) 6).raiseU 102 tl).src 106 = s.src 106 := by
    rw [State.raiseU, src_raiseWith_ne (by decide), src_congr (hsrc.trans (sameSrc_revt _ _ _))]
  have hsigned : a.signed tl 46 false = ((a.revt (twAddr tl 0x10) 6).raiseU 102 tl).quarantineForm tl 4 := by
    unfold State.signed
    rw [if_neg (by decide)]
    rfl
  rw [hsigned]
  generalize (a.revt (twAddr tl 0x10) 6).raiseU 102 tl = b at *
  have htb (u : Nat) : b.tile u = if u = tl then stepped (s.tile tl) 46 else s.tile u := (hb.tile u).trans (htile u)
  have htl : b.tile tl = stepped (s.tile tl) 46 := (htb tl).trans (if_pos rfl)
  have hvdb : b.vd = s.vd := hb.vd.trans hvd
  obtain ⟨⟨hrole, hcause, hcount, hctx, hraise, hrest⟩, hsame⟩ := quarantined_quarantineForm (tl := tl) (cause := 4)
    (by rw [htl]; exact hs) (calm_of_vd hvdb hcalm) (hb.notCold hca) (hb.noBlackout hpa)
  refine ⟨⟨hrole, hcause, ?_, hctx, ?_, fun u hu => ?_⟩, ?_⟩
  · rw [hcount, htl, stepped_qcount]
  · unfold RaisedIn at hraise ⊢
    rwa [hsrc106] at hraise
  · rw [hrest u hu, htb, if_neg hu]
  · unfold RaisedIn at hraised ⊢
    rw [hsame 102 (by decide) (by decide)]
    exact hraised

end Sys2Proof.Machine
end

section
/-! O29: mesh deliveries (R170, R272 to R274) and awaited counts (R251). -/

namespace Sys2Proof.Machine
open Sys2Proof

variable {s e t : State}

/-! ## Bytes -/

theorem leBytes_length (n v : Nat) : (leBytes n v).length = n := by
  induction n generalizing v with
  | zero => rfl
  | succ n ih => exact congrArg Nat.succ (ih _)

theorem lget_leBytes {n i : Nat} (v : Nat) (h : i < n) : lget 0 (leBytes n v) i = BitVec.ofNat 8 (v / 2 ^ (8 * i)) := by
  induction n generalizing v i with
  | zero => omega
  | succ n ih =>
    cases i with
    | zero => rw [Nat.mul_zero, Nat.pow_zero, Nat.div_one]; rfl
    | succ i =>
      refine (ih (v / 256) (by omega)).trans ?_
      rw [Nat.div_div_eq_div_mul, show 2 ^ (8 * (i + 1)) = 256 * 2 ^ (8 * i) by rw [Nat.mul_succ, Nat.pow_add]; omega]

/-! ## Deliveries -/

/-- Tile `v` after a flit's commit at the receive ring of counter `k`. -/
def committed (v : TileSt) (k : Nat) (ring : Ring) (data : BitVec 512) (bad : Bool) : TileSt :=
  let w := mget 0 v.wptr k
  { v.write (ring.base + 64 * w) (leBytes 64 data.toNat) bad with
    wptr := mput 0 v.wptr k (if w + 1 ≥ ring.len then 0 else w + 1)
    counters := mput 0 v.counters k (mget 0 v.counters k + 1) }

/-- Without an injection armed on the array a flit's arrival sets its tile alone. -/
theorem arrive_eq (hinj : s.flt.injTarget ≠ 1) (tl k : Nat) (ring : Ring) (data : BitVec 512) (bad : Bool) :
    s.arrive tl k ring data bad = s.setTile tl (committed (s.tile tl) k ring data bad) := by
  unfold State.arrive
  extract_lets v w a v1 v2
  unfold State.planted
  exact if_neg fun h => hinj h.1

/-- What a write of 64 bytes at a word boundary leaves as poison marks. -/
theorem poison_write64 (v : TileSt) {a : Nat} (data : BitVec 512) (bad : Bool) (ha : a % 8 = 0) (k : Nat) :
    mget false (v.write a (leBytes 64 data.toNat) bad).sramPoison k =
      if a / 8 ≤ k ∧ k < a / 8 + 8 then bad else mget false v.sramPoison k := by
  unfold TileSt.write
  dsimp only
  rw [leBytes_length, ha, mget_foldl_range]

/-- What a write of 64 bytes leaves as bytes. -/
theorem sram_write64 (v : TileSt) (a : Nat) (data : BitVec 512) (bad : Bool) (b : Nat) :
    mget 0 (v.write a (leBytes 64 data.toNat) bad).sram b =
      if a ≤ b ∧ b < a + 64 then BitVec.ofNat 8 (data.toNat / 2 ^ (8 * (b - a))) else mget 0 v.sram b := by
  rw [TileSt.byte_write, leBytes_length]
  split
  · exact lget_leBytes _ (by omega)
  · rfl

/-- What a delivery's end does with the flit. -/
def State.deliver (r : Running) (p : PRoute) (data : BitVec 512) (bad : Bool) (s : State) : State :=
  match p.dst with
  | .port _ => if p.resultQueue then s.queueResult data bad else s
  | .tile l => match r.place[l]?, r.img.tiles[l]? with
    | some t, some q => s.arrive t p.counter (mget { base := 0, len := 1 } q.rings p.counter) data bad
    | _, _ => s

theorem deliver_tile {r : Running} {p : PRoute} {l u : Nat} {pt : PTile} (hdst : p.dst = .tile l)
    (hplace : r.place[l]? = some u) (htile : r.img.tiles[l]? = some pt) (data : BitVec 512) (bad : Bool) :
    s.deliver r p data bad = s.arrive u p.counter (mget { base := 0, len := 1 } pt.rings p.counter) data bad := by
  unfold State.deliver
  rw [hdst]
  dsimp only
  rw [hplace, htile]

/-- A valid record of a tile in service goes to the result queue (R274). -/
theorem deliver_queue {r : Running} {p : PRoute} {col : Nat} {data : BitVec 512} {bad : Bool} (hdst : p.dst = .port col)
    (hqueue : p.resultQueue = true) (hserves : (s.tile (leField (leBytes 64 data.toNat) 10 2)).serves = true)
    (hrec : recordOk (leBytes 64 data.toNat) = true) :
    s.deliver r p data bad = { s with vd.results := s.vd.results ++ [(data, bad)] } := by
  unfold State.deliver
  rw [hdst]
  dsimp only
  rw [if_pos hqueue]
  unfold State.queueResult
  dsimp only
  rw [if_neg (by rw [hserves]; simp), if_pos hrec]

theorem exec_meshDelivery (route : BitVec 12) (data : BitVec 512) (s : State) :
    exec (.meshDelivery route data false none) s = execMeshDelivery route data false none s := rfl

variable {r : Running} {route : BitVec 12} {q : PRoute} {data : BitVec 512} {P : State → Prop}

/-- A delivery from a ledger column port over an unbroken path, without a collision or a link fault. -/
theorem completes_delivery_port (hc : s.dev.state ≠ .cold) (hrun : s.run = some r)
    (hq : r.img.routes.find? (fun x => x.num = route.toNat) = some q) (hpath : s.pathBroken q = false) {col : Nat}
    (hsrc : q.src = .port col) (h : P (s.deliver r q data false)) : Completes (.meshDelivery route data false none) s P := by
  have hexec := exec_meshDelivery route data s
  unfold execMeshDelivery at hexec
  refine completes_act hexec hc ?_
  rw [hrun]
  dsimp only
  rw [hq]
  dsimp only
  rw [hsrc]
  dsimp only
  have hsame : { s with run := some r } = s := by rw [← hrun]
  rw [hsame, hpath, Option.isSome_none, Bool.or_false, Bool.or_false]
  simp only [Bool.false_eq_true, if_false]
  unfold State.deliver at h
  exact h

/-- A delivery from a tile: the oldest flit, of this route, over an unbroken path. -/
theorem completes_delivery_tile (hc : s.dev.state ≠ .cold) (hrun : s.run = some r)
    (hq : r.img.routes.find? (fun x => x.num = route.toNat) = some q) (hpath : s.pathBroken q = false) {l0 : Nat}
    (hsrc : q.src = .tile l0) {f : Flit} {rest : List Flit} (hflits : s.flits = f :: rest) (hroute : f.route = route.toNat)
    (h : P (State.deliver r q f.data f.poison { s with flits := rest })) :
    Completes (.meshDelivery route data false none) s P := by
  have hexec := exec_meshDelivery route data s
  unfold execMeshDelivery at hexec
  refine completes_act hexec hc ?_
  have htake : takeFlit route.toNat s.flits = some (f, rest) := by rw [hflits, takeFlit, if_pos hroute]
  have hbroken : State.pathBroken { s with flits := rest } q = false := hpath
  rw [hrun]
  dsimp only
  rw [hq]
  dsimp only
  rw [hsrc]
  dsimp only
  rw [htake]
  dsimp only
  have hsame : { s with flits := rest, run := some r } = { s with flits := rest } := by rw [← hrun]
  rw [hsame, hbroken, Option.isSome_none, Bool.or_false, Bool.or_false]
  simp only [Bool.false_eq_true, if_false]
  unfold State.deliver at h
  exact h

/-- AWAIT_RESUME (R251) at a context that waits for count `n` of counter `k`. -/
theorem completes_awaitResume {tl : Tile} {c : Ctx} {k : Nat} {n : W32} (hc : s.dev.state ≠ .cold)
    (hst : (s.ctx tl c).st = .waitArr) (haw : (s.ctx tl c).await = some (k, n))
    (h : P (if awaitMet (mget 0 (s.tile tl).counters k) n && s.dom (quadOf tl) == .on && !s.notClear 69
      then s.setCtx tl c { s.ctx tl c with st := .run, await := none } else s)) : Completes (.awaitResume tl c) s P := by
  have hexec : exec (.awaitResume tl c) s = execAwaitResume tl c s := rfl
  unfold execAwaitResume at hexec
  refine completes_act hexec hc ?_
  simp only [hst, haw]
  exact h

end Sys2Proof.Machine
end

section
/-! O29: the slot strobe (R25, R163, R297). -/

namespace Sys2Proof.Machine
open Sys2Proof

variable {s e t : State}

/-! ## What every part of a strobe keeps -/

/-- From `s` to `e` time, the plan, its verdicts and loader and the host's absence are as they were. -/
structure Paced (s e : State) : Prop where
  ao : e.ao = s.ao
  run : e.run = s.run
  vd : e.vd = s.vd
  ldr : e.ldr = s.ldr
  hostless : e.pm.hostless = s.pm.hostless

/-- From `s` to `e` tile `tl` and the power of its quad are as they were. -/
structure TileKept (tl : Nat) (s e : State) : Prop where
  tile : e.tile tl = s.tile tl
  dom : e.dom (quadOf tl) = s.dom (quadOf tl)

theorem Paced.refl (s : State) : Paced s s := ⟨rfl, rfl, rfl, rfl, rfl⟩
theorem Paced.trans (h : Paced s t) (h' : Paced t e) : Paced s e :=
  ⟨h'.ao.trans h.ao, h'.run.trans h.run, h'.vd.trans h.vd, h'.ldr.trans h.ldr, h'.hostless.trans h.hostless⟩
theorem Paced.forAll {α : Type} {f : α → State → State} (hf : ∀ a t, Paced t (f a t)) (l : List α) (s : State) :
    Paced s (forAll l f s) :=
  forAll_keeps (Paced s) f (fun a t ht => ht.trans (hf a t)) l s (.refl s)
theorem Steady.paced (h : Steady s e) : Paced s e := ⟨h.ao, h.run, h.vd, h.ldr, congrArg (·.hostless) h.pm⟩

theorem TileKept.refl (tl : Nat) (s : State) : TileKept tl s s := ⟨rfl, rfl⟩
theorem TileKept.trans {tl : Nat} (h : TileKept tl s t) (h' : TileKept tl t e) : TileKept tl s e :=
  ⟨h'.tile.trans h.tile, h'.dom.trans h.dom⟩
theorem Steady.tileKept (h : Steady s e) (tl : Nat) : TileKept tl s e :=
  ⟨h.tile tl, by unfold State.dom; rw [h.pm]⟩

/-! ## Overruns (R197) -/

/-- Without frames an overrun only counts and raises. -/
theorem steady_overrun (hf : s.vd.frames = []) (hp : s.ldr.phase ≠ .blackout) (tl c : Nat) : Steady s (s.overrun tl c) := by
  have howed : s.owedFrames tl c = [] := by
    unfold State.owedFrames
    split
    · rfl
    · simp [hf]
  unfold State.overrun
  rw [howed, forAll_nil]
  dsimp only
  have hset (v : W32) : Steady s ((s.revt (twAddr tl 0x10) 5).rset (twAddr tl 0x50) v) :=
    (steady_revt (twAddr tl 0x10) 5 s).trans (steady_rset (twAddr tl 0x50) v _)
  exact (hset _).trans (steady_raiseU (by decide) ((hset _).noBlackout hp) tl)

theorem returnBufs_none (hf : s.vd.frames = []) : s.returnBufs = s := by
  unfold State.returnBufs
  rw [hf]
  rfl

/-! ## Quads (R608 to R613) -/

theorem paced_wakeDom (d : Nat) (s : State) : Paced s (s.wakeDom d) := by
  unfold State.wakeDom
  dsimp only
  split
  · exact ⟨rfl, rfl, rfl, rfl, rfl⟩
  · exact ⟨rfl, rfl, rfl, rfl, rfl⟩
  · split <;> exact ⟨rfl, rfl, rfl, rfl, rfl⟩

theorem paced_quadSet (r : Running) (k q : Nat) (s : State) : Paced s (s.quadSet r k q) := by
  unfold State.quadSet
  split
  · exact paced_wakeDom q s
  · split
    · split
      · exact paced_wakeDom q s
      · exact .refl s
    · split
      · exact ⟨rfl, rfl, rfl, rfl, rfl⟩
      · exact .refl s
    · exact .refl s
  · split <;> exact ⟨rfl, rfl, rfl, rfl, rfl⟩

theorem dom_set_ne {d q : Nat} (h : q ≠ d) (x : DomSt) (s : State) :
    State.dom { s with pm.dom := mput .off s.pm.dom d x } q = s.dom q := by
  unfold State.dom
  exact mget_mput_ne _ _ _ h

theorem dom_releaseDom_ne {d q : Nat} (h : q ≠ d) (s : State) : (s.releaseDom d).dom q = s.dom q := by
  exact dom_set_ne h .off { s with pm.req := mput false s.pm.req d false }

theorem dom_quadOff_ne {d q : Nat} (h : q ≠ d) (s : State) : (s.quadOff d).dom q = s.dom q := dom_releaseDom_ne h s

/-- Waking a domain leaves every other domain, and one that is ON. -/
theorem dom_wakeDom {d q : Nat} (h : q ≠ d ∨ s.dom d = .on) : (s.wakeDom d).dom q = s.dom q := by
  unfold State.wakeDom
  dsimp only
  split
  · rfl
  · next hg =>
    have hne : q ≠ d := h.resolve_right fun hon => by rw [show s.dom d = .gated from hg] at hon; cases hon
    exact dom_set_ne hne .on { s with pm.req := mput false s.pm.req d true }
  · split <;> rfl

theorem tile_wakeDom (d tl : Nat) (s : State) : (s.wakeDom d).tile tl = s.tile tl := by
  unfold State.wakeDom
  dsimp only
  split
  · rfl
  · rfl
  · split <;> rfl

theorem unpowered_reset : TileSt.reset.unpowered = TileSt.reset := rfl

theorem tileKept_quadOff {q tl : Nat} (h : quadOf tl ≠ q) (s : State) : TileKept tl s (s.quadOff q) := by
  refine ⟨?_, dom_quadOff_ne h s⟩
  have hmap := mget_mmapK TileSt.reset (fun u v => if quadOf u = q then v.unpowered else v) (fun u => ite_self _) s.tiles tl
  exact hmap.trans (if_neg h)

/-- A quad that takes its state leaves the tiles of other quads; one that is ON and stays so leaves its own as well. -/
theorem tileKept_quadSet {r : Running} {k q tl : Nat} (h : quadOf tl ≠ q ∨ s.quadWant r k q = 0 ∧ s.dom q = .on) :
    TileKept tl s (s.quadSet r k q) := by
  have hother (hne : s.quadWant r k q ≠ 0) : quadOf tl ≠ q := h.resolve_right fun hw => hne hw.1
  have hwake (hd : quadOf tl ≠ q ∨ s.dom q = .on) : TileKept tl s (s.wakeDom q) := ⟨tile_wakeDom q tl s, dom_wakeDom hd⟩
  unfold State.quadSet
  split
  · exact hwake (h.imp_right And.right)
  · next hw =>
    have hne := hother (by rw [hw]; decide)
    split
    · split
      · exact hwake (.inl hne)
      · exact .refl tl s
    · split
      · exact ⟨rfl, dom_set_ne hne .gated s⟩
      · exact .refl tl s
    · exact .refl tl s
  · next hw _ =>
    have hne := hother hw
    split
    · exact ⟨rfl, dom_releaseDom_ne hne s⟩
    · exact tileKept_quadOff hne s

/-- With no procedure open, whether a quad is to be ON depends on the plan and the host's absence alone. -/
theorem quadWant_same {r : Running} {k q : Nat} (hvd : e.vd = s.vd) (hhost : e.pm.hostless = s.pm.hostless)
    (hd : ∀ i, (s.dis i).busy = false) (hw : s.quadWant r k q = 0) : e.quadWant r k q = 0 := by
  have hnamed (u : State) (hu : ∀ i, (u.dis i).busy = false) : u.quadNamed q = false := by
    unfold State.quadNamed
    rw [List.any_eq_false]
    intro i _
    rw [hu i, Bool.false_and]
    decide
  have hde (i : Nat) : (e.dis i).busy = false := by
    unfold State.dis
    rw [hvd]
    exact hd i
  unfold State.quadWant at hw ⊢
  rw [hnamed s hd] at hw
  rw [hnamed e hde, hhost]
  simp only [Bool.false_eq_true, if_false] at hw ⊢
  split at hw
  · cases hw
  · split at hw
    · next hl hon => rw [if_neg hl, if_pos hon]
    · split at hw <;> cases hw

/-- The quads' states leave a tile whose quad is ON and stays so. -/
theorem tileKept_quadSets {r : Running} {k tl : Nat} (hd : ∀ i, (s.dis i).busy = false) (hon : s.dom (quadOf tl) = .on)
    (hw : s.quadWant r k (quadOf tl) = 0) (l : List Nat) :
    TileKept tl s (forAll l (fun q s => s.quadSet r k q) s) := by
  refine (forAll_keeps (fun u => Paced s u ∧ TileKept tl s u) _ (fun q u hu => ?_) l s ⟨.refl s, .refl tl s⟩).2
  obtain ⟨hpaced, hkept⟩ := hu
  refine ⟨hpaced.trans (paced_quadSet r k q u), hkept.trans (tileKept_quadSet ?_)⟩
  by_cases hq : quadOf tl = q
  · subst hq
    exact .inr ⟨quadWant_same hpaced.vd hpaced.hostless hd hw, hkept.dom.trans hon⟩
  · exact .inl hq

end Sys2Proof.Machine
end

section
/-! O29: contexts at a slot strobe (R163, R247), and the settled statement. -/

namespace Sys2Proof.Machine
open Sys2Proof

variable {s e t : State}

/-! ## Contexts (R163, R247) -/

/-- What a fold of writes leaves at a key that it does not write. -/
theorem mget_foldl_ctxs_ne (g : Nat × PCtx → CtxSt) {c : Nat} (l : List (Nat × PCtx)) (m : FMap CtxSt)
    (hc : c ∉ l.map Prod.fst) :
    mget CtxSt.reset (l.foldl (fun m x => mput CtxSt.reset m x.1 (g x)) m) c = mget CtxSt.reset m c := by
  induction l generalizing m with
  | nil => rfl
  | cons x l ih =>
    rw [List.map_cons, List.mem_cons, not_or] at hc
    exact (ih _ hc.2).trans (mget_mput_ne _ _ _ hc.1)

/-- What a fold of writes to distinct keys leaves at one of them. -/
theorem mget_foldl_ctxs (g : Nat × PCtx → CtxSt) {c : Nat} {z : PCtx} (l : List (Nat × PCtx)) (m : FMap CtxSt)
    (hl : (l.map Prod.fst).Nodup) (hc : (c, z) ∈ l) :
    mget CtxSt.reset (l.foldl (fun m x => mput CtxSt.reset m x.1 (g x)) m) c = g (c, z) := by
  induction l generalizing m with
  | nil => exact absurd hc List.not_mem_nil
  | cons x l ih =>
    obtain ⟨hx, hl⟩ := List.nodup_cons.1 hl
    rcases List.mem_cons.1 hc with rfl | hc
    · exact (mget_foldl_ctxs_ne g l _ hx).trans (mget_mput_same ..)
    · exact ih _ hl hc

/-- A tile that keeps its clock at the strobe of slot `k`. -/
def struck (k : Nat) (p : PTile) (v : TileSt) : TileSt :=
  { v with posted := [], boundsCtx := [], crcFails := if k = 0 then 0 else v.crcFails,
           ctxs := p.ctxs.foldl (fun m x => mput CtxSt.reset m x.1
             ((mget CtxSt.reset v.ctxs x.1).strobe (mget .none x.2.entries k))) v.ctxs }

theorem ctx_struck {k c : Nat} {p : PTile} {z : PCtx} (v : TileSt) (hnd : (p.ctxs.map Prod.fst).Nodup)
    (hc : (c, z) ∈ p.ctxs) :
    mget CtxSt.reset (struck k p v).ctxs c = (mget CtxSt.reset v.ctxs c).strobe (mget .none z.entries k) :=
  mget_foldl_ctxs (fun x => (mget CtxSt.reset v.ctxs x.1).strobe (mget .none x.2.entries k)) p.ctxs v.ctxs hnd hc

theorem tileStrobe_on {k tl : Nat} {p : PTile} (hcfg : s.tileCfg tl = some p) (hs : (s.tile tl).serves = true)
    (hon : s.dom (quadOf tl) = .on) : s.tileStrobe k tl = s.setTile tl (struck k p (s.tile tl)) := by
  unfold State.tileStrobe
  rw [hcfg]
  exact if_pos (Bool.and_eq_true_iff.2 ⟨hs, by rw [hon]; rfl⟩)

theorem paced_setTile (tl : Nat) (v : TileSt) (s : State) : Paced s (s.setTile tl v) := ⟨rfl, rfl, rfl, rfl, rfl⟩

theorem tileKept_setTile {tl u : Nat} (h : u ≠ tl) (v : TileSt) (s : State) : TileKept u s (s.setTile tl v) :=
  ⟨(State.tile_setTile ..).trans (if_neg h), rfl⟩

/-- The strobe of a tile sets that tile alone. -/
theorem tileStrobe_sets (k tl : Nat) (s : State) : s.tileStrobe k tl = s ∨ ∃ v, s.tileStrobe k tl = s.setTile tl v := by
  unfold State.tileStrobe
  split
  · exact .inl rfl
  · extract_lets _ v
    split <;> exact .inr ⟨_, rfl⟩

theorem paced_tileStrobe (k tl : Nat) (s : State) : Paced s (s.tileStrobe k tl) := by
  rcases tileStrobe_sets k tl s with h | ⟨v, h⟩
  · rw [h]; exact .refl s
  · rw [h]; exact paced_setTile tl v s

theorem tileKept_tileStrobe {tl u : Nat} (h : u ≠ tl) (k : Nat) (s : State) : TileKept u s (s.tileStrobe k tl) := by
  rcases tileStrobe_sets k tl s with hk | ⟨v, hk⟩
  · rw [hk]; exact .refl u s
  · rw [hk]; exact tileKept_setTile h v s

theorem tileKept_tileStrobes {tl : Nat} (k : Nat) (l : List Nat) (s : State) (h : tl ∉ l) :
    TileKept tl s (forAll l (fun u s => s.tileStrobe k u) s) := by
  induction l generalizing s with
  | nil => exact .refl tl s
  | cons u l ih =>
    rw [List.mem_cons, not_or] at h
    exact (tileKept_tileStrobe h.1 k s).trans (ih _ h.2)

theorem tileCfg_congr {tl : Nat} (ht : e.tile tl = s.tile tl) (hr : e.run.map (·.img) = s.run.map (·.img)) :
    e.tileCfg tl = s.tileCfg tl := by
  have hline (l : Nat) (u : State) : u.ptile l = (u.run.map (·.img)).bind (fun i => i.tiles[l]?) := by
    unfold State.ptile
    cases u.run <;> rfl
  unfold State.tileCfg
  rw [ht]
  cases (s.tile tl).logical with
  | none => rfl
  | some l =>
    change e.ptile l = s.ptile l
    rw [hline, hline, hr]

/-- The strobes of all tiles leave a tile that keeps its clock as its own strobe does. -/
theorem tile_tileStrobes {k tl : Nat} {p : PTile} (l : List Nat) (s : State) (hl : l.Nodup) (hm : tl ∈ l)
    (hcfg : s.tileCfg tl = some p) (hs : (s.tile tl).serves = true) (hon : s.dom (quadOf tl) = .on) :
    (forAll l (fun u s => s.tileStrobe k u) s).tile tl = struck k p (s.tile tl) := by
  induction l generalizing s with
  | nil => exact absurd hm List.not_mem_nil
  | cons u l ih =>
    obtain ⟨hu, hl⟩ := List.nodup_cons.1 hl
    by_cases htl : tl = u
    · subst htl
      rw [forAll_cons, (tileKept_tileStrobes k l _ hu).tile, tileStrobe_on hcfg hs hon, State.tile_setTile, if_pos rfl]
    · have hkept := tileKept_tileStrobe htl k s
      rw [forAll_cons, ih (s.tileStrobe k u) hl ((List.mem_cons.1 hm).resolve_left htl)
        ((tileCfg_congr hkept.tile (by rw [(paced_tileStrobe k u s).run])).trans hcfg) (by rw [hkept.tile]; exact hs)
        (hkept.dom.trans hon), hkept.tile]

/-! ## The strobe (R25) -/

/-- The tokens' grants are registers and counts of the power domains. -/
theorem grants_frame (r : Running) (k : Nat) (s : State) :
    ∃ u m, Steady s u ∧
      s.grants r k = { u with pm.grant := m, pm.lostSlot := 0, pm.lostQuad := 0, pm.throttled := false } := by
  unfold State.grants
  extract_lets g c cap h e grant given u
  exact ⟨u, grant, (steady_rset ..).trans (steady_rset ..), rfl⟩

theorem paced_grants (r : Running) (k : Nat) (s : State) : Paced s (s.grants r k) := by
  obtain ⟨u, m, hu, h⟩ := grants_frame r k s
  rw [h]
  exact hu.paced.trans ⟨rfl, rfl, rfl, rfl, rfl⟩

theorem tileKept_grants (r : Running) (k tl : Nat) (s : State) : TileKept tl s (s.grants r k) := by
  obtain ⟨u, m, hu, h⟩ := grants_frame r k s
  rw [h]
  exact (hu.tileKept tl).trans ⟨rfl, rfl⟩

theorem steady_traceStart (k : Nat) (s : State) : Steady s (s.traceStart k) := by
  unfold State.traceStart
  exact .ite (.of rfl rfl) (.refl s)

theorem steady_reserve (hp : s.ldr.phase ≠ .blackout) (n : Nat) : Steady s (s.reserve n) := by
  unfold State.reserve
  split
  · exact .refl s
  · dsimp only
    split
    · exact .refl s
    · split
      · exact .of rfl rfl
      · unfold State.nobuf
        have hset (g : GateS) (a : Nat) : Steady s (((s.setGs n g).rincSat a 31 0 1).revt 0x90008 2) := .of rfl rfl
        exact (hset _ _).trans (steady_raiseU (by decide) ((hset _ _).noBlackout hp) _)

theorem steady_reserveAgain (hp : s.ldr.phase ≠ .blackout) : Steady s s.reserveAgain := by
  unfold State.reserveAgain
  exact .forAll fun n u hu => .ite (steady_reserve (hu.noBlackout hp) n) (.refl u)

/-- A slot's strobe in a calm state outside a blackout: time, the plan's slot, and each tile that keeps its clock. -/
theorem strobe_calm {r : Running} (h k n : Nat) (hcalm : calm s) (hrun : s.run = some r) (hp : s.ldr.phase ≠ .blackout) :
    (s.strobe r h k n).ao = Max.max s.ao n ∧
    (s.strobe r h k n).run = some { r with slot := k, hyper := h, strobeAt := n, struck := true } ∧
    ∀ (tl : Nat) (p : PTile), tl < 192 → s.tileCfg tl = some p → (s.tile tl).serves = true →
      s.dom (quadOf tl) = .on → s.quadWant r k (quadOf tl) = 0 → (s.strobe r h k n).tile tl = struck k p (s.tile tl) := by
  obtain ⟨hframes, -, hdis⟩ := hcalm
  unfold State.strobe
  extract_lets s1 late s2 s3 s4 s5 s6 s7
  have h2 : Steady s1 s2 :=
    .forAll fun x u hu => steady_overrun (by rw [hu.vd]; exact hframes) (hu.noBlackout hp) x.1 x.2
  have hvd3 : s3.vd = s.vd := h2.vd
  have h4 : s4 = s3 := returnBufs_none (by rw [hvd3]; exact hframes)
  clear_value s4
  subst h4
  have h5 : Paced s3 s5 := .forAll (fun q u => paced_quadSet r k q u) _ _
  have h6 : Paced s5 s6 := .forAll (fun u v => paced_tileStrobe k u v) _ _
  have h7 : Paced s6 s7 := (paced_grants r k s6).trans (steady_traceStart k _).paced
  have h37 : Paced s3 s7 := h5.trans (h6.trans h7)
  have hphase : s7.ldr.phase ≠ .blackout := by
    rw [h37.ldr]
    exact h2.noBlackout hp
  have h8 : Steady s7 s7.reserveAgain := steady_reserveAgain hphase
  have h38 : Paced s3 s7.reserveAgain := h37.trans h8.paced
  rw [formReady_none (by rw [h38.vd, hvd3]; exact hframes)]
  refine ⟨?_, h38.run, fun tl p hlt hcfg hs hon hw => ?_⟩
  · rw [h38.ao]
    exact h2.ao.trans (ao_advance n s)
  · have hkept3 : TileKept tl s s3 := ⟨h2.tile tl, (h2.tileKept tl).dom⟩
    have hpm : s3.pm.hostless = s.pm.hostless := congrArg (·.hostless) h2.pm
    have hdis3 (i : Nat) : (s3.dis i).busy = false := by
      unfold State.dis
      rw [hvd3]
      exact hdis i
    have hw3 : s3.quadWant r k (quadOf tl) = 0 := quadWant_same hvd3 hpm hdis hw
    have hkept : TileKept tl s s5 := hkept3.trans (tileKept_quadSets hdis3 (hkept3.dom.trans hon) hw3 _)
    have hrun5 : s5.run.map (·.img) = s.run.map (·.img) := by
      rw [h5.run, hrun]
      rfl
    have htile6 : s6.tile tl = struck k p (s5.tile tl) :=
      tile_tileStrobes _ s5 List.nodup_range (List.mem_range.2 hlt) ((tileCfg_congr hkept.tile hrun5).trans hcfg)
        (by rw [hkept.tile]; exact hs) (hkept.dom.trans hon)
    have hkept7 : TileKept tl s6 s7 := (tileKept_grants r k tl s6).trans ((steady_traceStart k _).tileKept tl)
    rw [h8.tile, hkept7.tile, htile6, hkept.tile]

/-- The AO count at which slot `k` of hyperperiod `h` begins (R25). -/
def strobeTime (r : Running) (h k : Nat) : Nat :=
  r.anchor + h * r.img.hper + (match r.img.slots[k]? with | some x => x.start | none => 0)

/-- The next slot, cyclically (R25, R297). -/
theorem nextSlot_eq {r : Running} {h k : Nat}
    (hnext : if r.struck ∧ r.slot + 1 < r.img.slots.length then k = r.slot + 1 ∧ h = r.hyper
      else k = 0 ∧ h = if r.struck then r.hyper + 1 else r.hyper) :
    (if !r.struck || decide (r.slot + 1 ≥ r.img.slots.length) then 0 else r.slot + 1) = k ∧
    (if r.struck && decide (r.slot + 1 ≥ r.img.slots.length) then r.hyper + 1 else r.hyper) = h := by
  split at hnext
  · next hgo =>
    obtain ⟨rfl, rfl⟩ := hnext
    have hwrap : decide (r.slot + 1 ≥ r.img.slots.length) = false := decide_eq_false (by omega)
    rw [hgo.1, hwrap]
    exact ⟨rfl, rfl⟩
  · next hwrap =>
    obtain ⟨rfl, rfl⟩ := hnext
    cases hs : r.struck with
    | false => exact ⟨rfl, rfl⟩
    | true =>
      have hlast : decide (r.slot + 1 ≥ r.img.slots.length) = true :=
        decide_eq_true (not_lt.1 fun hl => hwrap ⟨hs, hl⟩)
      rw [hlast]
      exact ⟨rfl, rfl⟩

/-- SLOT_STROBE begins slot `k` of hyperperiod `h`, the next one of the running plan (R25, R297). -/
theorem completes_slotStrobe {r : Running} {h k : Nat} {P : State → Prop} (hc : s.dev.state ≠ .cold) (hrun : s.run = some r)
    (hnext : if r.struck ∧ r.slot + 1 < r.img.slots.length then k = r.slot + 1 ∧ h = r.hyper
      else k = 0 ∧ h = if r.struck then r.hyper + 1 else r.hyper)
    (hpast : s.pastSwitch r (strobeTime r h k) = false) (hP : P (s.strobe r h k (strobeTime r h k))) :
    Completes .slotStrobe s P := by
  have hexec : exec .slotStrobe s = execSlotStrobe s := rfl
  unfold execSlotStrobe at hexec
  refine completes_act hexec hc ?_
  obtain ⟨hk, hh⟩ := nextSlot_eq hnext
  rw [hrun]
  dsimp only
  rw [hk, hh]
  change P (if s.pastSwitch r (strobeTime r h k) then s else s.strobe r h k (strobeTime r h k))
  rw [hpast]
  exact hP

/-- What a strobe makes of a context that is not halted by quarantine (R163, R247). -/
theorem ctx_strobe_cases {x : CtxSt} (hq : x.haltQ = false) (e : SlotEntry) :
    (∀ pc, e = .start pc → x.strobe e = { x with st := .run, pc := pc, await := none }) ∧
    (e = .cont → x.strobe e = { x with st := .run, await := none }) ∧
    (e = .none → x.st ≠ .run → x.st ≠ .waitArr → x.strobe e = x) := by
  have hbase : x.strobe e = (match e with
    | .start pc => { x with st := .run, pc := pc, await := none }
    | .cont => { x with st := .run, await := none }
    | .none => if x.st == .run || x.st == .waitArr then { x with st := .waitSlot, await := none } else x) := by
    unfold CtxSt.strobe
    rw [hq]
    rfl
  refine ⟨?_, ?_, ?_⟩
  · rintro pc rfl; exact hbase
  · rintro rfl; exact hbase
  · rintro rfl hrun hwait
    rw [hbase]
    exact if_neg (by simp [hrun, hwait])

/-! ## The settled statement -/

/-- A flit's arrival at tile `tl`, as the statement on deliveries has it. -/
theorem onlyTile_committed {tl k : Nat} {ring : Ring} (v : TileSt) (data : BitVec 512) (bad : Bool) :
    let u := committed v k ring data bad
    let w := mget 0 v.wptr k
    let a := ring.base + 64 * w
    onlyTile s (s.setTile tl u) tl u ∧
    u = { v with sram := u.sram, sramPoison := u.sramPoison, plant := u.plant, wptr := u.wptr, counters := u.counters } ∧
    (∀ b, mget 0 u.sram b = if a ≤ b ∧ b < a + 64 then BitVec.ofNat 8 (data.toNat / 2 ^ (8 * (b - a)))
                            else mget 0 v.sram b) ∧
    (a % 8 = 0 → ∀ j, mget false u.sramPoison j = if a / 8 ≤ j ∧ j < a / 8 + 8 then bad else mget false v.sramPoison j) ∧
    (∀ j, mget 0 u.counters j = if j = k then mget 0 v.counters j + 1 else mget 0 v.counters j) ∧
    ∀ j, mget 0 u.wptr j = if j = k then (if w + 1 ≥ ring.len then 0 else w + 1) else mget 0 v.wptr j := by
  intro u w a
  refine ⟨⟨rfl, ?_, fun j hj => ?_⟩, rfl, sram_write64 v a data bad, poison_write64 v data bad, fun j => ?_, fun j => ?_⟩
  · exact (State.tile_setTile ..).trans (if_pos rfl)
  · exact (State.tile_setTile ..).trans (if_neg hj)
  · refine (mget_mput ..).trans ?_
    split
    · next hj => rw [hj]
    · rfl
  · exact mget_mput ..

/-- Settles O29, event by event: the strobe's slot and contexts, the self-test's steps, deliveries and awaited counts. -/
theorem arrayEvents : Obligations.ArrayEvents := by
  intro s r hc hrun hp
  refine ⟨fun k h hcalm hnext hpast => ?_,
    fun tl n hs hdom hok hplant => ⟨fun sig hk => ?_, fun hk hcalm => ?_, fun hk hcalm => ?_⟩,
    fun route data q l tl p hq hdst hplace htile hpath hinj =>
      ⟨fun col hsrc => ?_, fun l0 f rest hsrc hflits hroute => ?_⟩,
    fun route q l0 col f rest hq hsrc hdst hqueue hpath hflits hroute hrec hserves => ?_,
    fun tl c k n hst haw => ⟨fun hmet hdom hok => ?_, fun hmet => ?_⟩⟩
  · obtain ⟨hao, hrun', htiles⟩ := strobe_calm h k (strobeTime r h k) hcalm hrun hp
    refine completes_slotStrobe hc hrun hnext hpast ⟨hao, ⟨_, hrun', rfl, rfl, rfl, rfl, rfl⟩, ?_⟩
    intro tl c p z hcfg hs hnd hz hdom hw hq
    have htile := htiles tl p tl.isLt hcfg hs hdom hw
    have hctx : (s.strobe r h k (strobeTime r h k)).ctx tl c = (s.ctx tl c).strobe (mget .none z.entries k) := by
      unfold State.ctx
      rw [htile]
      exact ctx_struck _ hnd hz
    have hcases := ctx_strobe_cases hq (mget .none z.entries k)
    rw [← hctx] at hcases
    exact hcases
  · refine completes_residentStep hc (by rw [hrun]; rfl) hs hdom hok hplant ?_
    dsimp only
    rw [signed_of_lt hk]
    exact ⟨stepAt_ao .., (stepAt_tile ..).trans ((if_pos rfl).trans (stepped_of_lt _ hk)),
      fun j hj => (stepAt_tile ..).trans (if_neg hj), rfl⟩
  · refine completes_residentStep hc (by rw [hrun]; rfl) hs hdom hok hplant ?_
    dsimp only
    rw [hk]
    exact signed_passed hcalm hs
  · refine completes_residentStep hc (by rw [hrun]; rfl) hs hdom hok hplant ?_
    dsimp only
    rw [hk]
    exact signed_failed hcalm hs hc hp
  · refine completes_delivery_port hc hrun hq hpath hsrc ?_
    rw [deliver_tile hdst hplace htile, arrive_eq hinj]
    exact ⟨_, onlyTile_committed (s.tile tl) data false⟩
  · refine completes_delivery_tile hc hrun hq hpath hsrc hflits hroute ?_
    rw [deliver_tile hdst hplace htile, arrive_eq (s := { s with flits := rest }) hinj]
    exact ⟨_, onlyTile_committed (s := { s with flits := rest }) (s.tile tl) f.data f.poison⟩
  · refine completes_delivery_tile hc hrun hq hpath hsrc hflits hroute ?_
    exact deliver_queue hdst hqueue hserves hrec
  · refine completes_awaitResume hc hst haw ?_
    have hgo : (awaitMet (mget 0 (s.tile tl).counters k) n && s.dom (quadOf tl) == .on && !s.notClear 69) = true := by
      rw [awaitMet, decide_eq_true hmet, hdom, hok]; rfl
    rw [if_pos hgo]
  · refine completes_awaitResume hc hst haw ?_
    have hwait : awaitMet (mget 0 (s.tile tl).counters k) n = false := decide_eq_false (not_lt.2 hmet)
    rw [hwait]
    rfl

end Sys2Proof.Machine
end

section
/-! O8, O9: a record written to the verdict journal (R87 to R91) and a verdict formed (R43, R51, R65, R88). -/

namespace Sys2Proof.Machine
open Sys2Proof

variable {s e t : State} {r : JRec} {p : PStream} {f : Frame} {n : Nat}

/-! ## Event bits and sources while verdicts are formed -/

/-- From `s` to `e` no source was raised but those of REJECT and DEMOTED (FS134, FS135), and no event bit of VD_EVT fell. -/
structure Forming (s e : State) : Prop where
  sources : ∀ m, m ≠ 134 → m ≠ 135 → e.src m = s.src m
  events : ∀ b, bitAt (s.rget 0xA0008) b = true → bitAt (e.rget 0xA0008) b = true

theorem not_reactReg_vdEvt : ¬ reactReg 0xA0008 := by unfold reactReg; omega

theorem Forming.of (hr : SameRegs s e) (hs : SameSrc s e) : Forming s e :=
  ⟨fun m _ _ => src_congr hs m, fun b h => by rwa [hr _ not_reactReg_vdEvt]⟩
theorem Forming.same (hr : e.regs = s.regs) (hf : e.flt = s.flt) : Forming s e :=
  .of (.of hr) (.of (congrArg Faults.src hf))
theorem Forming.refl (s : State) : Forming s s := .of (.refl s) (.refl s)
theorem Forming.trans (h : Forming s t) (h' : Forming t e) : Forming s e :=
  ⟨fun m hm hm' => (h'.sources m hm hm').trans (h.sources m hm hm'), fun b hb => h'.events b (h.events b hb)⟩
theorem Forming.ite {c : Prop} [Decidable c] {x y : State} (hx : Forming s x) (hy : Forming s y) :
    Forming s (if c then x else y) := by
  split <;> assumption

theorem bitAt_or_left {w : W32} (v : W32) {b : Nat} (h : bitAt w b = true) : bitAt (w ||| v) b = true := by
  unfold bitAt at h ⊢
  rw [BitVec.toNat_or, Nat.testBit_or, h, Bool.true_or]

/-- A hardware set of an event bit lets no bit fall, of any register. -/
theorem forming_revt (a b : Nat) (s : State) : Forming s (s.revt a b) := by
  refine ⟨fun m _ _ => rfl, fun i hi => ?_⟩
  unfold State.revt
  rw [rget_rset]
  split
  · next ha => exact bitAt_or_left _ (ha ▸ hi)
  · exact hi

theorem forming_rinc64 {a : Nat} (h : 0xA0008 ≠ a) (h' : 0xA0008 ≠ a + 4) (k : Nat) (s : State) : Forming s (s.rinc64 a k) :=
  ⟨fun m _ _ => rfl, fun b hb => by rwa [rget_rinc64_ne h h']⟩

theorem forming_raiseU {n : Nat} (hn : n = 134 ∨ n = 135) (u : Nat) (s : State) : Forming s (s.raiseU n u) :=
  ⟨fun m hm hm' => src_raiseWith_ne (by omega) _ _ s,
    fun b hb => by rwa [State.raiseU, sameRegs_raiseWith (by omega) _ _ s _ not_reactReg_vdEvt]⟩

theorem forming_msix (f v : Nat) (s : State) : Forming s (s.msix f v) := .of (sameRegs_msix f v s) (sameSrc_msix f v s)
theorem forming_evalChans (s : State) : Forming s s.evalChans := .of (sameRegs_evalChans s) (sameSrc_evalChans s)

/-! ## Writing a record (R87, R92) -/

theorem Reacts.jseq_eq (h : Reacts s e) : e.vd.jseq = s.vd.jseq := congrArg (fun t => t.vd.jseq) h

/-- Queueing a record's PDU changes the safe channel alone (R559). -/
theorem queuePdu_eq (r : JRec) (s : State) : s.queuePdu r = { s with bsc := (s.queuePdu r).bsc } := by
  unfold State.queuePdu
  split
  · rfl
  · split
    · rfl
    · refine forAll_keeps (fun t => t = { s with bsc := t.bsc }) _ (fun c t ht => ?_) _ s rfl
      dsimp only
      split
      · rw [ht]; rfl
      · exact ht

/-- What overwriting the oldest record changes: a cursor and its count of lost records. -/
theorem overwrite_eq (s : State) :
    s.overwrite = { s with vd.cursor := s.overwrite.vd.cursor, vd.lost := s.overwrite.vd.lost } := by
  unfold State.overwrite
  split
  · rfl
  · split <;> rfl

theorem overwrite_jseq (s : State) : s.overwrite.vd.jseq = s.vd.jseq := congrArg (fun t => t.vd.jseq) (overwrite_eq s)

theorem forming_overwrite (s : State) : Forming s s.overwrite :=
  .same (congrArg (fun t => t.regs) (overwrite_eq s)) (congrArg (fun t => t.flt) (overwrite_eq s))
theorem forming_queuePdu (r : JRec) (s : State) : Forming s (s.queuePdu r) :=
  .same (congrArg (fun t => t.regs) (queuePdu_eq r s)) (congrArg (fun t => t.flt) (queuePdu_eq r s))

theorem counter_range {a : Nat} (h : r.counter = some a) : 0xA0020 ≤ a := by
  unfold JRec.counter at h
  split at h
  · cases h; decide
  · split at h
    · split at h <;> cases h <;> decide
    · cases h

/-- A written record stands at the head of the journal with the next sequence number (R87). -/
theorem journal_head (r : JRec) (s : State) :
    (s.journal r).vd.journal.head? = some { r with seq := s.vd.jseq, fn := s.streamFn r.stream } ∧
    (s.journal r).vd.jseq = s.vd.jseq + 1 := by
  unfold State.journal
  extract_lets w _ s1 _ s2 s3 s4 s5 s6
  have hhead : s2.vd.journal.head? = some w := List.head?_take.trans (if_neg (by decide))
  have hseq : s2.vd.jseq = s.vd.jseq + 1 := congrArg (· + 1) (overwrite_jseq s)
  have h3 : Reacts s2 s3 := reacts_ite (reacts_msix ..) (.refl _)
  have h4 : Reacts s2 s4 := by
    refine h3.trans ?_
    dsimp only [s4]
    split
    · exact reacts_rinc64 ..
    · exact .refl _
  have h5 : Reacts s2 s5 := h4.trans (reacts_ite (reacts_revt ..) (.refl _))
  have h6 : Reacts s2 s6 := h5.trans (reacts_ite ((reacts_revt ..).trans (reacts_raiseU ..)) (.refl _))
  rw [queuePdu_eq]
  exact ⟨(congrArg List.head? h6.journal_eq).trans hhead, h6.jseq_eq.trans hseq⟩

theorem forming_journal (r : JRec) (s : State) : Forming s (s.journal r) := by
  unfold State.journal
  extract_lets w _ s1 _ s2 s3 s4 s5 s6
  have h2 : Forming s s2 := (forming_overwrite s).trans (.same rfl rfl)
  have h3 : Forming s s3 := h2.trans (.ite (forming_msix ..) (.refl _))
  have h4 : Forming s s4 := by
    refine h3.trans ?_
    dsimp only [s4]
    split
    · next ha => exact forming_rinc64 (by have := counter_range ha; omega) (by have := counter_range ha; omega) _ _
    · exact .refl _
  have h5 : Forming s s5 := h4.trans (.ite (forming_revt ..) (.refl _))
  have h6 : Forming s s6 := h5.trans (.ite ((forming_revt ..).trans (forming_raiseU (.inl rfl) _ _)) (.refl _))
  exact h6.trans (forming_queuePdu ..)

/-! ## Setting a stream (R65) -/

theorem reacts_putStream (n : Nat) (v : StreamV) (s : State) : Reacts s (s.putStream n v) := by
  unfold State.putStream
  extract_lets _ s1 s2
  have h2 : Reacts s s2 :=
    (reacts_setStream n v s).trans (reacts_ite ((reacts_revt ..).trans (reacts_raiseU ..)) (.refl _))
  exact reacts_ite h2 (h2.trans (reacts_evalChans _))

theorem forming_putStream (n : Nat) (v : StreamV) (s : State) : Forming s (s.putStream n v) := by
  unfold State.putStream
  extract_lets _ s1 s2
  have h2 : Forming s s2 := .trans (.of (sameRegs_setStream n v s) (sameSrc_setStream n v s))
    (.ite ((forming_revt ..).trans (forming_raiseU (.inr rfl) _ _)) (.refl _))
  exact .ite h2 (h2.trans (forming_evalChans _))

/-! ## A verdict formed (R43, R51, R88) -/

/-- `e` is `s` but for what the end of a frame's verdict sets: its stream's last value, its frame, its reveals. -/
def Closes (s e : State) : Prop :=
  e = { s with streams := e.streams, vd.frames := e.vd.frames, vd.reveals := e.vd.reveals }

/-- A verdict other than REJECT writes one verdict record, after the stream's update. -/
theorem formWith_writes {code reason : Nat} (hcode : code ≠ 3) (p : PStream) (f : Frame) (s : State) :
    ∃ u r, Reacts s u ∧ Forming s u ∧
      (r.type = 1 ∧ r.stream = f.stream ∧ r.frame = BitVec.ofNat 32 f.num ∧ r.code = code ∧ r.reason = reason) ∧
      Closes (u.journal r) (s.formWith p f code reason) := by
  unfold State.formWith
  extract_lets _ _ _ _ dec _ _ _ s1 s2 _ _ _ _ r s3 _ s4 s5 s6
  have hdec : dec = none := if_neg hcode
  have h1 : Reacts s s1 ∧ Forming s s1 := ⟨reacts_putStream .., forming_putStream ..⟩
  have h2 : Reacts s s2 ∧ Forming s s2 :=
    ⟨h1.1.trans (reacts_ite (reacts_revt ..) (.refl _)), h1.2.trans (.ite (forming_revt ..) (.refl _))⟩
  have h4 : Closes s3 s4 := by
    dsimp only [s4]
    split <;> rfl
  refine ⟨s2, r, h2.1, h2.2, ⟨rfl, rfl, rfl, rfl, rfl⟩, ?_⟩
  clear_value dec s4
  subst hdec
  dsimp only [s6, s5]
  rw [h4]
  rfl

/-- The record that a verdict other than REJECT leaves, and what it leaves alone. -/
theorem formWith_verdict {code reason : Nat} (hcode : code ≠ 3) (p : PStream) (f : Frame) (s : State) :
    verdictWritten s (s.formWith p f code reason) f.stream f.num code reason ∧ Forming s (s.formWith p f code reason) := by
  obtain ⟨u, r, hreacts, hforming, ⟨htype, hstream, hframe, hc, hr⟩, hcloses⟩ := formWith_writes hcode p f s
  obtain ⟨hhead, hseq⟩ := journal_head r u
  have hj : (s.formWith p f code reason).vd.journal = (u.journal r).vd.journal := congrArg (fun t => t.vd.journal) hcloses
  have hjs : (s.formWith p f code reason).vd.jseq = (u.journal r).vd.jseq := congrArg (fun t => t.vd.jseq) hcloses
  refine ⟨⟨_, (congrArg List.head? hj).trans hhead, htype, hstream, hframe, hc, hr, hreacts.jseq_eq, ?_⟩, ?_⟩
  · rw [hjs, hseq, hreacts.jseq_eq]
  · exact (hforming.trans (forming_journal r u)).trans
      (.same (congrArg (fun t => t.regs) hcloses) (congrArg (fun t => t.flt) hcloses))

/-- R51 at a frame of a bound stream, where it does not reject. -/
theorem form_verdict {d : Nat × Nat} (hp : s.pstream f.stream = some p) (hd : s.decide51 p f = d) (hcode : d.1 ≠ 3) :
    verdictWritten s (s.form f) f.stream f.num d.1 d.2 ∧ Forming s (s.form f) := by
  unfold State.form
  rw [hp]
  dsimp only
  rw [hd]
  exact formWith_verdict hcode p f s

theorem ao_form (f : Frame) (s : State) : s.ao ≤ (s.form f).ao :=
  (Keeps.form (T := (s.ao ≤ ·)) (.start le_rfl)).time

/-! ## The order of R51 -/

/-- The verdict and reason of R51 for a counted result without a violation, by the order of its rows. -/
def State.order51 (s : State) (p : PStream) (f : Frame) (overrun : Bool) : Nat × Nat :=
  if s.dev.state = .mismatchHold then (4, 0xC)
  else if f.tainted then (2, 3) else if s.noEvidence p f then (2, 4) else if f.malformed then (2, 5)
  else if f.bankFailed then (2, 6) else if s.required p f 2 then (2, 7) else if overrun then (2, 9)
  else if s.required p f 0 then (2, 8) else if (s.stream f.stream).lapse then (2, 0xA) else (1, 0)

theorem decide51_order (hres : f.result.isSome = true) (hviol : s.anyViolated f = false)
    (hstand : (s.stream f.stream).standing = false) (p : PStream) : s.decide51 p f = s.order51 p f f.overrun := by
  have hnone : f.result.isNone = false := by rw [Option.isNone_eq_false_iff]; exact hres
  unfold State.decide51 State.order51
  dsimp only
  rw [hnone, hviol, hstand]
  simp

theorem order51_ne_reject (s : State) (p : PStream) (f : Frame) (o : Bool) : (s.order51 p f o).1 ≠ 3 := by
  unfold State.order51
  split_ifs <;> decide

end Sys2Proof.Machine
end

section
/-! O8: the verdict deadline and the end of C form the verdict of R51 (R47, R51, R96). -/

namespace Sys2Proof.Machine
open Sys2Proof

variable {s e t : State} {p : PStream} {f : Frame} {P : State → Prop}

theorem oldest_stream {n : Nat} {q : Frame → Bool} (h : s.oldest n q = some f) : f.stream = n := by
  have hf := List.find?_some h
  simp only [Bool.and_eq_true, decide_eq_true_eq] at hf
  exact hf.1.1.1

/-- The oldest frame of all is the oldest of those of its kind. -/
theorem oldest_of_oldest {n : Nat} {q : Frame → Bool} (h : s.oldest n (fun _ => true) = some f) (hq : q f = true) :
    s.oldest n q = some f := by
  obtain ⟨hf, l, l', hl, hfirst⟩ := List.find?_eq_some_iff_append.1 h
  refine List.find?_eq_some_iff_append.2 ⟨?_, l, l', hl, fun g hg => ?_⟩
  · rw [Bool.and_true] at hf
    rw [hf, hq]
    rfl
  · have hnot := hfirst g hg
    rw [Bool.and_true] at hnot
    rw [Bool.not_eq_true'] at hnot ⊢
    rw [hnot, Bool.false_and]

theorem frameNow_stream (f : Frame) (s : State) : (s.frameNow f).stream = f.stream := by
  unfold State.frameNow
  split
  · next g hg =>
    have hsame := List.find?_some hg
    simp only [Frame.same, Bool.and_eq_true, decide_eq_true_eq] at hsame
    exact hsame.1.1.symm
  · rfl

/-- D at a frame whose result has counted (R47). -/
theorem completes_verdictDeadline_counted {n : Stream} (hc : s.dev.state ≠ .cold) (hp : s.pstream n = some p)
    (hold : s.oldest n (fun _ => true) = some f) (hres : f.result.isSome = true)
    (h : P ((s.advance (f.ingressAo + p.d)).form (s.frameNow f))) : Completes (.verdictDeadline n) s P := by
  have hexec : exec (.verdictDeadline n) s = execVerdictDeadline n s := rfl
  unfold execVerdictDeadline at hexec
  refine completes_act hexec hc ?_
  rw [hold, hp]
  dsimp only
  rw [if_neg (by rw [Option.isNone_eq_false_iff.2 hres]; decide)]
  exact h

/-- The frame of the P0 stream at the end of C: a whole evidence that has not been judged is an overrun (R96). -/
def State.cutFrame (s : State) (p : PStream) (f : Frame) : Frame :=
  { f with overrun := f.overrun || s.evidenceWhole p f }

/-- The end of C at a frame that is not ready (R96). -/
theorem completes_p0ComputeCut_unready {n : Stream} {t : Nat} (hc : s.dev.state ≠ .cold)
    (hp0 : s.run.bind (fun r => r.img.streams.find? (fun q => q.p0)) = some p) (hn : p.num = n)
    (hold : s.oldest n (fun _ => true) = some f) (ht : f.deliveredAo = some t) (hready : s.ready f = false)
    (h : P ((((s.advance (t + p.c)).setFrame (s.cutFrame p f)).revt 0xA0008 8).form (s.cutFrame p f))) :
    Completes .p0ComputeCut s P := by
  have hexec : exec .p0ComputeCut s = execP0ComputeCut s := rfl
  unfold execP0ComputeCut at hexec
  refine completes_act hexec hc ?_
  have hfirst : s.oldest p.num (fun f => f.deliveredAo.isSome) = some f :=
    oldest_of_oldest (hn ▸ hold) (by rw [ht]; rfl)
  have hunready : (s.advance (t + p.c)).ready f = false := hready
  have hwhole : (s.advance (t + p.c)).evidenceWhole p f = s.evidenceWhole p f := rfl
  rw [hp0]
  dsimp only
  rw [hfirst]
  dsimp only
  rw [ht]
  dsimp only
  rw [hunready, if_neg Bool.false_ne_true, hwhole]
  unfold State.cutFrame at h
  rwa [ht] at h

/-- A verdict is recorded with the sequence number that stood before the command. -/
theorem verdictWritten_of_vd {n num code reason : Nat} (hvd : t.vd.jseq = s.vd.jseq)
    (h : verdictWritten t e n num code reason) : verdictWritten s e n num code reason := by
  unfold verdictWritten at h ⊢
  rwa [hvd] at h

/-- Settles O8: the forming event advances the time, and R51 then decides on the state as it stood. -/
theorem verdictOrder : Obligations.VerdictOrder := by
  intro n s f p hc hp hold hnow hres hviol hstand order
  have hstream : f.stream = n := oldest_stream hold
  have horder (o : Bool) : order o = s.order51 p f o := by
    unfold State.order51
    rw [hstream]
  have hstand' : (s.stream f.stream).standing = false := hstream ▸ hstand
  have hp' : s.pstream f.stream = some p := hstream ▸ hp
  rw [horder]
  refine ⟨?_, fun hp0 hn t ht hready => ?_⟩
  · refine completes_verdictDeadline_counted hc hp hold hres ?_
    rw [hnow]
    have hdec : (s.advance (f.ingressAo + p.d)).decide51 p f = s.order51 p f f.overrun :=
      decide51_order hres hviol hstand' p
    obtain ⟨hwritten, -⟩ := form_verdict (s := s.advance (f.ingressAo + p.d)) hp' hdec (order51_ne_reject _ _ _ _)
    exact ⟨(le_advance_ao _ _).trans (ao_form _ _), hstream ▸ verdictWritten_of_vd rfl hwritten⟩
  · refine completes_p0ComputeCut_unready hc hp0 hn hold ht hready ?_
    rw [horder]
    set u := ((s.advance (t + p.c)).setFrame (s.cutFrame p f)).revt 0xA0008 8 with hu
    have hdec : u.decide51 p (s.cutFrame p f) = s.order51 p f (f.overrun || s.evidenceWhole p f) :=
      decide51_order (s := u) (f := s.cutFrame p f) hres hviol hstand' p
    obtain ⟨hwritten, hforming⟩ := form_verdict (s := u) (f := s.cutFrame p f) hp' hdec (order51_ne_reject _ _ _ _)
    refine ⟨?_, hforming.events 8 ?_, hstream ▸ verdictWritten_of_vd rfl hwritten⟩
    · exact (le_advance_ao (t + p.c) s).trans (ao_form (s.cutFrame p f) u)
    · rw [hu, rget_revt]
      exact bitAt_or_twoPow _ (by decide)

end Sys2Proof.Machine
end

section
/-! O9, O17: what a raise outside a blackout leaves of the streams' values and of the device's state (R32, R58, R65, R505). -/

namespace Sys2Proof.Machine
open Sys2Proof

variable {s e t : State} {n : Nat}

/-- The fall-back value that a stream publishes, with its stamp, and its score. -/
def StreamV.values (v : StreamV) : Option (BitVec 96 × Nat) × Nat := (v.fb, v.score)

/-- From `s` to `e` no blackout and no MISMATCH_HOLD began, and every stream kept its fall-back value and its score. -/
structure KeepsValues (s e : State) : Prop where
  phase : s.ldr.phase ≠ .blackout → e.ldr.phase ≠ .blackout
  state : s.dev.state ≠ .mismatchHold → e.dev.state ≠ .mismatchHold
  values : ∀ n, (e.stream n).values = (s.stream n).values

theorem KeepsValues.refl (s : State) : KeepsValues s s := ⟨id, id, fun _ => rfl⟩
theorem KeepsValues.trans (h : KeepsValues s t) (h' : KeepsValues t e) : KeepsValues s e :=
  ⟨h'.phase ∘ h.phase, h'.state ∘ h.state, fun n => (h'.values n).trans (h.values n)⟩
/-- An update of neither the loader, the device nor the streams. -/
theorem KeepsValues.of (hl : e.ldr = s.ldr) (hd : e.dev = s.dev) (hs : e.streams = s.streams) : KeepsValues s e := by
  refine ⟨fun h => hl ▸ h, fun h => hd ▸ h, fun n => ?_⟩
  unfold State.stream
  rw [hs]
theorem KeepsValues.ite {c : Prop} [Decidable c] {x y : State} (hx : KeepsValues s x) (hy : KeepsValues s y) :
    KeepsValues s (if c then x else y) := by
  split <;> assumption
theorem KeepsValues.forAll {α : Type} {l : List α} {f : α → State → State} (hf : ∀ a t, KeepsValues t (f a t)) :
    KeepsValues s (forAll l f s) :=
  forAll_keeps (KeepsValues s) f (fun a t ht => ht.trans (hf a t)) l s (.refl s)

theorem keepsValues_rset (a : Nat) (v : W32) (s : State) : KeepsValues s (s.rset a v) := .of rfl rfl rfl
theorem keepsValues_revt (a b : Nat) (s : State) : KeepsValues s (s.revt a b) := .of rfl rfl rfl
theorem keepsValues_rset64 (a v : Nat) (s : State) : KeepsValues s (s.rset64 a v) := .of rfl rfl rfl
theorem keepsValues_rinc64 (a k : Nat) (s : State) : KeepsValues s (s.rinc64 a k) := .of rfl rfl rfl
theorem keepsValues_rincSat (a hi lo k : Nat) (s : State) : KeepsValues s (s.rincSat a hi lo k) := .of rfl rfl rfl
theorem keepsValues_rmaxFree (a m : Nat) (s : State) : KeepsValues s (s.rmaxFree a m) := .of rfl rfl rfl
theorem keepsValues_msix (f v : Nat) (s : State) : KeepsValues s (s.msix f v) := .ite (.of rfl rfl rfl) (.of rfl rfl rfl)
theorem keepsValues_fnEvtAll (b : Nat) (s : State) : KeepsValues s (s.fnEvtAll b) :=
  .forAll fun _ _ => (keepsValues_revt _ _ _).trans (keepsValues_msix _ _ _)
theorem keepsValues_setSrc (k : Nat) (v : SrcState) (s : State) : KeepsValues s (s.setSrc k v) := .of rfl rfl rfl
theorem keepsValues_drive (k : Nat) (on : Bool) (s : State) : KeepsValues s (s.drive k on) := .of rfl rfl rfl

/-- The evaluation of a channel leaves every stream alone (R537). -/
theorem streams_evalChan (k : Nat) (s : State) : (s.evalChan k).streams = s.streams := by
  unfold State.evalChan
  dsimp only
  split
  · split <;> rfl
  · split
    · split <;> rfl
    · split <;> split <;> rfl

theorem streams_evalChans (s : State) : s.evalChans.streams = s.streams :=
  forAll_const State.streams _ streams_evalChan _ s

theorem stream_evalChans (n : Nat) (s : State) : s.evalChans.stream n = s.stream n := by
  unfold State.stream
  rw [streams_evalChans]

theorem keepsValues_evalChans (s : State) : KeepsValues s s.evalChans :=
  .of (steady_evalChans s).ldr (dev_evalChans s) (streams_evalChans s)

/-- A stream set keeps what it published where it is set so. -/
theorem keepsValues_setStream {v : StreamV} (hv : v.values = (s.stream n).values) : KeepsValues s (s.setStream n v) := by
  refine ⟨id, id, fun m => ?_⟩
  rw [State.stream_setStream]
  split
  · next hm => rw [hv, hm]
  · rfl

theorem keepsValues_devTo {d : DevState} (hd : d ≠ .mismatchHold) (s : State) : KeepsValues s (s.devTo d) := by
  unfold State.devTo
  split
  · exact .refl s
  · exact .trans (t := { s with dev.state := d }) ⟨id, fun _ => hd, fun _ => rfl⟩ (keepsValues_fnEvtAll 0 _)

/-- What follows the device's own part of the entry into a held state. -/
theorem keepsValues_held {d : DevState} (hd : d ≠ .mismatchHold) {f : StreamV → StreamV} (hf : ∀ v, (f v).values = v.values)
    (h : KeepsValues s t) : KeepsValues s (((t.devTo d).holdAll f).endPriv).evalChans := by
  have hto : KeepsValues s (t.devTo d) := h.trans (keepsValues_devTo hd t)
  have hall : KeepsValues s ((t.devTo d).holdAll f) := hto.trans (.forAll fun _ _ => keepsValues_setStream (hf _))
  refine .trans (hall.trans ?_) (keepsValues_evalChans _)
  unfold State.endPriv
  exact .ite (.of rfl rfl rfl) (.refl _)

theorem keepsValues_enterSafeHold (hp : s.ldr.phase ≠ .blackout) (c : Option Nat) : KeepsValues s (s.enterSafeHold c) := by
  unfold State.enterSafeHold State.abandonSwitch
  rw [if_neg hp]
  split
  · exact keepsValues_held (by decide) (fun _ => rfl) ⟨id, id, fun _ => rfl⟩
  · exact .refl s

theorem keepsValues_enterAlarm (hp : s.ldr.phase ≠ .blackout) : KeepsValues s s.enterAlarm := by
  unfold State.enterAlarm State.abandonSwitch
  rw [if_neg hp]
  split
  · exact .refl s
  · exact .refl s
  · exact keepsValues_held (by decide) (fun _ => rfl) ⟨id, id, fun _ => rfl⟩

theorem keepsValues_errPRaise (s : State) : KeepsValues s s.errPRaise :=
  .ite (.of rfl rfl rfl) (.ite (.of rfl rfl rfl) (.of rfl rfl rfl))

theorem keepsValues_capture (n : Nat) (c : Cap) (s : State) : KeepsValues s (s.capture n c) := by
  unfold State.capture
  extract_lets a s1 s2 s3
  exact .ite (keepsValues_rincSat ..) (((keepsValues_rset _ _ s).trans (keepsValues_rset _ _ _)).trans
    ((keepsValues_rset _ _ _).trans (keepsValues_rset64 _ _ _)))

theorem keepsValues_trip (n m : Nat) (s : State) : KeepsValues s (s.trip n m) := by
  unfold State.trip
  exact (((keepsValues_rset _ _ s).trans (keepsValues_rset _ _ _)).trans
    ((keepsValues_revt _ _ _).trans (keepsValues_rmaxFree _ _ _))).trans (keepsValues_evalChans _)

theorem keepsValues_dropMask (m : Nat) (s : State) : KeepsValues s (s.dropMask m) :=
  .forAll fun _ _ => .ite (keepsValues_drive ..) (.refl _)

theorem keepsValues_blockReset (n : Nat) (s : State) : KeepsValues s (s.blockReset n) := by
  unfold State.blockReset
  refine .ite ⟨id, id, fun _ => rfl⟩ (.ite (.forAll fun k t => ?_) (.ite (.of rfl rfl rfl) (.ite (.of rfl rfl rfl) ?_)))
  · dsimp only
    split
    · exact .ite (.of rfl rfl rfl) (.refl t)
    · exact .refl t
  · exact .ite (.ite (.refl s) ⟨fun _ => nofun, id, fun _ => rfl⟩) (.refl s)

theorem keepsValues_react (hp : s.ldr.phase ≠ .blackout) (n : Nat) : KeepsValues s (s.react n) := by
  unfold State.react
  extract_lets cfg s1 tam pol r s2 rv s3 s4 s5 s6 s7 s8
  have h1 : KeepsValues s s1 := keepsValues_rinc64 ..
  have h2 : KeepsValues s s2 := h1.trans (.ite ((keepsValues_revt _ _ _).trans (keepsValues_msix _ _ _)) (.refl _))
  have h3 : KeepsValues s s3 := h2.trans (.ite (.of rfl rfl rfl) (.refl _))
  have h4 : KeepsValues s s4 := h3.trans (.ite (keepsValues_errPRaise _) (.refl _))
  have h5 : KeepsValues s s5 := h4.trans (.ite ((keepsValues_dropMask _ _).trans (keepsValues_trip _ _ _)) (.refl _))
  have h6 : KeepsValues s s6 :=
    h5.trans (.ite ((keepsValues_enterSafeHold (h5.phase hp) _).trans (keepsValues_trip _ _ _)) (.refl _))
  have h7 : KeepsValues s s7 :=
    h6.trans (.ite ((keepsValues_enterAlarm (h6.phase hp)).trans (keepsValues_trip _ _ _)) (.refl _))
  have h8 : KeepsValues s s8 := h7.trans (.ite (keepsValues_blockReset _ _) (.refl _))
  exact h8.trans (.ite ⟨id, id, fun _ => rfl⟩ (.refl _))

/-- A raise outside a blackout keeps every stream's values and enters no MISMATCH_HOLD. -/
theorem keepsValues_raiseU (hp : s.ldr.phase ≠ .blackout) (n u : Nat) : KeepsValues s (s.raiseU n u) := by
  unfold State.raiseU State.raiseWith
  split
  · exact .refl s
  · extract_lets o us v s1
    have h1 : KeepsValues s s1 := keepsValues_capture ..
    split
    · have hset := h1.trans (keepsValues_setSrc n { v with st := .active, depAo := s1.ao } s1)
      exact hset.trans ((keepsValues_react (hset.phase hp) n).trans (keepsValues_evalChans _))
    · exact h1.trans (keepsValues_setSrc ..)
    · exact h1.trans (keepsValues_setSrc ..)
    · exact h1.trans (keepsValues_setSrc ..)

/-! ## Setting a stream, outside a blackout (R65, R69) -/

theorem keepsValues_putStream {v : StreamV} (hp : s.ldr.phase ≠ .blackout) (hv : v.values = (s.stream n).values) :
    KeepsValues s (s.putStream n v) := by
  unfold State.putStream
  extract_lets o s1 s2
  have h1 : KeepsValues s s1 := keepsValues_setStream hv
  have h2 : KeepsValues s s2 :=
    h1.trans (.ite ((keepsValues_revt ..).trans (keepsValues_raiseU (by exact hp) _ _)) (.refl _))
  exact .ite h2 (h2.trans (keepsValues_evalChans _))

theorem steady_putStream (hp : s.ldr.phase ≠ .blackout) (n : Nat) (v : StreamV) : Steady s (s.putStream n v) := by
  unfold State.putStream
  extract_lets o s1 s2
  have h1 : Steady s s1 := .of rfl rfl
  have h2 : Steady s s2 := h1.trans (.ite ((steady_revt ..).trans (steady_raiseU (by decide) (by exact hp) _)) (.refl _))
  exact .ite h2 (h2.trans (steady_evalChans _))

/-- A stream that settles takes the state of its score and keeps the score (R69). -/
theorem settle_keeps (hp : s.ldr.phase ≠ .blackout) (n : Nat) : Steady s (s.settle n) ∧ KeepsValues s (s.settle n) := by
  unfold State.settle
  extract_lets v
  split
  · exact ⟨.refl s, .refl s⟩
  · split
    · exact ⟨steady_putStream hp .., keepsValues_putStream hp rfl⟩
    · exact ⟨.refl s, .refl s⟩

/-- A hold reason changed leaves the array and the values of the streams. -/
theorem holdSet_keeps (hp : s.ldr.phase ≠ .blackout) (n : Nat) {f : StreamV → StreamV} (hf : ∀ v, (f v).values = v.values) :
    Steady s (s.holdSet n f) ∧ KeepsValues s (s.holdSet n f) := by
  have hput : Steady s (s.putStream n (f (s.stream n))) := steady_putStream hp ..
  have hval : KeepsValues s (s.putStream n (f (s.stream n))) := keepsValues_putStream hp (hf _)
  obtain ⟨hsteady, hvalues⟩ := settle_keeps (hval.phase hp) n
  unfold State.holdSet
  exact ⟨.ite (hput.trans hsteady) hput, .ite (hval.trans hvalues) hval⟩

end Sys2Proof.Machine
end

section
/-! O9: the age limit forms ABSENT (R47, R51, R573, R574); stale fall-back values, HOLD records and the end of evidence
retention (R62, R69, R73, R353, R709). -/

namespace Sys2Proof.Machine
open Sys2Proof

variable {s e t : State} {p : PStream} {f : Frame} {P : State → Prop} {n : Nat}

/-! ## The result age limit (R573, R574) -/

/-- The result age limit's fault: AGE_MON with its count and its event, not in MISMATCH_HOLD (R574). -/
def State.ageMon (n : Nat) (s : State) : State :=
  if s.dev.state == .mismatchHold then s else ((s.raise 65).rincSat (0x30100 + 4 * n) 31 0 1).revt 0x30008 4

theorem ageFire_eq (n : Nat) (f : Frame) (s : State) : s.ageFire n f = (s.ageMon n).form ((s.ageMon n).frameNow f) := rfl

theorem ageMon_listed : (romCfg 65).reserved = false := by decide +kernel

/-- Outside a blackout the fault leaves frames and plan alone and enters no MISMATCH_HOLD. -/
theorem ageMon_keeps (hp : s.ldr.phase ≠ .blackout) (n : Nat) : Steady s (s.ageMon n) ∧ KeepsValues s (s.ageMon n) := by
  have hraise : Steady s (s.raise 65) := steady_raiseU (by decide) hp 0xFFFF
  have hvalues : KeepsValues s (s.raise 65) := keepsValues_raiseU hp 65 0xFFFF
  exact ⟨.ite (.refl s) ((hraise.trans (steady_rincSat ..)).trans (steady_revt ..)),
    .ite (.refl s) ((hvalues.trans (keepsValues_rincSat ..)).trans (keepsValues_revt ..))⟩

theorem ageMon_mismatch (n : Nat) (h : s.dev.state = .mismatchHold) : s.ageMon n = s := by
  unfold State.ageMon
  rw [h]
  rfl

theorem ageMon_raised (n : Nat) (hc : s.dev.state ≠ .cold) (h : s.dev.state ≠ .mismatchHold) :
    RaisedIn 65 s (s.ageMon n) := by
  unfold State.ageMon
  rw [if_neg (by simpa using h)]
  exact ((raisedIn_raise ageMon_listed hc).then_sameSrc (sameSrc_rincSat ..)).then_sameSrc (sameSrc_revt ..)

/-- R51 without a counted result. -/
theorem decide51_noResult (h : f.result = none) (p : PStream) (s : State) :
    s.decide51 p f = (4, if s.dev.state = .mismatchHold then 0xC else 0xB) := by
  unfold State.decide51
  dsimp only
  rw [h]
  by_cases hm : s.dev.state = .mismatchHold <;> simp [hm]

/-- From `s` to `e` a verdict ABSENT was written for frame number `num` of stream `n`, with AGE_MON raised outside
MISMATCH_HOLD (R51, R573, R574). -/
def absentWritten (s e : State) (n num : Nat) : Prop :=
  verdictWritten s e n num 4 (if s.dev.state = .mismatchHold then 0xC else 0xB) ∧
  (s.dev.state ≠ .mismatchHold → RaisedIn 65 s e) ∧ (s.dev.state = .mismatchHold → e.src 65 = s.src 65)

/-- The fault changes neither what R51 looks at nor the reason of the verdict ABSENT. -/
theorem ageFire_absent (hc : s.dev.state ≠ .cold) (hph : s.ldr.phase ≠ .blackout) (hf : f.stream = n)
    (hp : s.pstream n = some p) (hres : (s.frameNow f).result = none) :
    absentWritten s (s.ageFire n f) n (s.frameNow f).num := by
  obtain ⟨hsteady, hvalues⟩ := ageMon_keeps hph n
  have hnow : (s.ageMon n).frameNow f = s.frameNow f := by unfold State.frameNow; rw [hsteady.vd]
  have hstream : (s.frameNow f).stream = n := (frameNow_stream f s).trans hf
  have hplan : (s.ageMon n).pstream (s.frameNow f).stream = some p := by
    unfold State.pstream at hp ⊢
    rwa [hsteady.run, hstream]
  have hstate : (s.ageMon n).dev.state = .mismatchHold ↔ s.dev.state = .mismatchHold :=
    ⟨fun h => by_contra fun hne => hvalues.state hne h, fun h => by rwa [ageMon_mismatch n h]⟩
  obtain ⟨hwritten, hforming⟩ := form_verdict hplan (decide51_noResult hres p _) (show 4 ≠ 3 by decide)
  have hsrc := hforming.sources 65 (by decide) (by decide)
  rw [ageFire_eq, hnow]
  simp only [hstate, hstream] at hwritten
  refine ⟨verdictWritten_of_vd (by rw [hsteady.vd]) hwritten, fun hne => ?_, fun heq => ?_⟩
  · have hraised := ageMon_raised n hc hne
    unfold RaisedIn at hraised ⊢
    rwa [hsrc]
  · rw [hsrc, ageMon_mismatch n heq]

theorem ao_ageFire (n : Nat) (f : Frame) (s : State) : s.ao ≤ (s.ageFire n f).ao :=
  (Keeps.ageFire (T := (s.ao ≤ ·)) (.start le_rfl)).time

theorem completes_resultAgeLimit {n : Stream} (hc : s.dev.state ≠ .cold) (hp : s.pstream n = some p)
    (hold : s.oldest n (fun f => f.result.isNone) = some f) (h : P ((s.advance (f.ingressAo + p.a)).ageFire n f)) :
    Completes (.resultAgeLimit n) s P := by
  have hexec : exec (.resultAgeLimit n) s = execResultAgeLimit n s := rfl
  unfold execResultAgeLimit at hexec
  refine completes_act hexec hc ?_
  rw [hold, hp]
  exact h

/-- D at a frame without a counted result (R47). -/
theorem completes_verdictDeadline_uncounted {n : Stream} (hc : s.dev.state ≠ .cold) (hp : s.pstream n = some p)
    (hold : s.oldest n (fun _ => true) = some f) (hres : f.result = none)
    (h : P ((s.advance (f.ingressAo + p.d)).ageFire n f)) : Completes (.verdictDeadline n) s P := by
  have hexec : exec (.verdictDeadline n) s = execVerdictDeadline n s := rfl
  unfold execVerdictDeadline at hexec
  refine completes_act hexec hc ?_
  rw [hold, hp]
  dsimp only
  rw [if_pos (Option.isNone_iff_eq_none.2 hres)]
  exact h

/-- A and D form the verdict ABSENT of a frame without a counted result. -/
theorem ageLimitAbsent : ageLimitAbsentPart := by
  intro n s f p hc hph hp reason
  have habsent (m : Nat) (hf : f.stream = n) (hres : (s.frameNow f).result = none) :
      m ≤ ((s.advance m).ageFire n f).ao ∧ absentWritten s ((s.advance m).ageFire n f) n (s.frameNow f).num :=
    ⟨(le_advance_ao m s).trans (ao_ageFire n f _), ageFire_absent (s := s.advance m) hc hph hf hp hres⟩
  exact ⟨fun hold hres => completes_resultAgeLimit hc hp hold (habsent _ (oldest_stream hold) hres),
    fun hold hres hnow => completes_verdictDeadline_uncounted hc hp hold hres (habsent _ (oldest_stream hold) hnow)⟩

/-! ## FB_STALE (R62, R69) -/

/-- Where the underlying state stays, setting a stream raises nothing: at most the channels are evaluated. -/
theorem putStream_sameUnder {v : StreamV} (h : v.under = (s.stream n).under) :
    s.putStream n v = s.setStream n v ∨ s.putStream n v = (s.setStream n v).evalChans := by
  have hstay : ((s.stream n).under != .demoted && v.under == .demoted) = false := by
    rw [h]
    cases (s.stream n).under <;> rfl
  unfold State.putStream
  dsimp only
  rw [hstay, if_neg Bool.false_ne_true]
  split
  · exact .inl rfl
  · exact .inr rfl

/-- A hold reason that begins sets the stream and evaluates the channels. -/
theorem holdSet_held {h : StreamV → StreamV} (hheld : (h (s.stream n)).held = true)
    (hunder : (h (s.stream n)).under = (s.stream n).under) :
    (s.holdSet n h).stream n = h (s.stream n) ∧ Reacts s (s.holdSet n h) := by
  have hset : (s.setStream n (h (s.stream n))).stream n = h (s.stream n) :=
    (State.stream_setStream ..).trans (if_pos rfl)
  have hput : (s.putStream n (h (s.stream n))).stream n = h (s.stream n) := by
    rcases putStream_sameUnder hunder with heq | heq
    · rw [heq, hset]
    · rw [heq, stream_evalChans, hset]
  unfold State.holdSet
  dsimp only
  rw [hput, hheld, if_neg (by simp)]
  exact ⟨hput, reacts_putStream ..⟩

theorem completes_fbStale {n : Stream} {v : BitVec 96 × Nat} (hc : s.dev.state ≠ .cold) (hfb : (s.stream n).fb = some v)
    (hp : s.pstream n = some p) (hstale : (s.stream n).hStale = false)
    (h : P ((s.advance (v.2 + p.f + 1)).holdSet n (fun x => { x with hStale := true }))) :
    Completes (.fbStale n) s P := by
  have hexec : exec (.fbStale n) s = execFbStale n s := rfl
  unfold execFbStale at hexec
  refine completes_act hexec hc ?_
  have hstale' : ((s.advance (v.2 + p.f + 1)).stream n).hStale = false := hstale
  rw [hfb, hp]
  dsimp only
  rw [hstale', if_neg Bool.false_ne_true]
  exact h

/-- With FB_STALE standing a stream is HELD (R69). -/
theorem code_of_hStale {v : StreamV} (h : v.hStale = true) : v.held = true ∧ v.code = 3 := by
  have hheld : v.held = true := by unfold StreamV.held; simp [h]
  exact ⟨hheld, if_pos hheld⟩

theorem Reacts.of_advance {m : Nat} (h : Reacts (s.advance m) e) : Reacts { s with ao := e.ao } e := by
  rw [h.ao]
  exact h

/-! ## HOLD records (R73, R88) -/

/-- The HOLD record of stream `n` at the point of its frame grid that has come (R73, R88). -/
def State.holdRec (n : Nat) (s : State) : JRec :=
  let b := s.recBase 3 n
  { b with
    src := true, flags := b.flags ||| BitVec.ofNat 8 (8 * b2n (s.stream n).hStale),
    frame := if s.rget64 (0x91000 + 32 * n) = 0 then 0xFFFFFFFF else BitVec.ofNat 32 (s.gs n).nextNum - 1,
    plan := match s.run with | some x => x.img.planId.truncate 16 | none => 0,
    vtime := vtimeOf s.devNow, age := BitVec.ofNat 32 (s.fbAge n), fval := s.fbVal n }

/-- The device at the point `m` of stream `n`'s frame grid in a blackout. -/
def State.atHoldPoint (n m : Nat) (s : State) : State :=
  { s.advance m with vd.holdAt := mput 0 s.vd.holdAt n m }

theorem completes_holdRecord {n : Stream} (hc : s.dev.state ≠ .cold) (hph : s.ldr.phase = .blackout)
    (hp : s.pstream n = some p) (hin : s.holdPoint p ≤ s.ldr.b + 100000)
    (h : let u := s.atHoldPoint n (s.holdPoint p); P (u.journal (u.holdRec n))) : Completes (.holdRecord n) s P := by
  have hexec : exec (.holdRecord n) s = execHoldRecord n s := rfl
  unfold execHoldRecord at hexec
  refine completes_act hexec hc ?_
  rw [hph, hp]
  dsimp only
  rw [if_neg (by unfold Config.aoPerMs; omega)]
  exact h

theorem ao_journal (r : JRec) (s : State) : s.ao ≤ (s.journal r).ao :=
  (Keeps.journal (T := (s.ao ≤ ·)) (.start le_rfl)).time

/-! ## The end of evidence retention (R353, R709) -/

theorem forAll_fixed_mem {α σ : Type} {f : α → σ → σ} {s : σ} : ∀ {l : List α}, (∀ a ∈ l, f a s = s) → forAll l f s = s
  | [], _ => rfl
  | a :: l, hf => by
    rw [forAll_cons, hf a List.mem_cons_self]
    exact forAll_fixed_mem fun b hb => hf b (List.mem_cons_of_mem a hb)

/-- With no correction due, none follows (R78). -/
theorem flushRange_idle (h : s.vd.rangeDue = []) : s.flushRange = s := by
  have hsame : { s with vd.rangeDue := [] } = s := by rw [← h]
  unfold State.flushRange
  rw [h, hsame]
  exact forAll_fixed (fun _ => rfl) _

/-- Where no procedure can close and no correction is due, polling does nothing (R81, R82). -/
theorem pollAll_idle (hpoll : ∀ i < 4, s.pollDis i = s) (h : s.vd.rangeDue = []) : s.pollAll = s := by
  have hall : forAll [0, 1, 2, 3, 0, 1, 2, 3] State.pollDis s = s :=
    forAll_fixed_mem fun i hi => hpoll i (by simp at hi; omega)
  rw [State.pollAll, hall, flushRange_idle h]

/-- What a freed buffer reads as (R353). -/
theorem mget_freed (bs : List Nat) (m : FMap Bool) {b : Nat} (h : b ∈ bs ∨ mget false m b = false) :
    mget false (bs.foldl (fun m b => mput false m b false) m) b = false := by
  induction bs generalizing m with
  | nil => exact h.resolve_left List.not_mem_nil
  | cons c bs ih =>
    refine ih _ ?_
    rw [mget_mput]
    by_cases hb : b = c
    · exact .inr (if_pos hb)
    · rw [if_neg hb]
      exact h.imp_left fun hm => (List.mem_cons.1 hm).resolve_left hb

/-- A frame whose buffers are returned (R353). -/
def Frame.released (f : Frame) : Frame := { f with buffers := [], mirror := [], keepUntil := none, owner := 0 }

/-- What reads the frame's record reads the one set. -/
theorem setFrame_same {f g : Frame} (hg : g ∈ (s.setFrame f).vd.frames) (hsame : f.same g = true) : g = f := by
  obtain ⟨g0, -, rfl⟩ := List.mem_map.1 hg
  split at hsame
  · next h => exact if_pos h
  · next h => exact absurd hsame h

theorem dropEvidence_eq (k : Nat) (w : Option Nat) (s : State) : s.dropEvidence k w =
    { s with vd.commits := (s.dropEvidence k w).vd.commits, vd.reveals := (s.dropEvidence k w).vd.reveals } := by
  unfold State.dropEvidence
  split <;> rfl

theorem dropEvidence_commits {k : Nat} {w : Option Nat} {c : Commit} (hc : c ∈ (s.dropEvidence k w).vd.commits) :
    ¬ (c.stream = k ∧ w = some c.fwd) := by
  rintro ⟨hk, rfl⟩
  simp [State.dropEvidence, hk] at hc

/-- With no procedure open and no correction due, the end of the retention returns the buffers and gives up the evidence. -/
theorem completes_retentionEnd {n : Stream} {m : Nat} (hc : s.dev.state ≠ .cold)
    (hfind : s.vd.frames.find? (fun f => f.stream = n.val && f.keepUntil.isSome) = some f) (hkeep : f.keepUntil = some m)
    (hnow : s.frameNow f = f) (hdis : ∀ i, (s.dis i).busy = false) (hdue : s.vd.rangeDue = [])
    (h : P (((s.advance m).releaseFrame f).dropEvidence f.stream f.fwd)) : Completes (.retentionEnd n) s P := by
  have hexec : exec (.retentionEnd n) s = execRetentionEnd n s := rfl
  unfold execRetentionEnd at hexec
  refine completes_act hexec hc ?_
  have hpoll : (s.advance m).pollAll = s.advance m :=
    pollAll_idle (fun i _ => pollDis_closed (s := s.advance m) (hdis i)) hdue
  have hclosed (i : Nat) : ((s.advance m).dis i).busy = false := hdis i
  have hnow' : (s.advance m).frameNow f = f := hnow
  have hdue' : (((s.advance m).releaseFrame f).dropEvidence f.stream f.fwd).vd.rangeDue = [] := by
    rw [dropEvidence_eq]
    exact hdue
  rw [hfind]
  dsimp only
  rw [hkeep]
  dsimp only
  rw [hpoll, forAll_fixed (s := s.advance m) (fun i => by rw [hclosed i]; rfl), hnow', flushRange_idle hdue']
  exact h

/-- Stale values, HOLD records and retention. -/
theorem holdAndRetention : holdAndRetentionPart := by
  intro n s hc
  refine ⟨fun v p hfb hp hstale => ?_, fun p hph hp hnum hin => ?_, fun f m hfind hkeep hnow hdis hdue => ?_⟩
  · refine completes_fbStale hc hfb hp hstale ?_
    set u := s.advance (v.2 + p.f + 1) with hu
    obtain ⟨hstream, hreacts⟩ := holdSet_held (s := u) (n := n) (h := fun x => { x with hStale := true })
      (code_of_hStale rfl).1 rfl
    rw [hstream]
    exact ⟨hreacts.ao ▸ le_advance_ao _ s, rfl, (code_of_hStale rfl).2, rfl, hfb, hreacts.of_advance⟩
  · refine completes_holdRecord hc hph hp hin ?_
    intro u
    obtain ⟨hhead, hseq⟩ := journal_head (u.holdRec n) u
    have hao : s.holdPoint p ≤ u.ao := le_advance_ao _ s
    exact ⟨hao.trans (ao_journal ..), _, hhead, rfl, rfl, rfl, rfl, rfl, rfl, rfl, rfl, hseq⟩
  · refine completes_retentionEnd hc hfind hkeep hnow hdis hdue ?_
    have heq := dropEvidence_eq f.stream f.fwd ((s.advance m).releaseFrame f)
    have hframes := congrArg (fun x => x.vd.frames) heq
    refine ⟨?_, fun b hb => ?_, fun g hg hsame => ?_, fun c hmem => dropEvidence_commits hmem, ?_⟩
    · rw [heq]
      exact le_advance_ao m s
    · rw [heq]
      exact mget_freed _ _ (.inl hb)
    · rw [hframes] at hg
      obtain rfl : g = f.released := setFrame_same (f := f.released) hg hsame
      exact ⟨rfl, rfl, rfl⟩
    · rw [heq]
      rfl

/-- Settles O9: the two parts proved above, the age limit's verdict and what a stale value, a blackout and a retention's end do. -/
theorem ageLimitHoldsAndRetention : Obligations.AgeLimitHoldsAndRetention := ⟨ageLimitAbsent, holdAndRetention⟩

end Sys2Proof.Machine
end

section
/-! O17: fall-back runs, repeat and fresh checks (R58, R82, R276). -/

namespace Sys2Proof.Machine
open Sys2Proof

variable {s e t : State} {x : BitVec 512} {rest : List (BitVec 512 × Bool)} {l : List Byte} {fr : Frame} {p : PStream}
  {P : State → Prop}

/-- The state without its oldest result record. -/
def State.untaken (s : State) (rest : List (BitVec 512 × Bool)) : State := { s with vd.results := rest }

theorem takeResult_head {kind : Nat} (hres : s.vd.results = (x, false) :: rest) (hl : l = leBytes 64 x.toNat)
    (hcrc : recordCrcOk l = true) (hk : leField l 1 1 = kind) :
    s.takeResult kind = some (l, true, s.untaken rest) := by
  unfold State.takeResult
  rw [hres]
  dsimp only
  rw [← hl, if_pos hk, hcrc]
  rfl

theorem pstream_num {n : Nat} (h : s.pstream n = some p) : p.num = n := by
  obtain ⟨r, -, hr⟩ := Option.bind_eq_some_iff.1 h
  unfold planStream at hr
  simpa using List.find?_some hr

/-! ## FALLBACK (R58, R276) -/

/-- A published value stands in its stream; what a stale hold's end does leaves it (R58, R62, R69). -/
theorem publishFb_keeps (hp : s.ldr.phase ≠ .blackout) (p : PStream) (f : Frame) (v : BitVec 96) :
    Steady s (s.publishFb p f v) ∧
    ((s.publishFb p f v).stream p.num).values = (some (v, f.ingressAo), (s.stream p.num).score) := by
  unfold State.publishFb
  extract_lets _ u
  have hset : Steady s u := .of rfl rfl
  have hvalues : (u.stream p.num).values = (some (v, f.ingressAo), (s.stream p.num).score) := by
    rw [State.stream_setStream, if_pos rfl]
    rfl
  obtain ⟨hsteady, hkeeps⟩ := holdSet_keeps (s := u) hp p.num (f := fun x => { x with hStale := false }) (fun _ => rfl)
  split
  · exact ⟨hset.trans hsteady, (hkeeps.values p.num).trans hvalues⟩
  · exact ⟨hset, hvalues⟩

/-- A completed single run of a fall-back model on an admitted frame that is not TAINTED (R58). -/
theorem completes_fallback (hr : resultReady s 4 x rest l fr p) (htaint : fr.tainted = false) (hdual : p.dual = false)
    (hpass : leField l 2 1 = 1) (hrun : leField l 3 1 % 2 = 1) (howes : s.quarOwes (leField l 0 1) 4 = false)
    (h : P ((s.untaken rest).publishFb p fr (BitVec.ofNat 96 (leField l 24 12)))) : Completes .fallback s P := by
  obtain ⟨hc, -, hres, hl, hk, hcrc, hframe, hp, hgold, -, -⟩ := hr
  have hexec : exec .fallback s = execFallback s := rfl
  unfold execFallback at hexec
  refine completes_act hexec hc ?_
  have hframe' : (s.untaken rest).frameFwd (leField l 0 1) (leField l 4 4) = some fr := hframe
  have hp' : (s.untaken rest).pstream (leField l 0 1) = some p := hp
  have howes' : (s.untaken rest).quarOwes (leField l 0 1) 4 = false := howes
  rw [takeResult_head hres hl hcrc hk]
  dsimp only
  rw [hframe', hp']
  dsimp only
  rw [hgold, htaint, hdual, hpass, hrun, howes', hcrc]
  exact h

/-! ## REPEAT and FRESH (R82) -/

/-- A fold of which one step alone does anything is that step. -/
theorem forAll_only {α σ : Type} {f : α → σ → σ} {s : σ} {k : α} : ∀ {l : List α}, l.Nodup → k ∈ l →
    (∀ a ∈ l, a ≠ k → f a s = s ∧ f a (f k s) = f k s) → forAll l f s = f k s
  | a :: l, hnd, hk, hf => by
    obtain ⟨ha, hl⟩ := List.nodup_cons.1 hnd
    rw [forAll_cons]
    rcases List.mem_cons.1 hk with rfl | hk
    · exact forAll_fixed_mem fun b hb => (hf b (List.mem_cons_of_mem _ hb) (fun hbk => ha (hbk ▸ hb))).2
    · rw [(hf a List.mem_cons_self (fun hak => ha (hak ▸ hk))).1]
      exact forAll_only hl hk fun b hb => hf b (List.mem_cons_of_mem _ hb)

/-- A procedure that waits for a requested pass of a healthy original tile stays open (R81, R82). -/
theorem pollDis_waiting {k : Nat} (hfailed : (s.dis k).failed = []) (hleft : (s.dis k).stLeft ≠ [])
    (hok : ∀ t ∈ (s.dis k).stLeft, (s.tile t).healthy = true) : s.pollDis k = s := by
  unfold State.pollDis
  extract_lets d failed
  have hnone : failed = [] := by
    refine List.filter_eq_nil_iff.2 fun t _ => ?_
    rw [show d.failed = [] from hfailed]
    simp only [List.contains_nil, Bool.false_or, Bool.and_eq_true, List.contains_iff_mem, not_and]
    intro ht
    have hhealthy := hok t ht
    unfold TileSt.healthy at hhealthy
    cases hrole : (s.tile t).role <;> simp [hrole] at hhealthy ⊢
  have hopen : d.stLeft.isEmpty = false := by simpa using hleft
  rw [hnone, hopen]
  simp

/-- Procedure `k` alone is open and takes records of `l`: it is for the record's frame and layer, the record's tile serves the
reserve and is none of the original ones, and a pass of a healthy original tile is still to end (R81, R82, R180). -/
structure Awaits (s : State) (l : List Byte) (k : Nat) : Prop where
  reserve : (s.tile (leField l 10 2)).role = .reserve
  slot : k < 4
  busy : (s.dis k).busy = true
  stream : (s.dis k).stream = leField l 0 1
  fwd : (s.dis k).fwd = leField l 4 4
  layer : (s.dis k).layer = leField l 8 2
  disjoint : ¬ leField l 10 2 ∈ (s.dis k).origTiles
  others : ∀ j < 4, j ≠ k → (s.dis j).busy = false
  failed : (s.dis k).failed = []
  left : (s.dis k).stLeft ≠ []
  healthy : ∀ t ∈ (s.dis k).stLeft, (s.tile t).healthy = true
  due : s.vd.rangeDue = []

/-- What a record of the reserve does to slot `i`. -/
def State.disStep (l : List Byte) (g : DisSlot → DisSlot) (i : Nat) (s : State) : State :=
  let d := s.dis i
  if d.busy && d.stream = leField l 0 1 && d.fwd = leField l 4 4 && d.layer = leField l 8 2
      && !d.origTiles.contains (leField l 10 2) then s.setDis i (g d) else s

/-- A sound record of the reserve sets what awaits it, and every procedure that can close then does (R81, R82). -/
theorem disResult_sound (hrole : (s.tile (leField l 10 2)).role = .reserve) (hcrc : recordCrcOk l = true)
    (g : DisSlot → DisSlot) : s.disResult l true g = (forAll [0, 1, 2, 3] (State.disStep l g) s).pollAll := by
  unfold State.disResult
  dsimp only
  rw [hrole, hcrc, Bool.not_true, Bool.false_and, if_neg Bool.false_ne_true, if_pos (by rfl)]
  rfl

theorem disStep_closed {g : DisSlot → DisSlot} {i : Nat} (h : (s.dis i).busy = false) : s.disStep l g i = s := by
  unfold State.disStep
  simp [h]

/-- The record sets the one procedure that awaits it. -/
theorem disSteps_awaits {k : Nat} (h : Awaits s l k) (g : DisSlot → DisSlot) :
    forAll [0, 1, 2, 3] (State.disStep l g) s = s.setDis k (g (s.dis k)) := by
  have hstep : s.disStep l g k = s.setDis k (g (s.dis k)) := by
    unfold State.disStep
    simp [h.busy, h.stream, h.fwd, h.layer, h.disjoint]
  rw [forAll_only (k := k) (by decide) (by have := h.slot; simp; omega) fun j hj hne => ?_, hstep]
  have hbusy : (s.dis j).busy = false := h.others j (by simp at hj; omega) hne
  refine ⟨disStep_closed hbusy, ?_⟩
  rw [hstep]
  exact disStep_closed (by rwa [State.dis_setDis, if_neg hne])

/-- A sound record of the reserve marks its check and closes nothing while a pass is still to end. -/
theorem disResult_awaits {k : Nat} (h : Awaits s l k) (hcrc : recordCrcOk l = true) {g : DisSlot → DisSlot}
    (hleft : ∀ d, (g d).stLeft = d.stLeft ∧ (g d).failed = d.failed) :
    s.disResult l true g = s.setDis k (g (s.dis k)) := by
  set u := s.setDis k (g (s.dis k)) with hu
  have hk : u.dis k = g (s.dis k) := (State.dis_setDis ..).trans (if_pos rfl)
  obtain ⟨hl, hf⟩ := hleft (s.dis k)
  have hpoll : u.pollAll = u := by
    refine pollAll_idle (fun i hi => ?_) h.due
    by_cases hik : i = k
    · subst hik
      exact pollDis_waiting (by rw [hk, hf, h.failed]) (by rw [hk, hl]; exact h.left) (by rw [hk, hl]; exact h.healthy)
    · exact pollDis_closed (by rw [hu, State.dis_setDis, if_neg hik]; exact h.others i hi hik)
  rw [disResult_sound h.reserve hcrc, disSteps_awaits h g, ← hu, hpoll]

/-- REPEAT's mark on a procedure (R82). -/
def DisSlot.repeated (l : List Byte) (d : DisSlot) : DisSlot :=
  if d.repeatDone then d else { d with repeatDone := true, repeatSame := computed l = d.orig }

/-- FRESH's mark on a procedure (R82). -/
def DisSlot.freshened (l : List Byte) (d : DisSlot) : DisSlot :=
  if d.freshDone then d else { d with freshDone := true, fresh := if leField l 2 1 = 3 then 3 else 1 }

theorem repeated_left (l : List Byte) (d : DisSlot) :
    (d.repeated l).stLeft = d.stLeft ∧ (d.repeated l).failed = d.failed := by
  unfold DisSlot.repeated
  split <;> exact ⟨rfl, rfl⟩

theorem freshened_left (l : List Byte) (d : DisSlot) :
    (d.freshened l).stLeft = d.stLeft ∧ (d.freshened l).failed = d.failed := by
  unfold DisSlot.freshened
  split <;> exact ⟨rfl, rfl⟩

theorem completes_repeatRec (hc : s.dev.state ≠ .cold) (htake : s.takeResult 5 = some (l, true, t))
    (h : P (t.disResult l true (DisSlot.repeated l))) : Completes .repeatRec s P := by
  have hexec : exec .repeatRec s = execRepeatRec s := rfl
  unfold execRepeatRec at hexec
  refine completes_act hexec hc ?_
  rw [htake]
  exact h

theorem completes_freshRec (hc : s.dev.state ≠ .cold) (htake : s.takeResult 6 = some (l, true, t))
    (h : P (t.disResult l true (DisSlot.freshened l))) : Completes .freshRec s P := by
  have hexec : exec .freshRec s = execFreshRec s := rfl
  unfold execFreshRec at hexec
  refine completes_act hexec hc ?_
  rw [htake]
  exact h

/-- A check's record marks procedure `k`, is taken, and writes nothing to the journal. -/
theorem disResult_marks {k : Nat} (h : Awaits s l k) (hcrc : recordCrcOk l = true) {g : DisSlot → DisSlot}
    (hleft : ∀ d, (g d).stLeft = d.stLeft ∧ (g d).failed = d.failed) :
    let e := (s.untaken rest).disResult l true g
    e.dis k = g (s.dis k) ∧ e.vd.results = rest ∧ e.vd.journal = s.vd.journal := by
  have hw : Awaits (s.untaken rest) l k := { h with }
  dsimp only
  rw [disResult_awaits hw hcrc hleft]
  exact ⟨(State.dis_setDis ..).trans (if_pos rfl), rfl, rfl⟩

/-- Settles O17: a published value outlives the end of a stale hold, and a check's record marks the one procedure that awaits
it. -/
theorem fallbackRepeatFresh : Obligations.FallbackRepeatFresh := by
  intro s x rest l fr p
  refine ⟨fun hr htaint hdual hpass hrun howes => ?_,
    fun k hc hres hl hcrc hrole hk hbusy hstream hfwd hlayer hdisj hothers hfailed hleft hok hdue => ?_⟩
  · refine completes_fallback hr htaint hdual hpass hrun howes ?_
    obtain ⟨-, hph, -, -, -, -, -, hp, -, -, -⟩ := hr
    obtain ⟨hsteady, hvalues⟩ := publishFb_keeps (s := s.untaken rest) hph p fr (BitVec.ofNat 96 (leField l 24 12))
    rw [pstream_num hp] at hvalues
    rw [hsteady.vd]
    exact ⟨rfl, congrArg Prod.fst hvalues, congrArg Prod.snd hvalues, rfl, rfl⟩
  · have hw : Awaits s l k := ⟨hrole, hk, hbusy, hstream, hfwd, hlayer, hdisj, hothers, hfailed, hleft, hok, hdue⟩
    refine ⟨fun hkind hnew => ?_, fun hkind hnew => ?_⟩
    · refine completes_repeatRec hc (takeResult_head hres hl hcrc hkind) ?_
      obtain ⟨hdis, hresults, hjournal⟩ := disResult_marks (rest := rest) hw hcrc (repeated_left l)
      refine ⟨hdis.trans ?_, hresults, hjournal⟩
      unfold DisSlot.repeated
      rw [hnew, if_neg Bool.false_ne_true]
    · refine completes_freshRec hc (takeResult_head hres hl hcrc hkind) ?_
      obtain ⟨hdis, hresults, hjournal⟩ := disResult_marks (rest := rest) hw hcrc (freshened_left l)
      refine ⟨hdis.trans ?_, hresults, hjournal⟩
      unfold DisSlot.freshened
      rw [hnew, if_neg Bool.false_ne_true]

end Sys2Proof.Machine
end

section
/-! O10, O11, O12, O16: frames, commits and completed records as they read after an update (R97, R109, R110). -/

namespace Sys2Proof.Machine
open Sys2Proof

variable {s : State} {f g fr : Frame} {p : PStream} {c d : Commit}

/-! ## Frames (R97) -/

/-- Where the first element with a property is replaced by one with that property, the replacement is found. -/
theorem find?_replaced {α : Type} {l : List α} {q r : α → Bool} {a b : α} (h : l.find? q = some a) (ha : r a = true)
    (hb : q b = true) : (l.map fun x => if r x then b else x).find? q = some b := by
  induction l with
  | nil => exact absurd h (Option.some_ne_none a).symm
  | cons x l ih =>
    rw [List.map_cons]
    by_cases hr : r x = true
    · rw [if_pos hr]
      exact List.find?_cons_of_pos hb
    · rw [if_neg hr]
      have hq : ¬ q x = true := fun hq => hr ((Option.some.inj ((List.find?_cons_of_pos hq).symm.trans h)) ▸ ha)
      rw [List.find?_cons_of_neg hq] at h ⊢
      exact ih h

theorem Frame.same_iff : f.same g = true ↔ f.stream = g.stream ∧ f.num = g.num ∧ f.golden = g.golden := by
  simp only [Frame.same, Bool.and_eq_true, decide_eq_true_eq, and_assoc]

theorem frameFwd_key {n w : Nat} (h : s.frameFwd n w = some f) : f.stream = n ∧ f.fwd = some w := by
  simpa only [Bool.and_eq_true, decide_eq_true_eq] using List.find?_some h

theorem frameFwd_setFrame {n w : Nat} (h : s.frameFwd n w = some f) (hsame : g.same f = true) (hw : g.fwd = some w) :
    (s.setFrame g).frameFwd n w = some g := by
  have hn : g.stream = n := (Frame.same_iff.1 hsame).1.trans (frameFwd_key h).1
  exact find?_replaced h hsame (by simp only [hn, hw, decide_true, Bool.and_self])

/-- A frame set is the frame as it now stands. -/
theorem frameNow_setFrame_self (f : Frame) (s : State) : (s.setFrame f).frameNow f = f := by
  unfold State.frameNow
  split
  · next g hg => exact setFrame_same (List.mem_of_find?_eq_some hg) (List.find?_some hg)
  · rfl

/-- What a held frame was set to is the frame as it now stands. -/
theorem frameNow_setFrame {n w : Nat} (h : s.frameFwd n w = some f) (hsame : g.same f = true) :
    (s.setFrame g).frameNow f = g := by
  obtain ⟨hstream, hnum, hgold⟩ := Frame.same_iff.1 hsame
  have hmem : f ∈ s.vd.frames := List.mem_of_find?_eq_some h
  obtain ⟨a, ha⟩ := Option.isSome_iff_exists.1 (List.find?_isSome.2 ⟨f, hmem, Frame.same_iff.2 ⟨rfl, rfl, rfl⟩⟩)
  obtain ⟨hs, hm, hg⟩ := Frame.same_iff.1 (List.find?_some ha)
  have hfind : (s.setFrame g).vd.frames.find? (fun x => f.same x) = some g :=
    find?_replaced ha (Frame.same_iff.2 ⟨hstream.trans hs, hnum.trans hm, hgold.trans hg⟩)
      (Frame.same_iff.2 ⟨hstream.symm, hnum.symm, hgold.symm⟩)
  unfold State.frameNow
  rw [hfind]

/-! ## Commits (R110) -/

theorem commitOf_key {n w k : Nat} (h : s.commitOf n w k = some c) : c.stream = n ∧ c.fwd = w ∧ c.layer = k := by
  simpa only [Bool.and_eq_true, decide_eq_true_eq, and_assoc] using List.find?_some h

theorem commitOf_setCommit {n w k : Nat} (h : s.commitOf n w k = some c)
    (hkey : d.stream = c.stream ∧ d.fwd = c.fwd ∧ d.layer = c.layer) : (s.setCommit d).commitOf n w k = some d := by
  obtain ⟨hstream, hfwd, hlayer⟩ := hkey
  obtain ⟨rfl, rfl, rfl⟩ := commitOf_key h
  refine find?_replaced h ?_ ?_ <;> simp only [hstream, hfwd, hlayer, decide_true, Bool.and_self]

/-! ## Verdicts that wait (R47) -/

theorem ready_of_pstream (hp : s.pstream f.stream = some p) : s.ready f = (f.result.isSome && !s.required p f 0) := by
  unfold State.ready
  rw [hp]

theorem ready_noResult (h : f.result = none) : s.ready f = false := by
  unfold State.ready
  rw [h]
  split <;> rfl

/-- An admitted frame as it now stands that is not ready is left alone. -/
theorem progress_waiting (hnow : s.frameNow f = f) (hgold : f.golden = false) (hready : s.ready f = false) :
    s.progress p f = s := by
  unfold State.progress State.formIfReady
  simp only [hnow, hgold, hready, Bool.and_false, Bool.false_eq_true, if_false]

/-! ## Completed evidence records (R97, R109) -/

/-- The state with a completed evidence record taken. -/
def State.withoutRecord (s : State) (x : Nat × Nat × List Byte) : State := { s with vd.records := s.vd.records.erase x }

section
variable {fn k t : Nat} {r : List Byte} (h : recordReady s fn k t r fr p)
include h

theorem evTake_ready : s.evTake fn k = some (t, r, s.withoutRecord (fn, t, r)) := by
  obtain ⟨-, -, hfind, htype, -⟩ := h
  unfold State.evTake
  rw [hfind]
  exact if_pos htype

/-- A record that passes the common checks goes to what its type does. -/
theorem evCheck_ready (x : Nat × Nat × List Byte) (act : PStream → Frame → State → State) :
    (s.withoutRecord x).evCheck fn r act = act p fr (s.withoutRecord x) := by
  obtain ⟨-, -, -, -, hframe, hp, hformed, hbad, -⟩ := h
  have hframe' : (s.withoutRecord x).frameFwd (evStream r) (evFwd r) = some fr := hframe
  have hp' : (s.withoutRecord x).pstream (evStream r) = some p := hp
  unfold State.evCheck
  simp only [hframe', hp', hformed, hbad, Option.isSome_none, Bool.false_and, Bool.false_eq_true, if_false]

/-- The oldest record of a function, where it is of type `k`, is taken and goes to what its type does. -/
def State.takeRecord (fn k : Nat) (act : List Byte → Nat → PStream → Frame → State → State) (s : State) : State :=
  match s.evTake fn k with
  | some (t, r, s) => s.evCheck fn r (act r t)
  | none => s

theorem completes_record {i : Instr} {act : List Byte → Nat → PStream → Frame → State → State} {P : State → Prop}
    (hi : exec i s = s.act (State.takeRecord fn k act)) (hP : P (act r t p fr (s.withoutRecord (fn, t, r)))) :
    Completes i s P := by
  refine completes_act hi h.1 ?_
  unfold State.takeRecord
  rw [evTake_ready h]
  dsimp only
  rwa [evCheck_ready h]

end

end Sys2Proof.Machine
end

section
/-! O10: the draw of indices (R124) and a COMMIT held with them (R110, R114, R116, R117). -/

namespace Sys2Proof.Machine
open Sys2Proof

/-! ## Draws (R124) -/

/-- At most `want` distinct candidates below `m` are chosen. -/
structure IsChoice (m want : Nat) (ch : List Nat) : Prop where
  nodup : ch.Nodup
  below : ∀ c ∈ ch, c < m
  size : ch.length ≤ want

variable {m want : Nat} {ch : List Nat}

theorem IsChoice.nil (m want : Nat) : IsChoice m want [] := ⟨.nil, fun _ h => absurd h List.not_mem_nil, Nat.zero_le _⟩

/-- One more candidate, where one is wanted and it is new. -/
theorem IsChoice.add {c : Nat} (h : IsChoice m want ch) (hsize : ch.length < want) (hc : c < m) (hnew : ¬ c ∈ ch) :
    IsChoice m want (ch ++ [c]) where
  nodup := List.nodup_append.2
    ⟨h.nodup, List.nodup_singleton c, fun a ha b hb e => hnew (List.mem_singleton.1 hb ▸ e ▸ ha)⟩
  below a ha := (List.mem_append.1 ha).elim (h.below a) fun he => List.mem_singleton.1 he ▸ hc
  size := by rw [List.length_append]; exact hsize

/-- The keystream's words give a choice. -/
theorem isChoice_drawLoop (ks : Nat → Nat) (w fuel k : Nat) (h : IsChoice m want ch) :
    IsChoice m want (drawLoop ks m w want fuel k ch) := by
  induction fuel generalizing k ch with
  | zero => exact h
  | succ fuel ih =>
    unfold drawLoop
    split
    · exact h
    · next hsize =>
      refine ih _ ?_
      split
      · next hnew => exact h.add (by omega) hnew.1 (by simpa using hnew.2)
      · exact h

/-- The fill rule gives a choice that holds what was chosen, and is full unless the candidates run out. -/
theorem drawFill_fills {l : List Nat} (h : IsChoice m want ch) (hl : ∀ c ∈ l, c < m) :
    IsChoice m want (drawFill want ch l) ∧ ch ⊆ drawFill want ch l ∧
      (want ≤ (drawFill want ch l).length ∨ l ⊆ drawFill want ch l) := by
  induction l generalizing ch with
  | nil => exact ⟨h, List.Subset.refl _, .inr (List.nil_subset _)⟩
  | cons c l ih =>
    have hl' : ∀ a ∈ l, a < m := fun a ha => hl a (List.mem_cons_of_mem c ha)
    unfold drawFill
    split
    · next hfull => exact ⟨h, List.Subset.refl _, .inl hfull⟩
    · next hsize =>
      split
      · next hold =>
        obtain ⟨hchoice, hkept, hfull⟩ := ih h hl'
        exact ⟨hchoice, hkept, hfull.imp_right fun hsub => List.cons_subset.2 ⟨hkept (by simpa using hold), hsub⟩⟩
      · next hnew =>
        obtain ⟨hchoice, hkept, hfull⟩ := ih (h.add (by omega) (hl c List.mem_cons_self) (by simpa using hnew)) hl'
        obtain ⟨hch, hc⟩ := List.append_subset.1 hkept
        exact ⟨hchoice, hch, hfull.imp_right fun hsub => List.cons_subset.2 ⟨hc List.mem_cons_self, hsub⟩⟩

/-- Filled from every candidate, a choice has as many as are wanted. -/
theorem drawFill_range (h : IsChoice m want ch) (hm : want ≤ m) :
    IsChoice m want (drawFill want ch (List.range m)) ∧ (drawFill want ch (List.range m)).length = want := by
  obtain ⟨hchoice, -, hfull⟩ := drawFill_fills h fun c hc => List.mem_range.1 hc
  refine ⟨hchoice, le_antisymm hchoice.size (hfull.elim id fun hsub => hm.trans ?_)⟩
  simpa using (List.subperm_of_subset List.nodup_range hsub).length_le

/-- The candidates that a choice holds are as many as it has. -/
theorem length_filter_chosen (h : IsChoice m want ch) : ((List.range m).filter (ch.contains ·)).length = ch.length := by
  refine ((List.perm_ext_iff_of_nodup (List.nodup_range.filter _) h.nodup).2 fun a => ?_).length_eq
  rw [List.mem_filter, List.mem_range, List.contains_iff_mem]
  exact and_iff_right_of_imp (h.below a)

theorem length_filter_excluded (h : IsChoice m want ch) :
    ((List.range m).filter (!ch.contains ·)).length = m - ch.length := by
  have hsplit := List.length_eq_length_filter_add (l := List.range m) (ch.contains ·)
  rw [List.length_range, length_filter_chosen h] at hsplit
  omega

/-- A draw's size: the chosen candidates, or the others where more than half are wanted. -/
theorem length_drawIndices (ks : Nat → Nat) (m n : Nat) : (drawIndices ks m n).length = min n m := by
  unfold drawIndices
  split
  · rw [List.length_range]
    omega
  · next hlt =>
    extract_lets excl want w chosen
    have hwant : want ≤ m := by
      show (if excl then m - n else n) ≤ m
      split <;> omega
    obtain ⟨hchoice, hsize⟩ := drawFill_range (isChoice_drawLoop ks w 1024 0 (.nil m want)) hwant
    cases hexcl : excl
    · have hn : want = n := by show (if excl then m - n else n) = n; rw [hexcl]; rfl
      simp only [Bool.bne_false]
      refine (length_filter_chosen hchoice).trans ?_
      omega
    · have hn : want = m - n := by show (if excl then m - n else n) = m - n; rw [hexcl]; rfl
      simp only [Bool.bne_true]
      refine (length_filter_excluded hchoice).trans ?_
      omega

/-- A draw keeps the order of the candidates. -/
theorem drawIndices_sublist (ks : Nat → Nat) (m n : Nat) : (drawIndices ks m n).Sublist (List.range m) := by
  unfold drawIndices
  split
  · exact List.Sublist.refl _
  · exact List.filter_sublist

theorem drawIsASample : drawIsASamplePart := fun ks m n =>
  ⟨length_drawIndices ks m n, List.pairwise_lt_range.sublist (drawIndices_sublist ks m n),
    fun _ hi => List.mem_range.1 ((drawIndices_sublist ks m n).subset hi)⟩

/-! ## COMMIT (R110) -/

theorem leNat_firstBytes_lt (n : Nat) (l : List Byte) : leNat (firstBytes n l) < 256 ^ n := by
  induction n generalizing l with
  | zero => exact Nat.zero_lt_one
  | succ n ih =>
    rw [Nat.pow_succ]
    cases l with
    | nil =>
      have hrest := ih []
      simp only [firstBytes, leNat]
      omega
    | cons b l =>
      have hrest := ih l
      have hb := b.isLt
      simp only [firstBytes, leNat]
      omega

theorem evCmt_lt (r : List Byte) : evCmt r < 2 ^ 64 := leNat_firstBytes_lt 8 (r.drop 20)

variable {s : State} {f : Fn} {t : Nat} {r : List Byte} {fr : Frame} {p : PStream} {l : PLayer} {P : State → Prop}

theorem completes_commit (h : recordReady s f 1 t r fr p)
    (hP : P ((s.withoutRecord (f, t, r)).takeCommit r p fr)) : Completes (.commit f) s P :=
  completes_record h (act := fun r _ => State.takeCommit r) rfl hP

/-- A commit as it is first held, with its reveal drawn and queued (R110, R116, R117). -/
def State.newCommit (s : State) (r : List Byte) (p : PStream) (l : PLayer) : Commit :=
  { stream := p.num, fwd := evFwd r, layer := evLayer r, cmt := BitVec.ofNat 64 (evCmt r), kind := evKind r,
    count := evCount r, fmt := evFmt r, payload := r.drop 32, at_ := s.ao, idx := s.drawFor p l (evFwd r) (evCount r),
    st := 1, issuedAo := 0, answered := 0, samples := [], outcome := 0, rows := 0, equivocated := false, reIdx := [],
    reSt := 0, reAo := 0, reAns := 0 }

/-- The frame of a commit: a forwarded buffer goes to its assay (R353). -/
def State.toAssay (fr : Frame) (s : State) : State := if fr.owner = 2 then s.setFrame { fr with owner := 3 } else s

theorem takeCommit_first (hnone : s.commitOf p.num (evFwd r) (evLayer r) = none) (hd : s.atD p fr = false)
    (hres : fr.result.isSome = true) (hl : planLayer p (evLayer r) = some l) (hcount : evCount r ≠ 0) :
    s.takeCommit r p fr = (State.toAssay fr { s with vd.commits := s.vd.commits ++ [s.newCommit r p l] }).queueReveal
      { stream := p.num, fwd := evFwd r, layer := evLayer r, round := 0, p0 := p.p0, at_ := s.ao } := by
  have hwait : (s.atD p fr || !fr.golden && fr.result.isNone && decide (fr.ingressAo + p.a ≤ s.ao)) = false := by
    rw [hd, Option.isNone_eq_false_iff.2 hres, Bool.and_false, Bool.false_and, Bool.or_false]
  unfold State.takeCommit
  rw [hnone]
  dsimp only
  rw [hwait, hl]
  dsimp only
  rw [if_neg Bool.false_ne_true, if_neg hcount, if_neg hcount]
  unfold State.toAssay
  by_cases howner : fr.owner = 2
  · rw [if_pos howner, if_pos howner]
    rfl
  · rw [if_neg howner, if_neg howner]
    rfl

/-- What a frame's buffer is used for is no matter of its commits. -/
theorem toAssay_eq (fr : Frame) (s : State) : State.toAssay fr s = { s with vd.frames := (State.toAssay fr s).vd.frames } := by
  unfold State.toAssay
  split <;> rfl

theorem commitTaken : commitTakenPart := by
  intro f s t r fr p l hready hnone hd hres hl hcount
  refine completes_commit hready ?_
  rw [takeCommit_first (s := s.withoutRecord (f, t, r)) hnone hd hres hl hcount, toAssay_eq]
  have hcmt : (BitVec.ofNat 64 (evCmt r)).toNat = evCmt r := Nat.mod_eq_of_lt (evCmt_lt r)
  exact ⟨rfl, _, rfl, rfl, rfl, rfl, hcmt, rfl, rfl, rfl, rfl, rfl, rfl, rfl, rfl, rfl, rfl, rfl, rfl, rfl⟩

/-- Settles O10: the draw's size comes from the fill rule, its order from the filter, and a COMMIT before the deadlines is held
with that draw. -/
theorem drawsAndCommits : Obligations.DrawsAndCommits := ⟨drawIsASample, commitTaken⟩

end Sys2Proof.Machine
end

section
/-! O11: SAMPLE, CANARY and RESULT records taken (R104 to R107, R109, R111, R119, R135, R137, R46). -/

namespace Sys2Proof.Machine
open Sys2Proof

variable {s e : State} {f : Fn} {t : Nat} {r : List Byte} {fr g : Frame} {p : PStream} {l : PLayer} {c : Commit}
  {P : State → Prop}

/-! ## Evidence that reaches the tiles (R96) -/

theorem delivered_eq (p : PStream) (fr : Frame) (s : State) :
    s.delivered p fr = { s with vd.frames := (s.delivered p fr).vd.frames } := by
  unfold State.delivered
  split <;> rfl

/-- A frame set and then delivered is the one set but for the time of its delivery. -/
theorem frameFwd_delivered {n w : Nat} (h : s.frameFwd n w = some fr) (hsame : g.same fr = true) (hw : g.fwd = some w) :
    ∃ d, ((s.setFrame g).delivered p fr).frameFwd n w = some { g with deliveredAo := d } := by
  have hset := frameFwd_setFrame h hsame hw
  unfold State.delivered
  split
  · rw [frameNow_setFrame h hsame]
    exact ⟨_, frameFwd_setFrame hset (Frame.same_iff.2 ⟨rfl, rfl, rfl⟩) hw⟩
  · exact ⟨g.deliveredAo, hset⟩

/-! ## SAMPLE (R104, R105, R109, R119) -/

theorem completes_sample (h : recordReady s f 3 t r fr p) (hP : P ((s.withoutRecord (f, t, r)).takeSample r t p fr)) :
    Completes (.sample f) s P :=
  completes_record h (act := State.takeSample) rfl hP

/-- A part of a SAMPLE does not carry the revealed indices of its commit that are next, or is not flagged LAST where they end
(R104, R105, R109). -/
def sampleUnfit (r : List Byte) (l : PLayer) (c : Commit) : Bool :=
  evCmt r ≠ c.cmt.toNat || evKind r ≠ c.kind
  || !sampleOk (sampleElems l) (sampleEntry l (evFmt r)) c.idx c.answered r (evCount r)
  || evLast r ≠ decide (c.answered + evCount r = c.idx.length)

theorem sampleUnfit_eq_false_iff : sampleUnfit r l c = false ↔
    evCmt r = c.cmt.toNat ∧ evKind r = c.kind ∧
    sampleOk (sampleElems l) (sampleEntry l (evFmt r)) c.idx c.answered r (evCount r) = true ∧
    (evLast r = true ↔ c.answered + evCount r = c.idx.length) := by
  have hlast : evLast r = decide (c.answered + evCount r = c.idx.length) ↔
      (evLast r = true ↔ c.answered + evCount r = c.idx.length) := by
    rw [Bool.eq_iff_iff, decide_eq_true_iff]
  simp only [sampleUnfit, Bool.or_eq_false_iff, decide_eq_false_iff_not, ne_eq, not_not, Bool.not_eq_false', hlast,
    and_assoc]

/-- The commit with a part of its answer. -/
def Commit.sampled (r : List Byte) (c : Commit) : Commit :=
  { c with answered := c.answered + evCount r, st := if evLast r then 3 else 2, samples := c.samples ++ r.drop 32 }

/-- A reveal of round 0 that awaits an answer: issued, and a record stamped `t` comes before its deadline (R119). -/
structure AwaitsSample (s : State) (r : List Byte) (t : Nat) (p : PStream) (fr : Frame) (l : PLayer) (c : Commit) : Prop where
  round : evRound r = 0
  commit : s.commitOf p.num (evFwd r) (evLayer r) = some c
  layer : planLayer p (evLayer r) = some l
  beforeD : s.atD p fr = false
  issued : c.st = 2
  after : c.issuedAo ≤ t
  before : t < c.issuedAo + p.revealDeadline

/-- A SAMPLE of an awaited reveal is added to its commit, or makes the frame malformed. -/
theorem takeSample_awaited (h : AwaitsSample s r t p fr l c) : s.takeSample r t p fr =
    if sampleUnfit r l c then s.setFrame { fr with malformed := true }
    else if evLast r then
      ((s.setCommit (c.sampled r)).taskEvent 2 p.num c.fwd (2 * c.layer + evRound r) t).delivered p fr
    else s.setCommit (c.sampled r) := by
  obtain ⟨hround, hcommit, hl, hd, hst, hafter, hbefore⟩ := h
  have hre : ¬ evRound r = 1 := by omega
  have hround' : ¬ evRound r > 1 := by omega
  have hdead : ¬ c.issuedAo + p.revealDeadline ≤ t := by omega
  have hlate : ¬ t < c.issuedAo := by omega
  have hopen : ¬ (2 : Nat) = 4 := by decide
  unfold State.takeSample sampleUnfit Commit.sampled
  rw [hcommit, hl]
  simp only [hre, hround', hdead, hlate, hd, hst, hopen, if_false, decide_false, decide_true, Bool.not_false, Bool.and_false,
    Bool.false_or, Bool.and_true, ne_eq, not_true_eq_false, Bool.false_eq_true]
  cases evLast r <;> simp only [Bool.false_eq_true, if_false, if_true]

/-! ### What the answer leaves -/

theorem steady_raise {n : Nat} (hn : n ≠ 225) (hp : s.ldr.phase ≠ .blackout) : Steady s (s.raise n) :=
  steady_raiseU hn hp 0xFFFF

/-- Outside a blackout the event of a task monitor's checkpoint leaves verdicts and evidence alone (R575, R576). -/
theorem steady_taskEvent (hp : s.ldr.phase ≠ .blackout) (chk n a b m : Nat) : Steady s (s.taskEvent chk n a b m) := by
  unfold State.taskEvent
  refine .forAll fun k u hu => .ite ?_ (.refl u)
  dsimp only
  split
  · exact .refl u
  · have hset (v : TaskMon) : Steady u ((u.setTask k v).revt 0x30008 5) := .of rfl rfl
    exact .ite ((hset _).trans (steady_raise (by decide) (hu.noBlackout hp))) (.of rfl rfl)

/-- A part of an answer stands in its commit; nothing is written to the journal. -/
theorem takeSample_fits (hp : s.ldr.phase ≠ .blackout) (h : AwaitsSample s r t p fr l c) (hfits : sampleUnfit r l c = false) :
    (s.takeSample r t p fr).vd.records = s.vd.records ∧ (s.takeSample r t p fr).vd.journal = s.vd.journal ∧
    (s.takeSample r t p fr).commitOf p.num (evFwd r) (evLayer r) = some (c.sampled r) := by
  have hset : (s.setCommit (c.sampled r)).commitOf p.num (evFwd r) (evLayer r) = some (c.sampled r) :=
    commitOf_setCommit h.commit ⟨rfl, rfl, rfl⟩
  rw [takeSample_awaited h, if_neg (by rw [hfits]; decide)]
  split
  · have hevent := (steady_taskEvent (s := s.setCommit (c.sampled r)) hp 2 p.num c.fwd (2 * c.layer + evRound r) t).vd
    rw [delivered_eq]
    unfold State.commitOf
    dsimp only
    rw [hevent]
    exact ⟨rfl, rfl, hset⟩
  · exact ⟨rfl, rfl, hset⟩

theorem sampleTaken : sampleTakenPart := by
  intro f s t r fr p l c hready hround hcommit hl hd hst hafter hbefore
  have hwait : AwaitsSample (s.withoutRecord (f, t, r)) r t p fr l c := ⟨hround, hcommit, hl, hd, hst, hafter, hbefore⟩
  refine ⟨fun hfits => completes_sample hready ?_, fun hunfit => completes_sample hready ?_⟩
  · obtain ⟨-, hphase, -⟩ := hready
    obtain ⟨hrecords, hjournal, hset⟩ :=
      takeSample_fits (s := s.withoutRecord (f, t, r)) hphase hwait (sampleUnfit_eq_false_iff.2 hfits)
    exact ⟨hrecords, _, hset, rfl, rfl, rfl, rfl, rfl, hjournal⟩
  · rw [← sampleUnfit_eq_false_iff, Bool.not_eq_false] at hunfit
    rw [takeSample_awaited hwait, if_pos hunfit]
    rfl

/-! ## CANARY (R106, R135) -/

theorem completes_canary (h : recordReady s f 4 t r fr p) (hP : P ((s.withoutRecord (f, t, r)).takeCanary r p fr)) :
    Completes (.canary f) s P :=
  completes_record h (act := fun r _ => State.takeCanary r) rfl hP

theorem takeCanary_first (hd : s.atD p fr = false) (hnone : fr.canaryRec = none) :
    s.takeCanary r p fr = (s.setFrame { fr with canaryRec := some r }).delivered p fr := by
  unfold State.takeCanary
  rw [hd, hnone]
  rfl

/-! ## RESULT (R46, R107, R111, R137) -/

/-- A RESULT of a frame without a verdict (R111). -/
theorem completes_result (h : recordReady s f 5 t r fr p) (hP : P ((s.withoutRecord (f, t, r)).takeResultRec r t p fr)) :
    Completes (.result f) s P := by
  have hexec : exec (.result f) s = execResult f s := rfl
  unfold execResult at hexec
  refine completes_act hexec h.1 ?_
  have hafter : (s.withoutRecord (f, t, r)).lateAfter f t r = s.withoutRecord (f, t, r) := by
    obtain ⟨-, -, -, -, hframe, hp, hformed, -⟩ := h
    have hframe' : (s.withoutRecord (f, t, r)).frameFwd (evStream r) (evFwd r) = some fr := hframe
    have hp' : (s.withoutRecord (f, t, r)).pstream (evStream r) = some p := hp
    unfold State.lateAfter
    rw [hframe', hp']
    dsimp only
    rw [hformed]
    rfl
  rw [evTake_ready h]
  dsimp only
  rwa [hafter, evCheck_ready h]

/-- A frame with its counted RESULT (R107, R111). -/
def Frame.counted (fr : Frame) (r : List Byte) (t env : Nat) : Frame :=
  { fr with result := some (BitVec.ofNat 96 (leField r 32 12)), resultRec := r, resultAo := t, env := env }

/-- The envelope outcome of a RESULT (R137); none where the stream does not run that assay. -/
def State.envOutcome (s : State) (p : PStream) (fr : Frame) (r : List Byte) : Nat :=
  if p.runs.toNat.testBit 3 then s.envelope p fr (BitVec.ofNat 96 (leField r 32 12)) else 0

/-- The RESULT of an admitted frame, by whether it comes before A (R46, R111). -/
theorem takeResultRec_admitted (hres : fr.result = none) (hgold : fr.golden = false) (hdev : s.dev.state ≠ .mismatchHold) :
    s.takeResultRec r t p fr =
      if fr.ingressAo + p.a ≤ t then s.lateResult
      else (((s.setFrame (fr.counted r t (s.envOutcome p fr r))).rmax (0x30200 + 4 * p.num) 31 0
        ((t - fr.ingressAo) / Config.aoPerUs)).delivered p (fr.counted r t (s.envOutcome p fr r))).progress p
        (fr.counted r t (s.envOutcome p fr r)) := by
  have hdev' : ¬ (s.dev.state == .mismatchHold) = true := by simpa only [beq_iff_eq] using hdev
  have hres' : ¬ fr.result.isSome = true := by rw [hres]; decide
  have hgold' : ¬ fr.golden = true := by rw [hgold]; decide
  unfold State.takeResultRec
  dsimp only
  rw [if_neg hres', if_neg hgold', if_neg hdev']
  rfl

theorem steady_rmax (a hi lo v : Nat) (s : State) : Steady s (s.rmax a hi lo v) := .ite (.of rfl rfl) (.refl s)

/-- Whether a verdict can be formed is a matter of the plan and its tiles. -/
theorem ready_congr (hrun : e.run = s.run) (htiles : e.tiles = s.tiles) (g : Frame) : e.ready g = s.ready g := by
  unfold State.ready State.required State.outcomes State.outcome State.quarOwes State.pstream State.tile
  rw [hrun, htiles]

/-- Counting a RESULT reports no assay but the envelope. -/
theorem required_counted {env : Nat} (hreq : s.required p fr 0 = true) (henv : p.required.getLsbD 3 = false) :
    s.required p (fr.counted r t env) 0 = true := by
  obtain ⟨i, hi, hmissing⟩ := List.any_eq_true.1 hreq
  refine List.any_eq_true.2 ⟨i, hi, ?_⟩
  match i, List.mem_range.1 hi, hmissing with
  | 0, _, h => exact h
  | 1, _, h => exact h
  | 2, _, h => exact h
  | 3, _, h =>
    have henv' : p.required.toNat.testBit 3 = false := henv
    rw [henv', Bool.false_and, Bool.false_and] at h
    exact absurd h Bool.false_ne_true

/-- A RESULT before A counts for its frame, whose verdict waits for another assay (R107, R111). -/
theorem takeResultRec_waits {env : Nat} (hp : s.pstream fr.stream = some p) (hp0 : p.p0 = false)
    (hgold : fr.golden = false) (hreq : s.required p fr 0 = true) (henv : p.required.getLsbD 3 = false) (a hi lo v : Nat) :
    (((s.setFrame (fr.counted r t env)).rmax a hi lo v).delivered p (fr.counted r t env)).progress p (fr.counted r t env) =
      (s.setFrame (fr.counted r t env)).rmax a hi lo v := by
  set g := fr.counted r t env
  have hmax := steady_rmax a hi lo v (s.setFrame g)
  have hnow : ((s.setFrame g).rmax a hi lo v).frameNow g = g := by
    unfold State.frameNow
    rw [hmax.vd]
    exact frameNow_setFrame_self g s
  have hready : ((s.setFrame g).rmax a hi lo v).ready g = false := by
    rw [ready_congr hmax.run hmax.tiles]
    refine (ready_of_pstream (s := s) (f := g) hp).trans ?_
    rw [required_counted hreq henv]
    rfl
  unfold State.delivered
  rw [hp0, if_neg Bool.false_ne_true]
  exact progress_waiting hnow hgold hready

theorem canaryAndResult : canaryAndResultPart := by
  intro f s t r fr p
  refine ⟨fun hready hd hnone hw => completes_canary hready ?_,
    fun hready hres hgold hdev hlate => completes_result hready ?_,
    fun hready hres hgold hdev hin hp0 hreq henv hw => completes_result hready ?_⟩
  · obtain ⟨-, -, -, -, hframe, -, -, -, -⟩ := hready
    have hframe' : (s.withoutRecord (f, t, r)).frameFwd (evStream r) (evFwd r) = some fr := hframe
    obtain ⟨d, hset⟩ :=
      frameFwd_delivered (g := { fr with canaryRec := some r }) hframe' (Frame.same_iff.2 ⟨rfl, rfl, rfl⟩) hw
    rw [takeCanary_first (s := s.withoutRecord (f, t, r)) hd hnone]
    refine ⟨?_, ?_, ?_, _, hset, rfl, rfl, rfl⟩ <;> rw [delivered_eq] <;> rfl
  · rw [takeResultRec_admitted (s := s.withoutRecord (f, t, r)) hres hgold hdev, if_pos hlate]
    rfl
  · obtain ⟨-, -, -, -, hframe, hp, hformed, -, -⟩ := hready
    have hp' : s.pstream fr.stream = some p := (frameFwd_key hframe).1 ▸ hp
    set u := s.withoutRecord (f, t, r)
    rw [takeResultRec_admitted (s := u) hres hgold hdev, if_neg (by omega),
      takeResultRec_waits (s := u) hp' hp0 hgold hreq henv]
    have hset : (u.setFrame (fr.counted r t (u.envOutcome p fr r))).frameFwd (evStream r) (evFwd r) = _ :=
      frameFwd_setFrame hframe (Frame.same_iff.2 ⟨rfl, rfl, rfl⟩) hw
    unfold State.frameFwd at hset ⊢
    rw [(steady_rmax ..).vd]
    exact ⟨_, hset, rfl, rfl, rfl, hformed, rfl, rfl⟩

/-- Settles O11: a record that passes the common checks goes to its type's acceptance, and nothing that follows moves its frame or
its commit from where it was found. -/
theorem evidenceRecords : Obligations.EvidenceRecords := ⟨sampleTaken, canaryAndResult⟩

end Sys2Proof.Machine
end

section
/-! O12: reveals issued, not issued, and past their deadline (R103, R117, R119, R415, R416). -/

namespace Sys2Proof.Machine
open Sys2Proof

variable {s : State} {n : Stream} {r : Reveal} {rest : List Reveal} {c : Commit} {p : PStream} {P : State → Prop}

/-- The commit of a reveal that left at AO count `m`, of one that could not leave, and of one past its deadline. -/
def Commit.revealed (c : Commit) (m : Nat) : Commit := { c with st := 2, issuedAo := m }
def Commit.unrevealed (c : Commit) : Commit := { c with st := 6 }
def Commit.lapsed (c : Commit) : Commit := { c with st := 4 }

/-! ## REVEAL_ISSUE (R117, R415, R416) -/

/-- A reference of a task monitor's checkpoint is the monitors' alone (R575). -/
theorem taskRef_monitors (chk m a b t : Nat) (s : State) : ∃ v, s.taskRef chk m a b t = { s with sv := v } := by
  unfold State.taskRef
  refine forAll_keeps (fun e => ∃ v, e = { s with sv := v }) _ (fun k e he => ?_) _ s ⟨s.sv, rfl⟩
  obtain ⟨v, rfl⟩ := he
  split
  · exact ⟨_, rfl⟩
  · exact ⟨v, rfl⟩

/-- The first waiting reveal of round 0 put into slot K of its stream's registration `g`; the monitors have its reference `v`
(R103, R415, R575). -/
def State.revealOut (s : State) (rest : List Reveal) (p : PStream) (r : Reveal) (c : Commit) (g : RevReg) (v : Super) : State :=
  State.setCommit (c.revealed s.ao) { s with
    sv := v, vd.reveals := rest,
    out := .dma p.fn (g.addr + BitVec.ofNat 64 (1024 * (g.k % g.slots))) (revealRec c c.idx r.round) :: s.out,
    q.revReg := mput none s.q.revReg (64 * p.fn + r.stream) (some { g with k := g.k + 1 }) }

theorem revReg_revealOut (g : RevReg) (v : Super) :
    mget none (s.revealOut rest p r c g v).q.revReg (64 * p.fn + r.stream) = some { g with k := g.k + 1 } := by
  have hset : (s.revealOut rest p r c g v).q.revReg =
    mput none s.q.revReg (64 * p.fn + r.stream) (some { g with k := g.k + 1 }) := rfl
  rw [hset, mget_mput_same]

theorem out_revealOut (g : RevReg) (v : Super) : (s.revealOut rest p r c g v).out =
    .dma p.fn (g.addr + BitVec.ofNat 64 (1024 * (g.k % g.slots))) (revealRec c c.idx r.round) :: s.out := rfl

section
variable (hc : s.dev.state ≠ .cold) (hrev : s.vd.reveals = r :: rest) (hround : r.round = 0)
  (hcommit : s.commitOf r.stream r.fwd r.layer = some c) (hp : s.pstream r.stream = some p)
include hc hrev hround hcommit hp

theorem completes_revealIssue_leaves {g : RevReg} (hreg : mget none s.q.revReg (64 * p.fn + r.stream) = some g)
    (hup : s.hl.dlUp = true) (htly : g.tly = false) (h : ∀ v, P (s.revealOut rest p r c g v)) : Completes .revealIssue s P := by
  have hexec : exec .revealIssue s = execRevealIssue s := rfl
  unfold execRevealIssue at hexec
  refine completes_act hexec hc ?_
  have hcommit' : ({ s with vd.reveals := rest } : State).commitOf r.stream r.fwd r.layer = some c := hcommit
  have hp' : ({ s with vd.reveals := rest } : State).pstream r.stream = some p := hp
  rw [hrev]
  dsimp only
  rw [hcommit', hp']
  dsimp only
  rw [hreg]
  obtain ⟨v, hv⟩ := taskRef_monitors 2 p.num c.fwd (2 * c.layer + r.round) s.ao { s with vd.reveals := rest }
  dsimp only at hv
  have htly' : ¬ g.tly = true := by rw [htly]; decide
  simp only [hup, hv, if_neg htly', if_pos hround, State.emit, Bool.not_true, Bool.false_eq_true, if_false]
  exact h v

theorem completes_revealIssue_stays (hreg : mget none s.q.revReg (64 * p.fn + r.stream) = none ∨ s.hl.dlUp = false)
    (h : P (State.setCommit c.unrevealed { s with vd.reveals := rest })) : Completes .revealIssue s P := by
  have hexec : exec .revealIssue s = execRevealIssue s := rfl
  unfold execRevealIssue at hexec
  refine completes_act hexec hc ?_
  have hcommit' : ({ s with vd.reveals := rest } : State).commitOf r.stream r.fwd r.layer = some c := hcommit
  have hp' : ({ s with vd.reveals := rest } : State).pstream r.stream = some p := hp
  rw [hrev]
  dsimp only
  rw [hcommit', hp']
  dsimp only
  rw [if_pos hround]
  split
  · next g hg =>
    have hdown : s.hl.dlUp = false := hreg.resolve_left fun hnone => Option.some_ne_none g (hg.symm.trans hnone)
    simp only [hdown, if_pos hround, Bool.not_false, if_true]
    exact h
  · exact h

end

/-! ## REVEAL_DEADLINE (R119) -/

theorem completes_revealDeadline (hc : s.dev.state ≠ .cold)
    (hfirst : s.vd.commits.find? (fun c => c.stream = n.val && c.st = 2) = some c) (hp : s.pstream n = some p)
    (h : P ((s.advance (c.issuedAo + p.revealDeadline)).setCommit c.lapsed)) : Completes (.revealDeadline n false) s P := by
  have hexec : exec (.revealDeadline n false) s = execRevealDeadline n false s := rfl
  unfold execRevealDeadline at hexec
  refine completes_act hexec hc ?_
  simp only [Bool.false_eq_true, if_false, hfirst, hp]
  exact h

/-- Settles O12: of the three outcomes of a reveal each sets its commit, which is found where it was. -/
theorem reveals : Obligations.Reveals := by
  intro n s r rest c p hc
  refine ⟨fun hrev hround hcommit hp => ⟨fun g hreg hup htly => ?_, fun hreg => ?_⟩, fun hfirst hp hcommit => ?_⟩
  · refine completes_revealIssue_leaves hc hrev hround hcommit hp hreg hup htly fun v => ?_
    exact ⟨rfl, hround ▸ out_revealOut g v, revReg_revealOut g v, commitOf_setCommit hcommit ⟨rfl, rfl, rfl⟩, rfl⟩
  · refine completes_revealIssue_stays hc hrev hround hcommit hp hreg ?_
    exact ⟨rfl, rfl, commitOf_setCommit hcommit ⟨rfl, rfl, rfl⟩⟩
  · refine completes_revealDeadline hc hfirst hp ?_
    exact ⟨le_advance_ao _ s, commitOf_setCommit hcommit ⟨rfl, rfl, rfl⟩, rfl, rfl⟩

end Sys2Proof.Machine
end

section
/-! O15: weight digests (R54, R142, R143, R708). -/

namespace Sys2Proof.Machine
open Sys2Proof

variable {s : State} {f : Fn} {i : Fin 256} {r : PRegion} {bs : List Nat} {data : List Byte} {P : State → Prop}

theorem digest_setDigest (k j : Nat) (d : DigestSt) (s : State) : (s.setDigest k j d).digest k j = d := mget_mput_same ..

/-! ## DIGEST_STEP (R142) -/

/-- The bytes of the step that is next of a region's pass. -/
def State.stepBytes (s : State) (f i : Nat) (r : PRegion) : Nat := min r.step (r.len - (s.digest f i).off)

/-- The banks that serve the digest assay's reads. -/
def State.goodBanks (s : State) : List Nat := (List.range 16).filter fun b => !s.ldg.failed.toNat.testBit b

theorem completes_digestStep {a : W64} {next : Nat} {used : FMap Bool} (hc : s.dev.state ≠ .cold)
    (hr : s.region f i = some r) (ha : mget 0 s.q.digReg (256 * f.val + i.val) = a) (hreg : a ≠ 0)
    (hidle : (s.digest f i).flying = none) (hslot : s.digestSlot = true) (hph : s.ldr.phase ≠ .blackout)
    (htake : takeBufs s.goodBanks (ceilDiv (s.stepBytes f i r) 4096) 0 s.ldg.used = some (bs, next, used))
    (h : P ((State.setDigest f i { s.digest f i with flying := some bs } { s with ldg.used := used }).emit
      (.dmaRead (a + BitVec.ofNat 64 (s.digest f i).off) (s.stepBytes f i r)))) : Completes (.digestStep f i) s P := by
  have hexec : exec (.digestStep f i) s = execDigestStep f i s := rfl
  unfold execDigestStep at hexec
  refine completes_act hexec hc ?_
  have hgo : (decide (a = 0) || (s.digest f i).flying.isSome || !s.digestSlot || decide (s.ldr.phase = .blackout)) = false := by
    rw [decide_eq_false hreg, hidle, hslot, decide_eq_false hph]
    rfl
  unfold State.goodBanks State.stepBytes at htake
  dsimp only
  rw [ha, hr]
  dsimp only
  rw [hgo, if_neg Bool.false_ne_true, htake]
  exact h

/-! ## DIGEST_STEP_DONE (R142, R143) -/

theorem completes_digestStepDone {err : Bool} (hc : s.dev.state ≠ .cold) (h : P (s.digestDone f i data err)) :
    Completes (.digestStepDone f i data err) s P :=
  completes_act (f := State.digestDone f i data err) rfl hc h

/-- The running CRC-64 with the bytes of a step folded in. -/
def State.stepCrc (s : State) (f i : Nat) (r : PRegion) (data : List Byte) : Nat :=
  crcRun 64 0x42F0E1EBA9EA3693 true (s.digest f i).crc.toNat (slice 0 (s.stepBytes f i r) data)

section
variable (hr : s.region f i = some r) (hfly : (s.digest f i).flying = some bs)
include hr hfly

/-- A step inside the region (R142). -/
theorem digestDone_inside (hin : (s.digest f i).off + s.stepBytes f i r < r.len) :
    s.digestDone f i data false = (s.freeBufs bs).setDigest f i
      { off := (s.digest f i).off + s.stepBytes f i r, crc := BitVec.ofNat 64 (s.stepCrc f i r data), retried := false,
        flying := none } := by
  unfold State.stepBytes at hin
  unfold State.digestDone
  rw [hr]
  dsimp only
  rw [hfly]
  dsimp only
  rw [if_neg Bool.false_ne_true, if_pos hin]
  rfl

/-- The last step of a region whose digest matches the plan's (R143). -/
theorem digestDone_match (hend : r.len ≤ (s.digest f i).off + s.stepBytes f i r)
    (hmatch : reflect 64 (s.stepCrc f i r data) ^^^ 0xFFFFFFFFFFFFFFFF = r.digest.toNat) :
    s.digestDone f i data false = forAll (s.streamsOf f) (fun p u => u.passDone f i true p)
      ((s.freeBufs bs).setDigest f i .reset) := by
  unfold State.stepCrc at hmatch
  unfold State.stepBytes at hend hmatch
  unfold State.digestDone
  rw [hr]
  dsimp only
  rw [hfly]
  dsimp only
  rw [if_neg Bool.false_ne_true, if_neg (by omega), hmatch, decide_eq_true rfl]
  rfl

/-- A first error: the step is read again (R142). -/
theorem digestDone_error (hfirst : (s.digest f i).retried = false) :
    s.digestDone f i data true =
      ((s.freeBufs bs).setDigest f i { s.digest f i with flying := none, retried := true }).raiseU 199 f := by
  unfold State.digestDone
  rw [hr]
  dsimp only
  rw [hfly]
  dsimp only
  rw [if_pos rfl, hfirst]
  rfl

end

/-- A buffer that was freed is free (R353). -/
theorem freed_freeBufs (bs : List Nat) (s : State) {b : Nat} (hb : b ∈ bs) : mget false (s.freeBufs bs).ldg.used b = false :=
  mget_freed bs s.ldg.used (.inl hb)

/-! ### A matching pass (R54, R143) -/

/-- Stream `n` has no standing violation of region `i`, and a whole pass over it in the present interval. -/
def Covers (s : State) (i n : Nat) : Prop := ¬ i ∈ (s.stream n).dgBad ∧ i ∈ (s.stream n).dgRegs

/-- A matching pass changes one stream. -/
theorem passDone_match (k j : Nat) (p : PStream) (s : State) :
    ∃ v, s.passDone k j true p = s.setStream p.num v ∧ (v.dgBad = (s.stream p.num).dgBad.filter fun k => k ≠ j) ∧
      j ∈ v.dgRegs := by
  refine ⟨_, rfl, rfl, ?_⟩
  dsimp only
  split
  · next h => simpa using h
  · exact List.mem_append_right _ List.mem_cons_self

theorem covers_passDone_self (k j : Nat) (p : PStream) (s : State) : Covers (s.passDone k j true p) j p.num := by
  obtain ⟨v, hpass, hbad, hregs⟩ := passDone_match k j p s
  unfold Covers
  rw [hpass, State.stream_setStream, if_pos rfl, hbad]
  exact ⟨by simp, hregs⟩

theorem Covers.passDone {j n : Nat} (h : Covers s j n) (k : Nat) (p : PStream) : Covers (s.passDone k j true p) j n := by
  by_cases hn : n = p.num
  · exact hn ▸ covers_passDone_self k j p s
  · obtain ⟨v, hpass, -⟩ := passDone_match k j p s
    unfold Covers
    rw [hpass, State.stream_setStream, if_neg hn]
    exact h

/-- Every stream of the tenant is covered by its part of the pass. -/
theorem covers_passesDone (k j : Nat) {p : PStream} {l : List PStream} (hp : p ∈ l) (s : State) :
    Covers (forAll l (fun p u => u.passDone k j true p) s) j p.num := by
  induction l generalizing s with
  | nil => exact absurd hp List.not_mem_nil
  | cons q l ih =>
    rw [forAll_cons]
    obtain rfl | hl := List.mem_cons.1 hp
    · exact forAll_keeps (Covers · j p.num) _ (fun q u h => h.passDone k q) l _ (covers_passDone_self k j p s)
    · exact ih hl _

theorem passesDone_eq (k j : Nat) (l : List PStream) (s : State) :
    ∃ v, forAll l (fun p u => u.passDone k j true p) s = { s with streams := v } := by
  refine forAll_keeps (fun e => ∃ v, e = { s with streams := v }) _ (fun q e he => ?_) l s ⟨s.streams, rfl⟩
  obtain ⟨v, rfl⟩ := he
  exact ⟨_, rfl⟩

/-! ## DIGEST_INTERVAL_END (R708) -/

/-- A whole pass over every weight region of the stream's tenant has finished in the present interval. -/
def State.allPassed (s : State) (n : Nat) (p : PStream) (w : Running) : Bool :=
  w.img.regions.all fun x => x.fn != p.fn || (s.stream n).dgRegs.contains x.index

/-- A stream at the end of a digest interval: without all passes a coverage lapse holds. -/
def State.intervalEnded (s : State) (n : Nat) (p : PStream) (w : Running) : StreamV :=
  { s.stream n with dgLapse := (s.stream n).dgLapse || !s.allPassed n p w, dgRegs := [] }

theorem completes_digestIntervalEnd {n : Stream} {p : PStream} {w : Running} (hc : s.dev.state ≠ .cold)
    (hp : s.pstream n = some p) (hw : s.run = some w) (hruns : p.runs.getLsbD 5 = true) (hph : s.ldr.phase ≠ .blackout)
    (h : P { (s.advance (mget 0 s.vd.dgStart n + p.digestInterval)).setStream n (s.intervalEnded n p w) with
      vd.dgStart := mput 0 s.vd.dgStart n (mget 0 s.vd.dgStart n + p.digestInterval) }) :
    Completes (.digestIntervalEnd n) s P := by
  have hexec : exec (.digestIntervalEnd n) s = execDigestIntervalEnd n s := rfl
  unfold execDigestIntervalEnd at hexec
  refine completes_act hexec hc ?_
  have hruns' : p.runs.toNat.testBit 5 = true := hruns
  dsimp only
  rw [hp, hw]
  dsimp only
  rw [if_neg (by simp [hruns', hph])]
  exact h

theorem weightDigest_listed : (romCfg 199).reserved = false := by decide +kernel

/-- Settles O15: each end of a step sets the region's pass, and a match then covers the tenant's streams one by one. -/
theorem digestPass : Obligations.DigestPass := by
  intro f i s r hc hr d a m crc
  refine ⟨fun bs next used hreg hidle hslot hph htake => ?_, fun bs data hfly => ⟨fun hin => ?_, fun hend hmatch => ?_,
    fun hfirst hph => ?_⟩, fun n p w hp hw hruns hph => ?_⟩
  · refine completes_digestStep hc hr rfl hreg hidle hslot hph htake ?_
    exact ⟨digest_setDigest .., rfl, rfl, rfl, rfl⟩
  · refine completes_digestStepDone hc ?_
    rw [digestDone_inside hr hfly hin]
    exact ⟨digest_setDigest .., fun b hb => freed_freeBufs bs s hb, rfl⟩
  · refine completes_digestStepDone hc ?_
    rw [digestDone_match hr hfly hend hmatch]
    have hcovers (p : PStream) (hp : p ∈ s.streamsOf f) := covers_passesDone f i hp ((s.freeBufs bs).setDigest f i .reset)
    obtain ⟨v, hpass⟩ := passesDone_eq f i (s.streamsOf f) ((s.freeBufs bs).setDigest f i .reset)
    refine ⟨?_, ?_, fun b hb => ?_, hcovers⟩ <;> rw [hpass]
    · exact digest_setDigest ..
    · rfl
    · exact freed_freeBufs bs s hb
  · refine completes_digestStepDone hc ?_
    rw [digestDone_error hr hfly hfirst]
    set u := (s.freeBufs bs).setDigest f i { s.digest f i with flying := none, retried := true } with hu
    have hvd := (steady_raiseU (s := u) (n := 199) (by decide) hph f).vd
    refine ⟨(raisedIn_raiseU (s := u) f weightDigest_listed hc).of_sameSrc rfl, ?_, ?_⟩
    · unfold State.digest
      rw [hvd]
      exact digest_setDigest ..
    · rw [hvd]
      rfl
  · refine completes_digestIntervalEnd hc hp hw hruns hph ?_
    have hstream : ((s.advance (mget 0 s.vd.dgStart n + p.digestInterval)).setStream n (s.intervalEnded n p w)).stream n =
      s.intervalEnded n p w := (State.stream_setStream ..).trans (if_pos rfl)
    exact ⟨le_advance_ao _ s, congrArg StreamV.dgLapse hstream, congrArg StreamV.dgRegs hstream, mget_mput_same ..,
      (congrArg StreamV.dgBad hstream).trans rfl, rfl, rfl⟩

end Sys2Proof.Machine
end

section
/-! O16: assay results counted for their frame (R78, R130, R135, R276). -/

namespace Sys2Proof.Machine
open Sys2Proof

variable {s : State} {x : BitVec 512} {rest : List (BitVec 512 × Bool)} {l : List Byte} {fr f : Frame} {p : PStream}
  {c : Commit} {P : State → Prop}

/-- A frame with a sound result record of kind `k`, delivered at AO count `m` (R78). -/
def Frame.reported (fr : Frame) (k m : Nat) (l : List Byte) : Frame :=
  { fr with tiles := fr.tiles ++ [(leField l 10 2, m)], ktiles := fr.ktiles ++ [(k, leField l 10 2)],
            viol := if leField l 2 1 = 3 then fr.viol ++ [(k, leField l 10 2, leField l 8 2, computed l)] else fr.viol }

/-- A commit with the outcome of its layer's result record. -/
def Commit.resulted (c : Commit) (l : List Byte) : Commit :=
  { c with outcome := max c.outcome (leField l 2 1), rows := leField l 16 4 }

/-! ## What a record reaches (R130, R276) -/

/-- The record of a committed layer: its commit, then the frame's layers. -/
theorem assayResult_layer {k : Nat} (h : resultReady s k x rest l fr p) (hk : k ≠ 3)
    (hc : s.commitOf (leField l 0 1) (leField l 4 4) (leField l 8 2) = some c) :
    s.assayResult k = (((s.untaken rest).setFrame (fr.reported k s.ao l)).setCommit (c.resulted l)).reLayer p
      (fr.reported k s.ao l) := by
  obtain ⟨-, -, hres, hl, hkind, hcrc, hframe, hp, -, hformed, -⟩ := h
  have hframe' : (s.untaken rest).frameFwd (leField l 0 1) (leField l 4 4) = some fr := hframe
  have hp' : (s.untaken rest).pstream (leField l 0 1) = some p := hp
  have hc' (g : Frame) :
    ((s.untaken rest).setFrame g).commitOf (leField l 0 1) (leField l 4 4) (leField l 8 2) = some c := hc
  have hopen : ¬ fr.formed.isSome = true := by rw [hformed]; decide
  unfold State.assayResult
  rw [takeResult_head hres hl hcrc hkind]
  dsimp only
  rw [hframe', hp', hcrc]
  simp only [if_neg hopen, if_neg hk, hc', Bool.not_true, Bool.false_and, Bool.false_eq_true, if_true, if_false]
  rfl

/-- The record of the canary assay, where the frame's CANARY record has come (R135). -/
theorem assayResult_canary (h : resultReady s 3 x rest l fr p) (hcan : fr.canaryRec.isSome = true) :
    s.assayResult 3 = (((s.untaken rest).setFrame (fr.reported 3 s.ao l)).setFrame
      ((fr.reported 3 s.ao l).raiseOut 3 (leField l 2 1))).progress p ((fr.reported 3 s.ao l).raiseOut 3 (leField l 2 1)) := by
  obtain ⟨-, -, hres, hl, hkind, hcrc, hframe, hp, -, hformed, -⟩ := h
  have hframe' : (s.untaken rest).frameFwd (leField l 0 1) (leField l 4 4) = some fr := hframe
  have hp' : (s.untaken rest).pstream (leField l 0 1) = some p := hp
  have hopen : ¬ fr.formed.isSome = true := by rw [hformed]; decide
  unfold State.assayResult
  rw [takeResult_head hres hl hcrc hkind]
  dsimp only
  rw [hframe', hp', hcrc]
  simp only [if_neg hopen, Bool.not_true, Bool.false_and, Bool.false_eq_true, if_true, if_false]
  split
  · rfl
  · next hnone =>
    rw [hnone] at hcan
    exact absurd hcan Bool.false_ne_true

/-! ## What it raises (R47, R130) -/

/-- A frame with the outcomes that its layers give it (R130). -/
def State.withLayers (s : State) (p : PStream) (f : Frame) : Frame :=
  { f with row := max f.row (s.layersOut p f 0), reexec := max f.reexec (s.layersOut p f 1) }

/-- Before its result an admitted frame's layers raise its outcomes and form no verdict (R47, R130). -/
theorem reLayer_noResult (hnow : s.frameNow f = f) (hgold : f.golden = false) (hres : f.result = none) :
    s.reLayer p f = s.setFrame (s.withLayers p f) := by
  unfold State.reLayer
  rw [hnow]
  exact progress_waiting (frameNow_setFrame_self ..) hgold (ready_noResult hres)

/-- A violated layer decides the outcome of its kind (R130). -/
theorem layersOut_violated {w kind : Nat} {y : PLayer} (hw : f.fwd = some w) (hy : y ∈ p.layers) (hkind : y.kind = kind)
    (hc : s.commitOf f.stream w y.layer = some c) (ho : c.outcome = 3) : s.layersOut p f kind = 3 := by
  have hmem : y ∈ p.layers.filter (fun l => l.kind = kind) := List.mem_filter.2 ⟨hy, decide_eq_true hkind⟩
  have hne : (p.layers.filter (fun l => l.kind = kind)).isEmpty = false := by
    rw [Bool.eq_false_iff]
    exact fun hempty => List.ne_nil_of_mem hmem (List.isEmpty_iff.1 hempty)
  unfold State.layersOut
  rw [hw]
  dsimp only
  rw [hne, if_neg Bool.false_ne_true, if_pos]
  refine List.any_eq_true.2 ⟨some c, List.mem_map.2 ⟨y, hmem, hc⟩, ?_⟩
  dsimp only
  rw [decide_eq_true ho, Bool.or_true]

/-- From `s` to `e` a result record of kind `k` was taken and counted for its frame, with its tile and time; its outcome raises
the frame's for the canary assay, and where it is VIOLATED for the assay of the layer's kind (R78, R130, R135). -/
def Counted (s : State) (rest : List (BitVec 512 × Bool)) (l : List Byte) (fr : Frame) (p : PStream) (k : Nat) (e : State) :
    Prop :=
  e.vd.results = rest ∧ e.vd.journal = s.vd.journal ∧
  ∃ g, e.frameFwd (leField l 0 1) (leField l 4 4) = some g ∧ g.tiles = fr.tiles ++ [(leField l 10 2, s.ao)] ∧
    g.ktiles = fr.ktiles ++ [(k, leField l 10 2)] ∧ g.formed = none ∧
    (k = 3 → g.canary = max fr.canary (leField l 2 1)) ∧ (k ≠ 3 → g.canary = fr.canary) ∧
    (∀ y ∈ p.layers, y.layer = leField l 8 2 → y.kind = 0 → k ≠ 3 → leField l 2 1 = 3 → 3 ≤ g.row) ∧
    (∀ y ∈ p.layers, y.layer = leField l 8 2 → y.kind = 1 → k ≠ 3 → leField l 2 1 = 3 → 3 ≤ g.reexec)

/-- The frame as reported stands where it was found. -/
theorem frameFwd_reported {n w : Nat} (h : s.frameFwd n w = some fr) (hw : fr.fwd = some w) (k m : Nat) (l : List Byte) :
    (s.setFrame (fr.reported k m l)).frameFwd n w = some (fr.reported k m l) :=
  frameFwd_setFrame h (Frame.same_iff.2 ⟨rfl, rfl, rfl⟩) hw

/-- The record of a committed layer counts, and raises the layer's outcome. -/
theorem counted_layer {k : Nat} (h : resultReady s k x rest l fr p) (hk : k ≠ 3)
    (hc : s.commitOf (leField l 0 1) (leField l 4 4) (leField l 8 2) = some c) (hmax : c.outcome ≤ 3)
    (hw : fr.fwd = some (leField l 4 4)) :
    Counted s rest l fr p k (s.assayResult k) ∧
    (s.assayResult k).commitOf (leField l 0 1) (leField l 4 4) (leField l 8 2) = some (c.resulted l) := by
  set g := fr.reported k s.ao l
  set v := ((s.untaken rest).setFrame g).setCommit (c.resulted l)
  have heq : s.assayResult k = v.setFrame (v.withLayers p g) := by
    obtain ⟨-, -, -, -, -, -, -, -, hgold, -, hnone⟩ := id h
    have hnow : v.frameNow g = g := frameNow_setFrame_self g (s.untaken rest)
    exact (assayResult_layer h hk hc).trans (reLayer_noResult hnow hgold hnone)
  obtain ⟨-, -, -, -, -, -, hframe, -, -, hformed, -⟩ := h
  have hreported : v.frameFwd (leField l 0 1) (leField l 4 4) = some g := frameFwd_reported (s := s.untaken rest) hframe hw ..
  have hcommit : v.commitOf (leField l 0 1) (leField l 4 4) (leField l 8 2) = some (c.resulted l) :=
    commitOf_setCommit (s := (s.untaken rest).setFrame g) hc ⟨rfl, rfl, rfl⟩
  have hlayer (kind : Nat) (y : PLayer) (hy : y ∈ p.layers) (hl : y.layer = leField l 8 2) (hkind : y.kind = kind)
      (ho : leField l 2 1 = 3) : v.layersOut p g kind = 3 := by
    have hviol : (c.resulted l).outcome = 3 := by
      show max c.outcome (leField l 2 1) = 3
      omega
    refine layersOut_violated hw hy hkind ?_ hviol
    rw [(frameFwd_key hreported).1, hl]
    exact hcommit
  rw [heq]
  refine ⟨⟨rfl, rfl, _, frameFwd_setFrame hreported (Frame.same_iff.2 ⟨rfl, rfl, rfl⟩) hw, rfl, rfl, hformed,
    fun h3 => absurd h3 hk, fun _ => rfl, fun y hy hl hkind _ ho => ?_, fun y hy hl hkind _ ho => ?_⟩, hcommit⟩
  · exact (hlayer 0 y hy hl hkind ho).symm.le.trans (le_max_right ..)
  · exact (hlayer 1 y hy hl hkind ho).symm.le.trans (le_max_right ..)

/-- The record of the canary assay counts for a frame whose CANARY record has come (R135). -/
theorem counted_canary (h : resultReady s 3 x rest l fr p) (hcan : fr.canaryRec.isSome = true)
    (hw : fr.fwd = some (leField l 4 4)) : Counted s rest l fr p 3 (s.assayResult 3) := by
  set g := fr.reported 3 s.ao l
  set v := (s.untaken rest).setFrame g
  have heq : s.assayResult 3 = v.setFrame (g.raiseOut 3 (leField l 2 1)) := by
    obtain ⟨-, -, -, -, -, -, -, -, hgold, -, hnone⟩ := id h
    exact (assayResult_canary h hcan).trans (progress_waiting (frameNow_setFrame_self ..) hgold (ready_noResult hnone))
  obtain ⟨-, -, -, -, -, -, hframe, -, -, hformed, -⟩ := h
  have hreported : v.frameFwd (leField l 0 1) (leField l 4 4) = some g := frameFwd_reported (s := s.untaken rest) hframe hw ..
  rw [heq]
  exact ⟨rfl, rfl, _, frameFwd_setFrame hreported (Frame.same_iff.2 ⟨rfl, rfl, rfl⟩) hw, rfl, rfl, hformed, fun _ => rfl,
    fun hk => absurd rfl hk, fun _ _ _ _ hk => absurd rfl hk, fun _ _ _ _ hk => absurd rfl hk⟩

/-- Settles O16: before its result a frame waits for it, so a record counts, raises its outcome and forms no verdict. -/
theorem assayResults : Obligations.AssayResults := by
  intro s x rest l fr p o counted
  refine ⟨fun c hc hmax hw => ⟨fun h => ?_, fun h => ?_⟩, fun h hcan hw => ?_⟩
  · obtain ⟨hcounted, hcommit⟩ := counted_layer h (by decide) hc hmax hw
    exact completes_act (f := State.assayResult 1) rfl h.1 ⟨hcounted, _, hcommit, rfl⟩
  · obtain ⟨hcounted, hcommit⟩ := counted_layer h (by decide) hc hmax hw
    exact completes_act (f := State.assayResult 2) rfl h.1 ⟨hcounted, _, hcommit, rfl⟩
  · exact completes_act (f := State.assayResult 3) rfl h.1 (counted_canary h hcan hw)

end Sys2Proof.Machine
end

section
/-! O24: loads and stores of tile instructions (R154, R242, R256, R258). -/

namespace Sys2Proof.Machine
open Sys2Proof

variable {s e : State} {tl : Tile} {c : Ctx}

/-! ## A memory operand in its window (R157, R158, R242) -/

/-- A read without an error of its own, of a word without a planted one, is clean. -/
theorem eccAt_ok {v : TileSt} {a : Nat} (h : mget 0 v.plant (a / 8) = 0) : v.eccAt a .ok = .ok := by
  unfold TileSt.eccAt
  rw [h]
  rfl

theorem tile_ctxUpd (t k u : Nat) (f : CtxSt → CtxSt) (s : State) : (s.ctxUpd t k f).tile u =
    if u = t then { s.tile t with ctxs := mput CtxSt.reset (s.tile t).ctxs k (f (s.ctx t k)) } else s.tile u :=
  State.tile_setTile ..

/-- An operand in its window, read without an error: the instruction's own effect takes place, on the state as traced. -/
theorem runsAs_memOp {i : Instr} {w bank ar ea : Nat} {disp : Int} {ecc : EccOut} {f : Nat → State → State}
    {P : State → State → Prop} (hread : readsAt s tl c bank ar disp ecc ea)
    (hexec : exec i s = (s.issue tl c w (fun p => State.memOp tl c p bank ar disp ecc f)).done)
    (hP : P (s.trace tl c w 0) (f ea (s.trace tl c w 0))) : runsAs s tl c w i P := by
  rintro ⟨hissue, hlegal, -, -⟩
  obtain ⟨rfl, hplant, p, hcfg, haddr⟩ := hread
  refine ⟨f ea (s.trace tl c w 0), ?_, hP⟩
  rw [hexec, issue_legal hissue hcfg hlegal, done_eq]
  unfold State.memOp
  rw [trace_ctx, haddr, trace_tile]
  dsimp only
  rw [eccAt_ok hplant]
  rfl

/-! ## Loads (R154, R256) -/

theorem leNat_lt (l : List Byte) : leNat l < 2 ^ (8 * l.length) := by
  induction l with
  | nil => exact Nat.one_pos
  | cons b l ih =>
    have hb := b.isLt
    rw [leNat, List.length_cons, Nat.mul_succ, Nat.pow_add]
    omega

/-- The poison mask of one register. -/
theorem getLsbD_mark {k j : Nat} (hj : j < 20) : (BitVec.ofNat 20 (2 ^ k)).getLsbD j = decide (j = k) := by
  rw [BitVec.getLsbD_ofNat, Nat.testBit_two_pow, decide_eq_true hj, Bool.true_and]
  exact decide_eq_decide.2 eq_comm

/-- A register written takes the poison of what it was computed from; the others keep theirs (R158). -/
theorem bad_put (x : CtxSt) (k : Nat) (v : W32) (bad : Bool) {j : Nat} (hj : j < 20) :
    (x.put k v bad).bad j = if j = k then bad else x.bad j := by
  change (x.put k v bad).poison.getLsbD j = if j = k then bad else x.poison.getLsbD j
  have hmark := getLsbD_mark (k := k) hj
  unfold CtxSt.put
  dsimp only
  generalize BitVec.ofNat 20 (2 ^ k) = m at hmark ⊢
  cases bad
  · rw [if_neg Bool.false_ne_true, BitVec.getLsbD_and, BitVec.getLsbD_not, hmark, decide_eq_true hj]
    by_cases h : j = k <;> simp [h]
  · rw [if_pos rfl, BitVec.getLsbD_or, hmark]
    by_cases h : j = k <;> simp [h]

/-- A register moved into: it alone is written, and no code (R254, R255). -/
theorem wrote_move (x : CtxSt) (k : Nat) (v : W32) (bad : Bool) :
    keepsCodes x (x.move k v bad) ∧ wrote x (x.move k v bad) k v bad (x.pc + 1) :=
  ⟨⟨rfl, rfl, rfl, rfl, rfl⟩, fun _ => mget_mput .., fun _ hj => bad_put x k v bad hj, rfl, rfl, rfl, rfl⟩

/-- What a load of `n` bytes puts into its register: their value, sign-extended where `sign` (R256). -/
theorem extended {n raw : Nat} (hn : n ∈ [1, 2, 4]) (hraw : raw < 2 ^ (8 * n)) {sign : Bool} (hsign : sign = true → n ≠ 4) :
    let r : W32 := if sign then BitVec.ofInt 32 (sext (8 * n) raw) else BitVec.ofNat 32 raw
    if sign ∧ 2 ^ (8 * n - 1) ≤ raw then r.toInt = (raw : Int) - (2 ^ (8 * n) : Nat) else r.toNat = raw := by
  have hsize : n = 1 ∨ n = 2 ∨ n = 4 := by simpa using hn
  cases sign with
  | false =>
    have hfits : raw < 2 ^ 32 := lt_of_lt_of_le hraw (Nat.pow_le_pow_right (by decide) (by omega))
    simpa using hfits
  | true =>
    have hshort : 2 ^ (8 * n) ≤ 2 ^ 16 := Nat.pow_le_pow_right (by decide) (by have := hsign rfl; omega)
    have hsext : sext (8 * n) raw = if raw < 2 ^ (8 * n - 1) then (raw : Int) else (raw : Int) - (2 ^ (8 * n) : Nat) := by
      unfold sext
      rw [Nat.mod_eq_of_lt hraw]
    by_cases hpos : raw < 2 ^ (8 * n - 1)
    · have hfits : raw < 2 ^ 32 := by omega
      rw [if_neg (by omega), if_pos rfl, hsext, if_pos hpos, BitVec.ofInt_natCast, BitVec.toNat_ofNat, Nat.mod_eq_of_lt hfits]
    · rw [if_pos ⟨rfl, by omega⟩, if_pos rfl, hsext, if_neg hpos]
      exact BitVec.toInt_ofInt_eq_self (by decide) (by omega) (by omega)

theorem setsCtx_load {i : Instr} {w bank ar ea n : Nat} {disp : Int} {ecc : EccOut} {d : Fin 16} {sign : Bool}
    (hread : readsAt s tl c bank ar disp ecc ea) (hn : n ∈ [1, 2, 4]) (hsign : sign = true → n ≠ 4)
    (hexec : exec i s = (s.issue tl c w (fun p => State.memOp tl c p bank ar disp ecc (State.load tl c d n sign))).done) :
    setsCtx s tl c w i (fun y => keepsCodes (s.ctx tl c) y ∧
      ∃ r : W32, wrote (s.ctx tl c) y d r ((s.tile tl).badAt (ea / n * n) n) ((s.ctx tl c).pc + 1) ∧
        (let raw := leNat ((s.tile tl).read (ea / n * n) n)
         if sign ∧ 2 ^ (8 * n - 1) ≤ raw then r.toInt = (raw : Int) - (2 ^ (8 * n) : Nat) else r.toNat = raw)) := by
  refine runsAs_memOp hread hexec ?_
  unfold State.load State.ctxUpd
  dsimp only
  rw [trace_tile, trace_ctx]
  obtain ⟨hcodes, hwrote⟩ := wrote_move (s.ctx tl c) d
    (if sign then BitVec.ofInt 32 (sext (8 * n) (leNat ((s.tile tl).read (ea / n * n) n)))
     else BitVec.ofNat 32 (leNat ((s.tile tl).read (ea / n * n) n))) ((s.tile tl).badAt (ea / n * n) n)
  refine ⟨_, rfl, hcodes, _, hwrote, extended hn ?_ hsign⟩
  refine lt_of_lt_of_eq (leNat_lt _) ?_
  rw [TileSt.read, List.length_map, List.length_range]

/-! ## Stores (R256, R258) -/

/-- An operand aligned to its size lies within one 64-bit word. -/
theorem aligned_word {ea n : Nat} (hn : n ∈ [1, 2, 4]) :
    (ea / n * n % 8 + n + 7) / 8 = 1 ∧ ea / n * n / 8 = ea / 8 := by
  have hsize : n = 1 ∨ n = 2 ∨ n = 4 := by simpa using hn
  rcases hsize with rfl | rfl | rfl <;> omega

/-- A run of one. -/
theorem mget_foldl_one {α : Type} [DecidableEq α] (d x : α) (m : FMap α) (a j : Nat) :
    mget d ((List.range 1).foldl (fun m i => mput d m (a + i) x) m) j = if j = a then x else mget d m j := by
  rw [mget_foldl_range]
  exact if_congr (by omega) rfl rfl

/-- A store's marks: its one word takes the poison, and loses an error planted there. -/
theorem marks_write {ea n : Nat} (hn : n ∈ [1, 2, 4]) (v : TileSt) {l : List Byte} (hl : l.length = n) (bad : Bool) (k : Nat) :
    mget false (v.write (ea / n * n) l bad).sramPoison k =
      (if k = ea / n * n / 8 then bad else mget false v.sramPoison k) ∧
    mget 0 (v.write (ea / n * n) l bad).plant k = if k = ea / n * n / 8 then 0 else mget 0 v.plant k := by
  unfold TileSt.write
  dsimp only
  rw [hl, (aligned_word hn).1]
  exact ⟨mget_foldl_one .., mget_foldl_one ..⟩

/-- The bytes a store of `n` leaves: the low ones of its register. -/
theorem sram_write (v : TileSt) (a n r : Nat) (bad : Bool) (b : Nat) :
    mget 0 (v.write a (leBytes n r) bad).sram b =
      if a ≤ b ∧ b < a + n then BitVec.ofNat 8 (r / 2 ^ (8 * (b - a))) else mget 0 v.sram b := by
  rw [TileSt.byte_write, leBytes_length]
  split
  · exact lget_leBytes _ (by omega)
  · rfl

/-- With no injection armed on the array a write plants nothing. -/
theorem planted_none (h : s.flt.injTarget ≠ 1) (t a : Nat) : s.planted t a = s := if_neg fun hi => h hi.1

theorem runsAs_store {i : Instr} {w bank ar ea n : Nat} {disp : Int} {ecc : EccOut} {d : Fin 16}
    (hread : readsAt s tl c bank ar disp ecc ea) (hn : n ∈ [1, 2, 4]) (hinj : s.flt.injTarget ≠ 1)
    (hexec : exec i s = (s.issue tl c w (fun p => State.memOp tl c p bank ar disp ecc (State.storeN tl c d n))).done) :
    runsAs s tl c w i (fun s0 e =>
      let x := s.ctx tl c
      let v := s.tile tl
      let a := ea / n * n
      ∃ u, onlyTile s0 e tl u ∧
        u = { v with ctxs := mput CtxSt.reset v.ctxs c { x with pc := x.pc + 1 }, sram := u.sram,
                     sramPoison := u.sramPoison, plant := u.plant } ∧
        (∀ b, mget 0 u.sram b = if a ≤ b ∧ b < a + n then BitVec.ofNat 8 ((x.sreg d).toNat / 2 ^ (8 * (b - a)))
                                else mget 0 v.sram b) ∧
        (∀ k, mget false u.sramPoison k = if k = a / 8 then (v.badAt a n || x.bad d) else mget false v.sramPoison k) ∧
        ∀ k, mget 0 u.plant k = if k = a / 8 then 0 else mget 0 v.plant k) := by
  refine runsAs_memOp hread hexec ?_
  unfold State.storeN
  dsimp only
  rw [trace_tile, trace_ctx]
  generalize hbad : ((s.tile tl).badAt (ea / n * n) n || (s.ctx tl c).bad d) = bad
  have hsram (b : Nat) := sram_write (s.tile tl) (ea / n * n) n ((s.ctx tl c).sreg d).toNat bad b
  have hmarks (k : Nat) := marks_write (ea := ea) hn (s.tile tl) (leBytes_length n ((s.ctx tl c).sreg d).toNat) bad k
  generalize hwritten : (s.tile tl).write (ea / n * n) (leBytes n ((s.ctx tl c).sreg d).toNat) bad = v' at hsram hmarks ⊢
  have hflt : ((s.trace tl c w 0).setTile tl v').flt.injTarget ≠ 1 := by
    rw [State.setTile_flt, trace_frame]
    exact hinj
  rw [planted_none hflt]
  have hv' : v' = { s.tile tl with sram := v'.sram, sramPoison := v'.sramPoison, plant := v'.plant } := by
    rw [← hwritten]
    rfl
  have hset : ((s.trace tl c w 0).setTile tl v').tile tl = v' := (State.tile_setTile ..).trans (if_pos rfl)
  have hctx : ((s.trace tl c w 0).setTile tl v').ctx tl c = s.ctx tl c := by
    rw [State.ctx, hset, hv']
    rfl
  refine ⟨_, ⟨rfl, (tile_ctxUpd ..).trans (if_pos rfl), fun u hu => ?_⟩, ?_, ?_, ?_, ?_⟩
  · rw [tile_ctxUpd, if_neg hu, State.tile_setTile, if_neg hu]
  · rw [hset, hctx, hv']
    rfl
  · rw [hset]
    exact hsram
  · rw [hset]
    exact fun k => (hmarks k).1
  · rw [hset]
    exact fun k => (hmarks k).2

/-- Settles O24: a clean operand leaves the instruction's own effect, a register moved into or one word written. -/
theorem loadsAndStores : Obligations.LoadsAndStores := by
  intro s t c d bank ar disp ecc ea hread
  refine ⟨?_, ?_, ?_, ?_, ?_, fun h => ?_, fun h => ?_, fun h => ?_⟩
  · exact setsCtx_load hread (by decide) (by decide) rfl
  · exact setsCtx_load hread (by decide) (by decide) rfl
  · exact setsCtx_load hread (by decide) (by decide) rfl
  · exact setsCtx_load hread (by decide) (by decide) rfl
  · exact setsCtx_load hread (by decide) (by decide) rfl
  · exact runsAs_store hread (by decide) h rfl
  · exact runsAs_store hread (by decide) h rfl
  · exact runsAs_store hread (by decide) h rfl

end Sys2Proof.Machine
end

section
/-! O30: what a raise outside a blackout writes of the register file (R505 to R512). -/

namespace Sys2Proof.Machine
open Sys2Proof

variable {s e t : State}

/-- The registers that a raise outside a blackout writes: the collector's own, RV_EVT, SIO_EVT and the functions' pages. -/
def raiseReg (a : Nat) : Prop := (0x10000 ≤ a ∧ a < 0x10200) ∨ a = 0x2000C ∨ a = 0x70008 ∨ 0x100000000 ≤ a

/-- From `s` to `e` the array is as it was, a device outside COLD stays outside, and only registers of raises changed. -/
structure Still (s e : State) : Prop extends Steady s e where
  regs : ∀ a, ¬ raiseReg a → e.rget a = s.rget a

theorem Still.refl (s : State) : Still s s := ⟨.refl s, fun _ _ => rfl⟩
theorem Still.trans (h : Still s t) (h' : Still t e) : Still s e :=
  ⟨h.toSteady.trans h'.toSteady, fun a ha => (h'.regs a ha).trans (h.regs a ha)⟩
/-- What leaves the array alone and writes no register. -/
theorem Still.of (h : Steady s e) (hr : e.regs = s.regs) : Still s e :=
  ⟨h, fun a _ => by unfold State.rget; rw [hr]⟩
theorem Still.ite {c : Prop} [Decidable c] {x y : State} (hx : Still s x) (hy : Still s y) : Still s (if c then x else y) := by
  split <;> assumption
theorem Still.forAll {α : Type} {l : List α} {f : α → State → State} (hf : ∀ a t, Still t (f a t)) : Still s (forAll l f s) :=
  forAll_keeps (Still s) f (fun a t ht => ht.trans (hf a t)) l s (.refl s)

theorem still_rset {a : Nat} (ha : raiseReg a) (v : W32) (s : State) : Still s (s.rset a v) :=
  ⟨steady_rset a v s, fun b hb => rget_rset_ne (fun h : b = a => hb (h ▸ ha)) v s⟩
theorem still_revt {a : Nat} (ha : raiseReg a) (b : Nat) (s : State) : Still s (s.revt a b) := still_rset ha _ s
theorem still_rincSat {a : Nat} (ha : raiseReg a) (hi lo k : Nat) (s : State) : Still s (s.rincSat a hi lo k) := still_rset ha _ s
theorem still_rset64 {a : Nat} (ha : raiseReg a) (ha' : raiseReg (a + 4)) (v : Nat) (s : State) : Still s (s.rset64 a v) :=
  (still_rset ha _ s).trans (still_rset ha' _ _)
theorem still_rinc64 {a : Nat} (ha : raiseReg a) (ha' : raiseReg (a + 4)) (k : Nat) (s : State) : Still s (s.rinc64 a k) :=
  (still_rset ha _ s).trans (still_rset ha' _ _)

theorem raiseReg_collector {a : Nat} (h : 0x10000 ≤ a ∧ a < 0x10200) : raiseReg a := .inl h
theorem raiseReg_rvEvt : raiseReg 0x2000C := .inr (.inl rfl)
theorem raiseReg_sioEvt : raiseReg 0x70008 := .inr (.inr (.inl rfl))
theorem raiseReg_page (f o : Nat) : raiseReg (fnAddr f o) := by unfold raiseReg fnAddr; omega

theorem still_msix (f v : Nat) (s : State) : Still s (s.msix f v) := .ite (.of (.of rfl rfl) rfl) (.of (.of rfl rfl) rfl)
theorem still_fnEvtAll (b : Nat) (s : State) : Still s (s.fnEvtAll b) :=
  .forAll fun f t => (still_revt (raiseReg_page f 0x10) b t).trans (still_msix _ _ _)
theorem still_setSrc (k : Nat) (v : SrcState) (s : State) : Still s (s.setSrc k v) := .of (steady_setSrc ..) rfl

/-- A channel driven writes its state and SIO_EVT (R537). -/
theorem still_drive (k : Nat) (on : Bool) (s : State) : Still s (s.drive k on) := by
  refine .trans (t := (({ s.setChan k { s.chan k with energised := on, cmdAt := s.ao } with
    sio.fbWrong := mput 0 s.sio.fbWrong k 0 } : State).fbWatch k)) (.of (.of rfl rfl) rfl) ?_
  exact still_revt raiseReg_sioEvt _ _

theorem still_evalChan (k : Nat) (s : State) : Still s (s.evalChan k) := by
  unfold State.evalChan
  extract_lets c ch s1
  have hoff : Still s s1 := .ite (still_drive ..) (.refl s)
  exact .ite (.ite (still_drive ..) (.refl s))
    (.ite (.ite (still_drive ..) (.refl s)) (.ite (hoff.trans (.of (steady_btStop ..) rfl)) hoff))

theorem still_evalChans (s : State) : Still s s.evalChans := .forAll still_evalChan

theorem still_devTo {d : DevState} (hd : d ≠ .cold) (s : State) : Still s (s.devTo d) := by
  refine ⟨steady_devTo hd s, fun a ha => ?_⟩
  unfold State.devTo
  split
  · rfl
  · exact (still_fnEvtAll 0 { s with dev.state := d }).regs a ha

/-- What follows the device's own part of the entry into a held state. -/
theorem still_held {d : DevState} (hd : d ≠ .cold) (f : StreamV → StreamV) (h : Still s t) :
    Still s (((t.devTo d).holdAll f).endPriv).evalChans := by
  have hto : Still s (t.devTo d) := h.trans (still_devTo hd t)
  have hall : Still s ((t.devTo d).holdAll f) := hto.trans (.forAll fun _ _ => .of (.of rfl rfl) rfl)
  refine .trans (hall.trans ?_) (still_evalChans _)
  unfold State.endPriv
  refine .ite ?_ (.refl _)
  exact .trans (t := { (t.devTo d).holdAll f with rv.privHeld := false }) (.of (.of rfl rfl) rfl) (still_revt raiseReg_rvEvt _ _)

theorem still_enterSafeHold (hp : s.ldr.phase ≠ .blackout) (c : Option Nat) : Still s (s.enterSafeHold c) := by
  unfold State.enterSafeHold State.abandonSwitch
  rw [if_neg hp]
  exact .ite (still_held (by decide) _ (.of ⟨rfl, id⟩ rfl)) (.refl s)

theorem still_enterAlarm (hp : s.ldr.phase ≠ .blackout) : Still s s.enterAlarm := by
  unfold State.enterAlarm State.abandonSwitch
  rw [if_neg hp]
  split
  · exact .refl s
  · exact .refl s
  · exact still_held (by decide) _ (.of ⟨rfl, id⟩ rfl)

theorem still_errPRaise (s : State) : Still s s.errPRaise := by
  refine .of (steady_errPRaise s) ?_
  unfold State.errPRaise
  split
  · rfl
  · split <;> rfl

theorem still_capture {n : Nat} (hn : n < 256) (c : Cap) (s : State) : Still s (s.capture n c) := by
  have hreg (k : Nat) (hk : k < 32) : raiseReg (0x10100 + 32 * (n / 32) + k) := raiseReg_collector (by omega)
  unfold State.capture
  extract_lets a s1 s2 s3
  exact .ite (still_rincSat (hreg 0 (by decide)) ..)
    (((still_rset (hreg 0 (by decide)) _ s).trans (still_rset (hreg 4 (by decide)) _ _)).trans
      ((still_rset (hreg 8 (by decide)) _ _).trans (still_rset64 (hreg 16 (by decide)) (hreg 20 (by decide)) _ _)))

theorem still_trip (n m : Nat) (s : State) : Still s (s.trip n m) := by
  have hreg (a : Nat) (ha : 0x10000 ≤ a ∧ a < 0x10200) : raiseReg a := raiseReg_collector ha
  unfold State.trip
  refine .trans ?_ (still_evalChans _)
  refine .trans (t := ((s.rset 0x10018 (BitVec.ofNat 32 (n + 256 * m))).rset 0x1001C (BitVec.ofNat 32 s.ao)).revt 0x10008 3) ?_
    (.of (steady_rmaxFree ..) rfl)
  exact ((still_rset (hreg _ (by decide)) _ s).trans (still_rset (hreg _ (by decide)) _ _)).trans
    (still_revt (hreg _ (by decide)) _ _)

theorem still_dropMask (m : Nat) (s : State) : Still s (s.dropMask m) := .forAll fun _ _ => .ite (still_drive ..) (.refl _)

/-- The loader's block apart, a block reset leaves the array alone and writes no register (R505). -/
theorem still_blockReset {n : Nat} (hn : n ≠ 225) (s : State) : Still s (s.blockReset n) := by
  unfold State.blockReset
  refine .ite (.of ⟨rfl, id⟩ rfl) (.ite (.forAll fun k t => ?_)
    (.ite (.of (.of rfl rfl) rfl) (.ite (.of (.of rfl rfl) rfl) ?_)))
  · dsimp only
    split
    · exact .ite (.of (.of rfl rfl) rfl) (.refl t)
    · exact .refl t
  · rw [if_neg hn]
    exact .refl s

theorem still_react {n : Nat} (hn : n ≠ 225) (hp : s.ldr.phase ≠ .blackout) : Still s (s.react n) := by
  unfold State.react
  extract_lets cfg s1 tam pol r s2 rv s3 s4 s5 s6 s7 s8
  have hcode : cfg.sev.code < 8 := by cases cfg.sev <;> decide
  have h1 : Still s s1 := still_rinc64 (raiseReg_collector (by omega)) (raiseReg_collector (by omega)) _ _
  have h2 : Still s s2 :=
    h1.trans (.ite ((still_revt (raiseReg_collector (by decide)) _ _).trans (still_msix _ _ _)) (.refl _))
  have h3 : Still s s3 := h2.trans (.ite (.of (.of rfl rfl) rfl) (.refl _))
  have h4 : Still s s4 := h3.trans (.ite (still_errPRaise _) (.refl _))
  have h5 : Still s s5 := h4.trans (.ite ((still_dropMask _ _).trans (still_trip _ _ _)) (.refl _))
  have h6 : Still s s6 := h5.trans (.ite ((still_enterSafeHold (h5.noBlackout hp) _).trans (still_trip _ _ _)) (.refl _))
  have h7 : Still s s7 := h6.trans (.ite ((still_enterAlarm (h6.noBlackout hp)).trans (still_trip _ _ _)) (.refl _))
  have h8 : Still s s8 := h7.trans (.ite (still_blockReset hn _) (.refl _))
  exact h8.trans (.ite (.of ⟨rfl, id⟩ rfl) (.refl _))

/-- A raise outside a blackout leaves the array alone, and every register but those of raises. -/
theorem still_raiseWith {n : Nat} (hn : n < 256) (hn' : n ≠ 225) (hp : s.ldr.phase ≠ .blackout) (l : Bool) (c : Cap) :
    Still s (s.raiseWith n l c) := by
  unfold State.raiseWith
  split
  · exact .refl s
  · extract_lets o us v s1
    have h1 : Still s s1 := still_capture hn c s
    split
    · have hset := h1.trans (still_setSrc n { v with st := .active, depAo := s1.ao } s1)
      exact hset.trans ((still_react hn' (hset.noBlackout hp)).trans (still_evalChans _))
    · exact h1.trans (still_setSrc ..)
    · exact h1.trans (still_setSrc ..)
    · exact h1.trans (still_setSrc ..)

theorem still_raise {n : Nat} (hn : n < 256) (hn' : n ≠ 225) (hp : s.ldr.phase ≠ .blackout) : Still s (s.raise n) :=
  still_raiseWith hn hn' hp ..
theorem still_raiseU {n : Nat} (hn : n < 256) (hn' : n ≠ 225) (hp : s.ldr.phase ≠ .blackout) (u : Nat) : Still s (s.raiseU n u) :=
  still_raiseWith hn hn' hp ..

theorem still_degrade (f : Degr → Degr) (s : State) : Still s (s.degrade f) := by
  have hcount (t : State) : t.startCount.regs = t.regs := by
    unfold State.startCount
    split <;> rfl
  refine ⟨steady_degrade f s, fun a ha => ?_⟩
  have hset : Still s { s with dev.degr := f s.dev.degr } := .of ⟨rfl, id⟩ rfl
  unfold State.degrade
  extract_lets s1
  split
  · rw [(still_evalChans _).regs a ha, State.rget, hcount]
    exact (hset.trans (still_devTo (by decide) _)).regs a ha
  · rw [State.rget, hcount]
    rfl
  · rfl

end Sys2Proof.Machine
end

section
/-! O30: what a tile instruction leaves of the rest, and the quarantine that follows an error it meets (R189 to R191). -/

namespace Sys2Proof.Machine
open Sys2Proof

variable {s e t : State} {tl : Nat}

/-! ## Effects within a tile -/

/-- From `s` to `e` tile `tl` worked: its place in the plan, its count and its poison marks stand, every other tile is as it
was, and no source was raised but POWER_CAP (FS077). -/
structure Within (tl : Nat) (s e : State) : Prop where
  vd : e.vd = s.vd
  ldr : e.ldr = s.ldr
  notCold : s.dev.state ≠ .cold → e.dev.state ≠ .cold
  others : ∀ u, u ≠ tl → e.tile u = s.tile u
  role : (e.tile tl).role = (s.tile tl).role
  qcount : (e.tile tl).qcount = (s.tile tl).qcount
  poison : ∀ k, mget false (s.tile tl).sramPoison k = true → mget false (e.tile tl).sramPoison k = true
  sources : ∀ n, n ≠ 77 → e.src n = s.src n

theorem Within.refl (tl : Nat) (s : State) : Within tl s s :=
  ⟨rfl, rfl, id, fun _ _ => rfl, rfl, rfl, fun _ => id, fun _ _ => rfl⟩
theorem Within.trans (h : Within tl s t) (h' : Within tl t e) : Within tl s e :=
  ⟨h'.vd.trans h.vd, h'.ldr.trans h.ldr, h'.notCold ∘ h.notCold, fun u hu => (h'.others u hu).trans (h.others u hu),
    h'.role.trans h.role, h'.qcount.trans h.qcount, fun k => h'.poison k ∘ h.poison k,
    fun n hn => (h'.sources n hn).trans (h.sources n hn)⟩
theorem Within.noBlackout (h : Within tl s e) (hp : s.ldr.phase ≠ .blackout) : e.ldr.phase ≠ .blackout := h.ldr ▸ hp
theorem Within.ite {c : Prop} [Decidable c] {x y : State} (hx : Within tl s x) (hy : Within tl s y) :
    Within tl s (if c then x else y) := by
  split <;> assumption

/-- What changes no tile and raises no source but POWER_CAP. -/
theorem Within.of (hvd : e.vd = s.vd) (hldr : e.ldr = s.ldr) (hc : s.dev.state ≠ .cold → e.dev.state ≠ .cold)
    (ht : e.tiles = s.tiles) (hsrc : ∀ n, n ≠ 77 → e.src n = s.src n) : Within tl s e := by
  have htile (u : Nat) : e.tile u = s.tile u := congrArg (mget TileSt.reset · u) ht
  exact ⟨hvd, hldr, hc, fun u _ => htile u, by rw [htile], by rw [htile], fun k h => by rwa [htile], hsrc⟩
/-- What changes neither verdicts, plan, device, tiles nor sources. -/
theorem Within.same (hvd : e.vd = s.vd) (hldr : e.ldr = s.ldr) (hdev : e.dev = s.dev) (ht : e.tiles = s.tiles)
    (hsrc : SameSrc s e) : Within tl s e :=
  .of hvd hldr (fun h => hdev ▸ h) ht (fun n _ => src_congr hsrc n)

/-- The tile set, in its place and with its count and its poison marks. -/
theorem within_setTile {v : TileSt} (hr : v.role = (s.tile tl).role) (hq : v.qcount = (s.tile tl).qcount)
    (hb : ∀ k, mget false (s.tile tl).sramPoison k = true → mget false v.sramPoison k = true) :
    Within tl s (s.setTile tl v) := by
  have htl : (s.setTile tl v).tile tl = v := (State.tile_setTile ..).trans (if_pos rfl)
  exact ⟨rfl, rfl, id, fun u hu => (State.tile_setTile ..).trans (if_neg hu), by rw [htl, hr], by rw [htl, hq],
    fun k h => by rw [htl]; exact hb k h, fun _ _ => rfl⟩
theorem within_setCtx (c : Nat) (x : CtxSt) (s : State) : Within tl s (s.setCtx tl c x) :=
  within_setTile rfl rfl fun _ => id
theorem within_ctxUpd (c : Nat) (f : CtxSt → CtxSt) (s : State) : Within tl s (s.ctxUpd tl c f) := within_setCtx c _ s
theorem within_setTwin (w : Nat) (x : Twin) (s : State) : Within tl s (s.setTwin tl w x) := within_setTile rfl rfl fun _ => id

theorem within_revt (a b : Nat) (s : State) : Within tl s (s.revt a b) := .same rfl rfl rfl rfl rfl

/-- A traced issue touches the trace ring alone (R682). -/
theorem within_trace (u c w h : Nat) (s : State) : Within tl s (s.trace u c w h) := by
  rw [trace_frame]
  exact .same rfl rfl rfl rfl rfl

theorem within_eccMark (a : Nat) (o : EccOut) (s : State) : Within tl s (s.eccMark tl a o) := by
  unfold State.eccMark
  split
  · refine within_setTile rfl rfl fun k hk => ?_
    rw [mget_mput]
    split
    · rfl
    · exact hk
  · exact .refl tl s

theorem RaisedIn.of_src {n : Nat} (h : RaisedIn n t e) (hsrc : t.src n = s.src n) : RaisedIn n s e := by
  unfold RaisedIn at h ⊢
  rw [← hsrc]
  exact h

/-! ## Quarantine after an effect within the tile -/

/-- In a calm state every tile after a quarantine is known. -/
theorem tile_quarantineForm {cause : Nat} (hs : (s.tile tl).serves = true) (hcalm : calm s)
    (hc : s.dev.state ≠ .cold) (hp : s.ldr.phase ≠ .blackout) (u : Nat) :
    (s.quarantineForm tl cause).tile u = if u = tl then quarTile (s.tile tl) cause else s.tile u := by
  obtain ⟨⟨v, hv, hsteady⟩, -, -⟩ := quarState_raises (cause := cause) hs hc hp
  have hvd : (s.quarState tl cause).vd = { s.vd with rangeDue := v.vd.rangeDue, results := v.vd.results } := by
    rw [hsteady.vd, hv]; rfl
  rw [quarantineForm_calm (calm_congr (by rw [hvd]) (by rw [hvd]) (by rw [hvd]) hcalm), ← State.tile_setTile]
  refine Eq.trans ?_ ((hsteady.tile u).trans ?_)
  · rfl
  · rw [hv]
    rfl

/-- A quarantine leaves the tile's poison marks. -/
theorem sramPoison_quarantineForm {cause : Nat} (hs : (s.tile tl).serves = true) (hcalm : calm s)
    (hc : s.dev.state ≠ .cold) (hp : s.ldr.phase ≠ .blackout) :
    ((s.quarantineForm tl cause).tile tl).sramPoison = (s.tile tl).sramPoison := by
  have htl : (s.quarantineForm tl cause).tile tl = quarTile (s.tile tl) cause :=
    (tile_quarantineForm hs hcalm hc hp tl).trans (if_pos rfl)
  rw [htl]
  rfl

/-- A source raised of a tile, and the tile's quarantine. -/
def State.tileFault (tl n cause : Nat) (s : State) : State := (s.raiseU n tl).quarantineForm tl cause

/-- An error that a working tile meets quarantines it, in a calm state outside a blackout (R158, R167, R279). -/
theorem quarantined_tileFault {n cause : Nat} (h : Within tl s t) (hcalm : calm s) (hs : (s.tile tl).serves = true)
    (hc : s.dev.state ≠ .cold) (hp : s.ldr.phase ≠ .blackout) (hn : n ∈ [97, 98, 103]) :
    quarantined s (t.tileFault tl n cause) tl cause ∧ RaisedIn n s (t.tileFault tl n cause) ∧
    ∀ k, mget false (t.tile tl).sramPoison k = true → mget false ((t.tileFault tl n cause).tile tl).sramPoison k = true := by
  have hn' : n = 97 ∨ n = 98 ∨ n = 103 := by simpa using hn
  have hlisted : (romCfg n).reserved = false := by rcases hn' with rfl | rfl | rfl <;> decide +kernel
  have hb : Steady t (t.raiseU n tl) := steady_raiseU (by omega) (h.noBlackout hp) tl
  have hraised : RaisedIn n s (t.raiseU n tl) :=
    (raisedIn_raiseU tl hlisted (h.notCold hc)).of_src (h.sources n (by omega))
  have hsrc106 : (t.raiseU n tl).src 106 = s.src 106 := by
    rw [State.raiseU, src_raiseWith_ne (by omega), h.sources 106 (by decide)]
  unfold State.tileFault
  generalize t.raiseU n tl = b at *
  have hserves : (b.tile tl).serves = true := by
    have hrole : (b.tile tl).role = (s.tile tl).role := by rw [hb.tile, h.role]
    unfold TileSt.serves at hs ⊢
    rw [hrole]
    exact hs
  have hcalmb : calm b := calm_of_vd (hb.vd.trans h.vd) hcalm
  have hcold := hb.notCold (h.notCold hc)
  have hphase := hb.noBlackout (h.noBlackout hp)
  obtain ⟨⟨hrole, hcause, hcount, hctx, hraise, hrest⟩, hsame⟩ :=
    quarantined_quarantineForm (cause := cause) hserves hcalmb hcold hphase
  have hpoison := sramPoison_quarantineForm (cause := cause) hserves hcalmb hcold hphase
  refine ⟨⟨hrole, hcause, ?_, hctx, hraise.of_src hsrc106, fun u hu => ?_⟩, ?_, fun k hk => ?_⟩
  · rw [hcount, hb.tile, h.qcount]
  · rw [hrest u hu, hb.tile, h.others u hu]
  · unfold RaisedIn at hraised ⊢
    rw [hsame n (by omega) (by omega)]
    exact hraised
  · rw [hpoison, hb.tile]
    exact hk

end Sys2Proof.Machine
end

section
/-! O30: the memory instructions as effects within their tile (R242, R256 to R263, R270). -/

namespace Sys2Proof.Machine
open Sys2Proof

variable {s e t : State} {tl : Nat}

/-! ## Loads, stores and the mesh -/

theorem within_load (c d n : Nat) (sign : Bool) (ea : Nat) (s : State) : Within tl s (s.load tl c d n sign ea) := by
  unfold State.load
  exact within_ctxUpd ..

/-- A poisoned word marks what is read of it (R158). -/
theorem badAt_of_marked {v : TileSt} {a n k : Nat} (hk : k = a / 8) (hn : 1 ≤ n) (h : mget false v.sramPoison k = true) :
    v.badAt a n = true :=
  List.any_eq_true.2 ⟨0, List.mem_range.2 (by omega), hk ▸ h⟩

/-- A planted error sets the tile's plan of errors and the injection, no source (R514). -/
theorem within_planted (a : Nat) (s : State) : Within tl s (s.planted tl a) := by
  unfold State.planted
  split
  · exact .trans (t := s.setTile tl { s.tile tl with
        plant := mput 0 (s.tile tl).plant (a / 8) (if s.flt.injMode = 1 then 1 else 2) }) (within_setTile rfl rfl fun _ => id)
      (.same rfl rfl rfl rfl rfl)
  · exact .refl tl s

/-- A store keeps the poison of the word that it merges into. -/
theorem within_storeN (c d : Nat) {n : Nat} (hn : n ∈ [1, 2, 4]) (ea : Nat) (s : State) : Within tl s (s.storeN tl c d n ea) := by
  have hpos : 1 ≤ n := by
    have hsize : n = 1 ∨ n = 2 ∨ n = 4 := by simpa using hn
    omega
  unfold State.storeN
  extract_lets v x a
  have hset : Within tl s (s.setTile tl (v.write a (leBytes n (x.sreg d).toNat) (v.badAt a n || x.bad d))) := by
    refine within_setTile rfl rfl fun k hk => ?_
    rw [(marks_write hn v (leBytes_length ..) _ k).1]
    split
    · next hword => rw [badAt_of_marked hword hpos hk, Bool.true_or]
    · exact hk
  exact (hset.trans (within_planted a _)).trans (within_ctxUpd ..)

theorem within_inject (route : Nat) (data : BitVec 512) (bad : Bool) (s : State) : Within tl s (s.inject route data bad) :=
  .same rfl rfl rfl rfl rfl

/-- A result posted is noted in its tile (R197). -/
theorem within_setPosted (l : List (Nat × Nat × Nat × Nat)) (s : State) :
    Within tl s (s.setTile tl { s.tile tl with posted := l }) :=
  within_setTile rfl rfl fun _ => id

/-! ## Contributions (R208, R263) -/

/-- A lane operation spends its quad's energy; POWER_CAP is the one source it can raise (R616, R617). -/
theorem within_spend (hp : s.ldr.phase ≠ .blackout) (q cost : Nat) : Within tl s (s.spend q cost) := by
  have hraise {u : State} (hu : u.ldr.phase ≠ .blackout) : Within tl u (u.raise 77) := by
    have hsteady := steady_raise (n := 77) (by decide) hu
    exact .of hsteady.vd hsteady.ldr hsteady.notCold hsteady.tiles fun n hn => src_raiseWith_ne hn ..
  unfold State.spend
  extract_lets per acc short p1 s1 s2 p2 s3 s4
  have h1 : Within tl s s1 := .same rfl rfl rfl rfl rfl
  have h3 : Within tl s s3 := h1.trans (.same rfl rfl rfl rfl rfl)
  have h4 : Within tl s s4 := h3.trans (.ite (.refl tl s3) (hraise (h3.noBlackout hp)))
  exact .ite h1 (h4.trans (.same rfl rfl rfl rfl rfl))

theorem within_contribute (c w : Nat) (xs : List Elem) (ms : Option (List Elem)) (bad : Bool) (s : State) :
    Within tl s (s.contribute tl c w xs ms bad) :=
  .ite (within_setTwin ..) ((within_setTwin ..).trans (within_setCtx ..))

theorem within_laneStep (hp : s.ldr.phase ≠ .blackout) (c op tw stg : Nat) (neg : Bool) (fa fb : Nat) (sg : Int)
    (eoff rsel ea : Nat) : Within tl s (s.laneStep tl c op tw stg neg fa fb sg eoff rsel true ea) := by
  unfold State.laneStep
  extract_lets v l wbad s1 n js a cp js' s2
  have h1 : Within tl s s1 := within_spend hp ..
  have h2 : Within tl s1 s2 :=
    .ite (within_contribute ..) (forAll_keeps (Within tl s1) _ (fun _ _ h => h.trans (within_contribute ..)) _ _ (.refl tl s1))
  exact (h1.trans h2).trans (within_ctxUpd ..)

theorem within_value (c tw : Nat) (x : Elem) (bad : Bool) (s : State) : Within tl s (s.value tl c tw x bad true) :=
  (within_contribute ..).trans (within_ctxUpd ..)

end Sys2Proof.Machine
end

section
/-! O30: what stops or spoils a tile instruction (R157 to R159, R167, R242, R278, R279). -/

namespace Sys2Proof.Machine
open Sys2Proof

variable {s e t : State} {tl : Tile} {c : Ctx}

/-! ## A memory operand (R242) -/

theorem memOp_bounds {k n bank ar : Nat} {p : PCtx} {disp : Int} (h : effAddr p (s.ctx k n) bank ar disp = none) (ecc : EccOut)
    (f : Nat → State → State) : s.memOp k n p bank ar disp ecc f = s.bounds k n := by
  unfold State.memOp
  rw [h]

theorem memOp_at {k n bank ar ea : Nat} {p : PCtx} {disp : Int} {ecc o : EccOut}
    (h : effAddr p (s.ctx k n) bank ar disp = some ea) (ho : (s.tile k).eccAt ea ecc = o) (f : Nat → State → State) :
    s.memOp k n p bank ar disp ecc f = (f ea (s.eccMark k ea o)).eccDone k o := by
  unfold State.memOp
  rw [h]
  dsimp only
  rw [ho]

/-- A memory instruction that issues acts on the state as traced. -/
theorem exec_issued {i : Instr} {w bank ar : Nat} {disp : Int} {ecc : EccOut} {f : Nat → State → State} {p : PTile}
    (hissue : issues s tl c w) (hcfg : s.tileCfg tl = some p)
    (hexec : exec i s = (s.issue tl c w (fun p => State.memOp tl c p bank ar disp ecc f)).done) :
    exec i s = .next ((s.trace tl c w 0).memOp tl c (ptileCtx p c) bank ar disp ecc f).finish := by
  obtain ⟨hcan, hlegal, -, -⟩ := hissue
  rw [hexec, issue_legal hcan hcfg hlegal, done_eq]

theorem canIssue_serves {k n : Nat} (h : s.canIssue k n = true) : (s.tile k).serves = true := by
  unfold State.canIssue at h
  simp only [Bool.and_eq_true] at h
  exact h.1.1.1.1

/-! ## Outside its window (R159) -/

/-- With no frame held a window violation halts the context, and nothing but its source follows. -/
theorem bounds_noFrames {k n : Nat} (hf : s.vd.frames = []) (hp : s.ldr.phase ≠ .blackout) : s.bounds k n =
    ((s.setCtx k n { (s.ctx k n).stick stBND true with st := .halted }).revt (twAddr k 0x10) 3).raiseU 99 k := by
  have howed : s.owedFrames k n = [] := by
    unfold State.owedFrames
    split
    · rfl
    · rw [hf]
      exact List.filterMap_eq_nil_iff.2 fun _ _ => rfl
  unfold State.bounds
  rw [howed]
  exact formReady_none ((congrArg Verd.frames (steady_raiseU (n := 99) (by decide) (by exact hp) k).vd).trans hf)

theorem Steady.flits (h : Steady s e) : e.flits = s.flits := congrArg (·.2.2.1) h.array

theorem tileSources_listed : ∀ n ∈ [96, 99], (romCfg n).reserved = false := by decide +kernel

theorem runsAs_outside {i : Instr} {w bank ar : Nat} {disp : Int} {ecc : EccOut} {f : Nat → State → State} {p : PTile}
    (hcalm : calm s) (hcfg : s.tileCfg tl = some p) (haddr : effAddr (ptileCtx p c) (s.ctx tl c) bank ar disp = none)
    (hexec : exec i s = (s.issue tl c w (fun p => State.memOp tl c p bank ar disp ecc f)).done) :
    runsAs s tl c w i (fun s0 e => RaisedIn 99 s e ∧ e.flits = s.flits ∧
      e.tiles = (s0.setCtx tl c { s.ctx tl c with st := .halted, flags := (s.ctx tl c).flags ||| 0x80 }).tiles) := by
  intro hissue
  obtain ⟨-, -, hc, hp⟩ := id hissue
  refine ⟨_, exec_issued hissue hcfg hexec, ?_⟩
  have hwithin : Within tl s (s.trace tl c w 0) := within_trace ..
  have hflits : (s.trace tl c w 0).flits = s.flits := by rw [trace_frame]
  have hphase := hwithin.noBlackout hp
  have hcold := hwithin.notCold hc
  rw [memOp_bounds (by rw [trace_ctx]; exact haddr), bounds_noFrames (by rw [hwithin.vd]; exact hcalm.1) hphase, trace_ctx]
  have hsteady := steady_raiseU (s := ((s.trace tl c w 0).setCtx tl c
    { (s.ctx tl c).stick stBND true with st := .halted }).revt (twAddr tl 0x10) 3) (n := 99) (by decide) hphase tl
  refine ⟨?_, hsteady.flits.trans hflits, hsteady.tiles⟩
  have hraised := raisedIn_raiseU (s := ((s.trace tl c w 0).setCtx tl c
    { (s.ctx tl c).stick stBND true with st := .halted }).revt (twAddr tl 0x10) 3) tl (tileSources_listed 99 (by decide)) hcold
  exact hraised.of_sameSrc (by rw [trace_frame]; rfl)

/-! ## Errors of a read, and of a twin (R157, R158, R167) -/

/-- A memory instruction acts by `g` at its operand's address; one that checks residues then tells whether they matched. -/
structure ActsBy (tl : Tile) (c : Ctx) (bank : Fin 16) (ar : Fin 4) (disp : W16) (f : Nat × (EccOut → Bool → Instr))
    (checks : Bool) (g : Nat → State → State) : Prop where
  exec : ∀ ecc res s, exec (f.2 ecc res) s = (s.issue tl c f.1 (fun p => State.memOp tl c p bank ar disp.toInt ecc
    (fun ea s => (g ea s).residue tl (!checks || res)))).done
  within : ∀ ea s, s.ldr.phase ≠ .blackout → Within tl s (g ea s)

section
variable {bank : Fin 16} {ar : Fin 4} {disp : W16} {f : Nat × (EccOut → Bool → Instr)} {checks : Bool} {g : Nat → State → State}
  {p : PTile} {ea : Nat}

theorem ActsBy.exec_sound (h : ActsBy tl c bank ar disp f checks g) (ecc : EccOut) (s : State) : Machine.exec (f.2 ecc true) s =
    (s.issue tl c f.1 (fun p => State.memOp tl c p bank ar disp.toInt ecc g)).done := by
  rw [h.exec, Bool.or_true]
  rfl

theorem ActsBy.outside (h : ActsBy tl c bank ar disp f checks g) (hcalm : calm s) (hcfg : s.tileCfg tl = some p)
    (haddr : effAddr (ptileCtx p c) (s.ctx tl c) bank ar disp.toInt = none) (ecc : EccOut) (res : Bool) :
    runsAs s tl c f.1 (f.2 ecc res) (fun s0 e => RaisedIn 99 s e ∧ e.flits = s.flits ∧
      e.tiles = (s0.setCtx tl c { s.ctx tl c with st := .halted, flags := (s.ctx tl c).flags ||| 0x80 }).tiles) :=
  runsAs_outside hcalm hcfg haddr (h.exec ecc res s)

/-- A corrected error is counted and raised, and the instruction has its effect (R157). -/
theorem ActsBy.corrected (h : ActsBy tl c bank ar disp f checks g) (hcfg : s.tileCfg tl = some p)
    (haddr : effAddr (ptileCtx p c) (s.ctx tl c) bank ar disp.toInt = some ea)
    (hplant : mget 0 (s.tile tl).plant (ea / 8) = 0) (hissue : issues s tl c f.1) :
    ∃ e1 e2 : State, Machine.exec (f.2 .ok true) s = .next e1.finish ∧ Machine.exec (f.2 .corr true) s = .next e2.finish ∧
      e2.tiles = e1.tiles ∧ e2.flits = e1.flits ∧ RaisedIn 96 s e2 := by
  obtain ⟨-, -, hc, hp⟩ := id hissue
  have hecc (o : EccOut) : ((s.trace tl c f.1 0).tile tl).eccAt ea o = o := by
    rw [trace_tile]
    unfold TileSt.eccAt
    rw [hplant]
    cases o <;> rfl
  have htrace : Within tl s (s.trace tl c f.1 0) := within_trace ..
  have hwithin := htrace.trans (h.within ea _ (htrace.noBlackout hp))
  have hat := haddr
  rw [← trace_ctx tl c f.1 0 tl c s] at hat
  refine ⟨g ea (s.trace tl c f.1 0), (((g ea (s.trace tl c f.1 0)).rinc64 (twAddr tl 0x18) 1).revt (twAddr tl 0x10) 0).raiseU 96 tl,
    ?_, ?_, ?_⟩
  · rw [exec_issued hissue hcfg (h.exec_sound .ok s), memOp_at hat (hecc .ok)]
    rfl
  · rw [exec_issued hissue hcfg (h.exec_sound .corr s), memOp_at hat (hecc .corr)]
    rfl
  · generalize g ea (s.trace tl c f.1 0) = e1 at *
    have hevt : Steady e1 ((e1.rinc64 (twAddr tl 0x18) 1).revt (twAddr tl 0x10) 0) :=
      (steady_rinc64 ..).trans (steady_revt ..)
    have hraise := hevt.trans (steady_raiseU (n := 96) (by decide) (hevt.noBlackout (hwithin.noBlackout hp)) tl)
    have hraised := raisedIn_raiseU tl (tileSources_listed 96 (by decide)) (hevt.notCold (hwithin.notCold hc))
    have hsrc : SameSrc e1 ((e1.rinc64 (twAddr tl 0x18) 1).revt (twAddr tl 0x10) 0) := rfl
    exact ⟨hraise.tiles, hraise.flits, hraised.of_src ((src_congr hsrc 96).trans (hwithin.sources 96 (by decide)))⟩

/-- An uncorrectable error poisons its word and quarantines the tile (R158). -/
theorem ActsBy.uncorrectable (h : ActsBy tl c bank ar disp f checks g) (hcalm : calm s) (hcfg : s.tileCfg tl = some p)
    (haddr : effAddr (ptileCtx p c) (s.ctx tl c) bank ar disp.toInt = some ea) :
    runsAs s tl c f.1 (f.2 .unc true) (fun _ e => quarantined s e tl 1 ∧ RaisedIn 97 s e ∧
      mget false (e.tile tl).sramPoison (ea / 8) = true) := by
  intro hissue
  obtain ⟨hcan, -, hc, hp⟩ := id hissue
  have hmark : Within tl s ((s.trace tl c f.1 0).eccMark tl ea .unc) := (within_trace ..).trans (within_eccMark ..)
  have hact := h.within ea _ (hmark.noBlackout hp)
  have hexec := exec_issued hissue hcfg (h.exec_sound .unc s)
  rw [memOp_at (by rw [trace_ctx]; exact haddr) rfl] at hexec
  obtain ⟨hquar, hraised, hpoison⟩ := quarantined_tileFault (n := 97) (cause := 1)
    ((hmark.trans hact).trans (within_revt (twAddr tl 0x10) 1 _)) hcalm (canIssue_serves hcan) hc hp (by decide)
  refine ⟨_, hexec, hquar, hraised, hpoison _ (hact.poison _ ?_)⟩
  unfold State.eccMark
  rw [State.tile_setTile, if_pos rfl]
  exact mget_mput_same false _ (ea / 8) true

/-- A residue mismatch quarantines the tile (R167). -/
theorem ActsBy.mismatched (h : ActsBy tl c bank ar disp f true g) (hcalm : calm s)
    (hread : readsAt s tl c bank ar disp.toInt .ok ea) :
    runsAs s tl c f.1 (f.2 .ok false) (fun _ e => quarantined s e tl 3 ∧ RaisedIn 103 s e) := by
  intro hissue
  obtain ⟨hcan, -, hc, hp⟩ := id hissue
  have htrace : Within tl s (s.trace tl c f.1 0) := within_trace ..
  obtain ⟨hquar, hraised, -⟩ := quarantined_tileFault (n := 103) (cause := 3)
    ((htrace.trans (h.within ea _ (htrace.noBlackout hp))).trans (within_revt (twAddr tl 0x10) 8 _)) hcalm
    (canIssue_serves hcan) hc hp (by decide)
  exact runsAs_memOp (P := fun _ e => quarantined s e tl 3 ∧ RaisedIn 103 s e) hread (h.exec .ok false s) ⟨hquar, hraised⟩ hissue
end

/-! ## The memory instructions -/

section
variable (d bank : Fin 16) (ar : Fin 4) (disp : W16) (route : BitVec 12) (tw : Fin 32) (stg : Fin 2) (neg : Bool)
  (fa fb : Fin 16) (sigma : BitVec 11) (eoff rsel : Fin 8) (eidx : Fin 64)

/-- Loads, stores, SEND and RPOST act within their tile. -/
theorem actsBy_moves : ∀ f ∈ (memoryForms tl c d bank ar disp route tw stg neg fa fb sigma eoff rsel eidx).take 10,
    ∃ g, ActsBy tl c bank ar disp f false g := by
  have hload (n : Nat) (sign : Bool) := fun ea s (_ : s.ldr.phase ≠ .blackout) => within_load (tl := tl) c d n sign ea s
  have hstore {n : Nat} (hn : n ∈ [1, 2, 4]) :=
    fun ea s (_ : s.ldr.phase ≠ .blackout) => within_storeN (tl := tl) c d hn ea s
  simp only [memoryForms, List.take_succ_cons, List.take_zero, List.forall_mem_cons]
  refine ⟨⟨_, fun _ _ _ => rfl, hload 4 false⟩, ⟨_, fun _ _ _ => rfl, hload 2 true⟩, ⟨_, fun _ _ _ => rfl, hload 2 false⟩,
    ⟨_, fun _ _ _ => rfl, hload 1 true⟩, ⟨_, fun _ _ _ => rfl, hload 1 false⟩, ⟨_, fun _ _ _ => rfl, hstore (n := 4) (by decide)⟩,
    ⟨_, fun _ _ _ => rfl, hstore (n := 2) (by decide)⟩, ⟨_, fun _ _ _ => rfl, hstore (n := 1) (by decide)⟩,
    ⟨_, fun _ _ _ => rfl, fun ea s _ => ?_⟩, ⟨_, fun _ _ _ => rfl, fun ea s _ => ?_⟩, fun _ h => absurd h List.not_mem_nil⟩
  · exact (within_inject ..).trans (within_ctxUpd ..)
  · exact ((within_setPosted _ s).trans (within_inject ..)).trans (within_ctxUpd ..)

/-- Lane operations and value contributions act within their tile, and check residues. -/
theorem actsBy_contributions : ∀ f ∈ (memoryForms tl c d bank ar disp route tw stg neg fa fb sigma eoff rsel eidx).drop 10,
    ∃ g, ActsBy tl c bank ar disp f true g := by
  have hlane (op : Nat) := fun ea (s : State) (hp : s.ldr.phase ≠ .blackout) =>
    within_laneStep (tl := tl) hp c op tw stg neg fa fb sigma.toInt eoff rsel ea
  simp only [memoryForms, List.drop_succ_cons, List.drop_zero, List.forall_mem_cons]
  refine ⟨⟨_, fun _ _ _ => rfl, hlane 0x60⟩, ⟨_, fun _ _ _ => rfl, hlane 0x61⟩, ⟨_, fun _ _ _ => rfl, hlane 0x62⟩,
    ⟨_, fun _ _ _ => rfl, hlane 0x63⟩, ⟨_, fun _ _ _ => rfl, hlane 0x64⟩, ⟨_, fun _ _ _ => rfl, hlane 0x65⟩,
    ⟨fun ea s => s.value tl c tw (elemScale (wordElem fa ((s.tile tl).word64B ea) eidx) sigma.toInt neg)
      ((s.tile tl).badAt (ea / 64 * 64) 64) true, fun _ _ _ => rfl, fun _ _ _ => within_value ..⟩,
    ⟨fun ea s => s.value tl c tw (elemScale (wordPair false ((s.tile tl).word64B ea) eidx) sigma.toInt neg)
      ((s.tile tl).badAt (ea / 64 * 64) 64) true, fun _ _ _ => rfl, fun _ _ _ => within_value ..⟩,
    ⟨fun ea s => s.value tl c tw (elemScale (wordPair true ((s.tile tl).word64B ea) eidx) sigma.toInt neg)
      ((s.tile tl).badAt (ea / 64 * 64) 64) true, fun _ _ _ => rfl, fun _ _ _ => within_value ..⟩,
    fun _ h => absurd h List.not_mem_nil⟩
end

end Sys2Proof.Machine
end

section
/-! O30: illegal words and their capture (R278, R279), and the statement on tile traps. -/

namespace Sys2Proof.Machine
open Sys2Proof

variable {s e t : State} {tl : Tile} {c : Ctx}

/-! ## The capture of an illegal word (R279) -/

/-- A traced issue writes no window register. -/
theorem rget_trace_window {a : Nat} (ha : 0x100000 ≤ a) (k n w h : Nat) (s : State) : (s.trace k n w h).rget a = s.rget a := by
  have hslot : s.dbg.traceN % 256 < 256 := Nat.mod_lt _ (by decide)
  unfold State.trace
  extract_lets g
  split
  · unfold State.traceEntry State.rget
    extract_lets i b turn ph op r r'
    dsimp only
    have hb : b + 12 < 0x100000 := by omega
    have hr : r.rget a = s.rget a := by
      unfold r
      rw [rget_rset_ne (by omega), rget_rset_ne (by omega)]
    have hr' : r'.rget a = r.rget a := by
      unfold r' State.rfield
      rw [rget_rset_ne (by omega), rget_rset_ne (by omega)]
    exact hr'.trans hr
  · rfl

/-- A window register lies apart from those of raises. -/
theorem not_raiseReg_window {k o : Nat} (hk : k < 192) (ho : o < 0x4000) : ¬ raiseReg (twAddr k o) := by
  unfold raiseReg twAddr
  omega

/-- What follows an error of a tile writes, of its window, the event register alone. -/
theorem rget_tileFault {k o n cause : Nat} (hk : k < 192) (ho : o < 0x4000) (hevt : o ≠ 0x10) (hn : n < 225)
    (hs : (s.tile k).serves = true) (hcalm : calm s) (hc : s.dev.state ≠ .cold) (hp : s.ldr.phase ≠ .blackout) :
    (s.tileFault k n cause).rget (twAddr k o) = s.rget (twAddr k o) := by
  have hne : twAddr k o ≠ twAddr k 0x10 := by unfold twAddr; omega
  have hreg := not_raiseReg_window hk ho
  have hb : Still s (s.raiseU n k) := still_raiseU (by omega) (by omega) hp k
  unfold State.tileFault
  generalize s.raiseU n k = b at *
  rw [← hb.tile] at hs
  obtain ⟨⟨v, hv, hsteady⟩, -, -⟩ := quarState_raises (cause := cause) hs (hb.notCold hc) (hb.noBlackout hp)
  have hvd : (b.quarState k cause).vd = { b.vd with rangeDue := v.vd.rangeDue, results := v.vd.results } := by
    rw [hsteady.vd, hv]; rfl
  rw [quarantineForm_calm (calm_congr (by rw [hvd]) (by rw [hvd]) (by rw [hvd]) (calm_of_vd hb.vd hcalm)), ← hb.regs _ hreg]
  change (b.quarState k cause).rget (twAddr k o) = b.rget (twAddr k o)
  obtain ⟨u, w, hu, hw, hq⟩ := quarState_serves (cause := cause) hs
  have hpu : u.ldr.phase ≠ .blackout := by rw [hu]; exact hb.noBlackout hp
  have hru : u.rget (twAddr k o) = b.rget (twAddr k o) := by rw [hu]; rfl
  have hraise : Still (u.revt (twAddr k 0x10) 9) w := by
    rw [hw]
    exact still_raiseU (n := 106) (by decide) (by decide) (by exact hpu) k
  have hrw : w.rget (twAddr k o) = b.rget (twAddr k o) := by
    rw [hraise.regs _ hreg, State.revt, rget_rset_ne hne, hru]
  rcases hq with hq | ⟨f, hq⟩
  · rw [hq, hrw]
  · rw [hq, (still_degrade f _).regs _ hreg,
      (still_raiseU (by decide) (by decide) (hraise.noBlackout hpu) k).regs _ hreg, hrw]

/-- The context halts on an illegal word, which is captured if it is the first. -/
def State.caughtWord (k n w why : Nat) (s : State) : State :=
  let pc := (s.ctx k n).pc
  let s := (s.setCtx k n { s.ctx k n with st := .halted }).revt (twAddr k 0x10) 2
  if bitAt (s.rget (twAddr k 0x68)) 26 then s
  else (s.rset64 (twAddr k 0x60) w).rset (twAddr k 0x68) (BitVec.ofNat 32 (pc % 65536 + 65536 * n + 2 ^ 22 * why + 2 ^ 26))

theorem illegal_eq (k n w why : Nat) (s : State) : s.illegal k n w why = (s.caughtWord k n w why).tileFault k 98 2 := rfl

theorem within_rset (k a : Nat) (v : W32) (s : State) : Within k s (s.rset a v) := .same rfl rfl rfl rfl rfl

theorem within_caughtWord (k n w why : Nat) (s : State) : Within k s (s.caughtWord k n w why) := by
  unfold State.caughtWord
  extract_lets pc x1 s1
  have h1 : Within k s s1 := (within_setCtx ..).trans (within_revt ..)
  exact .ite h1 (h1.trans ((within_rset ..).trans ((within_rset ..).trans (within_rset ..))))

/-- The first illegal word since plan start stands in the capture; a later one leaves it. -/
theorem rget_caughtWord (k n w why : Nat) (s : State) :
    (bitAt (s.rget (twAddr k 0x68)) 26 = false →
      (s.caughtWord k n w why).rget (twAddr k 0x68) =
        BitVec.ofNat 32 ((s.ctx k n).pc % 65536 + 65536 * n + 2 ^ 22 * why + 2 ^ 26) ∧
      (s.caughtWord k n w why).rget (twAddr k 0x60) = BitVec.ofNat 32 w ∧
      (s.caughtWord k n w why).rget (twAddr k 0x64) = BitVec.ofNat 32 (w / 2 ^ 32)) ∧
    (bitAt (s.rget (twAddr k 0x68)) 26 = true →
      (s.caughtWord k n w why).rget (twAddr k 0x68) = s.rget (twAddr k 0x68)) := by
  have hne (o o' : Nat) (h : o ≠ o') : twAddr k o ≠ twAddr k o' := by unfold twAddr; omega
  have hnext : twAddr k 0x60 + 4 = twAddr k 0x64 := rfl
  unfold State.caughtWord
  extract_lets pc x1 s1
  have hcap : s1.rget (twAddr k 0x68) = s.rget (twAddr k 0x68) := rget_rset_ne (hne _ _ (by decide)) ..
  rw [hcap]
  refine ⟨fun h => ?_, fun h => ?_⟩
  · rw [if_neg (by rw [h]; decide)]
    refine ⟨rget_rset_same .., ?_, ?_⟩
    · rw [rget_rset_ne (hne _ _ (by decide)), State.rset64, hnext, rget_rset_ne (hne _ _ (by decide)), rget_rset_same]
    · rw [rget_rset_ne (hne _ _ (by decide)), State.rset64, hnext, rget_rset_same]
  · rw [if_pos h, hcap]

/-- A word that fails a test of its issue (R278, R279). -/
theorem completes_illegalWord {w : W64} {y : Nat} (hcalm : calm s) (hcan : s.canIssue tl c = true) (hc : s.dev.state ≠ .cold)
    (hp : s.ldr.phase ≠ .blackout) (hwhy : s.whyNot tl c w.toNat = some y) :
    Completes (.illegalWord tl c w) s (fun e => quarantined s e tl 2 ∧ RaisedIn 98 s e ∧
      (bitAt (s.rget (twAddr tl 0x68)) 26 = false →
        e.rget (twAddr tl 0x68) = BitVec.ofNat 32 ((s.ctx tl c).pc % 65536 + 65536 * c + 2 ^ 22 * y + 2 ^ 26) ∧
        e.rget (twAddr tl 0x60) = BitVec.ofNat 32 w.toNat ∧ e.rget (twAddr tl 0x64) = BitVec.ofNat 32 (w.toNat / 2 ^ 32)) ∧
      (bitAt (s.rget (twAddr tl 0x68)) 26 = true → e.rget (twAddr tl 0x68) = s.rget (twAddr tl 0x68))) := by
  have htrace : Within tl s (s.trace tl c w.toNat 5) := within_trace ..
  have hcaught := htrace.trans (within_caughtWord tl c w.toNat y (s.trace tl c w.toNat 5))
  have hcap := rget_caughtWord tl c w.toNat y (s.trace tl c w.toNat 5)
  rw [rget_trace_window (by unfold twAddr; omega), trace_ctx] at hcap
  refine ⟨((s.trace tl c w.toNat 5).caughtWord tl c w.toNat y).tileFault tl 98 2, ?_, ?_⟩
  · change (if s.canIssue tl c then _ else s).done = _
    rw [if_pos hcan, hwhy, done_eq]
    exact congrArg (fun e : State => Host.Outcome.next e.finish) (illegal_eq ..)
  · generalize (s.trace tl c w.toNat 5).caughtWord tl c w.toNat y = b at *
    obtain ⟨hquar, hraised, -⟩ := quarantined_tileFault (n := 98) (cause := 2) hcaught hcalm (canIssue_serves hcan) hc hp (by decide)
    have hserves : (b.tile tl).serves = true := by
      have hs := canIssue_serves hcan
      unfold TileSt.serves at hs ⊢
      rw [hcaught.role]
      exact hs
    have hreg {o : Nat} (ho : o < 0x4000) (hevt : o ≠ 0x10) : (b.tileFault tl 98 2).rget (twAddr tl o) = b.rget (twAddr tl o) :=
      rget_tileFault tl.isLt ho hevt (by decide) hserves (calm_of_vd hcaught.vd hcalm) (hcaught.notCold hc)
        (hcaught.noBlackout hp)
    rw [hreg (by decide) (by decide), hreg (by decide) (by decide), hreg (by decide) (by decide)]
    exact ⟨hquar, hraised, hcap⟩

/-- Tile traps: each memory instruction acts within its tile, so an error finds the rest as it was. -/
theorem tileTraps : tileTrapsPart := by
  intro s t c d bank ar disp route tw stg neg fa fb sigma eoff rsel eidx p hcalm hcfg
  have hmoves := actsBy_moves (tl := t) (c := c) d bank ar disp route tw stg neg fa fb sigma eoff rsel eidx
  have hcontributions := actsBy_contributions (tl := t) (c := c) d bank ar disp route tw stg neg fa fb sigma eoff rsel eidx
  refine ⟨fun f hf ecc res => ?_, fun f hf ea hread => ?_, fun w y hcan hc hp hwhy => ?_⟩
  · obtain ⟨checks, g, hact⟩ : ∃ checks g, ActsBy t c bank ar disp f checks g := by
      rw [← List.take_append_drop 10 (memoryForms ..), List.mem_append] at hf
      exact hf.elim (fun h => ⟨false, hmoves f h⟩) (fun h => ⟨true, hcontributions f h⟩)
    exact ⟨fun haddr => hact.outside hcalm hcfg haddr ecc res,
      fun ea haddr => ⟨hact.corrected hcfg haddr, hact.uncorrectable hcalm hcfg haddr⟩⟩
  · obtain ⟨g, hact⟩ := hcontributions f hf
    exact hact.mismatched hcalm hread
  · exact completes_illegalWord hcalm hcan hc hp hwhy

end Sys2Proof.Machine
end

section
/-! O30: deep tests, tile health and droops (R186 to R189, R195, R643), and the statement's settlement. -/

namespace Sys2Proof.Machine
open Sys2Proof

variable {s : State}

/-- What is done after the raise does not matter where it leaves the source alone. -/
theorem RaisedIn.then_src {n : Nat} {t e : State} (h : RaisedIn n s t) (hsrc : e.src n = t.src n) : RaisedIn n s e := by
  unfold RaisedIn at h ⊢
  rw [hsrc]
  exact h

/-! ## The next tile of a deep test (R186) -/

/-- The tile of a role whose last deep test is the longest ago, of equal ones the lowest-numbered. -/
def State.longestAgo (r : Role) (s : State) : Option Nat :=
  let l := (List.range 192).filter (fun t => (s.tile t).role == r)
  l.find? (fun t => l.all (fun u => decide ((s.tile t).dtLast ≤ (s.tile u).dtLast)))

theorem deepNext_eq (s : State) :
    s.deepNext = match s.longestAgo .quarantined with | some t => some t | none => s.longestAgo .spare := rfl

theorem longestAgo_some {r : Role} {t : Nat} (h : s.longestAgo r = some t) :
    (s.tile t).role = r ∧ ∀ u, u < 192 → (s.tile u).role = r →
      (s.tile t).dtLast ≤ (s.tile u).dtLast ∧ (u < t → (s.tile t).dtLast < (s.tile u).dtLast) := by
  unfold State.longestAgo at h
  extract_lets l at h
  have hmem (u : Nat) : u ∈ l ↔ u < 192 ∧ (s.tile u).role = r := by
    rw [List.mem_filter, List.mem_range, beq_iff_eq]
  have hsorted : l.Pairwise (· < ·) := List.Pairwise.filter _ List.pairwise_lt_range
  obtain ⟨hleast, as, bs, hl, hbefore⟩ := List.find?_eq_some_iff_append.1 h
  simp only [List.all_eq_true, decide_eq_true_eq] at hleast
  refine ⟨((hmem t).1 (hl ▸ List.mem_append_right _ List.mem_cons_self)).2, fun u hu hrole => ?_⟩
  have hul : u ∈ l := (hmem u).2 ⟨hu, hrole⟩
  refine ⟨hleast u hul, fun hut => ?_⟩
  have hearlier : u ∈ as := by
    rw [hl, List.pairwise_append, List.pairwise_cons] at hsorted
    obtain ⟨-, ⟨hafter, -⟩, -⟩ := hsorted
    rw [hl, List.mem_append, List.mem_cons] at hul
    rcases hul with hul | rfl | hul
    · exact hul
    · exact absurd hut (Nat.lt_irrefl _)
    · exact absurd (hafter u hul) (Nat.lt_asymm hut)
  have hworse := hbefore u hearlier
  simp only [Bool.not_eq_true', List.all_eq_false, decide_eq_true_eq, Nat.not_le] at hworse
  obtain ⟨w, hw, hlt⟩ := hworse
  exact Nat.lt_of_le_of_lt (hleast w hw) hlt

theorem longestAgo_none {r : Role} (h : s.longestAgo r = none) {u : Nat} (hu : u < 192) : (s.tile u).role ≠ r := by
  intro hrole
  unfold State.longestAgo at h
  extract_lets l at h
  have hul : u ∈ l := List.mem_filter.2 ⟨List.mem_range.2 hu, beq_iff_eq.2 hrole⟩
  obtain ⟨t, ht, hleast⟩ := l.toFinset.exists_min_image (fun t => (s.tile t).dtLast) ⟨u, List.mem_toFinset.2 hul⟩
  refine List.find?_eq_none.1 h t (List.mem_toFinset.1 ht) (List.all_eq_true.2 fun w hw => decide_eq_true ?_)
  exact hleast w (List.mem_toFinset.2 hw)

/-- The next tile is a QUARANTINED one, or a SPARE one where there is none. -/
theorem deepNext_some {t : Nat} (h : s.deepNext = some t) :
    ((s.tile t).role = .quarantined ∨ ((s.tile t).role = .spare ∧ ∀ u, u < 192 → (s.tile u).role ≠ .quarantined)) ∧
    (∀ u, u < 192 → (s.tile u).role = (s.tile t).role →
      (s.tile t).dtLast ≤ (s.tile u).dtLast ∧ (u < t → (s.tile t).dtLast < (s.tile u).dtLast)) := by
  rw [deepNext_eq] at h
  cases hq : s.longestAgo .quarantined with
  | some q =>
    rw [hq] at h
    obtain rfl := Option.some.inj h
    obtain ⟨hrole, hleast⟩ := longestAgo_some hq
    exact ⟨.inl hrole, hrole ▸ hleast⟩
  | none =>
    rw [hq] at h
    obtain ⟨hrole, hleast⟩ := longestAgo_some h
    exact ⟨.inr ⟨hrole, fun u hu => longestAgo_none hq hu⟩, hrole ▸ hleast⟩

/-- An instruction completes in the state that its update gives. -/
theorem completes_act_eq {i : Instr} {f : State → State} {P : State → Prop} (hi : exec i s = s.act f) (hc : s.dev.state ≠ .cold)
    (e : State) (he : f s = e) (h : P e) : Completes i s P :=
  completes_act hi hc (he ▸ h)

theorem completes_deepTestStart {t : Nat} (hc : s.dev.state ≠ .cold) (hp : s.ldr.phase ≠ .blackout) (hnext : s.deepNext = some t)
    (hnone : s.deepTile = none) (hrun : s.run.isSome = true) :
    Completes .deepTestStart s (fun e => e.vd = s.vd ∧ (∀ u, u ≠ t → e.tile u = s.tile u) ∧
      e.tile t = { s.tile t with role := .deepTest, dtFromQ := decide ((s.tile t).role = .quarantined) }) := by
  obtain ⟨r, hr⟩ := Option.isSome_iff_exists.1 hrun
  refine completes_act_eq (show execDeepTestStart s = _ from rfl) hc
    ((s.setTile t { s.tile t with role := .deepTest, dtFromQ := (s.tile t).role == .quarantined }).wakeDom (quadOf t))
    ?_ ⟨?_, fun u hu => ?_, ?_⟩
  · dsimp only
    rw [hr, hnone, hnext]
    cases hphase : s.ldr.phase
    case blackout => exact absurd hphase hp
    all_goals rfl
  · exact (paced_wakeDom ..).vd
  · rw [tile_wakeDom, State.tile_setTile, if_neg hu]
  · rw [tile_wakeDom, State.tile_setTile, if_pos rfl]
    rfl

/-! ## The end of a deep test (R188, R189) -/

theorem completes_deepTestEnd_passed {t at_ : Nat} (hc : s.dev.state ≠ .cold) (htile : s.deepTile = some t) :
    Completes (.deepTestEnd true true at_) s (fun e => e.ao = Max.max s.ao at_ ∧
      e.tile t = { s.tile t with dtLast := Max.max s.ao at_, dtFromQ := false,
                                 role := if (s.tile t).qcount ≤ 2 then .spare else .failed } ∧
      (2 < (s.tile t).qcount → e.store.thrDirty = true) ∧ ∀ u, u ≠ t → e.tile u = s.tile u) := by
  have hao := ao_advance at_ s
  have htiles (u : Nat) : (s.advance at_).tile u = s.tile u := rfl
  have hrun : execDeepTestEnd true true at_ s = _ := rfl
  by_cases hfew : (s.tile t).qcount ≤ 2
  · refine completes_act_eq hrun hc
      ((s.advance at_).setTile t { s.tile t with dtLast := (s.advance at_).ao, dtFromQ := false, role := .spare })
      ?_ ⟨hao, ?_, fun hmany => absurd hfew (by omega), fun u hu => ?_⟩
    · rw [htile]
      exact if_pos hfew
    · rw [State.tile_setTile, if_pos rfl, if_pos hfew, hao]
    · rw [State.tile_setTile, if_neg hu, htiles]
  · obtain ⟨b, hb⟩ : ∃ b : State, b =
        (s.advance at_).setTile t { s.tile t with dtLast := (s.advance at_).ao, dtFromQ := false, role := .failed } := ⟨_, rfl⟩
    have hbt (u : Nat) : ({ b with store.thrDirty := true } : State).tile u = b.tile u := rfl
    refine completes_act_eq hrun hc { b with store.thrDirty := true } ?_ ⟨?_, ?_, fun _ => rfl, fun u hu => ?_⟩
    · rw [htile, hb]
      exact if_neg hfew
    · rw [hb]
      exact hao
    · rw [hbt, hb, State.tile_setTile, if_pos rfl, if_neg hfew, hao]
    · rw [hbt, hb, State.tile_setTile, if_neg hu, htiles]

/-- A failed test's tile takes its role at once; its two raises leave the tiles and the clock alone. -/
theorem completes_deepTestEnd_failed {t at_ : Nat} {pass loop : Bool} (hc : s.dev.state ≠ .cold) (hp : s.ldr.phase ≠ .blackout)
    (htile : s.deepTile = some t) (hfail : (pass && loop) = false) :
    Completes (.deepTestEnd pass loop at_) s (fun e => e.ao = Max.max s.ao at_ ∧
      e.tile t = { s.tile t with dtLast := Max.max s.ao at_, dtFromQ := false, qcount := satAdd 255 (s.tile t).qcount 1, qcause := 9,
                                 role := if loop then .failed else .failedRouter } ∧
      e.store.thrDirty = true ∧ RaisedIn 106 s e ∧ RaisedIn 109 s e ∧ ∀ u, u ≠ t → e.tile u = s.tile u) := by
  have hao := ao_advance at_ s
  have htiles (u : Nat) : (s.advance at_).tile u = s.tile u := rfl
  obtain ⟨b, hb⟩ : ∃ b : State, b = ({ (s.advance at_).setTile t { s.tile t with
      dtLast := (s.advance at_).ao, dtFromQ := false, qcount := satAdd 255 (s.tile t).qcount 1, qcause := 9,
      role := if loop then Role.failed else .failedRouter } with store.thrDirty := true }).revt (twAddr t 0x10) 9 := ⟨_, rfl⟩
  have hbt (u : Nat) : b.tile u = ((s.advance at_).setTile t { s.tile t with
      dtLast := (s.advance at_).ao, dtFromQ := false, qcount := satAdd 255 (s.tile t).qcount 1, qcause := 9,
      role := if loop then Role.failed else .failedRouter }).tile u := by rw [hb]; rfl
  have hbao : b.ao = (s.advance at_).ao := by rw [hb]; rfl
  have hbdirty : b.store.thrDirty = true := by rw [hb]; rfl
  have hbsrc (n : Nat) : b.src n = s.src n := by rw [hb]; rfl
  have hbc : b.dev.state ≠ .cold := by rw [hb]; exact hc
  have hbp : b.ldr.phase ≠ .blackout := by rw [hb]; exact hp
  have h1 : Steady b (b.raiseU 106 t) := steady_raiseU (by decide) hbp t
  have h2 : Steady (b.raiseU 106 t) ((b.raiseU 106 t).raiseU 109 t) := steady_raiseU (by decide) (h1.noBlackout hbp) t
  have h12 := h1.trans h2
  have hreact : Reacts b ((b.raiseU 106 t).raiseU 109 t) := (reacts_raiseU ..).trans (reacts_raiseU ..)
  have hraised106 : RaisedIn 106 b (b.raiseU 106 t) := raisedIn_raiseU t (by decide +kernel) hbc
  have hraised109 : RaisedIn 109 (b.raiseU 106 t) ((b.raiseU 106 t).raiseU 109 t) :=
    raisedIn_raiseU t (by decide +kernel) (h1.notCold hbc)
  refine completes_act_eq (show execDeepTestEnd pass loop at_ s = _ from rfl) hc ((b.raiseU 106 t).raiseU 109 t) ?_ ⟨?_, ?_, ?_, ?_, ?_, fun u hu => ?_⟩
  · dsimp only
    rw [htile, hb]
    dsimp only
    rw [hfail]
    rfl
  · rw [h12.ao, hbao, hao]
  · rw [h12.tile, hbt, State.tile_setTile, if_pos rfl, hao]
  · exact (congrArg (·.store.thrDirty) hreact).trans hbdirty
  · refine (RaisedIn.of_src hraised106 (hbsrc 106)).then_src ?_
    exact src_raiseWith_ne (by decide) ..
  · refine hraised109.of_src ((src_raiseWith_ne (by decide) ..).trans (hbsrc 109))
  · rw [h12.tile, hbt, State.tile_setTile, if_neg hu, htiles]

/-! ## The health record (R643, R660) and droops (R195, R624) -/

/-- The health record that is written next. -/
def State.nextHealth (s : State) : HealthRec :=
  { seq := match s.healthRec with | some h => h.seq + 1 | none => 1, health := s.healthNow }

theorem healthNow_lists {t : Nat} (ht : t < 192) :
    mget (0, 0) s.healthNow t = (if (s.tile t).role = .failed then 5 else if (s.tile t).role = .failedRouter then 6 else 0,
      (s.tile t).qcount) := by
  unfold State.healthNow
  rw [mget_foldl_mput (fun _ => (0, 0)), if_pos (List.mem_range.2 ht)]
  simp only [beq_iff_eq]

theorem completes_tileHealthWrite (hc : s.dev.state ≠ .cold) (hdue : s.store.thrDirty = true) (hflash : s.dev.phys.flashOk = true) :
    Completes .tileHealthWrite s (fun e =>
      ∃ h : HealthRec, h.seq = (match s.healthRec with | some o => o.seq + 1 | none => 1) ∧
        (∀ t, t < 192 → mget (0, 0) h.health t = (if (s.tile t).role = .failed then 5
          else if (s.tile t).role = .failedRouter then 6 else 0, (s.tile t).qcount)) ∧
        (∀ a b, s.store.thr0 = some a → s.store.thr1 = some b →
          e = (if seqNewer a.seq b.seq then { s with store.thrDirty := false, store.thr1 := some h }
               else { s with store.thrDirty := false, store.thr0 := some h }))) := by
  refine completes_act (show execTileHealthWrite s = _ from rfl) hc
    ⟨s.nextHealth, rfl, fun t ht => healthNow_lists ht, fun a b ha hb => ?_⟩
  dsimp only
  rw [hdue, hflash, ha, hb]
  rw [if_neg (by decide), if_neg (by decide)]
  dsimp only
  by_cases hnewer : seqNewer a.seq b.seq = true
  · rw [if_pos hnewer]
    exact if_neg (by rw [hnewer]; decide)
  · rw [if_neg hnewer]
    exact if_pos (by rw [eq_false_of_ne_true hnewer]; rfl)

/-- The slot loses one to eight cycle periods by a droop of quad `q`. -/
def State.lose (q n : Nat) (s : State) : State :=
  { s with pm.lostQuad := if s.pm.lostSlot = 0 then q else s.pm.lostQuad, pm.lostSlot := s.pm.lostSlot + n + 1 }

/-- The register of the largest loss takes a larger one. -/
def State.recordLoss (s : State) : State :=
  if s.pm.lostSlot > bitsOf (s.rget 0x60050) 15 0 then
    s.rset 0x60050 (BitVec.ofNat 32 (min 65535 s.pm.lostSlot + 65536 * s.pm.lostQuad)) else s

theorem completes_droopEvent (q : Fin 48) (n : Fin 8) (hc : s.dev.state ≠ .cold) (hp : s.ldr.phase ≠ .blackout) :
    Completes (.droopEvent q n) s (fun e => RaisedIn 73 s e ∧
      e.pm.lostSlot = s.pm.lostSlot + n.val + 1 ∧ e.tiles = s.tiles ∧
      e.pm.lostQuad = (if s.pm.lostSlot = 0 then q.val else s.pm.lostQuad) ∧ e.vd.journal = s.vd.journal) := by
  obtain ⟨b, hb⟩ : ∃ b : State, b = (s.rinc64 0x60048 1).revt 0x60008 1 := ⟨_, rfl⟩
  have hbs : Steady s b := hb ▸ (steady_rinc64 ..).trans (steady_revt ..)
  have hbsrc : b.src 73 = s.src 73 := by
    rw [hb, src_congr (sameSrc_revt ..), src_congr (sameSrc_rinc64 ..)]
  have hraise : Steady s (b.raise 73) := hbs.trans (steady_raise (by decide) (hbs.noBlackout hp))
  have hraised : RaisedIn 73 s (b.raise 73) := (raisedIn_raise (by decide +kernel) (hbs.notCold hc)).of_src hbsrc
  refine completes_act_eq (show execDroopEvent q n s = _ from rfl) hc (((b.raise 73).lose q n).recordLoss) (by rw [hb]; rfl) ?_
  generalize b.raise 73 = u at *
  have hquad : (u.lose q n).pm.lostQuad = if s.pm.lostSlot = 0 then q.val else s.pm.lostQuad := by
    rw [← hraise.pm]; rfl
  have hslot : (u.lose q n).pm.lostSlot = s.pm.lostSlot + n.val + 1 := by rw [← hraise.pm]; rfl
  unfold State.recordLoss
  split <;> exact ⟨hraised, hslot, hraise.tiles, hquad, congrArg (·.journal) hraise.vd⟩

/-- Deep tests, the health record and droops. -/
theorem arrayHealth : arrayHealthPart := by
  intro s hc hp
  refine ⟨fun t hnext hnone hrun => ?_, fun t at_ pass loop htile => ⟨fun hpass hloop => ?_, fun hfail => ?_⟩, fun hclean => ?_,
    completes_tileHealthWrite hc, fun q n => completes_droopEvent q n hc hp⟩
  · obtain ⟨hrole, hleast⟩ := deepNext_some hnext
    exact ⟨hrole, hleast, completes_deepTestStart hc hp hnext hnone hrun⟩
  · subst hpass hloop
    exact completes_deepTestEnd_passed hc htile
  · exact completes_deepTestEnd_failed hc hp htile hfail
  · refine completes_act (show execTileHealthWrite s = _ from rfl) hc ?_
    rw [hclean]
    rfl

/-- Settles O30: each memory instruction acts within its tile, so an error finds the rest as it was; then each event's own update. -/
theorem tileTrapsAndHealth : Obligations.TileTrapsAndHealth := ⟨tileTraps, arrayHealth⟩

end Sys2Proof.Machine
end

section
/-! O44: an accepted request of the reeve: what its checks leave, and what its answer changes (R487, R490, R491). -/

namespace Sys2Proof.Machine
open Sys2Proof

variable {s t e b : State} {p : ReqPath} {r : BitVec 512}

/-! ## The queues of the command interface -/

/-- The clock, the queues of both request paths and the mailboxes. -/
def State.mail (s : State) :=
  (s.ao, s.rv.reqRing, s.rv.mbReq, s.rv.ridx, s.rv.ansRing, s.rv.ansQ, s.rv.sseq, s.q.boxes)

theorem Reacts.mail (h : Reacts s e) : e.mail = s.mail := by
  unfold Reacts at h
  rw [h]
  rfl

theorem mail_rset (a : Nat) (v : W32) (s : State) : (s.rset a v).mail = s.mail := rfl

theorem mail_raise (n : Nat) (s : State) : (s.raise n).mail = s.mail := (reacts_raiseWith ..).mail

theorem mail_evalChans (s : State) : s.evalChans.mail = s.mail := (reacts_evalChans s).mail

/-- The request's checks have passed: its sequence number is taken. -/
def State.begun (s : State) : State := { s with rv.slow := false, rv.sseq := s.rv.sseq + 1 }

/-- An accepted request that has the privilege it needs is performed and answered. -/
theorem reeveCmd_fits {code : Nat} {masks : List Nat} {rangesOk priv : BitVec 512 → Bool}
    {f : BitVec 512 → State → Nat × Nat × State} (hfits : fits s p r code masks) (hranges : rangesOk r = true)
    (hpriv : priv r = true → s.rv.privHeld = true) {st info : Nat} (hf : f r s.begun = (st, info, b)) :
    s.reeveCmd p code masks rangesOk priv f = ((b.answer p r st info).drain).done := by
  obtain ⟨⟨hcold, -, hup, hlease, hcrc, hseq, hpath⟩, hcode, hfields, hstate⟩ := hfits
  have hhead : s.reqHead p = some r := by
    cases p with
    | ring =>
      obtain ⟨⟨t, ht⟩, -⟩ := hpath
      unfold State.reqHead
      rw [ht]
      rfl
    | mailbox =>
      obtain ⟨-, q, hq⟩ := hpath
      unfold State.reqHead
      rw [hq]
      rfl
  have hstate' : codeState s.begun.dev.state code = true := hstate
  have hprivBegun : (priv r && !s.begun.rv.privHeld) = false := by
    change (priv r && !s.rv.privHeld) = false
    cases hneed : priv r with
    | false => rfl
    | true => rw [hpriv hneed]; rfl
  unfold State.reeveCmd State.act
  rw [if_neg hcold]
  beta_reduce
  rw [hhead]
  dsimp only
  rw [if_neg (by rw [hup, hcode]; simp), hlease, hcrc, if_neg (by decide), if_neg (by rw [hseq]; simp), hfields, hranges,
    if_neg (by decide)]
  change ((if !codeState s.begun.dev.state code then _ else if priv r && !s.begun.rv.privHeld then _ else
    ((f r s.begun).2.2.answer p r (f r s.begun).1 (f r s.begun).2.1).drain : State)).done = _
  rw [hstate', hprivBegun, if_neg (by decide), if_neg (by decide), hf]

/-- Without a waiting request nothing is drained. -/
theorem drain_idle (hring : s.rv.reqRing = []) (hbox : s.rv.mbReq = none) : s.drain = s := by
  have hpath (q : ReqPath) (n : Nat) : s.drainPath q n = s := by
    cases n with
    | zero => rfl
    | succ n =>
      have hhead : s.reqHead q = none := by
        cases q with
        | ring => unfold State.reqHead; rw [hring]; rfl
        | mailbox => unfold State.reqHead; rw [hbox]; rfl
      unfold State.drainPath
      rw [hhead]
  unfold State.drain
  rw [hpath, hpath]

/-! ## What an answer changes -/

/-- The doorbell register of F00's mailboxes. -/
def bellReg (a : Nat) : Prop := a = fnAddr 0 0x2000

/-- The registers that an answer writes: the reeve's counts and events and the mailbox doorbells. -/
def answerReg (a : Nat) : Prop := a = 0x20050 ∨ a = 0x2000C ∨ a = 0x20054 ∨ bellReg a

/-- From `b` to `e` only the reeve's queues, the mailboxes, interrupts and registers in `R` change. -/
structure Answered (R : Nat → Prop) (b e : State) : Prop where
  frame : e = { b with rv := e.rv, regs := e.regs, q.boxes := e.q.boxes, hl.vpend := e.hl.vpend, out := e.out }
  regs : ∀ a, ¬ R a → e.rget a = b.rget a

variable {R : Nat → Prop}

theorem Answered.trans (h : Answered R s t) (h' : Answered R t e) : Answered R s e :=
  ⟨by rw [h'.frame, h.frame], fun a ha => (h'.regs a ha).trans (h.regs a ha)⟩

theorem Answered.refl (s : State) : Answered R s s := ⟨rfl, fun _ _ => rfl⟩

theorem Answered.mono {R' : Nat → Prop} (h : Answered R s e) (hR : ∀ a, R a → R' a) : Answered R' s e :=
  ⟨h.frame, fun a ha => h.regs a (ha ∘ hR a)⟩

/-- An update without registers. -/
theorem Answered.of (h : e = { s with rv := e.rv, q.boxes := e.q.boxes, hl.vpend := e.hl.vpend, out := e.out }) :
    Answered R s e :=
  ⟨by rw [h], fun a _ => by rw [h]; rfl⟩

theorem answered_rset {a : Nat} (ha : R a) (v : W32) (s : State) : Answered R s (s.rset a v) :=
  ⟨rfl, fun n hn => rget_rset_ne (fun h : n = a => hn (h ▸ ha)) ..⟩

theorem answered_setChan2 (f c : Nat) (x : Chan2) (s : State) : Answered R s (s.setChan2 f c x) := .of rfl

theorem answered_msix (f v : Nat) (s : State) : Answered R s (s.msix f v) := by
  unfold State.msix
  dsimp only
  split <;> exact .of rfl

theorem answered_bells (m : W32) (s : State) : Answered bellReg s (s.bells 0 m) := by
  unfold State.bells
  extract_lets a k s1
  have h1 : Answered bellReg s s1 := answered_rset (R := bellReg) rfl ..
  split
  · exact h1.trans (answered_msix ..)
  · exact h1

theorem answered_farSend (c : Nat) (body : BitVec 512) (type len : Nat) (bells : W32) (s : State) :
    Answered bellReg s (s.farSend 0 c body type len bells) :=
  (answered_setChan2 ..).trans (answered_bells ..)

theorem answered_reeveFlush (s : State) : Answered bellReg s s.reeveFlush := by
  unfold State.reeveFlush
  split
  · exact .refl s
  · dsimp only
    split
    · split
      · exact .refl s
      · exact answered_setChan2 ..
    · exact Answered.trans (.of rfl) (answered_farSend ..)

theorem answered_reeveSay (body : BitVec 512) (type len : Nat) (s : State) : Answered bellReg s (s.reeveSay body type len) :=
  Answered.trans (.of rfl) (answered_reeveFlush _)

/-- A request answered: its counts and registers, before the answer itself is queued. -/
def State.counted (p : ReqPath) (r : BitVec 512) (rstat : Nat) (s : State) : State :=
  if rstat = 0 then s.rincSat 0x20050 15 0 1
  else ((s.rincSat 0x20050 31 16 1).revt 0x2000C 5).rset 0x20054 (BitVec.ofNat 32 (rstat + 256 * reqCode r + 2 ^ 24 * pathNum p))

theorem answered_counted (rstat : Nat) (s : State) : Answered answerReg s (s.counted p r rstat) := by
  unfold State.counted
  split
  · exact answered_rset (.inl rfl) ..
  · exact (answered_rset (.inl rfl) ..).trans ((answered_rset (.inr (.inl rfl)) ..).trans (answered_rset (.inr (.inr (.inl rfl))) ..))

theorem mail_counted (rstat : Nat) (s : State) : (s.counted p r rstat).mail = s.mail := by
  unfold State.counted State.rincSat State.rfield State.revt
  by_cases h : rstat = 0
  · rw [if_pos h, mail_rset]
  · rw [if_neg h, mail_rset, mail_rset, mail_rset]

/-- A refusal stands in RV_EVT. -/
theorem bitAt_counted {rstat : Nat} (h : rstat ≠ 0) (s : State) : bitAt ((s.counted p r rstat).rget 0x2000C) 5 = true := by
  unfold State.counted
  rw [if_neg h, rget_rset_ne (by decide)]
  generalize s.rincSat 0x20050 31 16 1 = u
  rw [State.revt, rget_rset_same, bitAt_or_twoPow _ (by decide)]

end Sys2Proof.Machine
end

section
/-! O44: what the asker of an accepted request finds once it is answered (R487, R491). -/

namespace Sys2Proof.Machine
open Sys2Proof

variable {s t e b : State} {p : ReqPath} {r : BitVec 512} {code : Nat} {masks : List Nat} {rangesOk priv : BitVec 512 → Bool}
  {f : BitVec 512 → State → Nat × Nat × State} {i : Instr}

/-- The answer to a request of the ring path joins the answer ring. -/
def State.ringAnswer (a : BitVec 256) (tag : Nat) (s : State) : State :=
  { s with rv.reqRing := [], rv.ridx := (s.rv.ridx + 1) % 2 ^ 32, rv.ansRing := s.rv.ansRing ++ [(a, tag)] }

/-- The answer to a request of the mailbox path is sent to its function. -/
def State.boxAnswer (a : BitVec 256) (s : State) : State :=
  ({ s with rv.mbReq := none }).reeveSay (BitVec.ofNat 512 a.toNat) 0xA0 32

/-- The head request of a path answered, once it is counted. -/
def State.respond (p : ReqPath) (r : BitVec 512) (rstat info : Nat) (s : State) : State :=
  match p with
  | .ring =>
    match s.rv.reqRing with
    | [] => s
    | q :: t =>
      let a := answerRec s.rv.ridx r 0 rstat info s.ao
      { s with rv.reqRing := t, rv.ridx := (s.rv.ridx + 1) % 2 ^ 32, rv.ansRing := s.rv.ansRing ++ [(a, q.2)] }
  | .mailbox => s.boxAnswer (answerRec 0 r 1 rstat info s.ao)

/-- Statuses but that of a DCRC error raise nothing. -/
theorem answer_eq {rstat info : Nat} (hinfo : rstat = 0 ∨ info = 0) (hst : rstat ≠ 1) (b : State) :
    b.answer p r rstat info = (b.counted p r rstat).respond p r rstat info := by
  have hi : (if rstat = 0 then info else 0) = info := by
    rcases hinfo with h | h
    · rw [if_pos h]
    · rw [h, ite_self]
  unfold State.answer
  rw [hi, if_neg hst]
  cases p <;> rfl

theorem respond_ring {tag rstat info : Nat} (h : b.rv.reqRing = [(r, tag)]) :
    b.respond .ring r rstat info = b.ringAnswer (answerRec b.rv.ridx r 0 rstat info b.ao) tag := by
  unfold State.respond
  dsimp only
  rw [h]
  rfl

/-- A 256-bit answer fits the 32 bytes of its message. -/
theorem maskBody_answer (a : BitVec 256) : maskBody (BitVec.ofNat 512 a.toNat) 32 = BitVec.ofNat 512 a.toNat := by
  have ha := a.isLt
  unfold maskBody
  rw [BitVec.toNat_ofNat, Nat.mod_eq_of_lt (a := a.toNat) (by omega), Nat.mod_eq_of_lt (by omega)]

/-- An interrupt touches neither the queues nor the reeve. -/
theorem msix_frame (f v : Nat) (s : State) : (s.msix f v).q = s.q ∧ (s.msix f v).rv = s.rv := by
  unfold State.msix
  dsimp only
  split <;> exact ⟨rfl, rfl⟩

theorem bells_frame (f : Nat) (m : W32) (s : State) : (s.bells f m).q = s.q ∧ (s.bells f m).rv = s.rv := by
  have hrset (a : Nat) (v : W32) : (s.rset a v).q = s.q ∧ (s.rset a v).rv = s.rv := ⟨rfl, rfl⟩
  obtain ⟨hq, hrv⟩ := hrset (fnAddr f 0x2000) (s.rget (fnAddr f 0x2000) ||| if f = 0 then m else m &&& 0xFFFFFF0F)
  unfold State.bells
  dsimp only
  generalize s.rset (fnAddr f 0x2000) _ = u at *
  by_cases hrings : ((if f = 0 then m else m &&& 0xFFFFFF0F) &&& u.rget (fnAddr f 0x2004) != 0) = true
  · rw [if_pos hrings, (msix_frame ..).1, (msix_frame ..).2]
    exact ⟨hq, hrv⟩
  · rw [if_neg hrings]
    exact ⟨hq, hrv⟩

theorem chan2_setChan2 (f c : Nat) (x : Chan2) (s : State) : (s.setChan2 f c x).chan2 f c = x := mget_mput_same ..

/-- A message into F00's inbox from the reeve, of the body that stands there then. -/
theorem inb_farSend (body : BitVec 512) (type len : Nat) (s : State) :
    let x := ((s.farSend 0 1 body type len 0).chan2 0 1).inb
    x.full = true ∧ x.body = maskBody body len ∧ x.type = type ∧ x.len = len ∧ x.src = 0x41 := by
  have hbox : (s.farSend 0 1 body type len 0).chan2 0 1 = _ :=
    (congrArg (fun q : Queues => mget Chan2.reset q.boxes 1) (bells_frame ..).1).trans (chan2_setChan2 0 1 _ s)
  intro x
  unfold x
  rw [hbox]
  exact ⟨rfl, rfl, rfl, rfl, rfl⟩

/-- A message of the reeve leaves its other queues alone; it waits for a full inbox and goes at once into a free one. -/
theorem reeveSay_sends (body : BitVec 512) (type len : Nat) (s : State) :
    (∃ q, (s.reeveSay body type len).rv = { s.rv with ansQ := q }) ∧
    ((s.chan2 0 1).inb.full = true → (s.reeveSay body type len).rv.ansQ = s.rv.ansQ ++ [(body, type, len)]) ∧
    ((s.chan2 0 1).inb.full = false → s.rv.ansQ = [] →
      let x := ((s.reeveSay body type len).chan2 0 1).inb
      x.full = true ∧ x.body = maskBody body len ∧ x.type = type ∧ x.len = len ∧ x.src = 0x41) := by
  have hq (w : State) (hw : w.rv = { s.rv with ansQ := s.rv.ansQ ++ [(body, type, len)] }) (hc : w.q = s.q) :
      (∃ q, w.reeveFlush.rv = { s.rv with ansQ := q }) ∧
      ((s.chan2 0 1).inb.full = true → w.reeveFlush.rv.ansQ = s.rv.ansQ ++ [(body, type, len)]) ∧
      ((s.chan2 0 1).inb.full = false → s.rv.ansQ = [] →
        let x := (w.reeveFlush.chan2 0 1).inb
        x.full = true ∧ x.body = maskBody body len ∧ x.type = type ∧ x.len = len ∧ x.src = 0x41) := by
    unfold State.reeveFlush
    have hansQ : w.rv.ansQ = s.rv.ansQ ++ [(body, type, len)] := by rw [hw]
    have hchan : w.chan2 0 1 = s.chan2 0 1 := congrArg (fun q : Queues => mget Chan2.reset q.boxes 1) hc
    split
    next hnil => exact absurd (hansQ.symm.trans hnil) (by simp)
    next a t hcons =>
    rw [hansQ] at hcons
    rw [hchan]
    dsimp only
    split
    next hfull =>
      have hsame {u : State} (hu : u.rv = w.rv) : u.rv = { s.rv with ansQ := s.rv.ansQ ++ [(body, type, len)] } := hu.trans hw
      refine ⟨⟨_, hsame (by split <;> rfl)⟩, fun _ => congrArg (·.ansQ) (hsame (by split <;> rfl)), fun hfree => ?_⟩
      exact absurd (hfull.symm.trans hfree) (by decide)
    next hfree =>
      refine ⟨⟨t, (bells_frame ..).2.trans (by change ({ w.rv with ansQ := t } : Reeve) = _; rw [hw])⟩, fun hfull => absurd hfull hfree,
        fun _ hnil => ?_⟩
      rw [hnil, List.nil_append, List.cons.injEq] at hcons
      obtain ⟨rfl, -⟩ := hcons
      exact inb_farSend ..
  exact hq _ rfl rfl

/-! ## An accepted request, performed and answered -/

theorem answered_respond (rstat info : Nat) (b : State) : Answered bellReg b (b.respond p r rstat info) := by
  unfold State.respond
  split
  · split
    · exact .refl b
    · exact .of rfl
  · exact Answered.trans (.of rfl) (answered_reeveSay ..)

theorem answered_answer {rstat info : Nat} (hinfo : rstat = 0 ∨ info = 0) (hst : rstat ≠ 1) (b : State) :
    Answered answerReg b (b.answer p r rstat info) := by
  rw [answer_eq hinfo hst]
  exact (answered_counted ..).trans ((answered_respond ..).mono fun a ha => .inr (.inr (.inr ha)))

/-- The one request of a path is answered from the queues that it found, and none waits then. -/
theorem replied_respond {rstat info : Nat} (hasks : asks s p r) (hmail : b.mail = s.begun.mail) :
    let e := b.respond p r rstat info
    replied s e p r rstat info ∧ e.rv.sseq = s.rv.sseq + 1 ∧ e.rv.reqRing = [] ∧ e.rv.mbReq = none := by
  obtain ⟨-, -, -, -, -, -, hpath⟩ := hasks
  have hao : b.ao = s.ao := congrArg (·.1) hmail
  have hring : b.rv.reqRing = s.rv.reqRing := congrArg (·.2.1) hmail
  have hbox : b.rv.mbReq = s.rv.mbReq := congrArg (·.2.2.1) hmail
  have hridx : b.rv.ridx = s.rv.ridx := congrArg (·.2.2.2.1) hmail
  have hansRing : b.rv.ansRing = s.rv.ansRing := congrArg (·.2.2.2.2.1) hmail
  have hansQ : b.rv.ansQ = s.rv.ansQ := congrArg (·.2.2.2.2.2.1) hmail
  have hsseq : b.rv.sseq = s.rv.sseq + 1 := congrArg (·.2.2.2.2.2.2.1) hmail
  have hchan : b.chan2 0 1 = s.chan2 0 1 := by
    have hboxes : b.q.boxes = s.q.boxes := congrArg (·.2.2.2.2.2.2.2) hmail
    exact congrArg (mget Chan2.reset · 1) hboxes
  cases p with
  | ring =>
    obtain ⟨⟨tag, htag⟩, hnone⟩ := hpath
    rw [respond_ring (hring.trans htag), hridx, hao]
    exact ⟨⟨tag, htag, rfl, congrArg (fun n => (n + 1) % 2 ^ 32) hridx, congrArg (· ++ _) hansRing⟩, hsseq, rfl, hbox.trans hnone⟩
  | mailbox =>
    obtain ⟨hnil, q, -⟩ := hpath
    obtain ⟨⟨l, hrv⟩, hwaits, hsent⟩ := reeveSay_sends (BitVec.ofNat 512 (answerRec 0 r 1 rstat info b.ao).toNat) 0xA0 32
      { b with rv.mbReq := none }
    rw [maskBody_answer] at hsent
    have hrv' : (b.respond .mailbox r rstat info).rv = { b.rv with mbReq := none, ansQ := l } := hrv
    refine ⟨⟨congrArg (·.mbReq) hrv', fun hfull => ?_, fun hfree hempty => ?_⟩, (congrArg (·.sseq) hrv').trans hsseq,
      (congrArg (·.reqRing) hrv').trans (hring.trans hnil), congrArg (·.mbReq) hrv'⟩
    · rw [← hao, ← hansQ]
      exact hwaits (hchan ▸ hfull)
    · rw [← hao]
      exact hsent (hchan ▸ hfree) (hansQ.trans hempty)

/-- A command that was accepted, has the privilege it needs and leaves the queues alone ends answered. -/
theorem completes_answered {rstat info : Nat} {P : State → Prop} (hi : exec i s = s.reeveCmd p code masks rangesOk priv f)
    (hfits : fits s p r code masks) (hranges : rangesOk r = true) (hpriv : priv r = true → s.rv.privHeld = true)
    (hf : f r s.begun = (rstat, info, b)) (hmail : b.mail = s.begun.mail) (hinfo : rstat = 0 ∨ info = 0) (hst : rstat ≠ 1)
    (hP : ∀ e, Answered answerReg b e → replied s e p r rstat info → e.rv.sseq = s.rv.sseq + 1 →
      (rstat ≠ 0 → bitAt (e.rget 0x2000C) 5 = true) → P e) : Completes i s P := by
  obtain ⟨hreplied, hsseq, hring, hbox⟩ :=
    replied_respond (rstat := rstat) (info := info) hfits.1 ((mail_counted (p := p) (r := r) rstat b).trans hmail)
  have hanswered := answered_answer (p := p) (r := r) hinfo hst b
  rw [answer_eq hinfo hst] at hanswered
  refine ⟨(b.counted p r rstat).respond p r rstat info, ?_, hP _ hanswered hreplied hsseq fun hrefused => ?_⟩
  · rw [hi, reeveCmd_fits hfits hranges hpriv hf, answer_eq hinfo hst, drain_idle hring hbox, done_eq]
  · rw [(answered_respond ..).regs _ (by unfold bellReg fnAddr; decide), bitAt_counted hrefused]

/-- A command performed. -/
theorem completes_ok {info : Nat} {P : State → Prop} (hi : exec i s = s.reeveCmd p code masks rangesOk priv f)
    (hfits : fits s p r code masks) (hranges : rangesOk r = true) (hpriv : priv r = true → s.rv.privHeld = true)
    (hf : f r s.begun = okInfo info b) (hmail : b.mail = s.begun.mail)
    (hP : ∀ e, Answered answerReg b e → P e) : Completes i s (fun e => okWith s e p r info ∧ P e) :=
  completes_answered hi hfits hranges hpriv hf hmail (.inl rfl) (by decide)
    fun e he hreplied hsseq _ => ⟨⟨hreplied, hsseq⟩, hP e he⟩

/-- A command refused BUSY by its own check. -/
theorem completes_busy {P : State → Prop} (hi : exec i s = s.reeveCmd p code masks rangesOk priv f)
    (hfits : fits s p r code masks) (hranges : rangesOk r = true) (hpriv : priv r = true → s.rv.privHeld = true)
    (hf : f r s.begun = (9, 0, s.begun)) (hP : ∀ e, Answered answerReg s.begun e → P e) :
    Completes i s (fun e => refusedWith s e p r 9 ∧ P e) :=
  completes_answered hi hfits hranges hpriv hf rfl (.inr rfl) (by decide)
    fun e he hreplied hsseq hbit => ⟨⟨hreplied, hsseq, hbit (by decide)⟩, hP e he⟩

end Sys2Proof.Machine
end

section
/-! O44: the commands on tiles, supervisors and faults (R189, R190, R494, R512, R514, R523, R566, R570, R572). -/

namespace Sys2Proof.Machine
open Sys2Proof

variable {s t e b : State} {p : ReqPath} {r : BitVec 512}

/-! ## What an answer leaves -/

section
variable {R : Nat → Prop} (h : Answered R b e)
include h

theorem Answered.dev : e.dev = b.dev := congrArg (·.dev) h.frame
theorem Answered.flt : e.flt = b.flt := congrArg (·.flt) h.frame
theorem Answered.sio : e.sio = b.sio := congrArg (·.sio) h.frame
theorem Answered.sv : e.sv = b.sv := congrArg (·.sv) h.frame
theorem Answered.store : e.store = b.store := congrArg (·.store) h.frame
theorem Answered.tiles : e.tiles = b.tiles := congrArg (·.tiles) h.frame
theorem Answered.streams : e.streams = b.streams := congrArg (·.streams) h.frame
theorem Answered.tile (u : Nat) : e.tile u = b.tile u := congrArg (mget TileSt.reset · u) h.tiles
theorem Answered.stream (n : Nat) : e.stream n = b.stream n := congrArg (mget StreamV.reset · n) h.streams
theorem Answered.src (n : Nat) : e.src n = b.src n := src_congr (congrArg (fun f : Faults => f.src) h.flt) n
theorem Answered.chan (k : Nat) : e.chan k = b.chan k := congrArg (fun x : Sio => mget Chan.reset x.chans k) h.sio
theorem Answered.raisedIn {n : Nat} (hr : RaisedIn n s b) : RaisedIn n s e := hr.then_src (h.src n)

end

/-! ## Tiles (R189, R190) -/

theorem completes_tileClear (hfits : fits s p r 0x21 [255]) (hheld : s.rv.privHeld = true) (ha : reqArg r 1 < 192) :
    Completes (.tileClear p) s (fun e => okWith s e p r 0 ∧
      (e.tile (reqArg r 1)).qcount = 0 ∧ e.store.thrDirty = true ∧
      (e.tile (reqArg r 1)).role =
        (if (s.tile (reqArg r 1)).role ∈ [.failed, .failedRouter] then .quarantined else (s.tile (reqArg r 1)).role) ∧
      ∀ t, t ≠ reqArg r 1 → e.tile t = s.tile t) := by
  have hmail : (s.begun.tileClear (reqArg r 1)).mail = s.begun.mail := rfl
  have htile (u : Nat) : (s.begun.tileClear (reqArg r 1)).tile u = if u = reqArg r 1 then
      { s.tile (reqArg r 1) with
        role := if (s.tile (reqArg r 1)).role == .failed || (s.tile (reqArg r 1)).role == .failedRouter then Role.quarantined
          else (s.tile (reqArg r 1)).role,
        qcount := 0 } else s.tile u := State.tile_setTile ..
  refine completes_ok (show execTileClear p s = _ from rfl) hfits (decide_eq_true ha) (fun _ => hheld) rfl hmail fun e he => ?_
  rw [he.tile, htile, if_pos rfl, he.store]
  refine ⟨rfl, rfl, ?_, fun u hu => ?_⟩
  · dsimp only
    simp only [Bool.or_eq_true, beq_iff_eq, List.mem_cons, List.not_mem_nil, or_false]
  · rw [he.tile, htile, if_neg hu]

/-! ## Supervisors and tasks (R566, R570, R572) -/

theorem mail_lower (n : Nat) (s : State) : (s.lower n).mail = s.mail := by
  unfold State.lower
  split
  · exact (reacts_deassert n s).mail
  · rfl

theorem sv_lower (n : Nat) (s : State) : (s.lower n).sv = s.sv := by
  unfold State.lower State.deassert
  split
  · dsimp only
    split
    · split <;> rfl
    · rfl
  · rfl

/-- The host watchdog armed with a fresh challenge and the request's seed and window. -/
def State.hwdArmed (r : BitVec 512) (s : State) : State :=
  { s.tickFree with sv.hwd :=
    { st := .first, chal := s.fresh 32, seed := BitVec.ofNat 128 (reqField r 24 16), prev := s.ao,
      tOpen := reqArg r 1 % 2 ^ 32 * 50000, tClose := reqArg r 1 / 2 ^ 32 * 50000, heldAt := none } }

theorem completes_hwdArm (hfits : fits s p r 0x200 [all64, all64, all64]) (hheld : s.rv.privHeld = true)
    (hmin : 10 ≤ reqArg r 1 / 2 ^ 32) (hmax : reqArg r 1 / 2 ^ 32 ≤ 60000) (hopen : 2 * (reqArg r 1 % 2 ^ 32) ≤ reqArg r 1 / 2 ^ 32) :
    Completes (.hwdArm p) s (fun e => ∃ c : W32, okWith s e p r c.toNat ∧ e.sv.hwd =
      { st := .first, chal := c, seed := BitVec.ofNat 128 (reqField r 24 16), prev := s.ao,
        tOpen := reqArg r 1 % 2 ^ 32 * 50000, tClose := reqArg r 1 / 2 ^ 32 * 50000, heldAt := none } ∧ e.sv.rwd = s.sv.rwd) := by
  have hranges : (inR 10 60000 (reqArg r 1 / 2 ^ 32) && decide (2 * (reqArg r 1 % 2 ^ 32) ≤ reqArg r 1 / 2 ^ 32)) = true := by
    simp only [inR, Bool.and_eq_true, decide_eq_true_eq]
    exact ⟨⟨hmin, hmax⟩, hopen⟩
  have hcompletes : Completes (.hwdArm p) s (fun e => okWith s e p r (s.begun.fresh 32).toNat ∧
      e.sv = (s.begun.hwdArmed r).sv) :=
    completes_ok (show execHwdArm p s = _ from rfl) hfits hranges (fun _ => hheld)
      (b := ((s.begun.hwdArmed r).rset 0x30028
        (BitVec.ofNat 32 (reqArg r 1 % 2 ^ 32 + 65536 * (reqArg r 1 / 2 ^ 32)))).lower 64)
      rfl (mail_lower ..) fun e he => he.sv.trans (sv_lower ..)
  obtain ⟨e, hrun, hok, hsv⟩ := hcompletes
  exact ⟨e, hrun, s.begun.fresh 32, hok, congrArg (·.hwd) hsv, congrArg (·.rwd) hsv⟩

theorem completes_hwdDisarm (hfits : fits s p r 0x201 []) (hheld : s.rv.privHeld = true) :
    Completes (.hwdDisarm p) s (fun e => okWith s e p r 0 ∧ e.sv.hwd.st = .disarmed ∧ e.sv.rwd = s.sv.rwd) := by
  refine completes_ok (show execHwdDisarm p s = _ from rfl) hfits rfl (fun _ => hheld) rfl (mail_lower ..) fun e he => ?_
  rw [he.sv, sv_lower]
  exact ⟨rfl, rfl⟩

theorem completes_taskSet (hfits : fits s p r 0x202 [0x1FFF, all64]) (hheld : s.rv.privHeld = true)
    (hchk : reqArg r 1 / 1024 % 4 ≠ 3) :
    Completes (.taskSet p) s (fun e => okWith s e p r 0 ∧
      (let m := mget TaskMon.reset e.sv.tasks (reqArg r 1 % 16)
       m.en = (reqArg r 1).testBit 12 ∧ m.stream = reqArg r 1 / 16 % 64 ∧ m.chk = reqArg r 1 / 1024 % 4 ∧
       m.lo = reqArg r 2 % 2 ^ 32 ∧ m.hi = reqArg r 2 / 2 ^ 32) ∧
      ∀ m, m ≠ reqArg r 1 % 16 → mget TaskMon.reset e.sv.tasks m = mget TaskMon.reset s.sv.tasks m) := by
  refine completes_ok (show execTaskSet p s = _ from rfl) hfits (bne_iff_ne.2 hchk) (fun _ => hheld) rfl rfl fun e he => ?_
  rw [he.sv]
  refine ⟨?_, fun m hm => mget_mput_ne _ _ _ hm⟩
  rw [mget_mput_same]
  refine ⟨?_, rfl, rfl, rfl, rfl⟩
  rw [Nat.testBit_eq_decide_div_mod_eq]

/-! ## Faults (R512, R514, R523) -/

theorem mail_cleared (n : Nat) (s : State) : (s.cleared n).mail = s.mail := by
  unfold State.cleared
  refine (mail_evalChans _).trans ?_
  split <;> rfl

theorem sameSrc_cleared (n : Nat) (s : State) : SameSrc s (s.cleared n) := by
  unfold State.cleared
  refine SameSrc.trans ?_ (sameSrc_evalChans _)
  split <;> rfl

/-- Privilege is needed for a class S source alone. -/
theorem clearPriv_held (h : s.rv.privHeld = true ∨ (romCfg (reqArg r 1)).clsD = true ∨ (romCfg (reqArg r 1)).reserved = true)
    (hneed : clearPriv r = true) : s.rv.privHeld = true := by
  rcases h with h | h | h
  · exact h
  · simp [clearPriv, h] at hneed
  · simp [clearPriv, h] at hneed

section
variable (hfits : fits s p r 0x300 [255])
  (hheld : s.rv.privHeld = true ∨ (romCfg (reqArg r 1)).clsD = true ∨ (romCfg (reqArg r 1)).reserved = true)
include hfits hheld

theorem completes_faultClear_fallen (hst : (s.src (reqArg r 1)).st = .latched) (hline : (s.src (reqArg r 1)).asserted = false) :
    Completes (.faultClear p) s (fun e => okWith s e p r 0 ∧ (e.src (reqArg r 1)).st = .clear ∧
      (e.src (reqArg r 1)).occ = (s.src (reqArg r 1)).occ ∧ ∀ n, n ≠ reqArg r 1 → e.src n = s.src n) := by
  obtain ⟨d, hd⟩ : ∃ d : State, d = s.begun.setSrc (reqArg r 1) { s.src (reqArg r 1) with st := .clear, units := [] } := ⟨_, rfl⟩
  have hsrc (n : Nat) : (d.cleared (reqArg r 1)).src n =
      if n = reqArg r 1 then { s.src (reqArg r 1) with st := .clear, units := [] } else s.src n := by
    rw [src_congr (sameSrc_cleared ..), hd, src_setSrc]
    rfl
  refine completes_ok (b := d.cleared (reqArg r 1)) (show execFaultClear p s = _ from rfl) hfits rfl (clearPriv_held hheld) ?_
    ((mail_cleared ..).trans (by rw [hd]; rfl)) fun e he => ?_
  · change (if (s.src (reqArg r 1)).st == .latched then (if (s.src (reqArg r 1)).asserted then _ else _) else _ : Nat × Nat × State) = _
    rw [hst, hline, hd]
    rfl
  · rw [he.src, hsrc, if_pos rfl]
    exact ⟨rfl, rfl, fun n hn => by rw [he.src, hsrc, if_neg hn]⟩

theorem completes_faultClear_standing (hst : (s.src (reqArg r 1)).st = .latched) (hline : (s.src (reqArg r 1)).asserted = true) :
    Completes (.faultClear p) s (fun e => refusedWith s e p r 9 ∧ e.flt = s.flt) := by
  refine completes_busy (show execFaultClear p s = _ from rfl) hfits rfl (clearPriv_held hheld) ?_ fun e he => he.flt
  change (if (s.src (reqArg r 1)).st == .latched then (if (s.src (reqArg r 1)).asserted then _ else _) else _ : Nat × Nat × State) = _
  rw [hst, hline]
  rfl

theorem completes_faultClear_unlatched (hst : (s.src (reqArg r 1)).st ≠ .latched) :
    Completes (.faultClear p) s (fun e => okWith s e p r (s.src (reqArg r 1)).st.code ∧ e.flt = s.flt) := by
  refine completes_ok (show execFaultClear p s = _ from rfl) hfits rfl (clearPriv_held hheld) (b := s.begun) ?_ rfl fun e he => he.flt
  change (if (s.src (reqArg r 1)).st == .latched then _ else _ : Nat × Nat × State) = _
  rw [if_neg (fun h => hst (beq_iff_eq.1 h))]
  rfl

end

section
variable (hfits : fits s p r 0x301 [0xFFFF03FF]) (hheld : s.rv.privHeld = true)
include hfits hheld

theorem completes_faultInject :
    Completes (.faultInject p) s (fun e => okWith s e p r 0 ∧
      e.flt = (s.arm (reqArg r 1 % 256) (reqArg r 1 / 256 % 4) (reqArg r 1 / 65536) false).flt) := by
  refine completes_ok (show execFaultInject p s = _ from rfl) hfits rfl (fun _ => hheld) rfl ?_ fun e he => he.flt.trans ?_
  · unfold State.arm; split <;> rfl
  · unfold State.arm; split <;> rfl

theorem completes_faultInject_armed
    (hhit : 1 ≤ reqArg r 1 % 256 ∧ reqArg r 1 % 256 ≤ 9 ∧ reqArg r 1 / 256 % 4 ≠ 0) :
    Completes (.faultInject p) s (fun e => okWith s e p r 0 ∧ e.flt.injTarget.toNat = reqArg r 1 % 256 ∧
      e.flt.injMode.toNat = reqArg r 1 / 256 % 4 ∧ e.flt.injUnit.toNat = reqArg r 1 / 65536 % 65536 ∧ e.flt.injReg = false) := by
  obtain ⟨e, hrun, hok, hflt⟩ := completes_faultInject hfits hheld
  rw [State.arm, if_pos (by rwa [Nat.mod_mod])] at hflt
  refine ⟨e, hrun, hok, ?_⟩
  rw [hflt]
  simp only [BitVec.toNat_ofNat, and_true]
  omega

theorem completes_faultInject_idle
    (hmiss : ¬ (1 ≤ reqArg r 1 % 256 ∧ reqArg r 1 % 256 ≤ 9 ∧ reqArg r 1 / 256 % 4 ≠ 0)) :
    Completes (.faultInject p) s (fun e => okWith s e p r 0 ∧ e.flt.injTarget = 0) := by
  obtain ⟨e, hrun, hok, hflt⟩ := completes_faultInject hfits hheld
  rw [State.arm, if_neg (by rwa [Nat.mod_mod])] at hflt
  exact ⟨e, hrun, hok, by rw [hflt]⟩

end

/-- What the rest of the device learns of a raise is no source's state. -/
theorem sameSrc_raiseSeen (n : Nat) (s : State) : SameSrc s (s.raiseSeen n) := by
  have hinj : SameSrc s (s.injSeen n) := by
    unfold State.injSeen State.disarm State.arm
    split
    · split <;> rfl
    · rfl
  unfold State.raiseSeen
  dsimp only
  split
  · exact hinj
  · exact hinj

theorem mail_raiseSeen (n : Nat) (s : State) : (s.raiseSeen n).mail = s.mail := by
  have hinj : (s.injSeen n).mail = s.mail := by
    unfold State.injSeen State.disarm State.arm
    split
    · split <;> rfl
    · rfl
  unfold State.raiseSeen
  dsimp only
  split
  · exact hinj
  · exact hinj

theorem completes_faultRaise (hfits : fits s p r 0x302 [255]) (hheld : s.rv.privHeld = true)
    (hlisted : (romCfg (reqArg r 1)).reserved = false) (hplain : ¬(231 ≤ reqArg r 1 ∧ reqArg r 1 ≤ 235)) :
    Completes (.faultRaise p) s (fun e => okWith s e p r 0 ∧ RaisedIn (reqArg r 1) s e) := by
  have hcold : s.begun.dev.state ≠ .cold := hfits.1.1
  refine completes_ok (show execFaultRaise p s = _ from rfl) hfits ?_ (fun _ => hheld) rfl
    ((mail_raiseSeen ..).trans (mail_raise ..)) fun e he => he.raisedIn ?_
  · rw [hlisted]
    simp only [Bool.not_false, Bool.true_and, Bool.not_eq_true', Bool.and_eq_false_iff, decide_eq_false_iff_not]
    omega
  · exact ((raisedIn_raise hlisted hcold).then_sameSrc (sameSrc_raiseSeen ..)).of_src rfl

end Sys2Proof.Machine
end

section
/-! O44: the commands on captures, outputs and brakes (R512, R537, R544), and the voters' test (R464). -/

namespace Sys2Proof.Machine
open Sys2Proof

variable {s t e b : State} {p : ReqPath} {r : BitVec 512}

/-! ## Captures (R512) -/

/-- Bits below a field that is replaced stay. -/
theorem bitsOf_setBits_below (w : W32) {hi lo h l : Nat} (v : Nat) (hh : h < 32) (hlo : h < lo) :
    bitsOf (setBits w hi lo v) h l = bitsOf w h l := by
  refine Nat.eq_of_testBit_eq fun i => ?_
  simp only [bitsOf, Nat.testBit_mod_two_pow, Nat.testBit_shiftRight]
  by_cases hi' : i < h + 1 - l
  · have hset := bitAt_setBits w hi lo v (i := l + i) (by omega)
    rw [if_neg (by omega)] at hset
    exact congrArg (decide (i < h + 1 - l) && ·) hset
  · simp [hi']

/-- The capture of group `g` rearmed where its bit is set. -/
def State.capRearm (a g : Nat) (s : State) : State := if a.testBit g then s.rfield (0x10100 + 32 * g) 8 8 0 else s

theorem capRearm_eq (a g : Nat) (s : State) :
    (if a.testBit g then s.rfield (0x10100 + 32 * g) 8 8 0 else s) = s.capRearm a g := rfl

theorem rget_rearm (a g x : Nat) (s : State) : (s.capRearm a g).rget x =
    if x = 0x10100 + 32 * g ∧ a.testBit g = true then setBits (s.rget x) 8 8 0 else s.rget x := by
  unfold State.capRearm State.rfield
  by_cases hbit : a.testBit g = true
  · rw [if_pos hbit]
    by_cases hx : x = 0x10100 + 32 * g
    · rw [if_pos ⟨hx, hbit⟩, hx, rget_rset_same]
    · rw [if_neg (fun h => hx h.1), rget_rset_ne hx]
  · rw [if_neg hbit, if_neg (fun h => hbit h.2)]

theorem rget_forAll_rearm (a x : Nat) {g : Nat} (hx : x = 0x10100 + 32 * g) : ∀ (l : List Nat) (s : State), l.Nodup →
    (forAll l (State.capRearm a) s).rget x = if g ∈ l ∧ a.testBit g = true then setBits (s.rget x) 8 8 0 else s.rget x
  | [], s, _ => by rw [if_neg (fun h => List.not_mem_nil h.1)]; rfl
  | k :: l, s, hl => by
    obtain ⟨hk, hl⟩ := List.nodup_cons.1 hl
    rw [forAll_cons, rget_forAll_rearm a x hx l _ hl, rget_rearm]
    by_cases hkg : g = k
    · subst hkg
      rw [if_neg (fun h => hk h.1)]
      exact if_congr (by simp [hx]) rfl rfl
    · have hother : ¬ (x = 0x10100 + 32 * k ∧ a.testBit k = true) := fun h => hkg (by omega)
      rw [if_neg hother]
      exact if_congr (by simp [hkg]) rfl rfl

theorem mail_rearm (a g : Nat) (s : State) : (s.capRearm a g).mail = s.mail := by
  unfold State.capRearm
  split
  · exact mail_rset ..
  · rfl

theorem completes_capRearm (hfits : fits s p r 0x303 [255]) :
    Completes (.capRearm p) s (fun e => okWith s e p r 0 ∧ ∀ g, g < 8 →
      bitAt (e.rget (0x10100 + 32 * g)) 8 = (bitAt (s.rget (0x10100 + 32 * g)) 8 && !(reqArg r 1).testBit g) ∧
      bitsOf (e.rget (0x10100 + 32 * g)) 7 0 = bitsOf (s.rget (0x10100 + 32 * g)) 7 0) := by
  refine completes_ok (show execCapRearm p s = _ from rfl) hfits rfl (fun h => absurd h Bool.false_ne_true)
    (b := forAll (List.range 8) (State.capRearm (reqArg r 1)) s.begun) (by simp only [capRearm_eq])
    (forAll_const State.mail _ (mail_rearm (reqArg r 1)) _ _) fun e he g hg => ?_
  have hreg : ¬ answerReg (0x10100 + 32 * g) := by
    unfold answerReg bellReg fnAddr
    omega
  have hbegun (x : Nat) : s.begun.rget x = s.rget x := rfl
  have hrget := rget_forAll_rearm (reqArg r 1) _ (g := g) rfl (List.range 8) s.begun List.nodup_range
  rw [he.regs _ hreg, hrget, hbegun]
  by_cases hbit : (reqArg r 1).testBit g = true
  · rw [if_pos ⟨List.mem_range.2 hg, hbit⟩, bitAt_setBits _ _ _ _ (by decide), bitsOf_setBits_below _ _ (by decide) (by decide), hbit]
    simp
  · rw [if_neg (fun h => hbit h.2), eq_false_of_ne_true hbit]
    simp

/-! ## Outputs and brakes (R537, R544) -/

/-- Channel `k` is named, in mode CMD, de-energised, and all its conditions hold. -/
def State.startable (a k : Nat) (s : State) : Bool :=
  a.testBit k && decide ((chanCfg s.sio.body k).restart = 1) && !(s.chan k).energised && decide ((s.chan k).bt = .idle) &&
    s.conds k && s.dev.state != .planLoad

/-- Channel `k` energised where it is startable. -/
def State.restart (a k : Nat) (s : State) : State := if s.startable a k then s.drive k true else s

/-- A channel's conditions do not depend on what the channels drive. -/
theorem conds_drive (j k : Nat) (on : Bool) (s : State) : (s.drive j on).conds k = s.conds k := by
  have hbad : ((s.drive j on).chan k).btBad = (s.chan k).btBad := by
    rw [chan_drive]
    split
    next h => rw [h]
    next => rfl
  unfold State.conds State.condOther
  rw [hbad]
  rfl

theorem startable_restart_ne {a j k : Nat} (hk : k ≠ j) (s : State) : (s.restart a j).startable a k = s.startable a k := by
  unfold State.restart
  split
  · unfold State.startable
    rw [conds_drive, chan_drive, if_neg hk]
    rfl
  · rfl

theorem chan_restart_ne {a j k : Nat} (hk : k ≠ j) (s : State) : (s.restart a j).chan k = s.chan k := by
  unfold State.restart
  split
  · rw [chan_drive, if_neg hk]
  · rfl

theorem energised_restart (a k : Nat) (s : State) :
    ((s.restart a k).chan k).energised = ((s.chan k).energised || s.startable a k) := by
  unfold State.restart
  cases hstart : s.startable a k with
  | true => rw [if_pos rfl, chan_drive, if_pos rfl, Bool.or_true]
  | false => rw [if_neg (by decide), Bool.or_false]

theorem energised_forAll_restart (a k : Nat) : ∀ (l : List Nat) (s : State), l.Nodup →
    ((forAll l (State.restart a) s).chan k).energised = ((s.chan k).energised || (decide (k ∈ l) && s.startable a k))
  | [], s, _ => by simp [forAll]
  | j :: l, s, hl => by
    obtain ⟨hj, hl⟩ := List.nodup_cons.1 hl
    rw [forAll_cons, energised_forAll_restart a k l _ hl]
    by_cases hkj : k = j
    · subst hkj
      rw [energised_restart]
      simp [hj]
    · rw [chan_restart_ne hkj, startable_restart_ne hkj]
      simp [hkj]

theorem mail_restart (a k : Nat) (s : State) : (s.restart a k).mail = s.mail := by
  unfold State.restart
  split <;> rfl

theorem restart_eq (a k : Nat) (s : State) :
    (if a.testBit k ∧ (chanCfg s.sio.body k).restart = 1 ∧ !(s.chan k).energised ∧ (s.chan k).bt = .idle
          ∧ s.conds k ∧ !(s.dev.state = .planLoad) then s.drive k true else s) = s.restart a k := by
  unfold State.restart
  refine if_congr ?_ rfl rfl
  unfold State.startable
  simp only [Bool.and_eq_true, decide_eq_true_eq, bne_iff_ne, Bool.not_eq_true', decide_eq_false_iff_not, ne_eq, and_assoc]

theorem completes_outRestart (hfits : fits s p r 0x120 [0x3FF]) (hheld : s.rv.privHeld = true) :
    Completes (.outRestart p) s (fun e => okWith s e p r 0 ∧
      ∀ k, k < 10 → (e.chan k).energised = ((s.chan k).energised || ((reqArg r 1).testBit k &&
        decide ((chanCfg s.sio.body k).restart = 1) && decide ((s.chan k).bt = .idle) && s.conds k &&
        s.dev.state != .planLoad))) := by
  refine completes_ok (show execOutRestart p s = _ from rfl) hfits rfl (fun _ => hheld)
    (b := forAll (List.range 10) (State.restart (reqArg r 1)) s.begun) ?_
    (forAll_const State.mail _ (mail_restart (reqArg r 1)) _ _) fun e he k hk => ?_
  · simp only [restart_eq]
  · rw [he.chan, energised_forAll_restart _ _ _ _ List.nodup_range, decide_eq_true (List.mem_range.2 hk), Bool.true_and]
    change ((s.chan k).energised || s.startable (reqArg r 1) k) = _
    unfold State.startable
    cases (s.chan k).energised <;> simp

theorem completes_brakeTest (hfits : fits s p r 0x121 [1]) (hon : (s.chan (8 + reqArg r 1)).energised = true)
    (hstill : (s.pair (brakeCfg s.sio.body (reqArg r 1)).standstill).st = .release) :
    Completes (.brakeTest p) s (fun e => okWith s e p r 0 ∧
      e.chan (8 + reqArg r 1) =
        { s.chan (8 + reqArg r 1) with energised := false, cmdAt := s.ao, bt := .apply, btStart := s.ao } ∧
      ∀ j, j ≠ 8 + reqArg r 1 → e.chan j = s.chan j) := by
  obtain ⟨d, hd⟩ : ∃ d : State, d = s.begun.drive (8 + reqArg r 1) false := ⟨_, rfl⟩
  have hchan (j : Nat) : d.chan j = if j = 8 + reqArg r 1 then
      { s.chan (8 + reqArg r 1) with energised := false, cmdAt := s.ao } else s.chan j := by
    rw [hd, chan_drive]
    rfl
  have hmail : d.mail = s.begun.mail := by rw [hd]; rfl
  refine completes_ok (show execBrakeTest p s = _ from rfl) hfits rfl (fun h => absurd h Bool.false_ne_true)
    (b := d.setChan (8 + reqArg r 1) { d.chan (8 + reqArg r 1) with bt := .apply, btStart := d.ao }) ?_ hmail
    fun e he => ?_
  · change (if (s.chan (8 + reqArg r 1)).energised && (s.pair (brakeCfg s.sio.body (reqArg r 1)).standstill).st == .release
      then _ else _ : Nat × Nat × State) = _
    rw [hon, hstill, hd]
    rfl
  · rw [he.chan, State.chan_setChan, if_pos rfl, hchan, if_pos rfl]
    refine ⟨by rw [hd]; rfl, fun j hj => ?_⟩
    rw [he.chan, State.chan_setChan, if_neg hj, hchan, if_neg hj]

theorem completes_brakeTest_busy (hfits : fits s p r 0x121 [1])
    (hbusy : (s.chan (8 + reqArg r 1)).energised = false ∨
      (s.pair (brakeCfg s.sio.body (reqArg r 1)).standstill).st ≠ .release) :
    Completes (.brakeTest p) s (fun e => refusedWith s e p r 9 ∧ e.sio = s.sio) := by
  refine completes_busy (show execBrakeTest p s = _ from rfl) hfits rfl (fun h => absurd h Bool.false_ne_true) ?_ fun e he => he.sio
  change (if (s.chan (8 + reqArg r 1)).energised && (s.pair (brakeCfg s.sio.body (reqArg r 1)).standstill).st == .release
    then _ else _ : Nat × Nat × State) = _
  rw [if_neg]
  rw [Bool.and_eq_true, beq_iff_eq]
  rintro ⟨hon, hstill⟩
  rcases hbusy with h | h
  · exact absurd (hon.symm.trans h) (by decide)
  · exact h hstill

end Sys2Proof.Machine
end

section
/-! O44: what a reaction leaves of the device's state and the streams, and the request for SAFE_HOLD (R29, R32, R505). -/

namespace Sys2Proof.Machine
open Sys2Proof

variable {s t e b : State} {p : ReqPath} {r : BitVec 512}

/-! ## The device's state and the streams through a reaction -/

/-- The device's state, the source of its hold, a blackout and the streams. -/
def State.posture (s : State) := (s.dev.state, s.dev.holdSrc, s.dev.blackout, s.streams)

theorem posture_rset (a : Nat) (v : W32) (s : State) : (s.rset a v).posture = s.posture := rfl

theorem posture_of (hd : e.dev = s.dev) (hs : e.streams = s.streams) : e.posture = s.posture := by
  unfold State.posture
  rw [hd, hs]

theorem posture_ite {c : Prop} [Decidable c] {x y : State} (hx : x.posture = s.posture) (hy : y.posture = s.posture) :
    (if c then x else y).posture = s.posture := by
  split <;> assumption

theorem posture_forAll {α : Type} {f : α → State → State} (hf : ∀ a u, (f a u).posture = u.posture) (l : List α) (s : State) :
    (forAll l f s).posture = s.posture :=
  forAll_const State.posture f hf l s

theorem posture_evalChans (s : State) : s.evalChans.posture = s.posture := posture_of (dev_evalChans s) (streams_evalChans s)

theorem posture_msix (f v : Nat) (s : State) : (s.msix f v).posture = s.posture := posture_ite rfl rfl

theorem posture_errPRaise (s : State) : s.errPRaise.posture = s.posture := posture_ite rfl (posture_ite rfl rfl)

theorem posture_dropMask (m : Nat) (s : State) : (s.dropMask m).posture = s.posture := by
  unfold State.dropMask
  refine posture_forAll (fun k u => ?_) _ s
  exact posture_ite rfl rfl

theorem posture_rmaxFree (a m : Nat) (s : State) : (s.rmaxFree a m).posture = s.posture := rfl

theorem posture_trip (n m : Nat) (s : State) : (s.trip n m).posture = s.posture := by
  unfold State.trip State.revt
  rw [posture_evalChans, posture_rmaxFree, posture_rset, posture_rset, posture_rset]

theorem posture_blockReset (n : Nat) (s : State) : (s.blockReset n).posture = s.posture := by
  unfold State.blockReset
  split
  · rfl
  · split
    · refine posture_forAll (fun k u => ?_) _ s
      dsimp only
      split
      · exact posture_ite rfl rfl
      · rfl
    · exact posture_ite rfl (posture_ite rfl (posture_ite (posture_ite rfl rfl) rfl))

theorem posture_capture (n : Nat) (c : Cap) (s : State) : (s.capture n c).posture = s.posture := by
  unfold State.capture State.rset64 State.rincSat State.rfield
  dsimp only
  split
  · exact posture_rset ..
  · rw [posture_rset, posture_rset, posture_rset, posture_rset, posture_rset]

theorem srcCfg_rset (a : Nat) (v : W32) (n : Nat) (s : State) : (s.rset a v).srcCfg n = s.srcCfg n := rfl

theorem srcCfg_capture (n : Nat) (c : Cap) (m : Nat) (s : State) : (s.capture n c).srcCfg m = s.srcCfg m := by
  unfold State.capture State.rset64 State.rincSat State.rfield
  dsimp only
  split
  · exact srcCfg_rset ..
  · rw [srcCfg_rset, srcCfg_rset, srcCfg_rset, srcCfg_rset, srcCfg_rset]

/-- The reactions of a source other than the tamper sensors: the entry into SAFE_HOLD alone touches the device's state or the
streams. -/
theorem posture_react {n : Nat} (hn : ¬ (231 ≤ n ∧ n ≤ 234)) (s : State) :
    ∃ u : State, u.posture = s.posture ∧
      (s.react n).posture = (if (s.srcCfg n).has 6 then u.enterSafeHold (some n) else u).posture := by
  unfold State.react
  extract_lets cfg s1 tam pol x s2 rv s3 s4 s5 s6 s7 s8
  have htam : tam = false := by
    unfold tam
    simp only [Bool.and_eq_false_iff, decide_eq_false_iff_not]
    omega
  have hx : x = cfg.react := if_neg (by rw [htam]; decide)
  have h1 : s1.posture = s.posture := posture_rset ..
  have h2 : s2.posture = s1.posture := posture_ite ((posture_msix ..).trans (posture_rset ..)) rfl
  have h3 : s3.posture = s2.posture := posture_ite rfl rfl
  have h4 : s4.posture = s3.posture := posture_ite (posture_errPRaise _) rfl
  have h5 : s5.posture = s4.posture := posture_ite ((posture_trip ..).trans (posture_dropMask ..)) rfl
  have h6 : s6.posture = (if cfg.react.testBit 6 then s5.enterSafeHold (some n) else s5).posture := by
    unfold s6
    rw [hx]
    split
    · exact posture_trip ..
    · rfl
  have h7 : s7 = s6 := if_neg (by rw [htam, Bool.false_and]; decide)
  have h8 : s8.posture = s7.posture := posture_ite (posture_blockReset ..) rfl
  refine ⟨s5, by rw [h5, h4, h3, h2, h1], ?_⟩
  have h9 : (if x.testBit 4 && decide (s8.dev.holdAt ≠ some s8.ao) && s8.dev.state != .alarm then
      { s8 with dev.chipReq := some (some n) } else s8).posture = s8.posture := posture_ite rfl rfl
  rw [h9, h8, h7, h6]
  rfl

/-- A raise whose source enters no SAFE_HOLD leaves the device's state and the streams alone. -/
theorem posture_raiseWith {n : Nat} (hn : ¬ (231 ≤ n ∧ n ≤ 234)) (hsix : (s.srcCfg n).has 6 = false) (l : Bool) (c : Cap) :
    (s.raiseWith n l c).posture = s.posture := by
  unfold State.raiseWith
  split
  · rfl
  · extract_lets o us v s1
    have h1 : s1.posture = s.posture := posture_capture n c s
    have hcfg : s1.srcCfg n = s.srcCfg n := srcCfg_capture n c n s
    split
    · rw [posture_evalChans]
      obtain ⟨u, hu, hreact⟩ := posture_react hn (s1.setSrc n { v with st := .active, depAo := s1.ao })
      have hsix' : ((s1.setSrc n { v with st := .active, depAo := s1.ao }).srcCfg n).has 6 = false := by
        rw [← hsix, ← hcfg]
        rfl
      rw [hreact, hsix', if_neg (by decide), hu]
      exact h1
    all_goals exact h1

/-! ## The entry into SAFE_HOLD (R29, R32) -/

theorem dev_fnEvt (f n : Nat) (s : State) : (s.fnEvt f n).dev = s.dev := by
  unfold State.fnEvt State.msix
  dsimp only
  split <;> rfl

theorem dev_devTo (d : DevState) (s : State) : (s.devTo d).dev = { s.dev with state := d } := by
  unfold State.devTo
  split
  next h => rw [← h]
  next => exact forAll_const State.dev (fun f u => u.fnEvt f 0) (fun f u => dev_fnEvt f 0 u) _ _

theorem dev_endPriv (s : State) : s.endPriv.dev = s.dev := by
  unfold State.endPriv
  split <;> rfl

theorem dev_holdAll (f : StreamV → StreamV) (s : State) : (s.holdAll f).dev = s.dev := by
  unfold State.holdAll
  refine forAll_const State.dev _ (fun k u => ?_) _ s
  rfl

theorem dev_enterSafeHold {n : Nat} (hlive : s.dev.state.live = true) :
    (s.enterSafeHold (some n)).dev.state = .safeHold ∧ (s.enterSafeHold (some n)).dev.holdSrc = some n := by
  unfold State.enterSafeHold
  rw [if_pos hlive]
  dsimp only
  rw [dev_evalChans, dev_endPriv, dev_holdAll, dev_devTo]
  exact ⟨rfl, rfl⟩

theorem raise_clear {n : Nat} (hlisted : (romCfg n).reserved = false) (hcold : s.dev.state ≠ .cold)
    (hclear : (s.src n).st = .clear) : ∃ v, s.raise n = (((s.capture n Cap.none).setSrc n v).react n).evalChans := by
  unfold State.raise State.raiseWith
  rw [if_neg (by rw [hlisted, Bool.false_or, beq_iff_eq]; exact hcold)]
  extract_lets o us v s1
  split
  next => exact ⟨{ v with st := .active, depAo := s1.ao }, rfl⟩
  all_goals
    next h =>
      have hst : (s.src n).st = _ := h
      rw [hclear] at hst
      contradiction

/-- A source with reaction S that leaves CLEAR in a live state holds the device with every channel de-energised. -/
theorem raise_holds {n : Nat} (hn : ¬ (231 ≤ n ∧ n ≤ 234)) (hlisted : (romCfg n).reserved = false)
    (hlive : s.dev.state.live = true) (hclear : (s.src n).st = .clear) (hsix : (s.srcCfg n).has 6 = true) :
    (s.raise n).dev.state = .safeHold ∧ (s.raise n).dev.holdSrc = some n ∧ ∀ k, k < 10 → ((s.raise n).chan k).energised = false := by
  have hcold : s.dev.state ≠ .cold := fun h => absurd (h ▸ hlive) (by decide)
  obtain ⟨v, hraise⟩ := raise_clear hlisted hcold hclear
  obtain ⟨d, hd⟩ : ∃ d, d = (s.capture n Cap.none).setSrc n v := ⟨_, rfl⟩
  rw [← hd] at hraise
  have hposture : d.posture = s.posture := by
    rw [hd]
    exact posture_capture ..
  have hcfg : d.srcCfg n = s.srcCfg n := by
    rw [hd]
    exact srcCfg_capture ..
  obtain ⟨u, hu, hreact⟩ := posture_react hn d
  rw [hcfg, if_pos hsix] at hreact
  have hulive : u.dev.state.live = true := by
    rw [show u.dev.state = s.dev.state from congrArg (·.1) (hu.trans hposture)]
    exact hlive
  obtain ⟨hstate, hsrc⟩ := dev_enterSafeHold (n := n) hulive
  have hstate' : (s.raise n).dev.state = .safeHold := by
    rw [hraise, dev_evalChans]
    exact (congrArg (·.1) hreact).trans hstate
  refine ⟨hstate', ?_, ?_⟩
  · rw [hraise, dev_evalChans]
    exact (congrArg (·.2.1) hreact).trans hsrc
  · have hsafe : safeOutputs (s.raise n) := by
      rw [hraise]
      exact safeOutputs_evalChans _
    exact hsafe (by rw [hstate']; decide) (by rw [hstate']; decide) (by rw [hstate']; decide)
      (by rw [hstate']; exact fun h => absurd h.1 (by decide))

/-- SAFE_HOLD_REQ is accepted in a live state alone. -/
theorem live_of_codeState {d : DevState} (h : codeState d 0x30 = true) : d.live = true := by
  revert h
  cases d <;> decide

theorem completes_safeHoldReq (hfits : fits s p r 0x30 []) :
    Completes (.safeHoldReq p) s (fun e => okWith s e p r 0 ∧ RaisedIn 11 s e ∧
      ((s.src 11).st = .clear → (s.srcCfg 11).has 6 = true → e.dev.state = .safeHold ∧ e.dev.holdSrc = some 11 ∧
        ∀ k, k < 10 → (e.chan k).energised = false)) := by
  obtain ⟨⟨hcold, -⟩, -, -, hstate⟩ := id hfits
  have hlisted : (romCfg 11).reserved = false := by decide +kernel
  refine completes_ok (show execSafeHoldReq p s = _ from rfl) hfits rfl (fun h => absurd h Bool.false_ne_true)
    (b := s.begun.raise 11) rfl (mail_raise ..) fun e he => ⟨he.raisedIn ?_, fun hclear hsix => ?_⟩
  · have hraised : RaisedIn 11 s.begun (s.begun.raise 11) := raisedIn_raise hlisted hcold
    exact hraised.of_src rfl
  · obtain ⟨hheld, hsrc, hoff⟩ := raise_holds (s := s.begun) (n := 11) (by decide) hlisted (live_of_codeState hstate) hclear hsix
    rw [he.dev]
    exact ⟨hheld, hsrc, fun k hk => by rw [he.chan, hoff k hk]⟩

end Sys2Proof.Machine
end

section
/-! O44: the commands on streams, the tiles' quarantine and the voters' test (R190, R464, R494), and the statement's settlement. -/

namespace Sys2Proof.Machine
open Sys2Proof

variable {s t e b : State} {p : ReqPath} {r : BitVec 512}

/-! ## Streams (R69, R494) -/

theorem reacts_settle (n : Nat) (s : State) : Reacts s (s.settle n) := by
  unfold State.settle
  dsimp only
  split
  · exact .refl s
  · split
    · exact reacts_putStream ..
    · exact .refl s

theorem reacts_holdSet (n : Nat) (f : StreamV → StreamV) (s : State) : Reacts s (s.holdSet n f) := by
  unfold State.holdSet
  exact reacts_ite ((reacts_putStream ..).trans (reacts_settle ..)) (reacts_putStream ..)

theorem Reacts.srcCfg (h : Reacts s e) (n : Nat) : e.srcCfg n = s.srcCfg n := by
  unfold Reacts at h
  rw [h]
  rfl

/-- A stream set is the stream as it is set, where its demotion, if any, leads to no SAFE_HOLD. -/
theorem stream_putStream {n : Nat} {v : StreamV} (h : v.under = (s.stream n).under ∨ (s.srcCfg 135).has 6 = false) (m : Nat) :
    (s.putStream n v).stream m = if m = n then v else s.stream m := by
  unfold State.putStream
  extract_lets o s1 s2
  have h1 : s1.stream m = if m = n then v else s.stream m := mget_mput ..
  have h2 : s2.stream m = s1.stream m := by
    unfold s2
    split
    next hdemoted =>
      rcases h with h | h
      · rw [h] at hdemoted
        simp [o] at hdemoted
      · have hreacts : Reacts s (s1.revt 0xA0008 1) := (reacts_setStream ..).trans (reacts_revt ..)
        rw [← hreacts.srcCfg] at h
        have hposture : ((s1.revt 0xA0008 1).raiseU 135 n).posture = s1.posture :=
          (posture_raiseWith (by decide) h ..).trans (posture_rset ..)
        have hstreams : ((s1.revt 0xA0008 1).raiseU 135 n).streams = s1.streams := congrArg (·.2.2.2) hposture
        exact congrArg (mget StreamV.reset · m) hstreams
    next => rfl
  split
  · rw [h2, h1]
  · rw [stream_evalChans, h2, h1]

/-- A settled stream may take another state; the other streams do not. -/
theorem stream_settle (hquiet : (s.srcCfg 135).has 6 = false) (n : Nat) :
    (∃ u, (s.settle n).stream n = { s.stream n with under := u }) ∧ ∀ m, m ≠ n → (s.settle n).stream m = s.stream m := by
  unfold State.settle
  dsimp only
  split
  · exact ⟨⟨_, rfl⟩, fun _ _ => rfl⟩
  · split
    next q hq =>
      refine ⟨⟨underOf q (s.stream n).score, ?_⟩, fun m hm => ?_⟩
      · rw [stream_putStream (.inr hquiet), if_pos rfl]
      · rw [stream_putStream (.inr hquiet), if_neg hm]
    next => exact ⟨⟨_, rfl⟩, fun _ _ => rfl⟩

/-- A changed hold reason changes its stream alone. -/
theorem stream_holdSet {n : Nat} {f : StreamV → StreamV} (hunder : (f (s.stream n)).under = (s.stream n).under)
    (h : (f (s.stream n)).held = true ∨ (s.srcCfg 135).has 6 = false) :
    (∃ u, (s.holdSet n f).stream n = { f (s.stream n) with under := u }) ∧
    ∀ m, m ≠ n → (s.holdSet n f).stream m = s.stream m := by
  have hput (m : Nat) := stream_putStream (s := s) (n := n) (v := f (s.stream n)) (.inl hunder) m
  unfold State.holdSet
  dsimp only
  split
  next hsettles =>
    rw [hput, if_pos rfl] at hsettles
    have hquiet : ((s.putStream n (f (s.stream n))).srcCfg 135).has 6 = false := by
      rw [(reacts_putStream ..).srcCfg]
      refine h.resolve_left fun hheld => ?_
      rw [hheld, Bool.not_true, Bool.and_false] at hsettles
      exact absurd hsettles Bool.false_ne_true
    obtain ⟨⟨u, hu⟩, hothers⟩ := stream_settle hquiet n
    refine ⟨⟨u, ?_⟩, fun m hm => ?_⟩
    · rw [hu, hput, if_pos rfl]
    · rw [hothers m hm, hput, if_neg hm]
  next =>
    refine ⟨⟨(f (s.stream n)).under, ?_⟩, fun m hm => ?_⟩
    · rw [hput, if_pos rfl]
    · rw [hput, if_neg hm]

theorem completes_streamHold (hfits : fits s p r 0x10 [63]) :
    Completes (.streamHold p) s (fun e => okWith s e p r 0 ∧ (e.stream (reqArg r 1)).hCommand = true ∧
      (e.stream (reqArg r 1)).held = true ∧ ∀ n, n ≠ reqArg r 1 → e.stream n = s.stream n) := by
  have hheld : ({ s.stream (reqArg r 1) with hCommand := true } : StreamV).held = true := by
    simp [StreamV.held]
  obtain ⟨⟨u, hu⟩, hothers⟩ := stream_holdSet (s := s.begun) (n := reqArg r 1)
    (f := fun v => { v with hCommand := true }) rfl (.inl hheld)
  refine completes_ok (show execStreamHold p s = _ from rfl) hfits rfl (fun h => absurd h Bool.false_ne_true) rfl
    (reacts_holdSet ..).mail fun e he => ?_
  rw [he.stream, hu]
  exact ⟨rfl, hheld, fun n hn => by rw [he.stream, hothers n hn]; rfl⟩

theorem completes_streamRelease (hfits : fits s p r 0x11 [63]) (hpriv : s.rv.privHeld = true)
    (hquiet : (s.srcCfg 135).has 6 = false) :
    Completes (.streamRelease p) s (fun e => okWith s e p r 0 ∧ (e.stream (reqArg r 1)).hCommand = false ∧
      ((e.stream (reqArg r 1)).held = true ↔ { s.stream (reqArg r 1) with hCommand := false }.held = true) ∧
      ∀ n, n ≠ reqArg r 1 → e.stream n = s.stream n) := by
  obtain ⟨⟨u, hu⟩, hothers⟩ := stream_holdSet (s := s.begun) (n := reqArg r 1)
    (f := fun v => { v with hCommand := false }) rfl (.inr hquiet)
  refine completes_ok (show execStreamRelease p s = _ from rfl) hfits rfl (fun _ => hpriv) rfl
    (reacts_holdSet ..).mail fun e he => ?_
  rw [he.stream, hu]
  exact ⟨rfl, Iff.rfl, fun n hn => by rw [he.stream, hothers n hn]; rfl⟩

/-! ## The quarantine of a tile (R190) -/

theorem mail_degrade (f : Degr → Degr) (s : State) : (s.degrade f).mail = s.mail := (reacts_degrade f s).mail

theorem mail_quarState {tl cause : Nat} (hs : (s.tile tl).serves = true) : (s.quarState tl cause).mail = s.mail := by
  obtain ⟨u, w, hu, hw, hq⟩ := quarState_serves (cause := cause) hs
  have hmailu : u.mail = s.mail := by
    rw [hu]
    rfl
  have hmailw : w.mail = s.mail := by
    rw [hw]
    exact ((reacts_revt ..).trans (reacts_raiseU ..)).mail.trans hmailu
  rcases hq with hq | ⟨f, hq⟩
  · rw [hq, hmailw]
  · rw [hq, mail_degrade, (reacts_raiseU ..).mail, hmailw]

/-- The verdict evaluations of a quarantine find nothing to do where no frame waits. -/
theorem quarState_calm {tl cause : Nat} (hs : (s.tile tl).serves = true) (hcalm : calm s) (hp : s.ldr.phase ≠ .blackout)
    (hc : s.dev.state ≠ .cold) : calm (s.quarState tl cause) := by
  obtain ⟨⟨u, hu, hsteady⟩, -, -⟩ := quarState_raises (cause := cause) hs hc hp
  have hvd : (s.quarState tl cause).vd = { s.vd with rangeDue := u.vd.rangeDue, results := u.vd.results } := by
    rw [hsteady.vd, hu]; rfl
  exact calm_congr (by rw [hvd]) (by rw [hvd]) (by rw [hvd]) hcalm

theorem quarState_out {tl cause : Nat} (hrole : (s.tile tl).role ∈ [Role.quarantined, .failed, .failedRouter]) :
    s.quarState tl cause = s := by
  unfold State.quarState
  dsimp only
  simp only [List.mem_cons, List.not_mem_nil, or_false] at hrole
  rcases hrole with h | h | h <;> rw [h]

theorem completes_tileQuarantine_serving (hfits : fits s p r 0x20 [255]) (ha : reqArg r 1 < 192)
    (hrole : (s.tile (reqArg r 1)).role ∈ [Role.plan, .reserve]) (hcalm : calm s) :
    Completes (.tileQuarantine p) s (fun e => okWith s e p r 0 ∧ quarantined s e (reqArg r 1) 7) := by
  obtain ⟨⟨hcold, hphase, -⟩, -⟩ := id hfits
  have hserves : (s.begun.tile (reqArg r 1)).serves = true := by
    change ((s.tile (reqArg r 1)).role == .plan || (s.tile (reqArg r 1)).role == .reserve) = true
    simp only [List.mem_cons, List.not_mem_nil, or_false] at hrole
    rcases hrole with h | h <;> rw [h] <;> decide
  have hform := quarantineForm_calm (s := s.begun) (tl := reqArg r 1) (cause := 7)
    (quarState_calm hserves hcalm hphase hcold)
  have hmail : (s.begun.quarantineForm (reqArg r 1) 7).mail = s.begun.mail := by
    rw [hform]
    exact mail_quarState hserves
  obtain ⟨hquar, -⟩ := quarantined_quarantineForm (s := s.begun) (cause := 7) hserves hcalm hcold hphase
  refine completes_ok (show execTileQuarantine p s = _ from rfl) hfits (decide_eq_true ha) (fun h => absurd h Bool.false_ne_true)
    rfl hmail fun e he => ?_
  obtain ⟨hq, hcause, hcount, hhalted, hraised, hothers⟩ := hquar
  have hctx (c : Nat) : e.ctx (reqArg r 1) c = (s.begun.quarantineForm (reqArg r 1) 7).ctx (reqArg r 1) c := by
    unfold State.ctx
    rw [he.tile]
  refine ⟨by rw [he.tile, hq], by rw [he.tile, hcause], by rw [he.tile, hcount]; rfl, fun c hc => ?_, he.raisedIn hraised,
    fun u hu => by rw [he.tile, hothers u hu]; rfl⟩
  rw [hctx]
  exact hhalted c hc

theorem completes_tileQuarantine_out (hfits : fits s p r 0x20 [255]) (ha : reqArg r 1 < 192)
    (hrole : (s.tile (reqArg r 1)).role ∈ [Role.quarantined, .failed, .failedRouter]) (hcalm : calm s) :
    Completes (.tileQuarantine p) s (fun e => okWith s e p r 0 ∧ e.tiles = s.tiles ∧ e.src 106 = s.src 106) := by
  have hout : s.begun.quarState (reqArg r 1) 7 = s.begun := quarState_out hrole
  have hform := quarantineForm_calm (s := s.begun) (tl := reqArg r 1) (cause := 7) (by rw [hout]; exact hcalm)
  rw [hout] at hform
  refine completes_ok (show execTileQuarantine p s = _ from rfl) hfits (decide_eq_true ha) (fun h => absurd h Bool.false_ne_true)
    (b := s.begun.quarantineForm (reqArg r 1) 7) rfl (by rw [hform]; rfl) fun e he => ?_
  rw [he.tiles, he.src, hform]
  exact ⟨rfl, rfl⟩

/-! ## The voters' test (R464) -/

/-- The register of a voter test's outcome. -/
def voterWord (prim shad : BitVec 6) (runtime : Bool) (old : W32) : W32 :=
  BitVec.ofNat 32 (prim.toNat + 256 * shad.toNat + 16384 * b2n runtime + 65536 * bitsOf old 23 16)

theorem voterWord_fields (prim shad : BitVec 6) (old : W32) :
    bitsOf (voterWord prim shad true old) 5 0 = prim.toNat ∧ bitsOf (voterWord prim shad true old) 13 8 = shad.toNat ∧
    bitAt (voterWord prim shad true old) 14 = true := by
  have hprim := prim.isLt
  have hshad := shad.isLt
  have hold : bitsOf old 23 16 < 256 := Nat.mod_lt _ (by decide)
  have htoNat : (voterWord prim shad true old).toNat = prim.toNat + 256 * shad.toNat + 16384 + 65536 * bitsOf old 23 16 := by
    simp only [voterWord, b2n, if_true, BitVec.toNat_ofNat]
    omega
  generalize bitsOf old 23 16 = x at *
  unfold bitAt
  rw [bitsOf, bitsOf, htoNat, Nat.testBit_eq_decide_div_mod_eq, Nat.shiftRight_eq_div_pow, Nat.shiftRight_eq_div_pow]
  refine ⟨by omega, by omega, decide_eq_true (by omega)⟩

/-- From `s` to `e` the queues, and the registers that no raise writes, are as they were. -/
def Posted (s e : State) : Prop := Still s e ∧ e.mail = s.mail

theorem Posted.trans (h : Posted s t) (h' : Posted t e) : Posted s e := ⟨h.1.trans h'.1, h'.2.trans h.2⟩

theorem Posted.refl (s : State) : Posted s s := ⟨.refl s, rfl⟩

theorem Posted.ite {c : Prop} [Decidable c] {x y : State} (hx : Posted s x) (hy : Posted s y) : Posted s (if c then x else y) := by
  split <;> assumption

theorem Posted.noBlackout (h : Posted s e) (hp : s.ldr.phase ≠ .blackout) : e.ldr.phase ≠ .blackout := h.1.noBlackout hp

theorem posted_raise {n : Nat} (hn : n < 225) (hp : s.ldr.phase ≠ .blackout) : Posted s (s.raise n) :=
  ⟨still_raise (by omega) (by omega) hp, mail_raise n s⟩

theorem posted_degrade (f : Degr → Degr) (s : State) : Posted s (s.degrade f) := ⟨still_degrade f s, mail_degrade f s⟩

/-- The reeve's record of which voters have failed. -/
theorem posted_reeve {v : Reeve} (h : ({ s with rv := v } : State).mail = s.mail) : Posted s { s with rv := v } :=
  ⟨.of (.of rfl rfl) rfl, h⟩

theorem posted_lossOf (hp : s.ldr.phase ≠ .blackout) : Posted s s.lossOf :=
  .ite (posted_raise (by decide) hp) (posted_reeve rfl)

/-- A voter test writes its outcome; what follows a failure leaves the word and the queues alone. -/
theorem posted_voterOutcome (prim shad : BitVec 6) (runtime : Bool) (hp : s.ldr.phase ≠ .blackout) :
    Posted (s.rset 0x20010 (voterWord prim shad runtime (s.rget 0x20010))) (s.voterOutcome prim shad runtime) := by
  unfold State.voterOutcome
  extract_lets s1 pBad sBad pNew sNew s2
  have hp1 : s1.ldr.phase ≠ .blackout := hp
  have hevt : Posted s1 (s1.revt 0x2000C 3) := ⟨still_revt raiseReg_rvEvt .., mail_rset ..⟩
  have h2 : Posted s1 s2 := .ite (hevt.trans (posted_raise (by decide) hp1)) (.refl s1)
  have hp2 := h2.noBlackout hp1
  have hshadow : Posted s2 { s2 with rv.onShadow := true } := posted_reeve rfl
  have hfail : Posted s2 { s2 with rv.shadowFail := true } := posted_reeve rfl
  refine h2.trans (.ite (posted_raise (by decide) hp2) (.ite ?_ (.ite ?_ (.refl s2))))
  · exact hshadow.trans ((posted_lossOf (hshadow.noBlackout hp2)).trans (posted_degrade ..))
  · exact hfail.trans (posted_lossOf (hfail.noBlackout hp2))

theorem completes_voterTest_split (hfits : fits s p r 0x31 []) (hpriv : s.rv.privHeld = true) (hmode : s.rv.mode = .split) :
    Completes (.voterTest p) s (fun e => okWith s e p r (s.rget 0x20010).toNat ∧ e.rget 0x20010 = s.rget 0x20010) := by
  refine completes_ok (show execVoterTest p s = _ from rfl) hfits rfl (fun _ => hpriv) (b := s.begun) ?_ rfl
    fun e he => he.regs _ (by unfold answerReg bellReg fnAddr; omega)
  have hsplit : (s.begun.rv.mode == .split) = true := beq_iff_eq.2 hmode
  dsimp only
  rw [hsplit]
  rfl

theorem completes_voterTest (hfits : fits s p r 0x31 []) (hpriv : s.rv.privHeld = true) (hmode : s.rv.mode ≠ .split) :
    Completes (.voterTest p) s (fun e => okWith s e p r (e.rget 0x20010).toNat ∧
      bitsOf (e.rget 0x20010) 5 0 = s.dev.phys.voterP.toNat ∧ bitsOf (e.rget 0x20010) 13 8 = s.dev.phys.voterS.toNat ∧
      bitAt (e.rget 0x20010) 14 = true) := by
  obtain ⟨⟨-, hphase, -⟩, -⟩ := id hfits
  obtain ⟨hstill, hmail⟩ := posted_voterOutcome (s := s.begun) s.dev.phys.voterP s.dev.phys.voterS true hphase
  obtain ⟨d, hd⟩ : ∃ d, d = s.begun.voterOutcome s.dev.phys.voterP s.dev.phys.voterS true := ⟨_, rfl⟩
  rw [← hd] at hstill hmail
  have hword : d.rget 0x20010 = voterWord s.dev.phys.voterP s.dev.phys.voterS true (s.rget 0x20010) := by
    rw [hstill.regs _ (by unfold raiseReg; omega), rget_rset_same]
    rfl
  have hcompletes : Completes (.voterTest p) s (fun e => okWith s e p r (d.rget 0x20010).toNat ∧
      e.rget 0x20010 = d.rget 0x20010) := by
    refine completes_ok (show execVoterTest p s = _ from rfl) hfits rfl (fun _ => hpriv) (b := d.rmaxFree 0x20058 5) ?_ hmail
      fun e he => he.regs _ (by unfold answerReg bellReg fnAddr; omega)
    have hnosplit : (s.begun.rv.mode == .split) = false := beq_eq_false_iff_ne.2 hmode
    dsimp only
    rw [hnosplit, hd]
    rfl
  obtain ⟨e, hrun, hok, hrget⟩ := hcompletes
  obtain ⟨hprim, hshad, hruntime⟩ := voterWord_fields s.dev.phys.voterP s.dev.phys.voterS (s.rget 0x20010)
  have he : e.rget 0x20010 = voterWord s.dev.phys.voterP s.dev.phys.voterS true (s.rget 0x20010) := hrget.trans hword
  exact ⟨e, hrun, by rw [hrget]; exact hok, by rw [he, hprim], by rw [he, hshad], by rw [he, hruntime]⟩

/-! ## All commands -/

/-- Settles O44: a command that passes the checks has its own effect, and its answer touches nothing that the effect is told by. -/
theorem reeveCommands : Obligations.ReeveCommands := by
  intro s p r a held
  refine ⟨completes_streamHold, fun hfits hheld hsix => completes_streamRelease hfits hheld (hsix 135), fun hfits ha => ⟨?_, ?_⟩,
    completes_tileClear, completes_safeHoldReq, fun hfits hheld => ⟨?_, ?_⟩, completes_outRestart, fun hfits => ⟨?_, ?_⟩, completes_hwdArm, completes_hwdDisarm,
    completes_taskSet, fun hfits hheld => ⟨?_, ?_, ?_⟩, fun hfits hheld => ⟨?_, ?_⟩, completes_faultRaise,
    completes_capRearm⟩
  · exact completes_tileQuarantine_serving hfits ha
  · exact completes_tileQuarantine_out hfits ha
  · exact completes_voterTest_split hfits hheld
  · exact completes_voterTest hfits hheld
  · exact completes_brakeTest hfits
  · exact completes_brakeTest_busy hfits
  · exact completes_faultClear_fallen hfits hheld
  · exact completes_faultClear_standing hfits hheld
  · exact completes_faultClear_unlatched hfits hheld
  · exact completes_faultInject_armed hfits hheld
  · exact completes_faultInject_idle hfits hheld

end Sys2Proof.Machine
end

section
/-! O22, O27, O28: what an instruction without a memory operand does, and sticky flags (R160, R227, R228, R278). -/

namespace Sys2Proof.Machine
open Sys2Proof

variable {s : State} {tl : Tile} {c : Ctx} {i : Instr} {w : Nat}

/-! ## An instruction without a memory operand (R160, R278) -/

/-- A word that issues has its effect on the state as traced. -/
theorem runsAs_issue {eff : PCtx → State → State} {P : State → State → Prop}
    (hexec : exec i s = (s.issue tl c w eff).done)
    (hP : ∀ p, s.tileCfg tl = some p → P (s.trace tl c w 0) (eff (ptileCtx p c) (s.trace tl c w 0))) :
    runsAs s tl c w i P := by
  rintro ⟨hissue, hlegal, -, -⟩
  obtain ⟨p, hcfg⟩ := canIssue_cfg hissue
  exact ⟨_, by rw [hexec, issue_legal hissue hcfg hlegal, done_eq], hP p hcfg⟩

/-- An effect on the issuing context, as the traced state has it. -/
theorem ctxUpd_traced {f : CtxSt → CtxSt} {Q : CtxSt → Prop} (hQ : Q (f (s.ctx tl c))) :
    ∃ y, (s.trace tl c w 0).ctxUpd tl c f = (s.trace tl c w 0).setCtx tl c y ∧ Q y :=
  ⟨_, rfl, by rw [trace_ctx]; exact hQ⟩

/-- An effect on the issuing context alone. -/
theorem setsCtx_ctxUpd {f : CtxSt → CtxSt} {Q : CtxSt → Prop}
    (hexec : exec i s = (s.issue tl c w (fun _ => State.ctxUpd tl c f)).done) (hQ : Q (f (s.ctx tl c))) :
    setsCtx s tl c w i Q :=
  runsAs_issue hexec fun _ _ => ctxUpd_traced hQ

/-- What holds of a context's new value holds of whatever it is set to. -/
theorem setsCtx_mono {Q R : CtxSt → Prop} (h : setsCtx s tl c w i Q) (hQR : ∀ y, Q y → R y) : setsCtx s tl c w i R := by
  intro hissues
  obtain ⟨e, hexec, y, he, hy⟩ := h hissues
  exact ⟨e, hexec, y, he, hQR y hy⟩

/-! ## Sticky flags (R227, R228) -/

theorem stick_eq (x : CtxSt) (b : Nat) (on : Bool) :
    x.stick b on = { x with flags := x.flags ||| if on then BitVec.ofNat 8 (2 ^ b) else 0 } := by
  cases on
  · exact congrArg (fun f : Byte => { x with flags := f }) BitVec.or_zero.symm
  · rfl

end Sys2Proof.Machine
end

section
/-! O26: the exact window (R207, R208, R210, R211). -/

namespace Sys2Proof.Machine
open Sys2Proof

/-! ## Terms on the window's grid (R207) -/

/-- The value of a term, in units of the window's least bit. -/
def gridValue (x : Bool × Nat × Nat) : Int :=
  if x.1 then -((x.2.1 * 2 ^ x.2.2 : Nat) : Int) else ((x.2.1 * 2 ^ x.2.2 : Nat) : Int)

/-- The term as an element, where the window's anchor is `a`. -/
def gridElem (a : Int) (x : Bool × Nat × Nat) : Elem := .fin x.1 x.2.1 (a - 255 + x.2.2)

/-- A term of at least the least bit's weight that fits is aligned exactly: no dust, no spill. -/
theorem alignElem_grid (t : Twin) {x : Bool × Nat × Nat} (h : x.2.1 * 2 ^ x.2.2 < 2 ^ 255) :
    alignElem t (gridElem t.anchor x) = (t, gridValue x) := by
  obtain ⟨s, m, k⟩ := x
  have hplace : t.anchor - 255 + (k : Int) - (t.anchor - 255) = k := by omega
  unfold gridElem gridValue alignElem
  dsimp only at h ⊢
  rw [hplace]
  split
  · next hzero => simp [hzero]
  · rw [if_pos (Int.natCast_nonneg k), Int.toNat_natCast, if_neg (Nat.not_le.2 h), if_neg fun hdust => by omega]

theorem alignAll_grid (t : Twin) : ∀ {xs : List (Bool × Nat × Nat)}, (∀ x ∈ xs, x.2.1 * 2 ^ x.2.2 < 2 ^ 255) →
    alignAll t (xs.map (gridElem t.anchor)) = (t, (xs.map gridValue).sum)
  | [], _ => rfl
  | x :: xs, h => by
    rw [List.map_cons, alignAll, alignElem_grid t (h x List.mem_cons_self),
      alignAll_grid t fun y hy => h y (List.mem_cons_of_mem x hy), List.map_cons, List.sum_cons]

/-- A contribution that stays in the window is added whole and counted once (R208). -/
theorem addContribution_inWindow {w : Twin} {xs : List Elem} {sum : Int} (hw : w.spill = false)
    (hxs : alignAll w xs = (w, sum)) (hlo : -(2 ^ 255 : Nat) ≤ w.value + sum) (hhi : w.value + sum < (2 ^ 255 : Nat)) :
    addContribution w xs = { w with value := w.value + sum, count := satAdd cntMax w.count 1 } := by
  unfold addContribution
  rw [hw, if_neg Bool.false_ne_true, hxs]
  dsimp only
  rw [hw, if_neg Bool.false_ne_true, if_neg (by omega)]

/-! ## NaN and infinite terms (R207) -/

theorem alignElem_keeps_nan {t : Twin} (h : t.nan = true) (x : Elem) : (alignElem t x).1.nan = true := by
  cases x with
  | nan => rfl
  | inf => rfl
  | fin s m e =>
    unfold alignElem
    dsimp -zeta only
    extract_lets k mag t'
    have ht' : t'.nan = true := by unfold t'; split <;> exact h
    split
    · exact h
    · split <;> exact ht'

theorem alignAll_keeps_nan : ∀ (xs : List Elem) {t : Twin}, t.nan = true → (alignAll t xs).1.nan = true
  | [], _, h => h
  | x :: xs, _, h => alignAll_keeps_nan xs (alignElem_keeps_nan h x)

theorem alignAll_nan : ∀ {xs : List Elem} (t : Twin), Elem.nan ∈ xs → (alignAll t xs).1.nan = true
  | x :: xs, t, h => by
    obtain rfl | h := List.mem_cons.1 h
    · exact alignAll_keeps_nan xs (t := { t with nan := true }) rfl
    · exact alignAll_nan (xs := xs) _ h

/-- A contribution's flag NAN is that of its alignment: the sum does not touch it. -/
theorem addContribution_nan {w : Twin} (hw : w.spill = false) (xs : List Elem) :
    (addContribution w xs).nan = (alignAll w xs).1.nan := by
  unfold addContribution
  rw [hw, if_neg Bool.false_ne_true]
  extract_lets r t v t'
  have ht' : t'.nan = t.nan := by unfold t'; split <;> rfl
  split
  · rfl
  · exact ht'

/-- A spilled twin is frozen (R210). -/
theorem addContribution_spilled {w : Twin} (h : w.spill = true) (xs : List Elem) : addContribution w xs = w := if_pos h

/-- Settles O26: terms on the grid are aligned exactly, and the flag of a NaN term is never withdrawn. -/
theorem exactWindow : Obligations.ExactWindow := by
  refine fun w hw => ⟨fun xs => ?_, fun xs hnan => ?_, fun xs => addContribution_spilled rfl xs⟩
  · intro v sum hfit hlo hhi
    exact addContribution_inWindow hw (alignAll_grid w hfit) hlo hhi
  · rw [addContribution_nan hw]
    exact alignAll_nan w hnan

end Sys2Proof.Machine
end

section
/-! O22: signed arithmetic in its two classes (R224 to R226, R229, R231, R252). -/

namespace Sys2Proof.Machine
open Sys2Proof

variable {s : State} {tl : Tile} {c : Ctx} {i : Instr} {w : Nat}

/-! ## A scalar result (R224 to R229) -/

/-- The sticky flags OV, SAT and DZ of a scalar result. -/
def scalarMask (ov sat dz : Bool) : Byte :=
  (if ov then BitVec.ofNat 8 (2 ^ stOV) else 0) |||
    ((if sat then BitVec.ofNat 8 (2 ^ stSAT) else 0) ||| (if dz then BitVec.ofNat 8 (2 ^ stDZ) else 0))

theorem sticky_eq (x : CtxSt) (a : Alu) : x.sticky a = { x with flags := x.flags ||| scalarMask a.ov a.sat a.dz } := by
  unfold CtxSt.sticky scalarMask
  simp only [stick_eq, BitVec.or_assoc]

/-- A scalar result is written with its codes and its sticky flags (R224 to R226). -/
theorem aluWrote_wr {a : Alu} {r : W32} {cf vf ov sat dz : Bool} {fl : Byte}
    (ha : a = { r := r, c := cf, v := vf, ov := ov, sat := sat, dz := dz }) (hfl : scalarMask ov sat dz = fl)
    (x : CtxSt) (d : Nat) (bad : Bool) : aluWrote x (x.wr d a bad) d r cf vf fl bad := by
  subst ha hfl
  unfold CtxSt.wr
  rw [sticky_eq]
  exact ⟨⟨fun _ => mget_mput .., fun _ hj => bad_put x d r bad hj, rfl, rfl, rfl, rfl⟩, rfl, rfl, rfl, rfl, rfl⟩

/-! ## The classes W and S (R224, R225) -/

/-- The exact result lies outside the 32-bit signed range. -/
def outside (v : Int) : Bool := decide (v < -2147483648 ∨ 2147483647 < v)

/-- What a class makes of an exact result: its low 32 bits, or for S the nearest value in range. -/
def classResult (sat : Bool) (v : Int) : W32 :=
  if sat && outside v then (if 0 < v then 0x7FFFFFFF else 0x80000000) else BitVec.ofInt 32 v

/-- The sticky flag of a result outside the range: OV in class W, SAT in class S. -/
def classMask (sat : Bool) (v : Int) : Byte := if outside v then (if sat then 2 else 1) else 0

theorem toInt_ofInt_ne_iff (v : Int) : (BitVec.ofInt 32 v).toInt ≠ v ↔ v < -2147483648 ∨ 2147483647 < v := by
  rw [BitVec.toInt_ofInt, ne_eq, Int.bmod_eq_iff (by decide)]
  omega

theorem aluW_eq (v : Int) (cf : Bool) : aluW v cf =
    { r := BitVec.ofInt 32 v, c := cf, v := outside v, ov := outside v, sat := false, dz := false } := by
  have hout : decide ((BitVec.ofInt 32 v).toInt ≠ v) = outside v := decide_eq_decide.2 (toInt_ofInt_ne_iff v)
  unfold aluW
  rw [← hout]

theorem aluS_eq (v : Int) (cf : Bool) : aluS v cf =
    { r := classResult true v, c := cf, v := outside v, ov := false, sat := outside v, dz := false } := by
  unfold aluS classResult
  by_cases hhi : v > intMax
  · have hout : outside v = true := decide_eq_true (.inr hhi)
    have hpos : 0 < v := lt_trans (by decide) hhi
    simp only [if_pos hhi, hout, if_pos hpos]
    rfl
  · by_cases hlo : v < intMin
    · have hout : outside v = true := decide_eq_true (.inl hlo)
      have hneg : ¬ 0 < v := not_lt.2 (hlo.le.trans (by decide))
      simp only [if_neg hhi, if_pos hlo, hout, if_neg hneg]
      rfl
    · have hout : outside v = false := decide_eq_false (not_or.2 ⟨hlo, hhi⟩)
      simp only [if_neg hhi, if_neg hlo, hout]
      rfl

/-- Whichever the class, the result is written with C as given and V for a result outside the range. -/
theorem aluWrote_aluOf (x : CtxSt) (d : Nat) (sat : Bool) (v : Int) (cf bad : Bool) :
    aluWrote x (x.wr d (aluOf sat v cf) bad) d (classResult sat v) cf (outside v) (classMask sat v) bad := by
  cases sat with
  | false => exact aluWrote_wr (aluW_eq v cf) (by unfold classMask; cases outside v <;> rfl) x d bad
  | true => exact aluWrote_wr (aluS_eq v cf) (by unfold classMask; cases outside v <;> rfl) x d bad

/-- Instruction `i` writes what class `sat` makes of the exact result `v`. -/
def writesClass (s : State) (tl : Tile) (c : Ctx) (d : Nat) (sat : Bool) (w : Nat) (i : Instr) (v : Int) (cf bad : Bool) : Prop :=
  setsCtx s tl c w i (fun y => aluWrote (s.ctx tl c) y d (classResult sat v) cf (outside v) (classMask sat v) bad)

/-- An operation in its two classes, whose opcodes follow each other (R252). -/
theorem writesClass_both {iw is : Instr} {ws d : Nat} {v : Int} {cf bad : Bool} (f : Bool → CtxSt → CtxSt)
    (hws : ws = w + 2 ^ 56)
    (hw : exec iw s = (s.issue tl c w (fun _ => State.ctxUpd tl c (f false))).done)
    (hs : exec is s = (s.issue tl c ws (fun _ => State.ctxUpd tl c (f true))).done)
    (hf : ∀ sat, f sat (s.ctx tl c) = (s.ctx tl c).wr d (aluOf sat v cf) bad) :
    writesClass s tl c d false w iw v cf bad ∧ writesClass s tl c d true (w + 2 ^ 56) is v cf bad := by
  subst hws
  exact ⟨setsCtx_ctxUpd hw (hf false ▸ aluWrote_aluOf ..), setsCtx_ctxUpd hs (hf true ▸ aluWrote_aluOf ..)⟩

theorem encR_succ (op d a b cond : Nat) : encR (op + 1) d a b cond = encR op d a b cond + 2 ^ 56 := by
  unfold encR
  omega

theorem encI_succ (op d a imm : Nat) : encI (op + 1) d a imm = encI op d a imm + 2 ^ 56 := by
  unfold encI
  omega

/-! ## The operations (R229, R231, R252) -/

theorem aluAbs_eq (sat : Bool) (a : W32) : aluAbs sat a = aluOf sat (if a.toInt < 0 then -a.toInt else a.toInt) false := by
  unfold aluAbs
  congr 1
  omega

theorem aluDiv_ne_zero (sat : Bool) (a : W32) {b : W32} (h : b ≠ 0) : aluDiv sat a b = aluOf sat (a.toInt.tdiv b.toInt) false :=
  if_neg h

/-- A division by zero sets DZ alone, and its result has the dividend's sign (R229). -/
theorem aluDiv_zero (sat : Bool) (a : W32) :
    aluDiv sat a 0 = { r := if a.msb then 0x80000000 else 0x7FFFFFFF, c := false, v := false, ov := false, sat := false,
                       dz := true } := by
  unfold aluDiv
  rw [if_pos rfl, BitVec.msb_eq_toInt]
  by_cases h : a.toInt < 0
  · rw [if_neg (not_le.2 h), decide_eq_true h]
    rfl
  · rw [if_pos (not_lt.1 h), decide_eq_false h]
    rfl

/-- A shift by 32 or more leaves no bit of the operand: the low word of the exact result is 0 as well (R231). -/
theorem aluShl_eq (sat : Bool) (a : W32) (n : Nat) : aluShl sat a n = aluOf sat (a.toInt * (2 ^ n : Nat)) false := by
  cases sat with
  | true => rfl
  | false =>
    unfold aluShl aluOf aluW
    have hlow : (if n ≥ 32 then 0 else BitVec.ofInt 32 (a.toInt * (2 ^ n : Nat))) = BitVec.ofInt 32 (a.toInt * (2 ^ n : Nat)) := by
      split
      · next hn =>
        have hword : (2 ^ 32 : Int) ∣ a.toInt * (2 ^ n : Nat) :=
          Dvd.dvd.mul_left (by exact_mod_cast Nat.pow_dvd_pow 2 hn) _
        refine (BitVec.eq_of_toNat_eq ?_).symm
        rw [BitVec.toNat_ofInt, Int.emod_eq_zero_of_dvd (by exact_mod_cast hword)]
        rfl
      · rfl
    rw [if_neg Bool.false_ne_true, if_neg Bool.false_ne_true, hlow]

/-- An 8-bit immediate is its own shift count (R231). -/
theorem shiftCount_zeroExtend (n : Byte) : shiftCount (n.zeroExtend 32) = n.toNat := by
  have hn := n.isLt
  unfold shiftCount
  rw [BitVec.toNat_setWidth]
  omega

theorem setsCtx_divZero {sat : Bool} {d a b : Fin 16}
    (hexec : exec i s = (s.issue tl c w (fun _ => State.ctxUpd tl c (aluRR (aluDiv sat) d a b))).done)
    (hb : (s.ctx tl c).sreg b = 0) :
    setsCtx s tl c w i (fun y => aluWrote (s.ctx tl c) y d
      (if ((s.ctx tl c).sreg a).msb then 0x80000000 else 0x7FFFFFFF) false false 4 ((s.ctx tl c).bad a || (s.ctx tl c).bad b)) := by
  refine setsCtx_ctxUpd hexec ?_
  unfold aluRR
  rw [hb]
  exact aluWrote_wr (aluDiv_zero sat _) rfl ..

/-- Settles O22: each operation is its exact result under a class, or a division by zero. -/
theorem tileArithmetic : Obligations.TileArithmetic := by
  intro s t c d a b imm sh x A B p2 op both dz
  refine ⟨?_, ?_, ?_, ?_, ?_, fun hb => ?_, fun hb => ⟨?_, ?_⟩, ?_, ?_, ?_, ?_, ?_⟩
  · exact writesClass_both (fun sat => aluRR (aluAdd sat) d a b) (encR_succ 0x10 d a b 0) rfl rfl fun _ => rfl
  · exact writesClass_both (fun sat => aluRR (aluSub sat) d a b) (encR_succ 0x12 d a b 0) rfl rfl fun _ => rfl
  · exact writesClass_both (fun sat => aluR (aluNeg sat) d a) (encR_succ 0x14 d a 0 0) rfl rfl fun _ => rfl
  · exact writesClass_both (fun sat => aluR (aluAbs sat) d a) (encR_succ 0x16 d a 0 0) rfl rfl fun sat => congrArg (x.wr d · (x.bad a)) (aluAbs_eq sat A)
  · exact writesClass_both (fun sat => aluRR (aluMul sat) d a b) (encR_succ 0x18 d a b 0) rfl rfl fun _ => rfl
  · exact writesClass_both (fun sat => aluRR (aluDiv sat) d a b) (encR_succ 0x1C d a b 0) rfl rfl fun sat => congrArg (x.wr d · p2) (aluDiv_ne_zero sat A hb)
  · exact setsCtx_divZero rfl hb
  · exact setsCtx_divZero rfl hb
  · exact writesClass_both (fun sat => aluRR (fun x y => aluShl sat x (shiftCount y)) d a b) (encR_succ 0x25 d a b 0) rfl rfl fun sat => congrArg (x.wr d · p2) (aluShl_eq sat A (shiftCount B))
  · exact writesClass_both (fun sat => aluRI (aluAdd sat) d a imm) (encI_succ 0x30 d a imm.toNat) rfl rfl fun _ => rfl
  · exact writesClass_both (fun sat => aluRI (aluSub sat) d a imm) (encI_succ 0x32 d a imm.toNat) rfl rfl fun _ => rfl
  · exact writesClass_both (fun sat => aluRI (aluMul sat) d a imm) (encI_succ 0x34 d a imm.toNat) rfl rfl fun _ => rfl
  · refine writesClass_both (fun sat => aluRI (fun x y => aluShl sat x (shiftCount y)) d a (sh.zeroExtend 32)) (encI_succ 0x39 d a sh.toNat) rfl rfl fun sat => congrArg (x.wr d · (x.bad a)) ?_
    exact (aluShl_eq sat A _).trans (by rw [shiftCount_zeroExtend])

end Sys2Proof.Machine
end

section
/-! O27: contributions to twins (R201 to R204, R208, R209, R214, R228). -/

namespace Sys2Proof.Machine
open Sys2Proof

/-! ## An entry written twice -/

theorem mdel_mdel {α : Type} (m : FMap α) (k : Nat) : mdel (mdel m k) k = mdel m k := by
  induction m with
  | nil => rfl
  | cons p m ih =>
    simp only [mdel]
    split
    · exact ih
    · next hne => rw [mdel, if_neg hne, ih]

theorem mdel_mins {α : Type} (m : FMap α) (k : Nat) (v : α) : mdel (mins m k v) k = mdel m k := by
  induction m with
  | nil => simp only [mins, mdel, if_pos]
  | cons p m ih =>
    simp only [mins]
    split
    · simp only [mdel, if_pos]
    · simp only [mdel, ih]

/-- The last write of an entry counts. -/
theorem mput_mput {α : Type} [DecidableEq α] (d : α) (m : FMap α) (k : Nat) (a b : α) :
    mput d (mput d m k a) k b = mput d m k b := by
  have hdel : mdel (mput d m k a) k = mdel m k := by
    unfold mput
    split
    · exact mdel_mdel m k
    · rw [mdel_mins, mdel_mdel]
  unfold mput at hdel ⊢
  rw [hdel]

/-! ## One contribution -/

/-- A context after the events of a contribution that left the twin `r` (R228). -/
def CtxSt.noted (x : CtxSt) (r : Twin) : CtxSt :=
  ((x.stick stSPILL r.spill).stick stNAN r.nan).stick stDUST (decide (0 < r.dust))

/-- The sticky flag `b` is that of an event of the twin `r`. -/
def Twin.event (r : Twin) (b : Nat) : Bool := (b == 4 && r.spill) || (b == 5 && r.nan) || (b == 6 && decide (0 < r.dust))

theorem getLsbD_stick (x : CtxSt) {k b : Nat} (on : Bool) (hb : b < 8) :
    (x.stick k on).flags.getLsbD b = (x.flags.getLsbD b || (b == k && on)) := by
  rw [stick_eq]
  cases on
  · simp
  · simp only [if_pos, BitVec.getLsbD_or, BitVec.getLsbD_ofNat, Nat.testBit_two_pow, decide_eq_true hb, Bool.true_and, Bool.and_true]
    rw [beq_eq_decide, decide_eq_decide.2 (eq_comm (a := k))]

theorem getLsbD_noted (x : CtxSt) (r : Twin) {b : Nat} (hb : b < 8) :
    (x.noted r).flags.getLsbD b = (x.flags.getLsbD b || r.event b) := by
  unfold CtxSt.noted Twin.event
  rw [getLsbD_stick _ _ hb, getLsbD_stick _ _ hb, getLsbD_stick _ _ hb, Bool.or_assoc, Bool.or_assoc, Bool.or_assoc]
  rfl

theorem noted_rest (x : CtxSt) (r : Twin) : x.noted r = { x with flags := (x.noted r).flags } := by
  unfold CtxSt.noted
  simp only [stick_eq]

/-- What one contribution sets: the twin, and for a twin that is not spilled the context's sticky flags. -/
theorem contribute_eq (t c w : Nat) (xs : List Elem) (ms : Option (List Elem)) (bad : Bool) (s : State) :
    s.contribute t c w xs ms bad =
      if ((s.tile t).twin w).spill then s.setTwin t w (accumulated ((s.tile t).twin w) xs ms bad)
      else (s.setTwin t w (accumulated ((s.tile t).twin w) xs ms bad)).setCtx t c
        ((s.ctx t c).noted (contributed ((s.tile t).twin w) xs ms)) := by
  unfold State.contribute accumulated
  by_cases h : ((s.tile t).twin w).spill = true
  · simp only [if_pos h]
  · simp only [if_neg h]
    rfl

/-! ## A contribution to each of several twins -/

/-- Some twin among `n` from `tw`, not spilled before, has the event `b`. -/
def anyEvent (v : TileSt) (tw n : Nat) (xs : Nat → List Elem) (ms : Nat → Option (List Elem)) (b : Nat) : Bool :=
  (List.range n).any (fun r => !(v.twin (tw + r)).spill && (contributed (v.twin (tw + r)) (xs r) (ms r)).event b)

/-- From `s` to `e` context `c` of tile `t` made one contribution to each of `n` twins from `tw`, whose events set the sticky
flags of `ev` (R228). -/
structure Contributed (t c tw n : Nat) (xs : Nat → List Elem) (ms : Nat → Option (List Elem)) (bad ev : Nat → Bool)
    (s e : State) : Prop where
  rest : e = { s with tiles := e.tiles }
  others : ∀ u, u ≠ t → e.tile u = s.tile u
  tile : e.tile t = { s.tile t with ctxs := (e.tile t).ctxs, twins := (e.tile t).twins }
  ctxs : ∀ y, mput CtxSt.reset (e.tile t).ctxs c y = mput CtxSt.reset (s.tile t).ctxs c y
  ctx : e.ctx t c = { s.ctx t c with flags := (e.ctx t c).flags }
  twin : ∀ k, (e.tile t).twin k = if tw ≤ k ∧ k < tw + n
    then accumulated ((s.tile t).twin k) (xs (k - tw)) (ms (k - tw)) (bad (k - tw)) else (s.tile t).twin k
  flags : ∀ b, b < 8 → (e.ctx t c).flags.getLsbD b = ((s.ctx t c).flags.getLsbD b || ev b)

theorem tile_setTwin (t w u : Nat) (x : Twin) (s : State) : (s.setTwin t w x).tile u =
    if u = t then { s.tile t with twins := mput Twin.reset (s.tile t).twins w x } else s.tile u :=
  State.tile_setTile ..

theorem twin_setTwin (t w k : Nat) (x : Twin) (s : State) :
    ((s.setTwin t w x).tile t).twin k = if k = w then x else (s.tile t).twin k := by
  rw [tile_setTwin, if_pos rfl]
  exact mget_mput ..

theorem ctx_setTwin (t w c : Nat) (x : Twin) (s : State) : (s.setTwin t w x).ctx t c = s.ctx t c := by
  rw [State.ctx, tile_setTwin, if_pos rfl]
  rfl

section
variable {t c tw n : Nat} {xs : Nat → List Elem} {ms : Nat → Option (List Elem)} {bad ev : Nat → Bool} {s e : State}

theorem contributed_refl (t c tw : Nat) (xs : Nat → List Elem) (ms : Nat → Option (List Elem)) (bad : Nat → Bool) (s : State) :
    Contributed t c tw 0 xs ms bad (fun _ => false) s s :=
  ⟨rfl, fun _ _ => rfl, rfl, fun _ => rfl, rfl, fun k => (if_neg (by omega)).symm, fun _ _ => (Bool.or_false _).symm⟩

/-- The next twin set as its contribution leaves it. -/
theorem Contributed.setTwin (h : Contributed t c tw n xs ms bad ev s e) : Contributed t c tw (n + 1) xs ms bad ev s
    (e.setTwin t (tw + n) (accumulated ((s.tile t).twin (tw + n)) (xs n) (ms n) (bad n))) := by
  generalize hx : accumulated ((s.tile t).twin (tw + n)) (xs n) (ms n) (bad n) = x
  have htile : (e.setTwin t (tw + n) x).tile t = { e.tile t with twins := mput Twin.reset (e.tile t).twins (tw + n) x } :=
    (tile_setTwin ..).trans (if_pos rfl)
  refine ⟨?_, fun u hu => ?_, ?_, fun y => ?_, ?_, fun k => ?_, fun b hb => ?_⟩
  · exact (congrArg (State.setTwin t (tw + n) x) h.rest).trans rfl
  · rw [tile_setTwin, if_neg hu, h.others u hu]
  · rw [htile, h.tile]
  · rw [htile]
    exact h.ctxs y
  · rw [ctx_setTwin]
    exact h.ctx
  · rw [twin_setTwin, h.twin]
    by_cases hk : k = tw + n
    · rw [if_pos hk, if_pos (by omega), ← hx, hk, Nat.add_sub_cancel_left]
    · rw [if_neg hk]
      exact if_congr (by omega) rfl rfl
  · rw [ctx_setTwin]
    exact h.flags b hb

/-- The events of a contribution noted in the context. -/
theorem Contributed.noted (h : Contributed t c tw n xs ms bad ev s e) (r : Twin) :
    Contributed t c tw n xs ms bad (fun b => ev b || r.event b) s (e.setCtx t c ((e.ctx t c).noted r)) := by
  generalize hy : (e.ctx t c).noted r = y
  have htile : (e.setCtx t c y).tile t = { e.tile t with ctxs := mput CtxSt.reset (e.tile t).ctxs c y } :=
    (State.tile_setTile ..).trans (if_pos rfl)
  have hctx : (e.setCtx t c y).ctx t c = y := (ctx_setCtx ..).trans (if_pos rfl)
  refine ⟨?_, fun u hu => ?_, ?_, fun z => ?_, ?_, fun k => ?_, fun b hb => ?_⟩
  · exact (congrArg (State.setCtx t c y) h.rest).trans rfl
  · rw [tile_setCtx_ne hu, h.others u hu]
  · rw [htile, h.tile]
  · rw [htile, mput_mput]
    exact h.ctxs z
  · rw [hctx, ← hy, noted_rest, h.ctx]
  · rw [htile]
    exact h.twin k
  · rw [hctx, ← hy, getLsbD_noted _ _ hb, h.flags b hb, Bool.or_assoc]

/-- The next contribution; a spilled twin has no event. -/
theorem Contributed.succ (h : Contributed t c tw n xs ms bad (anyEvent (s.tile t) tw n xs ms) s e) :
    Contributed t c tw (n + 1) xs ms bad (anyEvent (s.tile t) tw (n + 1) xs ms) s
      (e.contribute t c (tw + n) (xs n) (ms n) (bad n)) := by
  have hnext : (e.tile t).twin (tw + n) = (s.tile t).twin (tw + n) := by rw [h.twin, if_neg (by omega)]
  have hevent : anyEvent (s.tile t) tw (n + 1) xs ms = fun b => anyEvent (s.tile t) tw n xs ms b ||
      (!((s.tile t).twin (tw + n)).spill && (contributed ((s.tile t).twin (tw + n)) (xs n) (ms n)).event b) := by
    funext b
    unfold anyEvent
    rw [List.range_succ, List.any_append, List.any_cons, List.any_nil, Bool.or_false]
  rw [contribute_eq, hnext, hevent]
  have hset := h.setTwin
  cases hspill : ((s.tile t).twin (tw + n)).spill with
  | true => simpa only [reduceIte, Bool.not_true, Bool.false_and, Bool.or_false] using hset
  | false =>
    rw [← ctx_setTwin t (tw + n) c (accumulated ((s.tile t).twin (tw + n)) (xs n) (ms n) (bad n)) e]
    simpa only [Bool.false_eq_true, reduceIte, Bool.not_false, Bool.true_and] using hset.noted _

end

theorem contributed_forAll (t c tw : Nat) (xs : Nat → List Elem) (ms : Nat → Option (List Elem)) (bad : Nat → Bool) (s : State) :
    ∀ n, Contributed t c tw n xs ms bad (anyEvent (s.tile t) tw n xs ms) s
      (forAll (List.range n) (fun r e => e.contribute t c (tw + r) (xs r) (ms r) (bad r)) s)
  | 0 => contributed_refl ..
  | n + 1 => by
    unfold forAll
    rw [List.range_succ, List.foldl_append]
    exact (contributed_forAll t c tw xs ms bad s n).succ

/-- One contribution. -/
theorem contributed_one (t c tw : Nat) (xs : List Elem) (ms : Option (List Elem)) (bad : Bool) (s : State) :
    Contributed t c tw 1 (fun _ => xs) (fun _ => ms) (fun _ => bad)
      (anyEvent (s.tile t) tw 1 (fun _ => xs) (fun _ => ms)) s (s.contribute t c tw xs ms bad) :=
  contributed_forAll t c tw (fun _ => xs) (fun _ => ms) (fun _ => bad) s 1

end Sys2Proof.Machine
end

section
/-! O27: lane operations and value instructions (R201 to R204, R209, R261 to R263). -/

namespace Sys2Proof.Machine
open Sys2Proof

/-! ## The energy of a lane operation (R616, R617) -/

/-- What a contribution works on and what its statement says is unchanged: tiles, verdicts and flits. -/
def State.works (s : State) : FMap TileSt × Verd × List Flit := (s.tiles, s.vd, s.flits)

/-- Energy spent changes the power manager, and outside a blackout POWER_CAP raised leaves tiles, verdicts and flits alone. -/
theorem works_spend {s : State} (hp : s.ldr.phase ≠ .blackout) (q cost : Nat) : (s.spend q cost).works = s.works := by
  unfold State.spend
  extract_lets per acc short p1 s1 s2 p2 s3 s4
  have h3 : s3.works = s.works := rfl
  have hraise : (s3.raise 77).works = s3.works :=
    congrArg (fun a : Nat × FMap TileSt × List Flit × Verd × Option Running × Loader × Power => (a.2.1, a.2.2.2.1, a.2.2.1))
      (steady_raise (n := 77) (s := s3) (by decide) hp).array
  have h4 : s4.works = s.works := by
    unfold s4
    split
    · exact h3
    · exact hraise.trans h3
  clear_value s4
  split
  · rfl
  · exact h4

theorem works_trace (t c w h : Nat) (s : State) : (s.trace t c w h).works = s.works := by
  rw [trace_frame]
  rfl

theorem tile_of_works {s e : State} (h : e.works = s.works) (u : Nat) : e.tile u = s.tile u :=
  congrArg (fun a : FMap TileSt × Verd × List Flit => mget TileSt.reset a.1 u) h

/-! ## What an instruction of contributions leaves (R208, R228) -/

/-- The sticky flags of a contribution's events, flag by flag. -/
theorem anyEvent_eq (v : TileSt) (tw n : Nat) (xs : Nat → List Elem) (ms : Nat → Option (List Elem)) (b : Nat) :
    let some_ (f : Twin → Bool) : Bool := (List.range n).any (fun r => !(v.twin (tw + r)).spill
      && f (contributed (v.twin (tw + r)) (xs r) (ms r)))
    anyEvent v tw n xs ms b = ((b == 4 && some_ (fun r => r.spill)) || (b == 5 && some_ (fun r => r.nan))
      || (b == 6 && some_ (fun r => decide (0 < r.dust)))) := by
  unfold anyEvent Twin.event
  by_cases h4 : b = 4
  · simp [h4]
  · by_cases h5 : b = 5
    · simp [h5]
    · by_cases h6 : b = 6
      · simp [h6]
      · simp [beq_eq_false_iff_ne.2 h4, beq_eq_false_iff_ne.2 h5, beq_eq_false_iff_ne.2 h6]

section
variable {s s1 e1 : State} {tl : Tile} {c : Ctx} {i : Instr} {w tw n : Nat} {xs : Nat → List Elem}
  {ms : Nat → Option (List Elem)} {bad : Nat → Bool}

/-- What an instruction does may be told with the conditions of its issue at hand. -/
theorem runsAs_of_issues {P : State → State → Prop} (h : issues s tl c w → runsAs s tl c w i P) : runsAs s tl c w i P :=
  fun hissues => h hissues hissues

/-- An instruction whose effect is contributions, on a state with the tiles it issued on, and the next pc. -/
theorem contributes_of
    (hruns : ∀ P : State → State → Prop, P (s.trace tl c w 0) (e1.ctxUpd tl c CtxSt.adv) → runsAs s tl c w i P)
    (hworks : s.ldr.phase ≠ .blackout → s1.works = s.works)
    (h : Contributed tl c tw n xs ms bad (anyEvent (s1.tile tl) tw n xs ms) s1 e1) :
    contributes s tl c w i tw n xs ms bad := by
  unfold contributes
  intro v x some_
  refine runsAs_of_issues fun ⟨_, _, _, hp⟩ => hruns _ ?_
  have hsame := hworks hp
  have htile := tile_of_works hsame
  have hctx : s1.ctx tl c = s.ctx tl c := congrArg (fun v : TileSt => mget CtxSt.reset v.ctxs c) (htile tl)
  have hrest := h.rest
  refine ⟨fun u hu => ?_, ?_, ?_, (e1.ctx tl c).adv, ?_, fun k => ?_, ?_, fun b hb => ?_⟩
  · rw [tile_ctxUpd, if_neg hu, h.others u hu, htile, trace_tile]
  · exact (show e1.vd = s1.vd by rw [hrest]).trans (congrArg (·.2.1) hsame)
  · exact (show e1.flits = s1.flits by rw [hrest]).trans (congrArg (·.2.2) hsame)
  · rw [tile_ctxUpd, if_pos rfl, h.ctxs, h.tile, htile]
  · rw [tile_ctxUpd, if_pos rfl]
    exact (h.twin k).trans (by rw [htile])
  · rw [h.ctx, hctx]
    rfl
  · refine (h.flags b hb).trans ?_
    rw [hctx, htile, anyEvent_eq, Bool.or_assoc, Bool.or_assoc, Bool.or_assoc]

/-- An instruction whose effect is contributions, of the word at its memory operand (R242). -/
theorem contributes_of_memOp {bank ar ea : Nat} {disp : Int} {ecc : EccOut} {f : Nat → State → State}
    (hread : readsAt s tl c bank ar disp ecc ea)
    (hexec : exec i s = (s.issue tl c w (fun p => State.memOp tl c p bank ar disp ecc f)).done)
    (heff : f ea (s.trace tl c w 0) = e1.ctxUpd tl c CtxSt.adv)
    (hworks : s.ldr.phase ≠ .blackout → s1.works = s.works)
    (h : Contributed tl c tw n xs ms bad (anyEvent (s1.tile tl) tw n xs ms) s1 e1) :
    contributes s tl c w i tw n xs ms bad :=
  contributes_of (fun _ hP => runsAs_memOp hread hexec (heff ▸ hP)) hworks h

end

/-! ## Lane operations (R261, R262) -/

/-- Elements of a format in a word; none of a reserved one. -/
theorem elemsPerWord_eq (f : Nat) : elemsPerWord f = 64 / fmtBytes f := by
  unfold elemsPerWord
  split
  · next h => rw [h, Nat.div_zero]
  · rfl

theorem rowsBad_one (v : TileSt) (g row : Nat) : v.rowsBad g row 1 = v.stagePoison.toNat.testBit (8 * g + row) := by
  unfold TileSt.rowsBad
  rw [List.range_one, List.any_cons, List.any_nil, Bool.or_false, Nat.add_zero]

/-- The energy of a lane operation, in pJ x 10 (R616). -/
def laneCost (op fa : Nat) : Nat :=
  macEnergy op * (if op ≥ 0x64 then (if op = 0x64 then 16 else 8) else elemsPerWord fa * laneTwins op) / 10

/-- The products of the word `l` with a stage row (R201). -/
def rowProducts (v : TileSt) (l : List Byte) (stg row fa fb : Nat) (sg : Int) (neg : Bool) : List Elem :=
  (List.range (64 / fmtBytes fa)).map (fun j => elemMul (wordElem fa l j) (v.stageElem stg row fb j) sg neg)

/-- The products of elements from `8 * eoff` of the word `l` with the c-pairs of a stage (R202, R203). -/
def pairProducts (v : TileSt) (l : List Byte) (wide : Bool) (n stg rsel eoff fa : Nat) (sg : Int) (neg : Bool) : List Elem :=
  (List.range n).map (fun j => elemMul (wordElem fa l (8 * eoff + j)) (intElem (v.cpair wide stg rsel j).1) sg neg)

/-- The magnitudes of those products (R214). -/
def pairMagnitudes (v : TileSt) (l : List Byte) (wide : Bool) (n stg rsel eoff fa : Nat) (sg : Int) : List Elem :=
  (List.range n).map (fun j => absTimes (wordElem fa l (8 * eoff + j)) (v.cpair wide stg rsel j).2 sg)

section
variable (t c tw stg : Nat) (neg : Bool) (fa fb : Nat) (sg : Int) (eoff rsel ea : Nat) (s : State)

/-- The row modes contribute once to each of their twins, after their energy is spent. -/
theorem laneStep_rows {op : Nat} (hop : ¬ op ≥ 0x64) : s.laneStep t c op tw stg neg fa fb sg eoff rsel true ea =
    (forAll (List.range (laneTwins op)) (fun r e =>
      let ps := rowProducts (s.tile t) ((s.tile t).word64B ea) stg (rsel + r) fa fb sg neg
      e.contribute t c (tw + r) ps (some ps)
        ((s.tile t).badAt (ea / 64 * 64) 64 || (s.tile t).stagePoison.toNat.testBit (8 * stg + (rsel + r))))
      (s.spend (quadOf t) (laneCost op fa))).ctxUpd t c CtxSt.adv := by
  unfold State.laneStep laneCost rowProducts
  simp only [if_neg hop, ← elemsPerWord_eq, ← rowsBad_one]
  rfl

/-- The CX modes contribute once, after their energy is spent. -/
theorem laneStep_pairs (wide : Bool) {op n : Nat} (hop : op = if wide then 0x65 else 0x64) (hn : n = if wide then 8 else 16) :
    s.laneStep t c op tw stg neg fa fb sg eoff rsel true ea =
    ((s.spend (quadOf t) (laneCost op fa)).contribute t c tw
      (pairProducts (s.tile t) ((s.tile t).word64B ea) wide n stg rsel eoff fa sg neg)
      (some (pairMagnitudes (s.tile t) ((s.tile t).word64B ea) wide n stg rsel eoff fa sg))
      ((s.tile t).badAt (ea / 64 * 64) 64 || (s.tile t).rowsBad stg rsel 4)).ctxUpd t c CtxSt.adv := by
  have hpair : op ≥ 0x64 := by rw [hop]; split <;> decide
  have hcount : n = if op = 0x64 then 16 else 8 := by rw [hn, hop]; cases wide <;> rfl
  have hwide : decide (op = 0x65) = wide := by rw [hop]; cases wide <;> rfl
  unfold State.laneStep laneCost pairProducts pairMagnitudes
  simp only [if_pos hpair, ← hcount, hwide]
  rfl

end

section
variable {s : State} {tl : Tile} {c : Ctx} {i : Instr} {tw : Fin 32} {stg : Fin 2} {neg : Bool} {fa fb bank : Fin 16}
  {ar : Fin 4} {sigma : BitVec 11} {eoff rsel : Fin 8} {disp : W16} {ecc : EccOut} {ea op n w : Nat}

theorem works_laneSpend (hp : s.ldr.phase ≠ .blackout) (q cost : Nat) :
    ((s.trace tl c w 0).spend q cost).works = s.works :=
  (works_spend (by rw [trace_frame]; exact hp) q cost).trans (works_trace ..)

theorem contributes_rows (hread : readsAt s tl c bank ar disp.toInt ecc ea) (hop : ¬ op ≥ 0x64) (hn : laneTwins op = n)
    (hexec : exec i s = (s.issue tl c w (fun p => State.memOp tl c p bank ar disp.toInt ecc
      (State.laneStep tl c op tw stg neg fa fb sigma.toInt eoff rsel true))).done) :
    contributes s tl c w i tw n
      (fun r => rowProducts (s.tile tl) ((s.tile tl).word64B ea) stg (rsel + r) fa fb sigma.toInt neg)
      (fun r => some (rowProducts (s.tile tl) ((s.tile tl).word64B ea) stg (rsel + r) fa fb sigma.toInt neg))
      (fun r => (s.tile tl).badAt (ea / 64 * 64) 64 || (s.tile tl).stagePoison.toNat.testBit (8 * stg + (rsel + r))) := by
  subst hn
  have heff := laneStep_rows tl c tw stg neg fa fb sigma.toInt eoff rsel ea (s.trace tl c w 0) hop
  rw [trace_tile] at heff
  exact contributes_of_memOp hread hexec heff (fun hp => works_laneSpend hp _ _) (contributed_forAll ..)

theorem contributes_pairs (wide : Bool) (hread : readsAt s tl c bank ar disp.toInt ecc ea)
    (hop : op = if wide then 0x65 else 0x64) (hn : n = if wide then 8 else 16)
    (hexec : exec i s = (s.issue tl c w (fun p => State.memOp tl c p bank ar disp.toInt ecc
      (State.laneStep tl c op tw stg neg fa fb sigma.toInt eoff rsel true))).done) :
    contributes s tl c w i tw 1
      (fun _ => pairProducts (s.tile tl) ((s.tile tl).word64B ea) wide n stg rsel eoff fa sigma.toInt neg)
      (fun _ => some (pairMagnitudes (s.tile tl) ((s.tile tl).word64B ea) wide n stg rsel eoff fa sigma.toInt))
      (fun _ => (s.tile tl).badAt (ea / 64 * 64) 64 || (s.tile tl).rowsBad stg rsel 4) := by
  have heff := laneStep_pairs tl c tw stg neg fa fb sigma.toInt eoff rsel ea (s.trace tl c w 0) wide hop hn
  rw [trace_tile] at heff
  exact contributes_of_memOp hread hexec heff (fun hp => works_laneSpend hp _ _) (contributed_one ..)

/-! ## Value instructions (R263) -/

/-- One value of the word at the operand, as `g` reads it. -/
theorem contributes_value (g : List Byte → Elem) (hread : readsAt s tl c bank ar disp.toInt ecc ea)
    (hexec : exec i s = (s.issue tl c w (fun p => State.memOp tl c p bank ar disp.toInt ecc (fun ea s =>
      s.value tl c tw (elemScale (g ((s.tile tl).word64B ea)) sigma.toInt neg) ((s.tile tl).badAt (ea / 64 * 64) 64) true))).done) :
    contributes s tl c w i tw 1 (fun _ => [elemScale (g ((s.tile tl).word64B ea)) sigma.toInt neg]) (fun _ => none)
      (fun _ => (s.tile tl).badAt (ea / 64 * 64) 64) := by
  refine contributes_of_memOp hread hexec ?_ (fun _ => works_trace tl c w 0 s) (contributed_one ..)
  rw [trace_tile]
  rfl

/-- One value of the issuing context, as `g` reads it, with the poison of register `k`. -/
theorem contributes_register (g : CtxSt → Elem) {k : Nat}
    (hexec : exec i s = (s.issue tl c w (fun _ s => s.value tl c tw (g (s.ctx tl c)) ((s.ctx tl c).bad k) true)).done) :
    contributes s tl c w i tw 1 (fun _ => [g (s.ctx tl c)]) (fun _ => none) (fun _ => (s.ctx tl c).bad k) := by
  have hone := contributed_one tl c tw [g (s.ctx tl c)] none ((s.ctx tl c).bad k) (s.trace tl c w 0)
  refine contributes_of (fun P hP => runsAs_issue hexec fun _ _ => ?_) (fun _ => works_trace tl c w 0 s) hone
  rw [trace_ctx]
  exact hP

end

/-- Settles O27: lane operations contribute row by row or once, value instructions once. -/
theorem lanesAndValues : Obligations.LanesAndValues := by
  intro s t c tw stg neg fa fb bank ar sigma eoff rsel disp ecc eidx src ea hread
  refine ⟨?_, ?_, ?_, ?_, ?_, ?_, ?_, ?_, ?_, ?_⟩
  · exact contributes_rows hread (by decide) rfl rfl
  · exact contributes_rows hread (by decide) rfl rfl
  · exact contributes_rows hread (by decide) rfl rfl
  · exact contributes_rows hread (by decide) rfl rfl
  · exact contributes_pairs false hread rfl rfl rfl
  · exact contributes_pairs true hread rfl rfl rfl
  · exact contributes_value (fun l => wordElem fa l eidx) hread rfl
  · exact contributes_value (fun l => wordPair false l eidx) hread rfl
  · exact contributes_value (fun l => wordPair true l eidx) hread rfl
  · exact contributes_register (fun x => elemScale (intElem (x.sreg src).toInt) sigma.toInt neg) rfl

end Sys2Proof.Machine
end

section
/-! O28: the twin image (R216). -/

namespace Sys2Proof.Machine
open Sys2Proof

/-! ## Records of little-endian fields (R6) -/

theorem leNat_leBytes (n v : Nat) : leNat (leBytes n v) = v % 2 ^ (8 * n) := by
  induction n generalizing v with
  | zero => exact (Nat.mod_one v).symm
  | succ n ih =>
    have hsplit : v % (256 * 2 ^ (8 * n)) = v % 256 + 256 * (v / 256 % 2 ^ (8 * n)) := Nat.mod_mul
    rw [leBytes, leNat, ih, Nat.mul_succ, Nat.pow_add, Nat.mul_comm (2 ^ (8 * n)) (2 ^ 8), BitVec.toNat_ofNat]
    exact hsplit.symm

theorem firstBytes_append (l r : List Byte) : firstBytes l.length (l ++ r) = l := by
  induction l with
  | nil => rfl
  | cons b l ih => exact congrArg (b :: ·) ih

/-- Fields packed in order, each a size in bytes and a value. -/
def packed : List (Nat × Nat) → List Byte
  | [] => []
  | f :: l => leBytes f.1 f.2 ++ packed l

theorem packed_append (k l : List (Nat × Nat)) : packed (k ++ l) = packed k ++ packed l := by
  induction k with
  | nil => rfl
  | cons f k ih => rw [List.cons_append, packed, packed, ih, List.append_assoc]

theorem length_packed (l : List (Nat × Nat)) : (packed l).length = (l.map Prod.fst).sum := by
  induction l with
  | nil => rfl
  | cons f l ih => rw [packed, List.length_append, leBytes_length, ih, List.map_cons, List.sum_cons]

/-- A field that fits its size reads back at the sizes before it. -/
theorem leField_packed (k l : List (Nat × Nat)) {n v : Nat} (hv : v < 2 ^ (8 * n)) :
    leField (packed (k ++ (n, v) :: l)) (k.map Prod.fst).sum n = v := by
  unfold leField slice
  rw [packed_append, ← length_packed, List.drop_left, packed]
  dsimp only
  have hfirst := firstBytes_append (leBytes n v) (packed l)
  rw [leBytes_length] at hfirst
  rw [hfirst, leNat_leBytes, Nat.mod_eq_of_lt hv]

/-! ## The image -/

/-- The fields of a twin's image before its flags (R216). -/
def Twin.numbers (t : Twin) : List (Nat × Nat) :=
  [(32, lowBits 256 t.value), (4, t.magM), (2, lowBits 16 t.magE), (2, lowBits 16 t.anchor), (4, t.dust), (4, t.count)]

/-- The fields from the flags on (R216). -/
def Twin.marks (t : Twin) : List (Nat × Nat) := [(1, b2n t.spill + 2 * b2n t.nan), (1, t.res), (14, 0)]

theorem image_eq (t : Twin) : t.image = packed (t.numbers ++ t.marks) := by
  unfold Twin.image Twin.numbers Twin.marks
  simp only [List.cons_append, List.nil_append, packed, List.append_assoc, List.append_nil]

theorem length_image (t : Twin) : t.image.length = 64 := by
  rw [image_eq, length_packed]
  rfl

theorem lowBits_lt (n : Nat) (i : Int) : lowBits n i < 2 ^ n := by
  have hpos : (0 : Int) < (2 ^ n : Nat) := by exact_mod_cast Nat.two_pow_pos n
  have hlt := Int.emod_lt_of_pos i hpos
  have hnonneg := Int.emod_nonneg i hpos.ne'
  unfold lowBits
  omega

theorem b2n_le_one (b : Bool) : b2n b ≤ 1 := by cases b <;> decide

/-- What each field of the image reads as (R216). -/
theorem image_fields (w : Twin) :
    leField w.image 0 32 = lowBits 256 w.value ∧ (w.magM < 2 ^ 32 → leField w.image 32 4 = w.magM) ∧
    (w.dust < 2 ^ 32 → leField w.image 40 4 = w.dust) ∧ (w.count < 2 ^ 32 → leField w.image 44 4 = w.count) ∧
    leField w.image 48 1 = b2n w.spill + 2 * b2n w.nan ∧ leField w.image 49 1 = (w.value % 3).toNat ∧
    leField w.image 50 14 = 0 ∧ w.image.length = 64 := by
  have hflags : b2n w.spill + 2 * b2n w.nan < 2 ^ 8 := by
    have hspill := b2n_le_one w.spill
    have hnan := b2n_le_one w.nan
    omega
  have hres : w.res < 2 ^ 8 := by unfold Twin.res; omega
  refine ⟨?_, fun h => ?_, fun h => ?_, fun h => ?_, ?_, ?_, ?_, length_image w⟩ <;> rw [image_eq]
  · exact leField_packed [] (w.numbers.drop 1 ++ w.marks) (lowBits_lt 256 _)
  · exact leField_packed (w.numbers.take 1) (w.numbers.drop 2 ++ w.marks) h
  · exact leField_packed (w.numbers.take 4) (w.numbers.drop 5 ++ w.marks) h
  · exact leField_packed (w.numbers.take 5) w.marks h
  · exact leField_packed w.numbers (w.marks.drop 1) hflags
  · exact leField_packed (w.numbers ++ w.marks.take 1) (w.marks.drop 2) hres
  · exact leField_packed (w.numbers ++ w.marks.take 2) [] (v := 0) (by decide)

end Sys2Proof.Machine
end

section
/-! O28: twin instructions (R215, R216, R218 to R222, R264, R266 to R269). -/

namespace Sys2Proof.Machine
open Sys2Proof

variable {s : State} {tl : Tile} {c : Ctx} {i : Instr} {w : Nat}

/-! ## Instructions that write twins and SRAM (R215, R216) -/

/-- A tile set with its contexts as they were, and the next pc. -/
theorem onlyTile_setTile (s : State) (t c : Nat) {v : TileSt} (hv : v.ctxs = (s.tile t).ctxs) :
    onlyTile s ((s.setTile t v).ctxUpd t c CtxSt.adv) t
      { v with ctxs := mput CtxSt.reset (s.tile t).ctxs c { s.ctx t c with pc := (s.ctx t c).pc + 1 } } := by
  have hset : (s.setTile t v).tile t = v := (State.tile_setTile ..).trans (if_pos rfl)
  have hctx : (s.setTile t v).ctx t c = s.ctx t c := by
    unfold State.ctx
    rw [hset, hv]
  refine ⟨rfl, ?_, fun u hu => ?_⟩
  · rw [tile_ctxUpd, if_pos rfl, hset, hctx, hv]
    rfl
  · rw [tile_ctxUpd, if_neg hu, State.tile_setTile, if_neg hu]

theorem runsAs_tclr (tw : Fin 32) (anchor : BitVec 11) :
    runsAs s tl c (encT 0x70 tw 0 0 anchor.toNat 0 0 0 0 0 0) (.tclr tl c tw anchor) (fun s0 e => ∃ u, onlyTile s0 e tl u ∧
      u = { s.tile tl with
        ctxs := mput CtxSt.reset (s.tile tl).ctxs c { s.ctx tl c with pc := (s.ctx tl c).pc + 1 }, twins := u.twins } ∧
      ∀ k, u.twin k = if k = tw then { Twin.reset with anchor := anchor.toInt } else (s.tile tl).twin k) := by
  refine runsAs_issue rfl fun _ _ => ⟨_, onlyTile_setTile _ tl c rfl, ?_, fun k => ?_⟩
  · rw [trace_tile, trace_ctx]
  · rw [trace_tile]
    exact mget_mput ..

/-- A write leaves all of a tile but its SRAM and the marks there. -/
theorem write_rest (v : TileSt) (a : Nat) (l : List Byte) (bad : Bool) : v.write a l bad =
    { v with sram := (v.write a l bad).sram, sramPoison := (v.write a l bad).sramPoison, plant := (v.write a l bad).plant } := rfl

/-- What a write of an aligned 64 B word leaves as bytes and as marks. -/
theorem write_word (v : TileSt) (ea : Nat) {l : List Byte} (hl : l.length = 64) (bad : Bool) :
    (∀ b, mget 0 (v.write (ea / 64 * 64) l bad).sram b =
      if ea / 64 * 64 ≤ b ∧ b < ea / 64 * 64 + 64 then lget 0 l (b - ea / 64 * 64) else mget 0 v.sram b) ∧
    ∀ k, mget false (v.write (ea / 64 * 64) l bad).sramPoison k = if k / 8 = ea / 64 then bad else mget false v.sramPoison k := by
  refine ⟨fun b => ?_, fun k => ?_⟩
  · rw [TileSt.byte_write, hl]
  · unfold TileSt.write
    dsimp only
    rw [mget_foldl_range, hl]
    exact if_congr (by omega) rfl rfl

theorem runsAs_tstore {tw : Fin 32} {bank : Fin 16} {ar : Fin 4} {disp : BitVec 10} {p : PTile} {ea : Nat}
    (hcfg : s.tileCfg tl = some p) (haddr : effAddr (ptileCtx p c) (s.ctx tl c) bank ar (64 * disp.toInt) = some ea)
    (hinj : s.flt.injTarget ≠ 1) :
    let x := s.ctx tl c
    let v := s.tile tl
    runsAs s tl c (encT 0x71 tw 0 0 0 bank ar 0 0 disp.toNat 0) (.tstore tl c tw bank ar disp) (fun s0 e =>
      ∃ u, onlyTile s0 e tl u ∧
        u = { v with ctxs := mput CtxSt.reset v.ctxs c { x with pc := x.pc + 1 }, sram := u.sram,
                     sramPoison := u.sramPoison, plant := u.plant } ∧
        (∀ b, mget 0 u.sram b = if ea / 64 * 64 ≤ b ∧ b < ea / 64 * 64 + 64 then lget 0 (v.twin tw).image (b - ea / 64 * 64)
                                else mget 0 v.sram b) ∧
        ∀ k, mget false u.sramPoison k = if k / 8 = ea / 64 then (v.twin tw).poison else mget false v.sramPoison k) := by
  intro x v
  refine runsAs_issue rfl fun q hq => ?_
  obtain rfl : p = q := Option.some.inj (hcfg.symm.trans hq)
  dsimp only
  rw [trace_ctx, haddr, trace_tile]
  dsimp only
  obtain ⟨hsram, hmarks⟩ := write_word v ea (length_image (v.twin tw)) (v.twin tw).poison
  have hrest := write_rest v (ea / 64 * 64) (v.twin tw).image (v.twin tw).poison
  change ∃ u, onlyTile _ (((State.setTile tl (v.write (ea / 64 * 64) (v.twin tw).image (v.twin tw).poison) _).planted _ _).ctxUpd
    _ _ _) _ u ∧ _
  generalize v.write (ea / 64 * 64) (v.twin tw).image (v.twin tw).poison = v' at hsram hmarks hrest ⊢
  rw [planted_none (by rw [State.setTile_flt, trace_frame]; exact hinj)]
  refine ⟨_, onlyTile_setTile _ tl c (by rw [trace_tile, hrest]), ?_, hsram, hmarks⟩
  rw [trace_tile, trace_ctx]
  exact congrArg (fun u : TileSt => { u with ctxs := mput CtxSt.reset v.ctxs c { x with pc := x.pc + 1 } }) hrest

/-! ## Instructions that write S[D] (R218 to R222, R264) -/

/-- From `x` to `y` the sticky flags of a conversion were set (R219, R220); the codes are as before. -/
def flaggedBy (x y : CtxSt) (cvt sat : Bool) : Prop := y.z = x.z ∧ y.n = x.n ∧ y.c = x.c ∧ y.v = x.v ∧
  y.flags = x.flags ||| (if cvt then 8 else 0) ||| (if sat then 2 else 0)

theorem flagged_move (x : CtxSt) (d : Nat) (r : W32) (bad cvt sat : Bool) :
    let y := ((x.move d r bad).stick stCVT cvt).stick stSAT sat
    flaggedBy x y cvt sat ∧ wrote x y d r bad (x.pc + 1) := by
  intro y
  have hy : y = { x.move d r bad with flags := x.flags ||| (if cvt then 8 else 0) ||| (if sat then 2 else 0) } := by
    unfold y
    rw [stick_eq, stick_eq]
    rfl
  obtain ⟨⟨hz, hn, hc, hv, -⟩, hwrote⟩ := wrote_move x d r bad
  rw [hy]
  exact ⟨⟨hz, hn, hc, hv, rfl⟩, hwrote⟩

/-- A float conversion never saturates. -/
theorem flagged_move_float (x : CtxSt) (d : Nat) (r : W32) (bad cvt : Bool) :
    let y := (x.move d r bad).stick stCVT cvt
    flaggedBy x y cvt false ∧ wrote x y d r bad (x.pc + 1) := flagged_move x d r bad cvt false

theorem setsCtx_tjudge {tw : Fin 32} {d bank : Fin 16} {ar : Fin 4} {disp : BitVec 10} {ecc : EccOut} {ea : Nat}
    (hread : readsAt s tl c bank ar (64 * disp.toInt) ecc ea) :
    let v := s.tile tl
    setsCtx s tl c (encT 0x72 tw d 0 0 bank ar 0 0 disp.toNat 0) (.tjudge tl c tw d bank ar disp ecc) (fun y =>
      keepsCodes (s.ctx tl c) y ∧ wrote (s.ctx tl c) y d (BitVec.ofNat 32 (judgeRow (v.twin tw) (judgeBlk (v.word64B ea))))
        ((v.twin tw).poison || v.badAt (ea / 64 * 64) 64) ((s.ctx tl c).pc + 1)) := by
  intro v
  refine runsAs_memOp hread rfl ?_
  rw [trace_tile]
  exact ctxUpd_traced (wrote_move ..)

theorem eccMark_ok (t a : Nat) (s : State) : s.eccMark t a .ok = s := rfl
theorem eccDone_ok (t : Nat) (s : State) : s.eccDone t .ok = s := rfl

theorem setsCtx_tjudgey {tw : Fin 32} {d bank bank2 : Fin 16} {ar ar2 : Fin 4} {disp disp2 : BitVec 10} {hit : Bool}
    {ecc : EccOut} {ea ea2 : Nat} (hread : readsAt s tl c bank ar (64 * disp.toInt) ecc ea)
    (hread2 : readsAt s tl c bank2 ar2 (64 * disp2.toInt) ecc ea2) :
    let v := s.tile tl
    let j := judgeBlk (v.word64B ea)
    let r := judgeElem (v.twin tw) j (judgeY (v.word64B ea2) ea2 j.yfmt)
    let bad := (v.twin tw).poison || v.badAt (ea / 64 * 64) 64 || v.badAt (ea2 / 64 * 64) 64
    setsCtx s tl c (encT 0x73 tw d 0 0 bank ar bank2 ar2 disp.toNat disp2.toNat)
      (.tjudgey tl c tw d bank ar bank2 ar2 disp disp2 hit ecc)
      (fun y => y = ((s.ctx tl c).move d (BitVec.ofNat 32 r.1) bad).stick stCVT r.2) := by
  intro v j r bad
  obtain ⟨rfl, hplant, p, hcfg, haddr⟩ := hread
  obtain ⟨-, hplant2, p2, hcfg2, haddr2⟩ := hread2
  refine runsAs_issue rfl fun q hq => ?_
  obtain rfl : p = q := Option.some.inj (hcfg.symm.trans hq)
  obtain rfl : p = p2 := Option.some.inj (hcfg.symm.trans hcfg2)
  dsimp only
  rw [trace_ctx, haddr, haddr2, trace_tile]
  dsimp only
  simp only [ite_self, eccAt_ok hplant, eccAt_ok hplant2, eccMark_ok, eccDone_ok, trace_tile]
  exact ctxUpd_traced rfl

theorem setsCtx_tcvt (tw : Fin 32) (d sel : Fin 16) :
    let t := (s.tile tl).twin tw
    setsCtx s tl c (encT 0x74 tw d sel 0 0 0 0 0 0 0) (.tcvt tl c tw d sel) (fun y => y =
      if sel.val ≥ 8 then
        ((s.ctx tl c).move d (BitVec.ofNat 32 (cvtFloat t sel).1) t.poison).stick stCVT (cvtFloat t sel).2
      else
        (((s.ctx tl c).move d (BitVec.ofInt 32 (cvtInt t (8 * fmtBytes sel)).1) t.poison).stick stCVT
          (cvtInt t (8 * fmtBytes sel)).2.1).stick stSAT (cvtInt t (8 * fmtBytes sel)).2.2) := by
  intro t
  refine runsAs_issue rfl fun _ _ => ?_
  rw [trace_tile]
  by_cases hsel : sel.val ≥ 8
  · simp only [if_pos hsel]
    exact ctxUpd_traced rfl
  · simp only [if_neg hsel]
    exact ctxUpd_traced rfl

theorem setsCtx_tinfo (tw : Fin 32) (d sel : Fin 16) :
    setsCtx s tl c (encT 0x75 tw d sel 0 0 0 0 0 0 0) (.tinfo tl c tw d sel) (fun y => keepsCodes (s.ctx tl c) y ∧
      wrote (s.ctx tl c) y d (((s.tile tl).twin tw).info sel) ((s.tile tl).twin tw).poison ((s.ctx tl c).pc + 1)) := by
  refine runsAs_issue rfl fun _ _ => ?_
  rw [trace_tile]
  exact ctxUpd_traced (wrote_move ..)

/-- Settles O28: each twin instruction writes its twin, its word of SRAM or S[D]. -/
theorem twinInstructions : Obligations.TwinInstructions := by
  intro s t c tw d bank bank2 ar ar2 disp disp2 anchor hit ecc ea x v w field flagged
  have hfield (sel : Nat) (r : W32) (hr : w.info sel = r) : field sel r := by
    rintro k rfl
    exact hr ▸ setsCtx_tinfo tw d k
  refine ⟨runsAs_tclr tw anchor, fun p hcfg haddr hinj => runsAs_tstore hcfg haddr hinj, image_fields w,
    fun hread => ⟨setsCtx_tjudge hread, fun ea2 hread2 => ?_⟩, fun sel => ⟨fun hsel => ?_, fun hsel => ?_⟩, hfield 0 _ rfl,
    hfield 1 _ rfl, hfield 2 _ rfl, hfield 3 _ rfl, hfield 4 _ rfl, hfield 5 _ rfl, hfield 6 _ rfl⟩
  · refine setsCtx_mono (setsCtx_tjudgey hread hread2) ?_
    rintro _ rfl
    exact flagged_move_float x d _ _ _
  · refine setsCtx_mono (setsCtx_tcvt tw d sel) ?_
    rintro _ rfl
    rw [if_pos hsel]
    exact flagged_move_float x d _ _ _
  · refine setsCtx_mono (setsCtx_tcvt tw d sel) ?_
    rintro _ rfl
    rw [if_neg (Nat.not_le.2 hsel)]
    exact flagged_move x d _ _ _ _

end Sys2Proof.Machine
end

section
/-! O21: control instructions (R248 to R251), and the conditions of the table of R249. -/

namespace Sys2Proof.Machine
open Sys2Proof

variable {s : State} {tl : Tile} {c : Ctx} {w : Nat}

/-! ## Conditions (R249) -/

theorem valuesOk_of_legal {kc : Nat} {p : PCtx} {starts queues : List Nat} (h : whyIllegal kc p starts queues w = none) :
    valuesOk w = true := by
  unfold whyIllegal at h
  split at h
  · cases h
  split at h
  · cases h
  split at h
  · cases h
  split at h
  · cases h
  · next hok => simpa using hok

/-- The values of a word that issues are ones its instruction allows (R278). -/
theorem valuesOk_of_issues (h : issues s tl c w) : valuesOk w = true := by
  obtain ⟨hissue, hlegal, -, -⟩ := h
  obtain ⟨p, hcfg⟩ := canIssue_cfg hissue
  unfold State.whyNot at hlegal
  rw [hcfg] at hlegal
  dsimp only at hlegal
  split at hlegal
  · exact absurd hlegal (Option.some_ne_none _)
  · exact valuesOk_of_legal hlegal

/-- What holds of the instruction where the values of its word are allowed. -/
theorem setsCtx_of_valuesOk {i : Instr} {Q : CtxSt → Prop} (h : valuesOk w = true → setsCtx s tl c w i Q) :
    setsCtx s tl c w i Q :=
  fun hissues => h (valuesOk_of_issues hissues) hissues

theorem valuesOk_bc {cond : Fin 16} {target : W16} (h : valuesOk (encB 0x03 0 cond 0 target.toNat) = true) : cond.val ≠ 15 := by
  have htarget := target.isLt
  have hop : fld (encB 0x03 0 cond 0 target.toNat) 63 56 = 0x03 := by unfold fld encB; omega
  have hcond : fld (encB 0x03 0 cond 0 target.toNat) 51 48 = cond.val := by unfold fld encB; omega
  unfold valuesOk at h
  dsimp only at h
  rw [if_pos hop, hcond] at h
  exact bne_iff_ne.1 h

theorem valuesOk_sel {d a b cond : Fin 16} (h : valuesOk (encR 0x3F d a b cond) = true) : cond.val ≠ 15 := by
  have hop : fld (encR 0x3F d a b cond) 63 56 = 0x3F := by unfold fld encR; omega
  have hcond : fld (encR 0x3F d a b cond) 43 40 = cond.val := by unfold fld encR; omega
  unfold valuesOk at h
  dsimp only at h
  rw [if_neg (by rw [hop]; decide), if_pos hop, hcond] at h
  exact bne_iff_ne.1 h

/-- The condition asked of a context is that of the table. -/
theorem cond_iff (x : CtxSt) {k : Nat} (hk : k < 15) : x.cond k = true ↔ condTable x k := by
  unfold CtxSt.cond condTable
  interval_cases k <;> simp [condHolds]

/-! ## The loop count (R250) -/

/-- A loop's count after one turn. -/
def loopCount (n : W32) : W32 := if n = 0 then 0 else n - 1

theorem loopCount_eq_zero (n : W32) : loopCount n = 0 ↔ n.toNat ≤ 1 := by
  unfold loopCount
  split
  · next hzero => exact iff_of_true rfl (hzero ▸ Nat.zero_le 1)
  · next hpos =>
    rw [sub_eq_zero]
    exact ⟨fun h => h ▸ Nat.le_refl 1, fun h => by bv_omega⟩

/-- The context with the count in register `a` one lower, and 0 left alone. -/
def CtxSt.counted (x : CtxSt) (a : Nat) : CtxSt := if x.sreg a = 0 then x else x.put a (x.sreg a - 1) (x.bad a)

theorem wrote_counted (x : CtxSt) (a : Nat) :
    keepsCodes x (x.counted a) ∧ wrote x (x.counted a) a (loopCount (x.sreg a)) (x.bad a) x.pc := by
  unfold CtxSt.counted loopCount
  split
  · next hzero =>
    refine ⟨⟨rfl, rfl, rfl, rfl, rfl⟩, fun j => ?_, fun j _ => ?_, rfl, rfl, rfl, rfl⟩
    · split
      · next hj => exact hj ▸ hzero
      · rfl
    · split
      · next hj => rw [hj]
      · rfl
  · exact ⟨⟨rfl, rfl, rfl, rfl, rfl⟩, fun _ => mget_mput .., fun _ hj => bad_put _ _ _ _ hj, rfl, rfl, rfl, rfl⟩

/-- A count that reaches 0 goes on, another branches. -/
theorem wrote_loop (x : CtxSt) (a target : Nat) :
    let y := if (x.counted a).sreg a = 0 then (x.counted a).adv else { x.counted a with pc := target }
    keepsCodes x y ∧ wrote x y a (loopCount (x.sreg a)) (x.bad a) (if (x.sreg a).toNat ≤ 1 then x.pc + 1 else target) := by
  intro y
  obtain ⟨hcodes, hregs, hbad, hpc, hrest⟩ := wrote_counted x a
  have hcount : (x.counted a).sreg a = loopCount (x.sreg a) := (hregs a).trans (if_pos rfl)
  unfold y
  rw [hcount]
  by_cases hlast : loopCount (x.sreg a) = 0
  · rw [if_pos hlast, if_pos ((loopCount_eq_zero _).1 hlast)]
    exact ⟨hcodes, hregs, hbad, congrArg (· + 1) hpc, hrest⟩
  · rw [if_neg hlast, if_neg fun h => hlast ((loopCount_eq_zero _).2 h)]
    exact ⟨hcodes, hregs, hbad, rfl, hrest⟩

/-- Settles O21: each control instruction's effect on its context is written out by its case. -/
theorem tileControl : Obligations.TileControl := by
  intro s t c a d cond k target x next
  refine ⟨setsCtx_ctxUpd rfl rfl, setsCtx_ctxUpd rfl rfl, fun hc => ?_, fun hc => ?_, setsCtx_ctxUpd rfl ?_,
    setsCtx_ctxUpd rfl rfl, fun hreached => ?_, fun hawaited => ?_, setsCtx_ctxUpd rfl rfl, setsCtx_ctxUpd rfl (wrote_move ..)⟩
  · refine setsCtx_of_valuesOk fun hok => setsCtx_ctxUpd rfl (if_pos ?_)
    exact (cond_iff x (by have := valuesOk_bc hok; omega)).2 hc
  · refine setsCtx_of_valuesOk fun hok => setsCtx_ctxUpd rfl (if_neg ?_)
    exact fun h => hc ((cond_iff x (by have := valuesOk_bc hok; omega)).1 h)
  · exact wrote_loop x a target.toNat
  · refine runsAs_issue rfl fun _ _ => ctxUpd_traced (if_pos ?_)
    rw [trace_tile]
    exact decide_eq_true hreached
  · refine runsAs_issue rfl fun _ _ => ctxUpd_traced (if_neg ?_)
    rw [trace_tile]
    exact fun h => Nat.not_lt.2 hawaited (of_decide_eq_true h)

end Sys2Proof.Machine
end

section
/-! O23: moves and address registers (R252, R255, R270). -/

namespace Sys2Proof.Machine
open Sys2Proof

variable {s : State} {tl : Tile} {c : Ctx} {i : Instr} {w : Nat}

/-! ## Moves (R255) -/

/-- Instruction `i` moves `v` into register `k`, and changes no code and no sticky flag. -/
def movesInto (s : State) (tl : Tile) (c : Ctx) (w : Nat) (i : Instr) (k : Nat) (v : W32) (bad : Bool) : Prop :=
  setsCtx s tl c w i (fun y => keepsCodes (s.ctx tl c) y ∧ wrote (s.ctx tl c) y k v bad ((s.ctx tl c).pc + 1))

/-- A value of the issuing context. -/
theorem movesInto_ctx {f : CtxSt → CtxSt} {k : Nat} {v : W32} {bad : Bool}
    (hexec : exec i s = (s.issue tl c w (fun _ => State.ctxUpd tl c f)).done)
    (hf : f (s.ctx tl c) = (s.ctx tl c).move k v bad) : movesInto s tl c w i k v bad :=
  setsCtx_ctxUpd hexec (hf ▸ wrote_move ..)

/-- A value of the issuing tile or of the plan, which tracing does not change. -/
theorem movesInto_state {g : State → W32} {k : Nat} {v : W32} {bad : Bool}
    (hexec : exec i s = (s.issue tl c w (fun _ e => e.ctxUpd tl c (fun x => x.move k (g e) bad))).done)
    (hg : g (s.trace tl c w 0) = v) : movesInto s tl c w i k v bad := by
  subst hg
  unfold movesInto setsCtx
  exact runsAs_issue hexec fun _ _ => ctxUpd_traced (wrote_move ..)

theorem tileMoves : tileMovesPart := by
  intro s t c d a b cond ad aa imm k x puts
  refine ⟨movesInto_ctx rfl rfl, fun hc => ?_, fun hc => ?_, movesInto_ctx rfl rfl, movesInto_ctx rfl rfl,
    movesInto_ctx rfl rfl, movesInto_ctx rfl rfl, movesInto_ctx rfl rfl, movesInto_ctx rfl rfl,
    fun l hl hlt hslot => ?_, ?_, ?_⟩
  · refine setsCtx_of_valuesOk fun hok => movesInto_ctx rfl ?_
    have htrue : x.cond cond = true := (cond_iff x (by have := valuesOk_sel hok; omega)).2 hc
    rw [htrue]
    rfl
  · refine setsCtx_of_valuesOk fun hok => movesInto_ctx rfl ?_
    have hfalse : ¬ x.cond cond = true := fun h => hc ((cond_iff x (by have := valuesOk_sel hok; omega)).1 h)
    rw [if_neg hfalse]
  · refine movesInto_state rfl ?_
    have hctx := c.isLt
    rw [trace_tile, trace_slot, hl]
    dsimp only
    rw [Nat.mod_eq_of_lt hlt, Nat.mod_eq_of_lt hslot, Nat.mod_eq_of_lt (by omega : c.val < 64)]
  · refine movesInto_state rfl ?_
    rw [trace_tile]
  · refine movesInto_state rfl ?_
    rw [trace_tile]

end Sys2Proof.Machine
end

section
/-! O23: operations that cannot overflow, and the codes of compares (R229 to R231, R252, R253). -/

namespace Sys2Proof.Machine
open Sys2Proof

variable {s : State} {tl : Tile} {c : Ctx} {i : Instr} {w : Nat}

/-! ## Results (R229 to R231, R252) -/

theorem aluMulh_toInt (a b : W32) : (aluMulh a b).r.toInt = a.toInt * b.toInt / 4294967296 := by
  have hhi : a.toInt * b.toInt ≤ 2 ^ 62 := BitVec.toInt_mul_toInt_le
  have hlo : -2 ^ 62 ≤ a.toInt * b.toInt := BitVec.le_toInt_mul_toInt
  exact BitVec.toInt_ofInt_eq_self (by decide) (by omega) (by omega)

theorem aluMulhu_toNat (a b : W32) : (aluMulhu a b).r.toNat = a.toNat * b.toNat / 4294967296 := by
  refine (BitVec.toNat_ofNat ..).trans (Nat.mod_eq_of_lt (Nat.div_lt_of_lt_mul ?_))
  exact Nat.mul_lt_mul'' a.isLt b.isLt

theorem aluRem_ne_zero (a : W32) {b : W32} (hb : b ≠ 0) : aluRem a b = .plain (a.srem b) := by
  unfold aluRem
  rw [if_neg hb, ← BitVec.toInt_srem, BitVec.ofInt_toInt]

theorem aluDivu_ne_zero (a : W32) {b : W32} (hb : b ≠ 0) : aluDivu a b = .plain (a / b) := by
  unfold aluDivu
  rw [if_neg hb, ← BitVec.toNat_udiv, BitVec.ofNat_toNat, BitVec.setWidth_eq]

theorem aluRemu_ne_zero (a : W32) {b : W32} (hb : b ≠ 0) : aluRemu a b = .plain (a % b) := by
  unfold aluRemu
  rw [if_neg hb, ← BitVec.toNat_umod, BitVec.ofNat_toNat, BitVec.setWidth_eq]

/-- A shift by 32 or more leaves 0. -/
theorem aluShr_toNat (a : W32) (n : Nat) : (aluShr a n).r.toNat = a.toNat / 2 ^ n := by
  unfold aluShr Alu.plain
  have hle : a.toNat / 2 ^ n ≤ a.toNat := Nat.div_le_self ..
  split
  · next hn =>
    have hpow : 2 ^ 32 ≤ 2 ^ n := Nat.pow_le_pow_right (by decide) hn
    exact (Nat.div_eq_of_lt (lt_of_lt_of_le a.isLt hpow)).symm
  · exact (BitVec.toNat_ofNat ..).trans (Nat.mod_eq_of_lt (lt_of_le_of_lt hle a.isLt))

/-- A shift by 32 or more leaves copies of the sign. -/
theorem aluSar_toInt (a : W32) (n : Nat) : (aluSar a n).r.toInt = a.toInt / (2 ^ n : Nat) := by
  unfold aluSar Alu.plain
  dsimp only
  have hlo := BitVec.le_toInt a
  have hhi := BitVec.toInt_lt (x := a)
  split
  · next hn =>
    have hpow : (2 ^ 32 : Nat) ≤ 2 ^ n := Nat.pow_le_pow_right (by decide) hn
    split
    · next hneg => exact (Int.ediv_eq_neg_one_of_neg_of_le hneg (by omega)).symm
    · next hpos => exact (Int.ediv_eq_zero_of_lt (by omega) (by omega)).symm
  · rw [← Int.shiftRight_eq_div_pow, ← BitVec.toInt_sshiftRight, BitVec.ofInt_toInt]

theorem aluMin_toInt (a b : W32) : (aluMin a b).r.toInt = min a.toInt b.toInt :=
  (apply_ite ..).trans (min_def ..).symm

theorem aluMax_toInt (a b : W32) : (aluMax a b).r.toInt = max a.toInt b.toInt :=
  (apply_ite ..).trans (max_def ..).symm

theorem aluMinu_toNat (a b : W32) : (aluMinu a b).r.toNat = min a.toNat b.toNat :=
  (apply_ite ..).trans (min_def ..).symm

theorem aluMaxu_toNat (a b : W32) : (aluMaxu a b).r.toNat = max a.toNat b.toNat :=
  (apply_ite ..).trans (max_def ..).symm

/-- The leading zeros end at the highest set bit. -/
theorem aluClz_bounds (a : W32) :
    (aluClz a).r.toNat ≤ 32 ∧ a.toNat < 2 ^ (32 - (aluClz a).r.toNat) ∧
      ((aluClz a).r.toNat < 32 → 2 ^ (31 - (aluClz a).r.toNat) ≤ a.toNat) := by
  by_cases h : a = 0
  · subst h
    decide
  · have hpos : a.toNat ≠ 0 := fun h0 => h (BitVec.eq_of_toNat_eq h0)
    have hlog : a.toNat.log2 < 32 := (Nat.log2_lt hpos).2 a.isLt
    have hr : (aluClz a).r.toNat = 31 - a.toNat.log2 := by
      unfold aluClz Alu.plain
      rw [if_neg h]
      exact (BitVec.toNat_ofNat ..).trans (Nat.mod_eq_of_lt (by omega))
    rw [hr]
    refine ⟨by omega, ?_, fun _ => ?_⟩
    · rw [show 32 - (31 - a.toNat.log2) = a.toNat.log2 + 1 by omega]
      exact Nat.lt_log2_self
    · rw [show 31 - (31 - a.toNat.log2) = a.toNat.log2 by omega]
      exact Nat.log2_self_le hpos

theorem length_filter_testBit (n : Nat) (l : List Nat) :
    (l.filter (fun i => n.testBit i)).length = (l.map (fun i => n / 2 ^ i % 2)).sum := by
  induction l with
  | nil => rfl
  | cons i l ih =>
    rw [List.map_cons, List.sum_cons, ← ih, ← Nat.toNat_testBit, List.filter_cons]
    cases n.testBit i
    · exact (Nat.zero_add _).symm
    · exact Nat.add_comm ..

theorem aluPopc_toNat (a : W32) : (aluPopc a).r.toNat = ((List.range 32).map (fun i => a.toNat / 2 ^ i % 2)).sum := by
  have hle : ((List.range 32).filter (fun i => a.toNat.testBit i)).length ≤ 32 :=
    (List.length_filter_le ..).trans List.length_range.le
  rw [← length_filter_testBit]
  exact (BitVec.toNat_ofNat ..).trans (Nat.mod_eq_of_lt (by omega))

/-! ## Shapes of an operation -/

/-- Instruction `i` writes a result of which `R` holds with C = V = 0 and the sticky flags `fl`. -/
def writesPlain (s : State) (tl : Tile) (c : Ctx) (d w : Nat) (i : Instr) (fl : Byte) (bad : Bool) (R : W32 → Prop) : Prop :=
  setsCtx s tl c w i (fun y => ∃ r, R r ∧ aluWrote (s.ctx tl c) y d r false false fl bad)

/-- A result with C = V = 0 and no sticky flag. -/
theorem writesPlain_of {f : CtxSt → CtxSt} {d : Nat} {bad : Bool} {r : W32} {R : W32 → Prop}
    (hexec : exec i s = (s.issue tl c w (fun _ => State.ctxUpd tl c f)).done)
    (hf : f (s.ctx tl c) = (s.ctx tl c).wr d (.plain r) bad) (hr : R r) : writesPlain s tl c d w i 0 bad R :=
  setsCtx_ctxUpd hexec ⟨r, hr, hf ▸ aluWrote_wr rfl rfl ..⟩

/-- A division by zero sets DZ alone (R229, R230). -/
theorem writesPlain_divZero {f : CtxSt → CtxSt} {d : Nat} {bad : Bool} {r : W32}
    (hexec : exec i s = (s.issue tl c w (fun _ => State.ctxUpd tl c f)).done)
    (hf : f (s.ctx tl c) = (s.ctx tl c).wr d { r := r, c := false, v := false, ov := false, sat := false, dz := true } bad) :
    writesPlain s tl c d w i 4 bad (· = r) :=
  setsCtx_ctxUpd hexec ⟨r, rfl, hf ▸ aluWrote_wr rfl rfl ..⟩

/-! ## Compares (R253) -/

theorem ofInt_toInt_sub (a b : W32) : BitVec.ofInt 32 (a.toInt - b.toInt) = a - b := by
  refine BitVec.eq_of_toInt_eq ?_
  rw [BitVec.toInt_ofInt, BitVec.toInt_sub]

theorem cmpCodes_eq (a b : W32) (x : CtxSt) : cmpCodes a b x =
    { x with pc := x.pc + 1, z := decide (a = b), n := (a - b).msb, c := decide (a.toNat < b.toNat),
             v := outside (a.toInt - b.toInt) } := by
  have hzero : decide (a - b = 0) = decide (a = b) := decide_eq_decide.2 sub_eq_zero
  unfold cmpCodes aluSub aluOf
  rw [if_neg Bool.false_ne_true, aluW_eq, ofInt_toInt_sub]
  unfold CtxSt.codes
  rw [← hzero]
  rfl

theorem tileLogic : tileLogicPart := by
  intro s t c d a b imm sh x A B p2 is codes sar
  refine ⟨writesPlain_of rfl rfl (aluMulh_toInt A B), writesPlain_of rfl rfl (aluMulhu_toNat A B), fun hb => ⟨?_, ?_, ?_⟩,
    fun hb => ?_,
    writesPlain_of rfl rfl rfl, writesPlain_of rfl rfl rfl, writesPlain_of rfl rfl rfl, writesPlain_of rfl rfl rfl,
    writesPlain_of rfl rfl (aluShr_toNat A _), writesPlain_of rfl rfl (aluSar_toInt A _),
    writesPlain_of rfl rfl (aluMin_toInt A B), writesPlain_of rfl rfl (aluMax_toInt A B),
    writesPlain_of rfl rfl (aluMinu_toNat A B), writesPlain_of rfl rfl (aluMaxu_toNat A B),
    writesPlain_of rfl rfl (aluClz_bounds A), writesPlain_of rfl rfl (aluPopc_toNat A),
    writesPlain_of rfl rfl rfl, writesPlain_of rfl rfl rfl, writesPlain_of rfl rfl rfl, ?_, ?_,
    setsCtx_ctxUpd rfl (cmpCodes_eq A B x), setsCtx_ctxUpd rfl (cmpCodes_eq A imm x)⟩
  · exact writesPlain_of rfl (congrArg (x.wr d · p2) (aluRem_ne_zero A hb)) (BitVec.toInt_srem A B)
  · exact writesPlain_of rfl (congrArg (x.wr d · p2) (aluDivu_ne_zero A hb)) BitVec.toNat_udiv
  · exact writesPlain_of rfl (congrArg (x.wr d · p2) (aluRemu_ne_zero A hb)) BitVec.toNat_umod
  · exact ⟨writesPlain_divZero rfl (congrArg (x.wr d · p2) (if_pos hb)),
      writesPlain_divZero rfl (congrArg (x.wr d · p2) (if_pos hb)), writesPlain_divZero rfl (congrArg (x.wr d · p2) (if_pos hb))⟩
  · exact writesPlain_of rfl rfl (shiftCount_zeroExtend sh ▸ aluShr_toNat A _)
  · exact writesPlain_of rfl rfl (shiftCount_zeroExtend sh ▸ aluSar_toInt A _)

/-- Settles O23: a move writes one register, and each operation's result is its exact value. -/
theorem tileMovesAndLogic : Obligations.TileMovesAndLogic := ⟨tileMoves, tileLogic⟩

end Sys2Proof.Machine
end

section
/-! O25: the completed assay result record (R274, R275). -/

namespace Sys2Proof.Machine
open Sys2Proof

/-! ## Parts of a byte list -/

theorem length_firstBytes (n : Nat) (l : List Byte) : (firstBytes n l).length = n := by
  induction n generalizing l with
  | zero => rfl
  | succ n ih => cases l <;> exact congrArg Nat.succ (ih _)

theorem length_slice (off n : Nat) (l : List Byte) : (slice off n l).length = n := length_firstBytes ..

/-- A part reads back at the length of what stands before it. -/
theorem slice_part {k m r : List Byte} {off n : Nat} (hk : k.length = off) (hm : m.length = n) :
    slice off n (k ++ (m ++ r)) = m := by
  subst hk hm
  unfold slice
  rw [List.drop_left, firstBytes_append]

theorem leField_part {k r : List Byte} {off n v : Nat} (hk : k.length = off) :
    leField (k ++ (leBytes n v ++ r)) off n = v % 2 ^ (8 * n) := by
  unfold leField
  rw [slice_part hk (leBytes_length n v), leNat_leBytes]

/-! ## CRC-16 (R275) -/

theorem crcBit_lt {w poly : Nat} (hpoly : poly < 2 ^ w) (r : Nat) (b : Bool) : crcBit w poly r b < 2 ^ w := by
  have hshift : (r <<< 1) % 2 ^ w < 2 ^ w := Nat.mod_lt _ (Nat.two_pow_pos w)
  unfold crcBit
  dsimp only
  split
  · exact Nat.xor_lt_two_pow hshift hpoly
  · exact hshift

theorem crc16_lt (l : List Byte) : crc16 l < 2 ^ 16 := by
  have hrun (r : Nat) (hr : r < 2 ^ 16) : l.foldl (crcByte 16 0x1021) r < 2 ^ 16 := by
    induction l generalizing r with
    | nil => exact hr
    | cons b l ih => exact ih _ (crcBit_lt (by decide) _ _)
  exact Nat.xor_lt_two_pow (hrun 0xFFFF (by decide)) (by decide)

/-! ## The record (R274) -/

/-- The record's bytes before its CRC. -/
def recordHead (t c slot : Nat) (l : List Byte) : List Byte := slice 0 10 l ++ (leBytes 2 t ++ (leBytes 1 c ++ leBytes 1 slot))

theorem length_recordHead (t c slot : Nat) (l : List Byte) : (recordHead t c slot l).length = 14 := by
  simp only [recordHead, List.length_append, length_slice, leBytes_length]

/-- The CRC that completes the record. -/
def recordCrc (t c slot : Nat) (l : List Byte) : Nat := crc16 (recordHead t c slot l ++ leBytes 2 0 ++ slice 16 48 l)

theorem completeRecord_eq (t c slot : Nat) (l : List Byte) : completeRecord t c slot l =
    recordHead t c slot l ++ (leBytes 2 (recordCrc t c slot l) ++ (slice 16 48 l ++ [])) := by
  unfold completeRecord recordCrc recordHead
  simp only [List.append_assoc, List.append_nil]

section
variable (t c slot : Nat) (l : List Byte)

theorem length_completeRecord : (completeRecord t c slot l).length = 64 := by
  simp only [completeRecord_eq, List.length_append, length_recordHead, leBytes_length, length_slice, List.length_nil]

theorem head_completeRecord : slice 0 14 (completeRecord t c slot l) = recordHead t c slot l := by
  rw [completeRecord_eq]
  exact slice_part (k := []) rfl (length_recordHead ..)

theorem tail_completeRecord : slice 16 48 (completeRecord t c slot l) = slice 16 48 l := by
  rw [completeRecord_eq, ← List.append_assoc]
  refine slice_part ?_ (length_slice ..)
  rw [List.length_append, length_recordHead, leBytes_length]

/-- Its own bytes stay, and the device fills in its origin (R274). -/
theorem origin_completeRecord (ht : t < 2 ^ 16) (hc : c < 2 ^ 8) :
    slice 0 10 (completeRecord t c slot l) = slice 0 10 l ∧ leField (completeRecord t c slot l) 10 2 = t ∧
    leField (completeRecord t c slot l) 12 1 = c ∧ leField (completeRecord t c slot l) 13 1 = slot % 256 := by
  have hown := length_slice 0 10 l
  rw [completeRecord_eq, recordHead]
  simp only [List.append_assoc]
  refine ⟨slice_part (k := []) rfl hown, (leField_part hown).trans (Nat.mod_eq_of_lt ht), ?_, ?_⟩
  · rw [← List.append_assoc]
    exact (leField_part (by rw [List.length_append, hown, leBytes_length])).trans (Nat.mod_eq_of_lt hc)
  · rw [← List.append_assoc, ← List.append_assoc]
    exact leField_part (by rw [List.length_append, List.length_append, hown, leBytes_length, leBytes_length])

theorem recordCrcOk_completeRecord : recordCrcOk (completeRecord t c slot l) = true := by
  unfold recordCrcOk
  rw [head_completeRecord, tail_completeRecord, decide_eq_true_eq, completeRecord_eq]
  exact ((leField_part (length_recordHead ..)).trans (Nat.mod_eq_of_lt (crc16_lt _))).symm

end

end Sys2Proof.Machine
end

section
/-! O25: stage loads, sends and posts (R197, R256, R260, R270, R274). -/

namespace Sys2Proof.Machine
open Sys2Proof

variable {s e : State} {tl : Tile} {c : Ctx}

theorem runsAs_mono {i : Instr} {w : Nat} {P R : State → State → Prop} (h : runsAs s tl c w i P)
    (hPR : ∀ s0 e, P s0 e → R s0 e) : runsAs s tl c w i R := by
  intro hissues
  obtain ⟨e, hexec, hP⟩ := h hissues
  exact ⟨e, hexec, hPR _ _ hP⟩

/-! ## Flits injected (R168, R270) -/

theorem trace_flits (t c w h : Nat) (s : State) : (s.trace t c w h).flits = s.flits := by rw [trace_frame]

theorem ctxUpd_inject (t c route : Nat) (data : BitVec 512) (bad : Bool) (s : State) :
    (s.inject route data bad).ctxUpd t c CtxSt.adv =
      { s.setCtx t c { s.ctx t c with pc := (s.ctx t c).pc + 1 } with
        flits := s.flits ++ [{ route := route, data := data, poison := bad }] } := rfl

theorem runsAs_send {bank : Fin 16} {ar : Fin 4} {route : BitVec 12} {disp : W16} {ecc : EccOut} {ea : Nat}
    (hread : readsAt s tl c bank ar disp.toInt ecc ea) :
    runsAs s tl c (encM 0x80 0 bank ar 0 0 0 route.toNat disp.toNat) (.send tl c bank ar route disp ecc) (fun s0 e =>
      e = { s0.setCtx tl c { s.ctx tl c with pc := (s.ctx tl c).pc + 1 } with flits := s.flits ++
        [{ route := route.toNat, data := BitVec.ofNat 512 (leNat ((s.tile tl).word64B ea)),
           poison := (s.tile tl).badAt (ea / 64 * 64) 64 }] }) := by
  refine runsAs_memOp hread rfl ?_
  refine (ctxUpd_inject ..).trans ?_
  rw [trace_ctx, trace_flits, trace_tile]
  rfl

theorem inject_setTile (t route : Nat) (data : BitVec 512) (bad : Bool) (v : TileSt) (s : State) :
    (s.setTile t v).inject route data bad = (s.inject route data bad).setTile t v := rfl

/-- A flit injected with a change of its tile, and the next pc. -/
theorem onlyTile_inject (t c route : Nat) (data : BitVec 512) (bad : Bool) (s : State) {v : TileSt}
    (hv : v.ctxs = (s.tile t).ctxs) :
    let e := ((s.setTile t v).inject route data bad).ctxUpd t c CtxSt.adv
    e.flits = s.flits ++ [{ route := route, data := data, poison := bad }] ∧
    onlyTile { s with flits := e.flits } e t
      { v with ctxs := mput CtxSt.reset (s.tile t).ctxs c { s.ctx t c with pc := (s.ctx t c).pc + 1 } } := by
  intro e
  have honly : onlyTile (s.inject route data bad) e t
      { v with ctxs := mput CtxSt.reset (s.tile t).ctxs c { s.ctx t c with pc := (s.ctx t c).pc + 1 } } := by
    unfold e
    rw [inject_setTile]
    exact onlyTile_setTile (s.inject route data bad) t c hv
  have hflits : e.flits = s.flits ++ [{ route := route, data := data, poison := bad }] := congrArg State.flits honly.1
  refine ⟨hflits, ?_⟩
  rw [hflits]
  exact honly

theorem runsAs_rpost {bank : Fin 16} {ar : Fin 4} {route : BitVec 12} {disp : W16} {ecc : EccOut} {ea : Nat}
    (hread : readsAt s tl c bank ar disp.toInt ecc ea) :
    let v := s.tile tl
    let l := completeRecord tl c s.slot (v.word64B ea)
    runsAs s tl c (encM 0x81 0 bank ar 0 0 0 route.toNat disp.toNat) (.rpost tl c bank ar route disp ecc) (fun s0 e =>
      e.flits = s.flits ++ [{ route := route.toNat, data := BitVec.ofNat 512 (leNat l), poison := v.badAt (ea / 64 * 64) 64 }] ∧
      onlyTile { s0 with flits := e.flits } e tl { v with
        ctxs := mput CtxSt.reset v.ctxs c { s.ctx tl c with pc := (s.ctx tl c).pc + 1 },
        posted := (c.val, leField l 0 1, leField l 1 1, leField l 8 2) :: v.posted }) := by
  intro v l
  refine runsAs_memOp hread rfl ?_
  generalize hs0 : s.trace tl c (encM 0x81 0 bank ar 0 0 0 route.toNat disp.toNat) 0 = s0
  have htile : s0.tile tl = s.tile tl := hs0 ▸ trace_tile ..
  have hctx : s0.ctx tl c = s.ctx tl c := hs0 ▸ trace_ctx ..
  have hslot : s0.slot = s.slot := hs0 ▸ trace_slot ..
  have hflits : s0.flits = s.flits := hs0 ▸ trace_flits ..
  dsimp only
  rw [htile, hslot]
  have heffect := onlyTile_inject tl c route.toNat (BitVec.ofNat 512 (leNat l)) (v.badAt (ea / 64 * 64) 64) s0
    (v := { v with posted := (c.val, leField l 0 1, leField l 1 1, leField l 8 2) :: v.posted }) (by rw [htile])
  rw [htile, hctx, hflits] at heffect
  exact heffect

/-! ## Stage rows (R260) -/

/-- Bit `k` of a mask with bit `j` set or cleared. -/
theorem getLsbD_setMark {n : Nat} (m : BitVec n) (bad : Bool) {j k : Nat} (hk : k < n) :
    (if bad then m ||| BitVec.ofNat n (2 ^ j) else m &&& ~~~BitVec.ofNat n (2 ^ j)).getLsbD k =
      if k = j then bad else m.getLsbD k := by
  have hmark : (BitVec.ofNat n (2 ^ j)).getLsbD k = decide (k = j) := by
    rw [BitVec.getLsbD_ofNat, Nat.testBit_two_pow, decide_eq_true hk, Bool.true_and]
    exact decide_eq_decide.2 eq_comm
  cases bad
  · rw [if_neg Bool.false_ne_true, BitVec.getLsbD_and, BitVec.getLsbD_not, hmark, decide_eq_true hk]
    by_cases h : k = j <;> simp [h]
  · rw [if_pos rfl, BitVec.getLsbD_or, hmark]
    by_cases h : k = j <;> simp [h]

theorem TileSt.stages_setRow (v : TileSt) (g r : Nat) (w : BitVec 512) (bad : Bool) :
    (v.setRow g r w bad).stages = mput 0 v.stages (8 * g + r) w := rfl

theorem TileSt.stagePoison_setRow (v : TileSt) (g r : Nat) (w : BitVec 512) (bad : Bool) : (v.setRow g r w bad).stagePoison =
    if bad then v.stagePoison ||| BitVec.ofNat 16 (2 ^ (8 * g + r)) else v.stagePoison &&& ~~~BitVec.ofNat 16 (2 ^ (8 * g + r)) :=
  rfl

/-- A row set leaves all of a tile but its stages. -/
theorem TileSt.setRow_rest (v : TileSt) (g r : Nat) (w : BitVec 512) (bad : Bool) : v.setRow g r w bad =
    { v with stages := (v.setRow g r w bad).stages, stagePoison := (v.setRow g r w bad).stagePoison } := rfl

/-- From `v` to `u` the rows from `k0` took the words at the addresses `ea 0` to `ea (n - 1)`, with their poison. -/
structure RowsLoaded (v u : TileSt) (k0 n : Nat) (ea : Nat → Nat) : Prop where
  rest : u = { v with stages := u.stages, stagePoison := u.stagePoison }
  row : ∀ k, mget 0 u.stages k =
    if k0 ≤ k ∧ k < k0 + n then BitVec.ofNat 512 (leNat (v.word64B (ea (k - k0)))) else mget 0 v.stages k
  mark : ∀ k, k < 16 → u.stagePoison.getLsbD k =
    if k0 ≤ k ∧ k < k0 + n then v.badAt (ea (k - k0) / 64 * 64) 64 else v.stagePoison.getLsbD k

/-- A run from `k0` extended by its next place. -/
theorem ite_run_succ {α : Type} (k0 n k : Nat) (f : Nat → α) (x : α) :
    (if k = k0 + n then f n else if k0 ≤ k ∧ k < k0 + n then f (k - k0) else x) =
      if k0 ≤ k ∧ k < k0 + (n + 1) then f (k - k0) else x := by
  by_cases h : k = k0 + n
  · rw [if_pos h, if_pos (by omega)]
    congr 1
    omega
  · rw [if_neg h]
    exact if_congr (by omega) rfl rfl

theorem RowsLoaded.zero (v : TileSt) (k0 : Nat) (ea : Nat → Nat) : RowsLoaded v v k0 0 ea :=
  ⟨rfl, fun _ => (if_neg (by omega)).symm, fun _ _ => (if_neg (by omega)).symm⟩

theorem RowsLoaded.succ {v u : TileSt} {stg row n : Nat} {ea : Nat → Nat} (h : RowsLoaded v u (8 * stg + row) n ea) :
    RowsLoaded v (u.setRow stg (row + n) (u.vec (ea n)).1 (u.vec (ea n)).2) (8 * stg + row) (n + 1) ea := by
  have hvec : u.vec (ea n) = v.vec (ea n) := by
    rw [h.rest]
    rfl
  have hplace : 8 * stg + (row + n) = 8 * stg + row + n := (Nat.add_assoc ..).symm
  rw [hvec]
  refine ⟨?_, fun k => ?_, fun k hk => ?_⟩
  · rw [TileSt.setRow_rest, h.rest]
  · rw [TileSt.stages_setRow, mget_mput, h.row, hplace]
    exact ite_run_succ (8 * stg + row) n k (fun i => BitVec.ofNat 512 (leNat (v.word64B (ea i)))) _
  · rw [TileSt.stagePoison_setRow, getLsbD_setMark _ _ hk, h.mark k hk, hplace]
    exact ite_run_succ (8 * stg + row) n k (fun i => v.badAt (ea i / 64 * 64) 64) _

/-- Row `row + i` of stage `stg` of tile `t` loaded from the address `ea i`. -/
def State.loadRow (t stg row : Nat) (ea : Nat → Nat) (i : Nat) (s : State) : State :=
  s.setTile t ((s.tile t).setRow stg (row + i) ((s.tile t).vec (ea i)).1 ((s.tile t).vec (ea i)).2)

theorem onlyTile_refl (s : State) (t : Nat) : onlyTile s s t (s.tile t) := ⟨rfl, rfl, fun _ _ => rfl⟩

/-- A further change of the same tile. -/
theorem onlyTile_setTile_again {t : Nat} {v : TileSt} (h : onlyTile s e t v) (v' : TileSt) :
    onlyTile s (e.setTile t v') t v' := by
  obtain ⟨hrest, -, hothers⟩ := h
  refine ⟨?_, (State.tile_setTile ..).trans (if_pos rfl), fun u hu => ?_⟩
  · exact congrArg (State.setTile t v') hrest
  · rw [State.tile_setTile, if_neg hu, hothers u hu]

theorem onlyTile_ctxUpd {t : Nat} {v : TileSt} (h : onlyTile s e t v) (hv : v.ctxs = (s.tile t).ctxs) (c : Nat)
    (f : CtxSt → CtxSt) :
    onlyTile s (e.ctxUpd t c f) t { v with ctxs := mput CtxSt.reset (s.tile t).ctxs c (f (s.ctx t c)) } := by
  have htile := h.2.1
  have hctx : e.ctx t c = s.ctx t c := by
    unfold State.ctx
    rw [htile, hv]
  have hset : e.ctxUpd t c f = e.setTile t { v with ctxs := mput CtxSt.reset (s.tile t).ctxs c (f (s.ctx t c)) } := by
    unfold State.ctxUpd State.setCtx
    rw [hctx, htile, hv]
  exact hset ▸ onlyTile_setTile_again h _

/-- Loading rows one after the other. -/
theorem rowsLoaded_loadRow (s : State) (t stg row : Nat) (ea : Nat → Nat) : ∀ n, ∃ u,
    onlyTile s (forAll (List.range n) (State.loadRow t stg row ea) s) t u ∧ RowsLoaded (s.tile t) u (8 * stg + row) n ea
  | 0 => ⟨_, onlyTile_refl s t, .zero ..⟩
  | n + 1 => by
    obtain ⟨u, honly, hrows⟩ := rowsLoaded_loadRow s t stg row ea n
    refine ⟨_, ?_, hrows.succ⟩
    unfold forAll
    rw [List.range_succ, List.foldl_append]
    have hu := honly.2.1
    subst hu
    exact onlyTile_setTile_again honly _

/-! ## Stage loads (R256, R260) -/

/-- The addresses of consecutive banks, each in its window. -/
theorem stldAddrs_eq {p : PCtx} {x : CtxSt} {bank ar n : Nat} {disp : Int} {ea : Nat → Nat}
    (h : ∀ i < n, effAddr p x (bank + i) ar disp = some (ea i)) :
    stldAddrs p x bank ar disp n = some ((List.range n).map ea) := by
  induction n with
  | zero => rfl
  | succ n ih =>
    rw [stldAddrs, ih fun i hi => h i (by omega), h n (by omega)]
    dsimp only
    rw [List.range_succ, List.map_append, List.map_cons, List.map_nil]

theorem lget_eq_getElem {α : Type} (d : α) (l : List α) {i : Nat} (h : i < l.length) : lget d l i = l[i] := by
  induction l generalizing i with
  | nil => exact absurd h (Nat.not_lt_zero i)
  | cons a l ih =>
    cases i with
    | zero => rfl
    | succ i => exact ih (Nat.lt_of_succ_lt_succ h)

theorem lget_map_range {α : Type} (d : α) (f : Nat → α) {n i : Nat} (h : i < n) : lget d ((List.range n).map f) i = f i := by
  rw [lget_eq_getElem _ _ (by rwa [List.length_map, List.length_range]), List.getElem_map, List.getElem_range]

/-- The outcomes of the words read at the addresses `as`, of which `hit` names the one with the outcome given. -/
def stldOutcomes (v : TileSt) (hit : Nat) (ecc : EccOut) (as : List Nat) : List EccOut :=
  (List.range as.length).map (fun i => v.eccAt (lget 0 as i) (if i = hit then ecc else .ok))

/-- What an STLD of the words at the addresses `as` does. -/
def State.stageLoad (t c stg row hit : Nat) (ecc : EccOut) (as : List Nat) (s : State) : State :=
  let es := stldOutcomes (s.tile t) hit ecc as
  let s := forAll (List.range as.length) (fun i s => s.eccMark t (lget 0 as i) (lget .ok es i)) s
  let s := forAll (List.range as.length) (State.loadRow t stg row (lget 0 as)) s
  forAll es (fun e s => s.eccDone t e) (s.ctxUpd t c CtxSt.adv)

section
variable {t stg row hit n : Nat} {ea : Nat → Nat}

/-- Words without a planted error, read without an error of their own. -/
theorem stldOutcomes_clean {v : TileSt} (hplant : ∀ i < n, mget 0 v.plant (ea i / 8) = 0) :
    stldOutcomes v hit .ok ((List.range n).map ea) = (List.range n).map (fun _ => .ok) := by
  unfold stldOutcomes
  rw [List.length_map, List.length_range]
  refine List.map_congr_left fun i hi => ?_
  have hlt := List.mem_range.1 hi
  rw [ite_self, lget_map_range 0 ea hlt, eccAt_ok (hplant i hlt)]

theorem stageLoad_clean (c : Nat) (hplant : ∀ i < n, mget 0 (s.tile t).plant (ea i / 8) = 0) :
    s.stageLoad t c stg row hit .ok ((List.range n).map ea) =
      (forAll (List.range n) (State.loadRow t stg row ea) s).ctxUpd t c CtxSt.adv := by
  unfold State.stageLoad
  dsimp only
  rw [stldOutcomes_clean hplant, List.length_map, List.length_range]
  have hmark : forAll (List.range n) (fun i s => s.eccMark t (lget 0 ((List.range n).map ea) i)
      (lget .ok ((List.range n).map fun _ => EccOut.ok) i)) s = s :=
    forAll_fixed_mem fun i hi => by
      have hlt := List.mem_range.1 hi
      rw [lget_map_range _ _ hlt, lget_map_range _ _ hlt, eccMark_ok]
  have hload : forAll (List.range n) (State.loadRow t stg row (lget 0 ((List.range n).map ea))) s =
      forAll (List.range n) (State.loadRow t stg row ea) s :=
    List.foldl_ext _ _ _ fun e i hi => by unfold State.loadRow; rw [lget_map_range _ _ (List.mem_range.1 hi)]
  rw [hmark, hload]
  refine forAll_fixed_mem fun o ho => ?_
  obtain ⟨-, -, rfl⟩ := List.mem_map.1 ho
  exact eccDone_ok ..

end

theorem runsAs_stld {stg : Fin 2} {row : Fin 8} {cnt hit : Fin 4} {bank : Fin 16} {ar : Fin 4} {disp : W16} {ecc : EccOut}
    {ea : Nat → Nat} (hread : ∀ i, i ≤ cnt.val → readsAt s tl c (bank + i) ar disp.toInt ecc (ea i)) :
    runsAs s tl c (encM 0x58 0 bank ar stg row cnt 0 disp.toNat) (.stld tl c stg row cnt bank ar disp hit ecc) (fun s0 e =>
      ∃ u, RowsLoaded (s.tile tl) u (8 * stg + row) (cnt + 1) ea ∧
        onlyTile s0 e tl
          { u with ctxs := mput CtxSt.reset (s.tile tl).ctxs c { s.ctx tl c with pc := (s.ctx tl c).pc + 1 } }) := by
  refine runsAs_issue (eff := fun p s => match stldAddrs p (s.ctx tl c) bank ar disp.toInt (cnt + 1) with
    | none => s.bounds tl c
    | some as => s.stageLoad tl c stg row hit ecc as) rfl fun p hp => ?_
  have haddr : ∀ i < cnt.val + 1, effAddr (ptileCtx p c) (s.ctx tl c) (bank + i) ar disp.toInt = some (ea i) := by
    intro i hi
    obtain ⟨-, -, q, hcfg, haddr⟩ := hread i (by omega)
    obtain rfl : p = q := Option.some.inj (hp.symm.trans hcfg)
    exact haddr
  obtain rfl : ecc = .ok := (hread 0 (Nat.zero_le _)).1
  dsimp only
  rw [trace_ctx, stldAddrs_eq haddr]
  dsimp only
  generalize hs0 : s.trace tl c (encM 0x58 0 bank ar stg row cnt 0 disp.toNat) 0 = s0
  have htile : s0.tile tl = s.tile tl := hs0 ▸ trace_tile ..
  rw [stageLoad_clean c fun i hi => htile ▸ (hread i (by omega)).2.1]
  obtain ⟨u, honly, hrows⟩ := rowsLoaded_loadRow s0 tl stg row ea (cnt + 1)
  rw [htile] at hrows
  have hctxs : u.ctxs = (s.tile tl).ctxs := by rw [hrows.rest]
  have hctx : s0.ctx tl c = s.ctx tl c := hs0 ▸ trace_ctx ..
  have hall := onlyTile_ctxUpd honly (hctxs.trans (congrArg TileSt.ctxs htile.symm)) c CtxSt.adv
  rw [htile, hctx] at hall
  exact ⟨u, hrows, hall⟩

/-- Settles O25: rows loaded one by one, and one flit injected whose record, if posted, the device completed. -/
theorem stagesAndSends : Obligations.StagesAndSends := by
  intro s t c bank ar disp ecc x v next
  refine ⟨fun stg row cnt hit ea hread => runsAs_mono (runsAs_stld hread) ?_, fun route ea hread => ⟨runsAs_send hread,
    runsAs_mono (runsAs_rpost hread) ?_⟩⟩
  · rintro s0 e ⟨u, hrows, honly⟩
    refine ⟨_, honly, ?_, fun k => ?_, fun k hk => ?_⟩
    · rw [hrows.rest]
    · exact (hrows.row k).trans (if_congr (by omega) rfl rfl)
    · exact (hrows.mark k hk).trans (if_congr (by omega) rfl rfl)
  · rintro s0 e ⟨hflits, honly⟩
    obtain ⟨hown, htile, hctx, hslot⟩ := origin_completeRecord t c s.slot (v.word64B ea) (by omega) (by omega)
    exact ⟨_, length_completeRecord .., hown, htile, hctx, hslot, tail_completeRecord .., recordCrcOk_completeRecord ..,
      hflits, honly⟩

end Sys2Proof.Machine
end

section
/-! O31, O32: what a raise leaves of the plan, its loader and the device's state (R306, R316, R505). -/

namespace Sys2Proof.Machine
open Sys2Proof

variable {s t e : State} {n : Nat}

/-! ## A raise that gives up no switch -/

/-- No raise gives up a switch: none is in its blackout, or no source leads to SAFE_HOLD (R37, R319). -/
def State.unbroken (s : State) : Prop := s.ldr.phase ≠ .blackout ∨ ∀ n, (s.srcCfg n).has 6 = false

/-- Whether a raise can give up a switch lies in the loader and the safety configuration. -/
theorem State.unbroken.after (hu : s.unbroken) (h : Steady s e) (hr : Reacts s e) : e.unbroken := by
  unfold State.unbroken at hu ⊢
  rw [h.ldr]
  exact hu.imp id fun hsix n => hr.srcCfg n ▸ hsix n

/-- The reactions of a source other than the tamper sensors: a block reset alone touches the array. -/
theorem react_blockReset (hn : n < 231) (hu : s.unbroken) :
    ∃ u, Steady s u ∧ (Steady u (s.react n) ∨ Steady (u.blockReset n) (s.react n)) := by
  unfold State.react
  extract_lets cfg s1 tam pol x s2 rv s3 s4 s5 s6 s7 s8
  have htam : tam = false := by
    unfold tam
    simp only [Bool.and_eq_false_iff, decide_eq_false_iff_not]
    omega
  have hx : x = cfg.react := if_neg (by rw [htam]; decide)
  have h1 : Steady s s1 := steady_rinc64 ..
  have h2 : Steady s s2 := h1.trans (.ite ((steady_revt ..).trans (steady_msix ..)) (.refl _))
  have h3 : Steady s s3 := h2.trans (.ite (.of rfl rfl) (.refl _))
  have h4 : Steady s s4 := h3.trans (.ite (steady_errPRaise _) (.refl _))
  have h5 : Steady s s5 := h4.trans (.ite ((steady_dropMask ..).trans (steady_trip ..)) (.refl _))
  have h6 : Steady s s6 := by
    rcases hu with hp | hsix
    · exact h5.trans (.ite ((steady_enterSafeHold (h5.noBlackout hp) _).trans (steady_trip ..)) (.refl _))
    · have hno : x.testBit 6 = false := hx ▸ hsix n
      exact (show s6 = s5 from if_neg (by rw [hno]; decide)) ▸ h5
  have h7 : s7 = s6 := if_neg (by rw [htam, Bool.false_and]; decide)
  have h9 : Steady s8 (if x.testBit 4 && decide (s8.dev.holdAt ≠ some s8.ao) && s8.dev.state != .alarm then
      { s8 with dev.chipReq := some (some n) } else s8) := .ite ⟨rfl, id⟩ (.refl _)
  refine ⟨s7, h7 ▸ h6, ?_⟩
  by_cases hb : x.testBit 3
  · exact .inr ((show s8 = s7.blockReset n from if_pos hb) ▸ h9)
  · exact .inl ((show s8 = s7 from if_neg hb) ▸ h9)

theorem raiseWith_blockReset (hn : n < 231) (hu : s.unbroken) (l : Bool) (c : Cap) :
    ∃ u, Steady s u ∧ (Steady u (s.raiseWith n l c) ∨ Steady (u.blockReset n) (s.raiseWith n l c)) := by
  unfold State.raiseWith
  split
  · exact ⟨s, .refl s, .inl (.refl s)⟩
  · extract_lets o us v s1
    have h1 : Steady s s1 := steady_capture ..
    split
    · have hset := h1.trans (steady_setSrc n { v with st := .active, depAo := s1.ao } s1)
      obtain ⟨u, hsu, hreact⟩ := react_blockReset hn (hu.after hset ((reacts_capture ..).trans (reacts_setSrc ..)))
      exact ⟨u, hset.trans hsu, hreact.imp (.trans · (steady_evalChans _)) (.trans · (steady_evalChans _))⟩
    all_goals exact ⟨_, h1.trans (steady_setSrc ..), .inl (.refl _)⟩

/-- A raise below the loader's sources leaves the array alone. -/
theorem steady_raiseWith (hn : n < 225) (hu : s.unbroken) (l : Bool) (c : Cap) : Steady s (s.raiseWith n l c) := by
  obtain ⟨u, hsu, h | h⟩ := raiseWith_blockReset (show n < 231 by omega) hu l c
  · exact hsu.trans h
  · exact hsu.trans ((steady_blockReset (by omega) u).trans h)

/-- PLAN_REFUSED leaves the plan that runs and the code of the refusal as they are (R306). -/
theorem refused_raise (hp : s.ldr.phase ≠ .blackout) :
    (s.raise 225).run = s.run ∧ (s.raise 225).ldr.refuse = s.ldr.refuse := by
  have hreset (u : State) : (u.blockReset 225).run = u.run ∧ (u.blockReset 225).ldr.refuse = u.ldr.refuse := by
    change (if u.ldr.phase == .armed || u.ldr.phase == .blackout then u else { u with ldr.phase := .idle }).run = u.run ∧
      (if u.ldr.phase == .armed || u.ldr.phase == .blackout then u else { u with ldr.phase := .idle }).ldr.refuse = u.ldr.refuse
    split <;> exact ⟨rfl, rfl⟩
  obtain ⟨u, hsu, h | h⟩ := raiseWith_blockReset (n := 225) (by decide) (.inl hp) false Cap.none
  · exact ⟨h.run.trans hsu.run, by rw [State.raise, h.ldr, hsu.ldr]⟩
  · exact ⟨h.run.trans ((hreset u).1.trans hsu.run), by rw [State.raise, h.ldr, (hreset u).2, hsu.ldr]⟩

/-! ## The device's state through a raise -/

/-- From `s` to `e` the device stays in its state or is held in SAFE_HOLD, and no blackout begins. -/
structure StaysOrHeld (s e : State) : Prop where
  state : e.dev.state = s.dev.state ∨ e.dev.state = .safeHold
  blackout : s.dev.blackout = false → e.dev.blackout = false

theorem StaysOrHeld.of_posture (h : e.posture = s.posture) : StaysOrHeld s e :=
  ⟨.inl (congrArg (·.1) h), fun hb => (congrArg (·.2.2.1) h).trans hb⟩

theorem StaysOrHeld.trans (h : StaysOrHeld s t) (h' : StaysOrHeld t e) : StaysOrHeld s e :=
  ⟨h'.state.elim (fun hs => h.state.imp hs.trans hs.trans) .inr, h'.blackout ∘ h.blackout⟩

theorem StaysOrHeld.notCold (h : StaysOrHeld s e) (hc : s.dev.state ≠ .cold) : e.dev.state ≠ .cold := by
  rcases h.state with hs | hs <;> rw [hs]
  · exact hc
  · decide

theorem staysOrHeld_enterSafeHold (c : Option Nat) (s : State) : StaysOrHeld s (s.enterSafeHold c) := by
  unfold State.enterSafeHold
  split
  · dsimp only
    constructor <;> rw [dev_evalChans, dev_endPriv, dev_holdAll, dev_devTo]
    · exact .inr rfl
    · exact fun _ => rfl
  · exact .of_posture rfl

theorem staysOrHeld_raiseWith (hn : ¬ (231 ≤ n ∧ n ≤ 234)) (l : Bool) (c : Cap) (s : State) :
    StaysOrHeld s (s.raiseWith n l c) := by
  unfold State.raiseWith
  split
  · exact .of_posture rfl
  · extract_lets o us v s1
    have h1 : s1.posture = s.posture := posture_capture ..
    split
    · obtain ⟨u, hu, hreact⟩ := posture_react hn (s1.setSrc n { v with st := .active, depAo := s1.ao })
      have hsu : StaysOrHeld s u := .of_posture (hu.trans h1)
      refine .trans ?_ (.of_posture ((posture_evalChans _).trans hreact))
      split
      · exact hsu.trans (staysOrHeld_enterSafeHold ..)
      · exact hsu
    all_goals exact .of_posture h1

end Sys2Proof.Machine
end

section
/-! O31: plan loads, ply by ply (R299, R304 to R306, R308). -/

namespace Sys2Proof.Machine
open Sys2Proof

variable {s t e : State} {i : PlanImage} {n code sec : Nat} {src build back : Bool}

/-! ## The plies of a load (R305) -/

theorem loadPly_header_lost (hph : s.ldr.phase = .header) (himg : s.ldr.img = some i) :
    s.loadPly n false build back = s.refuseLoad 0x12 0x7FF := by
  simp [State.loadPly, hph, himg]

theorem loadPly_header_refused (hph : s.ldr.phase = .header) (himg : s.ldr.img = some i)
    (h : s.planHead s.ldr.cap i = some (code, sec)) : s.loadPly n true build back = s.refuseLoad code sec := by
  simp [State.loadPly, hph, himg, h]

theorem loadPly_header (hph : s.ldr.phase = .header) (himg : s.ldr.img = some i) (h : s.planHead s.ldr.cap i = none) :
    s.loadPly n true build back = { s with ldr.phase := .auth, ldr.bytes := sigEnd i } := by
  simp [State.loadPly, hph, himg, h]

theorem loadPly_auth_refused (hph : s.ldr.phase = .auth) (himg : s.ldr.img = some i) (h : s.planAuth i = some (code, sec)) :
    s.loadPly n src build back = s.refuseLoad code sec := by
  simp [State.loadPly, hph, himg, h]

theorem loadPly_auth (hph : s.ldr.phase = .auth) (himg : s.ldr.img = some i) (h : s.planAuth i = none) :
    s.loadPly n src build back = { s with ldr.phase := .scan } := by
  simp [State.loadPly, hph, himg, h]

/-- `b` bytes of the source scanned. -/
def State.scannedTo (i : PlanImage) (b : Nat) (s : State) : State := { s with ldr.bytes := b, ldr.nsec := secsDone i b }

theorem loadPly_scan_on (hph : s.ldr.phase = .scan) (himg : s.ldr.img = some i) (hb : s.ldr.bytes + n < i.imglen) :
    s.loadPly n true build back = s.scannedTo i (s.ldr.bytes + n) := by
  have hmin : min i.imglen (s.ldr.bytes + n) = s.ldr.bytes + n := by omega
  simp [State.loadPly, State.scannedTo, hph, himg, hmin, hb]

theorem loadPly_scan_end (hph : s.ldr.phase = .scan) (himg : s.ldr.img = some i) (hb : i.imglen ≤ s.ldr.bytes + n) :
    s.loadPly n true build back = (s.scannedTo i i.imglen).scanned i := by
  have hmin : min i.imglen (s.ldr.bytes + n) = i.imglen := by omega
  simp [State.loadPly, State.scannedTo, hph, himg, hmin]

theorem loadPly_place_refused (hph : s.ldr.phase = .place) (himg : s.ldr.img = some i) (h : s.placement i = .refused code) :
    s.loadPly n src build back = s.refuseLoad code 0x7FF := by
  simp [State.loadPly, hph, himg, h]

theorem loadPly_place {pl : List Nat} {rs : List PRoute} (hph : s.ldr.phase = .place) (himg : s.ldr.img = some i)
    (h : s.placement i = .ok pl rs) : s.loadPly n src build back =
      if build then { s with ldr.phase := .verify, ldr.place := pl } else s.refuseLoad 0x10 0x7FF := by
  simp [State.loadPly, hph, himg, h]

theorem loadPly_verify (hph : s.ldr.phase = .verify) : s.loadPly n src build back =
    if back then { s with ldr.phase := .armed, ldr.armedAt := s.ao } else s.refuseLoad 0x10 0x7FF := by
  simp [State.loadPly, hph]

/-! ## Refusals (R299, R306, R309) -/

/-- A load was refused with its code: the loader is idle, PLAN_REFUSED was raised, the plan that runs goes on. -/
def LoadRefused (s : State) (code : Nat) (e : State) : Prop :=
  e.ldr.phase = .idle ∧ e.ldr.refuse = code ∧ e.ldr.img = none ∧ e.run = s.run ∧ RaisedIn 225 s e

/-- The end of a load's command changes its tag alone. -/
theorem loadTag_eq (status detail : Nat) (s : State) : s.loadTag status detail = { s with q := (s.loadTag status detail).q } := by
  have hfin (t : Nat) (u : State) : u.finishTag t status detail = { u with q := (u.finishTag t status detail).q } := by
    unfold State.finishTag
    split <;> rfl
  have hinfo (t v : Nat) : s.tagInfo t v = { s with q := (s.tagInfo t v).q } := by
    unfold State.tagInfo
    split <;> rfl
  unfold State.loadTag
  split
  · dsimp only
    rw [hfin]
    split
    · rfl
    · rw [hinfo]
    · rfl
  · rfl

theorem planRefused_listed : (romCfg 225).reserved = false := by decide +kernel

theorem planRefuse_refused (hp : s.ldr.phase ≠ .blackout) (hc : s.dev.state ≠ .cold) :
    LoadRefused s code (s.planRefuse code sec) := by
  unfold State.planRefuse
  rw [loadTag_eq]
  extract_lets st s1 s2 s3
  have h3 : s3.dev = s.dev ∧ s3.flt = s.flt ∧ s3.run = s.run ∧ s3.ldr.refuse = code ∧ s3.ldr.phase = s.ldr.phase := by
    unfold s3
    split <;> exact ⟨rfl, rfl, rfl, rfl, rfl⟩
  obtain ⟨hdev, hflt, hrun, hcode, hphase⟩ := h3
  obtain ⟨hrun', hcode'⟩ := refused_raise (s := s3.revt 0xB0008 1) (hphase ▸ hp)
  have hraised : RaisedIn 225 (s3.revt 0xB0008 1) ((s3.revt 0xB0008 1).raise 225) :=
    raisedIn_raise planRefused_listed (by change s3.dev.state ≠ _; rwa [hdev])
  refine ⟨rfl, hcode'.trans hcode, rfl, hrun'.trans hrun, ?_⟩
  exact (hraised.of_src (congrArg (fun f : Faults => mget SrcState.reset f.src 225) hflt)).then_src rfl

/-- A switch load refused is refused with no roll-back of a bank (R309). -/
theorem refuseLoad_refused (hp : s.ldr.phase ≠ .blackout) (hc : s.dev.state ≠ .cold) (hfirst : s.ldr.first = false) :
    LoadRefused s code (s.refuseLoad code sec) := by
  unfold State.refuseLoad
  rw [hfirst]
  exact planRefuse_refused hp hc

end Sys2Proof.Machine
end

section
/-! O31, O32: what the start of a plan leaves and sets (R63, R70, R71, R122, R297, R307, R314). -/

namespace Sys2Proof.Machine
open Sys2Proof

variable {s t e : State} {i : PlanImage} {n : Nat}

/-! ## What a plan start is told from -/

/-- Time, the session key, the plan and its loader, the frames, the degrading conditions and the safety configuration. -/
def State.course (s : State) :=
  (s.ao, s.kv, s.run, s.ldr, s.vd.frames, s.dev.degr, s.sio.body, s.flt.defaults)

/-- From `s` to `e` the course is the same, and where no source leads to SAFE_HOLD so is the device's state. -/
structure OnCourse (s e : State) : Prop where
  course : e.course = s.course
  state : (∀ n, (s.srcCfg n).has 6 = false) → e.dev.state = s.dev.state

/-- A source's entry lies in the safety configuration (R503). -/
theorem srcCfg_congr (hb : e.sio.body = s.sio.body) (hd : e.flt.defaults = s.flt.defaults) (n : Nat) :
    e.srcCfg n = s.srcCfg n := by
  unfold State.srcCfg
  rw [hb, hd]

theorem srcCfg_of_course (h : e.course = s.course) (n : Nat) : e.srcCfg n = s.srcCfg n :=
  srcCfg_congr (congrArg (·.2.2.2.2.2.2.1) h) (congrArg (·.2.2.2.2.2.2.2) h) n

theorem OnCourse.refl (s : State) : OnCourse s s := ⟨rfl, fun _ => rfl⟩
theorem OnCourse.of (h : e.course = s.course) (hd : e.dev.state = s.dev.state) : OnCourse s e := ⟨h, fun _ => hd⟩
theorem OnCourse.trans (h : OnCourse s t) (h' : OnCourse t e) : OnCourse s e :=
  ⟨h'.course.trans h.course, fun hsix => (h'.state fun n => srcCfg_of_course h.course n ▸ hsix n).trans (h.state hsix)⟩
theorem OnCourse.ite {c : Prop} [Decidable c] {x y : State} (hx : OnCourse s x) (hy : OnCourse s y) :
    OnCourse s (if c then x else y) := by
  split <;> assumption
theorem OnCourse.forAll {α : Type} {l : List α} {f : α → State → State} (hf : ∀ a t, OnCourse s t → OnCourse t (f a t)) :
    OnCourse s (forAll l f s) :=
  forAll_keeps (OnCourse s) f (fun a t ht => ht.trans (hf a t ht)) l s (.refl s)

theorem OnCourse.ao (h : OnCourse s e) : e.ao = s.ao := congrArg (·.1) h.course
theorem OnCourse.kv (h : OnCourse s e) : e.kv = s.kv := congrArg (·.2.1) h.course
theorem OnCourse.run (h : OnCourse s e) : e.run = s.run := congrArg (·.2.2.1) h.course
theorem OnCourse.ldr (h : OnCourse s e) : e.ldr = s.ldr := congrArg (·.2.2.2.1) h.course
theorem OnCourse.frames (h : OnCourse s e) : e.vd.frames = s.vd.frames := congrArg (·.2.2.2.2.1) h.course
theorem OnCourse.degr (h : OnCourse s e) : e.dev.degr = s.dev.degr := congrArg (·.2.2.2.2.2.1) h.course
theorem OnCourse.body (h : OnCourse s e) : e.sio.body = s.sio.body := congrArg (·.2.2.2.2.2.2.1) h.course
theorem OnCourse.defaults (h : OnCourse s e) : e.flt.defaults = s.flt.defaults := congrArg (·.2.2.2.2.2.2.2) h.course
theorem OnCourse.unbroken (h : OnCourse s e) (hu : s.unbroken) : e.unbroken := by
  unfold State.unbroken
  rw [h.ldr]
  exact hu.imp id fun hsix n => srcCfg_of_course h.course n ▸ hsix n

/-- What reactions that leave the array alone leave of the course. -/
theorem OnCourse.of_steady (h : Steady s e) (hr : Reacts s e)
    (hstate : (∀ n, (s.srcCfg n).has 6 = false) → e.dev.state = s.dev.state) : OnCourse s e := by
  refine ⟨?_, hstate⟩
  unfold State.course
  rw [h.ao, h.run, h.ldr, h.vd, hr.body, show e.kv = s.kv from congrArg (·.kv) hr,
    show e.dev.degr = s.dev.degr from congrArg (·.dev.degr) hr,
    show e.flt.defaults = s.flt.defaults from congrArg (·.flt.defaults) hr]

/-! ## The operations of a plan start -/

theorem onCourse_evalChans (s : State) : OnCourse s s.evalChans :=
  .of_steady (steady_evalChans s) (reacts_evalChans s) fun _ => by rw [dev_evalChans]

theorem onCourse_fnEvtAll (b : Nat) (s : State) : OnCourse s (s.fnEvtAll b) :=
  .of_steady (steady_fnEvtAll b s) (reacts_fnEvtAll b s) fun _ =>
    congrArg (·.state) (forAll_const State.dev _ (fun f u => dev_fnEvt f b u) _ s)

theorem onCourse_planEvt (s : State) : OnCourse s s.planEvt := onCourse_fnEvtAll 3 s

theorem onCourse_raiseU (hn : n < 225) (hu : s.unbroken) (u : Nat) : OnCourse s (s.raiseU n u) :=
  .of_steady (steady_raiseWith hn hu _ _) (reacts_raiseU ..) fun hsix =>
    congrArg (·.1) (posture_raiseWith (by omega) (hsix n) _ _)

theorem onCourse_rset (a : Nat) (v : W32) (s : State) : OnCourse s (s.rset a v) := .of rfl rfl
theorem onCourse_revt (a b : Nat) (s : State) : OnCourse s (s.revt a b) := onCourse_rset ..
theorem onCourse_setGs (n : Nat) (g : GateS) (s : State) : OnCourse s (s.setGs n g) := .of rfl rfl
theorem onCourse_setStream (n : Nat) (v : StreamV) (s : State) : OnCourse s (s.setStream n v) := .of rfl rfl
theorem onCourse_kaBegin (p : PStream) (k a : Nat) (s : State) : OnCourse s (s.kaBegin p k a) := onCourse_setGs ..
theorem onCourse_setTile (tl : Nat) (v : TileSt) (s : State) : OnCourse s (s.setTile tl v) := .of rfl rfl

theorem onCourse_domsOn (l : List Nat) (s : State) : OnCourse s (s.domsOn l) := .forAll fun _ _ _ => .of rfl rfl

theorem onCourse_placeTile (i : PlanImage) (l tl : Nat) (s : State) : OnCourse s (s.placeTile i l tl) := by
  unfold State.placeTile
  split
  · exact .refl s
  · exact (onCourse_setTile ..).trans ((onCourse_domsOn ..).trans (onCourse_rset ..))

theorem onCourse_streamStart (keep : Bool) (i : PlanImage) (p : PStream) (s : State) : OnCourse s (s.streamStart keep i p) := by
  unfold State.streamStart
  extract_lets v old w stale s1 g g' s2 s3
  have h1 : OnCourse s s1 := onCourse_setStream ..
  have h2 : OnCourse s s2 := h1.trans (onCourse_setGs ..)
  have h3 : OnCourse s s3 := h2.trans (onCourse_kaBegin ..)
  exact h3.trans (.of rfl rfl)

theorem onCourse_reserve (hu : s.unbroken) (n : Nat) : OnCourse s (s.reserve n) := by
  unfold State.reserve
  split
  · exact .refl s
  · dsimp only
    split
    · exact .refl s
    · split
      · exact .of rfl rfl
      · have hset (g : GateS) : OnCourse s (((s.setGs n g).rincSat 0x90010 31 0 1).revt 0x90008 2) :=
          (onCourse_setGs ..).trans ((onCourse_rset ..).trans (onCourse_rset ..))
        exact (hset _).trans (onCourse_raiseU (by decide) ((hset _).unbroken hu) _)

theorem onCourse_ownDom (d : Nat) (want : Bool) (s : State) : OnCourse s (s.ownDom d want) := by
  unfold State.ownDom State.wakeDom
  refine .ite ?_ (.ite (.refl s) (.of rfl rfl))
  dsimp only
  split
  · exact .of rfl rfl
  · exact .of rfl rfl
  · exact .ite (.of rfl rfl) (.of rfl rfl)

theorem onCourse_ownDoms (s : State) : OnCourse s s.ownDoms :=
  (onCourse_ownDom ..).trans (.forAll fun _ _ _ => onCourse_ownDom ..)

/-! ## A plan started (R297, R307) -/

/-- The plan runs from the present AO cycle, in slot 0, with its slot not yet struck (R297). -/
def Running.startedAt (r : Running) (i : PlanImage) (place : List Nat) (ao : Nat) : Prop :=
  r.place = place ∧ r.anchor = ao ∧ r.slot = 0 ∧ r.struck = false ∧ r.img.planId = i.planId ∧
    r.img.streams = i.streams ∧ r.img.slots = i.slots

/-- From `s` to `e` a plan came to run: the loader is idle, the old plan's frames are gone. -/
structure PlanRuns (s e : State) (i : PlanImage) (place : List Nat) : Prop where
  ao : e.ao = s.ao
  kv : e.kv = s.kv
  running : ∃ r, e.run = some r ∧ r.startedAt i place s.ao
  idle : e.ldr.phase = .idle
  frames : e.vd.frames = []

theorem PlanRuns.after {place : List Nat} (h : PlanRuns s t i place) (hc : e.course = t.course) : PlanRuns s e i place := by
  simp only [State.course, Prod.mk.injEq] at hc
  obtain ⟨hao, hkv, hrun, hldr, hframes, -⟩ := hc
  exact ⟨hao.trans h.ao, hkv.trans h.kv, hrun ▸ h.running, hldr ▸ h.idle, hframes.trans h.frames⟩

/-- From `s` to `e` a plan started: no degrading condition stands that only the old plan had, and where no source leads to
SAFE_HOLD the device is in its state. -/
structure PlanStarted (s e : State) (i : PlanImage) (place : List Nat) : Prop extends PlanRuns s e i place where
  degr : e.dev.degr = { s.dev.degr with banks := 0, tileNoSpare := false }
  config : ∀ n, e.srcCfg n = s.srcCfg n
  state : (∀ n, (s.srcCfg n).has 6 = false) → e.dev.state = s.dev.state

theorem PlanStarted.after {place : List Nat} (h : PlanStarted s t i place) (h' : OnCourse t e) : PlanStarted s e i place :=
  ⟨h.toPlanRuns.after h'.course, h'.degr.trans h.degr, fun n => (srcCfg_of_course h'.course n).trans (h.config n),
    fun hsix => (h'.state fun n => h.config n ▸ hsix n).trans (h.state hsix)⟩

theorem planStarted_startPlan (hu : s.unbroken) (i : PlanImage) (place : List Nat) (routes : List PRoute)
    (old : Option PlanImage) : PlanStarted s (s.startPlan i place routes old) i place := by
  unfold State.startPlan
  extract_lets bad s1 s2 _ s3 s4 force _ _ _ s5 s6 s7 s8 _ s9 s10 _ _ _ s11
  have h2 : OnCourse s1 s2 := by
    refine .forAll fun _ u _ => ?_
    exact .ite (.of rfl rfl) (.refl u)
  clear_value s2
  have h4 : OnCourse s3 s4 := .forAll fun _ _ _ => onCourse_placeTile ..
  have h6 : OnCourse s5 s6 := .forAll fun _ _ _ => onCourse_streamStart ..
  have hcfg3 (m : Nat) : s3.srcCfg m = s.srcCfg m := srcCfg_congr h2.body h2.defaults m
  have hcfg (m : Nat) : s5.srcCfg m = s.srcCfg m := (srcCfg_congr h4.body h4.defaults m).trans (hcfg3 m)
  have hu5 : s5.unbroken := hu.imp (fun hp => by rw [show s5.ldr = s.ldr from h4.ldr.trans h2.ldr]; exact hp)
    fun hsix m => (hcfg m).symm ▸ hsix m
  have h7 : OnCourse s6 s7 := .forAll fun m u hsu => onCourse_reserve (hsu.unbroken (h6.unbroken hu5)) m
  have h8 : OnCourse s7 s8 := .forAll fun _ _ _ => .of rfl rfl
  have h9 : OnCourse s8 s9 := .ite (.of rfl rfl) (.refl _)
  have h10 : OnCourse s5 s10 := h6.trans (h7.trans (h8.trans (h9.trans
    ((onCourse_domsOn ..).trans ((onCourse_domsOn ..).trans (onCourse_domsOn ..))))))
  have h12 : OnCourse s11 s11.ownDoms := onCourse_ownDoms _
  have hcfg11 (m : Nat) : s11.srcCfg m = s.srcCfg m := (srcCfg_congr h10.body h10.defaults m).trans (hcfg m)
  have hao : s5.ao = s.ao := h4.ao.trans h2.ao
  suffices hidle : PlanStarted s s11.ownDoms.loaderIdle i place from hidle.after (onCourse_planEvt _)
  refine ⟨⟨?_, ?_, ?_, ?_, ?_⟩, ?_, ?_, ?_⟩
  · exact h12.ao.trans (h10.ao.trans hao)
  · exact h12.kv.trans (h10.kv.trans (h4.kv.trans h2.kv))
  · exact ⟨_, h12.run.trans h10.run, rfl, hao, rfl, rfl, rfl, rfl, rfl⟩
  · rfl
  · exact h12.frames.trans (h10.frames.trans h4.frames)
  · refine h12.degr.trans ?_
    have hdegr : s10.dev.degr = s.dev.degr := h10.degr.trans (h4.degr.trans h2.degr)
    change { s10.dev.degr with banks := 0, tileNoSpare := false } = _
    rw [hdegr]
  · exact fun m => (srcCfg_congr h12.body h12.defaults m).trans (hcfg11 m)
  · intro hsix
    calc s11.ownDoms.dev.state = s11.dev.state := h12.state fun m => (hcfg11 m).symm ▸ hsix m
      _ = s5.dev.state := h10.state fun m => (hcfg m).symm ▸ hsix m
      _ = s3.dev.state := h4.state fun m => (hcfg3 m).symm ▸ hsix m
      _ = s.dev.state := h2.state hsix

/-! ## The entry into RUN or DEGRADED (R32, R533, R546) -/

theorem course_enterRun (s : State) : s.enterRun.course = s.course := by
  have hto (d : DevState) (hd : d ≠ .cold) : (s.devTo d).course = s.course := by
    have h : Steady s (s.devTo d) := steady_devTo hd s
    have hr : Reacts s (s.devTo d) := reacts_devTo d s
    unfold State.course
    rw [h.ao, h.run, h.ldr, h.vd, hr.body, dev_devTo, show (s.devTo d).kv = s.kv from congrArg (·.kv) hr,
      show (s.devTo d).flt.defaults = s.flt.defaults from congrArg (·.flt.defaults) hr]
  have hcount (t : State) : t.startCount.course = t.course := by
    unfold State.startCount
    split <;> rfl
  unfold State.enterRun
  split
  · exact (hcount _).trans (hto _ (by decide))
  · exact hto _ (by decide)

theorem state_enterRun (s : State) : s.enterRun.dev.state = if s.dev.degr.any then .degraded else .run := by
  unfold State.enterRun
  split
  · rw [startCount_state, devTo_state]
  · exact devTo_state ..

theorem onCourse_putStream (hu : s.unbroken) (n : Nat) (v : StreamV) : OnCourse s (s.putStream n v) := by
  unfold State.putStream
  extract_lets o s1 s2
  have h1 : OnCourse s s1 := onCourse_setStream ..
  have h2 : OnCourse s s2 := by
    have hevt : OnCourse s (s1.revt 0xA0008 1) := h1.trans (onCourse_rset ..)
    exact .ite (hevt.trans (onCourse_raiseU (by decide) (hevt.unbroken hu) n)) h1
  exact .ite h2 (h2.trans (onCourse_evalChans _))

theorem onCourse_holdSet (hu : s.unbroken) (n : Nat) (f : StreamV → StreamV) : OnCourse s (s.holdSet n f) := by
  have hput := onCourse_putStream hu n (f (s.stream n))
  refine .ite (hput.trans ?_) hput
  unfold State.settle
  refine .ite (.refl _) ?_
  split
  · exact onCourse_putStream (hput.unbroken hu) ..
  · exact .refl _

theorem onCourse_evalHolds (hu : s.unbroken) : OnCourse s s.evalHolds :=
  .forAll fun _ t ht => .ite (.refl t) (onCourse_holdSet (ht.unbroken hu) ..)

theorem onCourse_standstillLost (hu : s.unbroken) (n : Nat) : OnCourse s (s.standstillLost n) := by
  have hfail (t : State) (h m : Nat) (hh : 58 + h < 225) (ht : t.unbroken) : OnCourse t (t.brakeFail h m) := by
    unfold State.brakeFail
    extract_lets s1 _ s2
    have h1 : OnCourse t s1 := .of rfl rfl
    have h2 : OnCourse t (s2.revt 0x70008 5) := h1.trans (.trans (t := s2) (.of rfl rfl) (onCourse_revt ..))
    exact h2.trans ((onCourse_raiseU hh (h2.unbroken ht) h).trans (onCourse_evalChans _))
  have h0 : OnCourse s (if (s.chan 8).bt = .torque ∧ (brakeCfg s.sio.body 0).standstill = n then s.brakeFail 0 2 else s) :=
    .ite (hfail s 0 2 (by decide) hu) (.refl s)
  exact h0.trans (.ite (hfail _ 1 2 (by decide) (h0.unbroken hu)) (.refl _))

theorem onCourse_lower (n : Nat) (s : State) : OnCourse s (s.lower n) := by
  unfold State.lower State.deassert
  refine .ite ?_ (.refl s)
  dsimp only
  exact .ite (.ite (.of rfl rfl) (.of rfl rfl)) (.of rfl rfl)

theorem onCourse_inputRestart (k since : Nat) (s : State) : OnCourse s (s.inputRestart k since) :=
  .ite (.forAll fun _ t _ => .ite (.of rfl rfl) (.refl t)) (.refl s)

theorem onCourse_testPending (hu : s.unbroken) (n : Nat) : OnCourse s (s.pairTo n .testPending) := by
  unfold State.pairTo
  extract_lets o s1 s2 s3 s4 s5
  have h2 : OnCourse s s2 := .trans (t := s1) (.of rfl rfl) (onCourse_lower ..)
  have h3 : OnCourse s s3 := by
    have hevt : OnCourse s (s2.revt 0x70008 0) := h2.trans (onCourse_rset ..)
    exact .ite (hevt.trans (onCourse_standstillLost (hevt.unbroken hu) n)) h2
  have h5 : OnCourse s s5 := h3.trans ((onCourse_evalHolds (h3.unbroken hu)).trans (onCourse_evalChans _))
  exact .ite (.refl s) (.ite (h5.trans (onCourse_inputRestart ..)) h5)

theorem onCourse_brakeFirst (s : State) : OnCourse s s.brakeFirst := .forAll fun _ t _ => .ite (.of rfl rfl) (.refl t)

theorem onCourse_startTests (hu : s.unbroken) : OnCourse s s.startTests :=
  .forAll fun n t ht => .ite (onCourse_testPending (ht.unbroken hu) n) (.refl t)

/-- The device with a plan started, once it has entered RUN or DEGRADED. -/
theorem PlanStarted.entered {place : List Nat} (h : PlanStarted s t i place) (h' : OnCourse t.enterRun e) :
    PlanRuns s e i place ∧ ((∀ n, (s.srcCfg n).has 6 = false) →
      e.dev.state = if { s.dev.degr with banks := 0, tileNoSpare := false }.any then .degraded else .run) := by
  refine ⟨h.toPlanRuns.after (h'.course.trans (course_enterRun t)), fun hsix => ?_⟩
  have hcfg (n : Nat) : t.enterRun.srcCfg n = s.srcCfg n := (srcCfg_of_course (course_enterRun t) n).trans (h.config n)
  rw [h'.state fun n => (hcfg n).symm ▸ hsix n, state_enterRun, h.degr]

end Sys2Proof.Machine
end

section
/-! O31: the first boundary of a first-loaded plan (R32, R307), and the statement's settlement. -/

namespace Sys2Proof.Machine
open Sys2Proof

variable {s t e : State} {i : PlanImage} {place : List Nat}

/-! ## The first boundary (R307) -/

/-- The device at AO count `n`, the command of its load finished with COMPLETED. -/
def State.loadEnded (n : Nat) (s : State) : State := (s.advance n).loadTag 0 0

theorem loadEnded_eq (n : Nat) (s : State) : s.loadEnded n = { s.advance n with q := (s.loadEnded n).q } := loadTag_eq 0 0 _

/-- What the end of a load's command leaves. -/
theorem loadEnded_keeps (n : Nat) (s : State) : (s.loadEnded n).ao = Max.max s.ao n ∧ (s.loadEnded n).ldr = s.ldr ∧
    (s.loadEnded n).dev = s.dev ∧ ∀ m, (s.loadEnded n).srcCfg m = s.srcCfg m := by
  rw [loadEnded_eq]
  exact ⟨ao_advance n s, rfl, rfl, fun _ => rfl⟩

/-- The entry into RUN or DEGRADED from a first load; a device held elsewhere stays (R32, R533). -/
def State.firstStarted (s : State) : State :=
  if s.dev.state = .planLoad then (s.enterRun.brakeFirst.startTests).evalChans else s.evalChans

/-- A device that starts a first-loaded plan runs it, and enters RUN or DEGRADED where no source leads to SAFE_HOLD. -/
theorem firstStarted_runs (h : PlanStarted s t i place) (hst : s.dev.state = .planLoad) :
    PlanRuns s t.firstStarted i place ∧ ((∀ n, (s.srcCfg n).has 6 = false) →
      t.firstStarted.dev.state = if { s.dev.degr with banks := 0, tileNoSpare := false }.any then .degraded else .run) := by
  unfold State.firstStarted
  split
  · refine h.entered ?_
    have hbrake := onCourse_brakeFirst t.enterRun
    have hidle : t.enterRun.brakeFirst.ldr.phase = .idle :=
      (h.toPlanRuns.after (hbrake.course.trans (course_enterRun t))).idle
    exact hbrake.trans ((onCourse_startTests (.inl (by rw [hidle]; decide))).trans (onCourse_evalChans _))
  · next hne => exact ⟨(h.after (onCourse_evalChans t)).toPlanRuns, fun hsix => absurd ((h.state hsix).trans hst) hne⟩

/-- The first boundary draws a session key and starts the loaded plan one cycle after VERIFY. -/
theorem completes_planFirstBoundary (hc : s.dev.state ≠ .cold) (himg : s.ldr.img = some i) (hph : s.ldr.phase = .armed)
    (hfirst : s.ldr.first = true) (hst : s.dev.state = .planLoad) : Completes .planFirstBoundary s (fun e =>
      PlanRuns (s.loadEnded (s.ldr.armedAt + 1)).drawKey e i s.ldr.place ∧ ((∀ n, (s.srcCfg n).has 6 = false) →
        e.dev.state = if { s.dev.degr with banks := 0, tileNoSpare := false }.any then .degraded else .run)) := by
  have hexec : exec .planFirstBoundary s = execPlanFirstBoundary s := rfl
  unfold execPlanFirstBoundary at hexec
  obtain ⟨-, hldr, hdev, hcfg⟩ := loadEnded_keeps (s.ldr.armedAt + 1) s
  obtain ⟨u, hu⟩ : ∃ u, u = s.loadEnded (s.ldr.armedAt + 1) := ⟨_, rfl⟩
  rw [← hu] at hldr hdev hcfg ⊢
  refine completes_act_eq hexec hc
    ((u.drawKey.startPlan i u.ldr.place ((s.advance (s.ldr.armedAt + 1)).loadRoutes i) none).revt 0xB0008 0).firstStarted ?_ ?_
  · rw [hph, hfirst, himg, hu]
    exact if_pos (.inl hst)
  · have hunbroken : u.drawKey.unbroken := .inl (by change u.ldr.phase ≠ _; rw [hldr, hph]; decide)
    have hstarted := (planStarted_startPlan hunbroken i u.ldr.place ((s.advance (s.ldr.armedAt + 1)).loadRoutes i) none).after
      (onCourse_revt 0xB0008 0 _)
    obtain ⟨hruns, hstate⟩ := firstStarted_runs hstarted (hdev ▸ hst)
    refine ⟨hldr ▸ hruns, fun hsix => (hstate fun n => (hcfg n).symm ▸ hsix n).trans ?_⟩
    change (if { u.dev.degr with banks := 0, tileNoSpare := false }.any then DevState.degraded else DevState.run) = _
    rw [hdev]

/-! ## The statement -/

theorem scanned_refused {code sec : Nat} (h : s.planScan i = some (code, sec)) : s.scanned i = s.refuseLoad code sec := by
  unfold State.scanned
  rw [h]

/-- A first load that passed its scan goes on to PLACE. -/
theorem scanned_first (h : s.planScan i = none) (hfirst : s.ldr.first = true) :
    s.scanned i = { s with ldr.phase := .place } := by
  unfold State.scanned
  rw [h, hfirst]
  rfl

/-- Settles O31: each ply by its phase's equation, a refusal by the raise that it ends in, the first boundary by the plan's start. -/
theorem planLoads : Obligations.PlanLoads := by
  intro s i n build back hc himg ply refused
  have hply (src : Bool) {P : State → Prop} (h : P (s.loadPly n src build back)) : Completes (ply src) s P :=
    completes_act rfl hc h
  have hrefused {code sec : Nat} (hp : s.ldr.phase ≠ .blackout) (hfirst : s.ldr.first = false) :
      refused code (s.refuseLoad code sec) := refuseLoad_refused hp hc hfirst
  refine ⟨fun hph => ⟨fun h => ?_, fun c k h hf => ?_, fun hf => ?_⟩, fun hph => ⟨fun h => ?_, fun c k h hf => ?_⟩,
    fun hph => ⟨fun hb => ?_, fun c k hb h hf => ?_, fun hb h hf => ?_⟩,
    fun hph => ⟨fun pl rs h hbuild => ?_, fun pl rs h hbuild hf => ?_, fun c h hf => ?_⟩,
    fun hph => ⟨fun hback => ?_, fun hback hf => ?_⟩, fun hph hf hst => ?_⟩
  · exact hply true (loadPly_header hph himg h)
  · exact hply true (loadPly_header_refused hph himg h ▸ hrefused (by rw [hph]; decide) hf)
  · exact hply false (loadPly_header_lost hph himg ▸ hrefused (by rw [hph]; decide) hf)
  · exact hply true (loadPly_auth hph himg h)
  · exact hply true (loadPly_auth_refused hph himg h ▸ hrefused (by rw [hph]; decide) hf)
  · exact hply true (loadPly_scan_on hph himg hb)
  · refine hply true ?_
    rw [loadPly_scan_end hph himg hb, scanned_refused (s := s.scannedTo i i.imglen) h]
    exact refuseLoad_refused (s := s.scannedTo i i.imglen) (by change s.ldr.phase ≠ _; rw [hph]; decide) hc hf
  · refine hply true ?_
    rw [loadPly_scan_end hph himg hb, scanned_first (s := s.scannedTo i i.imglen) h hf]
    exact ⟨rfl, rfl, rfl, rfl⟩
  · exact hply true ((loadPly_place hph himg h).trans (if_pos hbuild))
  · refine hply true ?_
    rw [loadPly_place hph himg h, hbuild]
    exact hrefused (by rw [hph]; decide) hf
  · exact hply true (loadPly_place_refused hph himg h ▸ hrefused (by rw [hph]; decide) hf)
  · exact hply true ((loadPly_verify hph).trans (if_pos hback))
  · refine hply true ?_
    rw [loadPly_verify hph, hback]
    exact hrefused (by rw [hph]; decide) hf
  · obtain ⟨e, hexec, hruns, hstate⟩ := completes_planFirstBoundary hc himg hph hf hst
    obtain ⟨r, hrun, hplace, hanchor, hrest⟩ := hruns.running
    have hao : e.ao = Max.max s.ao (s.ldr.armedAt + 1) := hruns.ao.trans (loadEnded_keeps ..).1
    exact ⟨e, hexec, hao, hruns.idle, by rw [hruns.kv]; rfl, hruns.frames, hstate, r, hrun, hplace, hanchor.trans hruns.ao.symm,
      hrest⟩

end Sys2Proof.Machine
end

section
/-! O32: boundary B of a switch (R72, R313, R314). -/

namespace Sys2Proof.Machine
open Sys2Proof

variable {s t e : State} {p : PStream} {f : Frame} {n : Nat}

/-! ## The boundary that a switch takes (R313) -/

theorem ceilDiv_bounds {t h : Nat} (hh : 0 < h) : t ≤ ceilDiv t h * h ∧ ceilDiv t h * h < t + h := by
  unfold ceilDiv
  rw [if_neg (by omega)]
  have hdiv := Nat.div_add_mod (t + h - 1) h
  have hmod := Nat.mod_lt (t + h - 1) hh
  rw [Nat.mul_comm] at hdiv
  omega

theorem nextBoundary_bounds {r : Running} {armed target : Nat} (hh : 0 < r.img.hper) (ha : r.anchor ≤ armed) :
    armed < nextBoundary r armed target ∧ target ≤ nextBoundary r armed target ∧
      nextBoundary r armed target < Max.max (armed + 1) target + r.img.hper := by
  unfold nextBoundary
  obtain ⟨hle, hlt⟩ := ceilDiv_bounds (t := Max.max (armed + 1) target - r.anchor) hh
  dsimp only
  omega

/-! ## Frames without a verdict (R72) -/

/-- What a record written outside a blackout leaves: the frames, the procedures and the corrections due. -/
theorem journal_leaves (hp : s.ldr.phase ≠ .blackout) (r : JRec) : (s.journal r).vd.frames = s.vd.frames ∧
    (s.journal r).vd.dis = s.vd.dis ∧ (s.journal r).vd.rangeDue = s.vd.rangeDue := by
  unfold State.journal
  extract_lets w _ s1 _ s2 s3 s4 s5 s6
  have h1 : s1.vd.frames = s.vd.frames ∧ s1.vd.dis = s.vd.dis ∧ s1.vd.rangeDue = s.vd.rangeDue ∧ s1.ldr = s.ldr := by
    unfold s1
    rw [overwrite_eq]
    exact ⟨rfl, rfl, rfl, rfl⟩
  obtain ⟨hframes, hdis, hdue, hldr⟩ := h1
  have hp2 : s2.ldr.phase ≠ .blackout := by change s1.ldr.phase ≠ _; rwa [hldr]
  have h3 : Steady s2 s3 := .ite (steady_msix ..) (.refl _)
  have h4 : Steady s2 s4 := by
    refine h3.trans ?_
    dsimp only [s4]
    split
    · exact steady_rinc64 ..
    · exact .refl _
  have h5 : Steady s2 s5 := h4.trans (.ite (steady_revt ..) (.refl _))
  have h6 : Steady s2 s6 := h5.trans (.ite ((steady_revt ..).trans
    (steady_raiseU (by decide) (((h5.trans (steady_revt ..))).noBlackout hp2) _)) (.refl _))
  rw [queuePdu_eq]
  dsimp only
  rw [h6.vd]
  exact ⟨hframes, hdis, hdue⟩

/-- A frame that stands once a frame's record was replaced. -/
theorem mem_setFrame {g : Frame} (h : g ∈ (s.setFrame f).vd.frames) : g = f ∨ g ∈ s.vd.frames := by
  obtain ⟨g0, hg0, rfl⟩ := List.mem_map.1 h
  split
  · exact .inl rfl
  · exact .inr hg0

/-- What a verdict other than REJECT, formed outside a blackout, leaves: the procedures and the corrections due, and every frame
but its own. -/
theorem formWith_leaves {code reason : Nat} (hcode : code ≠ 3) (hp : s.ldr.phase ≠ .blackout) :
    (s.formWith p f code reason).vd.dis = s.vd.dis ∧ (s.formWith p f code reason).vd.rangeDue = s.vd.rangeDue ∧
    ∀ g ∈ (s.formWith p f code reason).vd.frames, g ∈ s.vd.frames ∨ g.stream = f.stream := by
  unfold State.formWith
  extract_lets _ _ _ _ dec _ _ _ s1 s2 _ _ _ _ r s3 _ s4 s5 s6
  have hdec : dec = none := if_neg hcode
  have h2 : Steady s s2 := (steady_putStream hp ..).trans (.ite (steady_revt ..) (.refl _))
  obtain ⟨hframes, hdis, hdue⟩ := journal_leaves (h2.noBlackout hp) r
  have h4 : s4.vd = s3.vd := by
    dsimp only [s4]
    split <;> rfl
  have hvd6 : s6.vd.dis = s3.vd.dis ∧ s6.vd.rangeDue = s3.vd.rangeDue := by
    change s4.vd.dis = _ ∧ s4.vd.rangeDue = _
    rw [h4]
    exact ⟨rfl, rfl⟩
  rw [hdec]
  dsimp only
  refine ⟨hvd6.1.trans (hdis.trans (by rw [h2.vd])), hvd6.2.trans (hdue.trans (by rw [h2.vd])), fun g hg => ?_⟩
  rcases mem_setFrame (show g ∈ s5.vd.frames from hg) with rfl | hold
  · exact .inr rfl
  · rw [h4, hframes, h2.vd] at hold
    exact .inl hold

/-- The frames of stream `n` without a verdict receive DOUBT PLAN_SWITCH (R72). -/
def State.doubtStream (n : Nat) (s : State) : State :=
  forAll (s.vd.frames.filter (fun f => f.stream = n && !f.golden && f.formed.isNone)) (fun f s =>
    match s.pstream n with
    | some p => let f := { s.frameNow f with isOpen := false }; (s.setFrame f).formWith p f 2 0xD
    | none => s) s

theorem doubtAll_eq (s : State) : s.doubtAll = forAll (List.range 64) State.doubtStream s := rfl

theorem doubtStream_none (h : ∀ g ∈ s.vd.frames, g.stream ≠ n) : s.doubtStream n = s := by
  unfold State.doubtStream
  have hnone : s.vd.frames.filter (fun f => f.stream = n && !f.golden && f.formed.isNone) = [] := by
    refine List.filter_eq_nil_iff.2 fun g hg => ?_
    simp [h g hg]
  rw [hnone, forAll_nil]

/-- The only frame, no longer open, with its DOUBT. -/
def State.doubted (p : PStream) (f : Frame) (s : State) : State :=
  (s.setFrame { f with isOpen := false }).formWith p { f with isOpen := false } 2 0xD

theorem doubtStream_single (hframes : s.vd.frames = [f]) (hgold : f.golden = false) (hformed : f.formed = none)
    (hp : s.pstream f.stream = some p) : s.doubtStream f.stream = s.doubted p f := by
  have hsame : f.same f = true := by simp [Frame.same]
  have hnow : s.frameNow f = f := by simp [State.frameNow, hframes, hsame]
  simp [State.doubtStream, State.doubted, hframes, hgold, hformed, hp, hnow]

theorem doubtAll_single (hframes : s.vd.frames = [f]) (hgold : f.golden = false) (hformed : f.formed = none)
    (hn : f.stream < 64) (hp : s.pstream f.stream = some p) (hph : s.ldr.phase ≠ .blackout) : s.doubtAll = s.doubted p f := by
  obtain ⟨-, -, hleft⟩ := formWith_leaves (s := s.setFrame { f with isOpen := false }) (p := p)
    (f := { f with isOpen := false }) (code := 2) (reason := 0xD) (by decide) hph
  have hstream : ∀ g ∈ (s.doubted p f).vd.frames, g.stream = f.stream := by
    intro g hg
    rcases hleft g hg with hold | hown
    · rcases mem_setFrame hold with rfl | hf
      · rfl
      · rw [hframes, List.mem_singleton] at hf
        rw [hf]
    · exact hown
  have hdoubt := doubtStream_single hframes hgold hformed hp
  rw [doubtAll_eq, ← hdoubt]
  refine forAll_only List.nodup_range (List.mem_range.2 hn) fun m _ hm => ⟨doubtStream_none ?_, doubtStream_none ?_⟩
  · rw [hframes]
    exact fun g hg => List.mem_singleton.1 hg ▸ hm.symm
  · rw [hdoubt]
    exact fun g hg => hstream g hg ▸ hm.symm

theorem doubtAll_none (h : s.vd.frames = []) : s.doubtAll = s :=
  forAll_fixed (fun n => doubtStream_none (n := n) (by rw [h]; exact fun _ hg => absurd hg List.not_mem_nil)) _

/-! ## The boundary (R314 steps 1 to 4) -/

/-- At boundary B the device `t`, its verdicts formed, gives up evidence and flits, draws a session key and stops its contexts. -/
structure AtBoundary (t e : State) : Prop where
  ao : e.ao = t.ao
  b : e.ldr.b = t.ao
  phase : e.ldr.phase = .blackout
  flits : e.flits = []
  evidence : e.vd.commits = [] ∧ e.vd.reveals = [] ∧ e.vd.results = []
  journal : e.vd.journal = t.vd.journal ∧ e.vd.jseq = t.vd.jseq
  session : e.kv.session.isSome = true
  idle : ∀ u c, (t.tile u).role ≠ .deepTest → (t.ctx u c).haltQ = false → (e.ctx u c).st = .idle

theorem AtBoundary.steady {u : State} (h : AtBoundary t u) (hu : Steady u e) (hkv : e.kv = u.kv) : AtBoundary t e := by
  refine ⟨hu.ao.trans h.ao, ?_, ?_, ?_, ?_, ?_, hkv ▸ h.session, fun v c hr hq => ?_⟩
  · rw [hu.ldr]; exact h.b
  · rw [hu.ldr]; exact h.phase
  · rw [hu.flits]; exact h.flits
  · rw [hu.vd]; exact h.evidence
  · rw [hu.vd]; exact h.journal
  · unfold State.ctx
    rw [hu.tile]
    exact h.idle v c hr hq

/-- A tile at boundary B: a deep test ends, every other tile's contexts stop (R314 steps 3 and 4). -/
def TileSt.atBoundary (t : TileSt) : TileSt :=
  if t.role == Role.deepTest then { t with role := if t.dtFromQ then .quarantined else .spare, dtFromQ := false }
  else { t with ctxs := mmap .reset CtxSt.idled t.ctxs, stBusy := false, stReq := false }

/-- A context at boundary B is IDLE, unless quarantine halted it. -/
theorem ctx_atBoundary {u : TileSt} {c : Nat} (hr : u.role ≠ .deepTest) (hq : (mget CtxSt.reset u.ctxs c).haltQ = false) :
    (mget CtxSt.reset u.atBoundary.ctxs c).st = .idle := by
  have hctxs : u.atBoundary.ctxs = mmap .reset CtxSt.idled u.ctxs := by
    unfold TileSt.atBoundary
    rw [if_neg (by rwa [beq_iff_eq])]
  rw [hctxs, mget_mmap _ _ rfl]
  unfold CtxSt.idled
  rw [hq]
  rfl

/-- Boundary B where no procedure is open and no correction is due once the frames have their verdicts. -/
theorem boundaryB_quiet (ht : ({ s with vd.frames := s.vd.frames.filter (fun f => !f.golden) } : State).doubtAll = t)
    (hdis : ∀ i, (t.dis i).busy = false) (hdue : t.vd.rangeDue = []) : AtBoundary t s.boundaryB ∧
      (t.dev.state = .run ∨ t.dev.state = .degraded →
        s.boundaryB.dev.state = .planLoad ∧ s.boundaryB.dev.blackout = true) := by
  unfold State.boundaryB
  extract_lets _ s1 s2 s3 s4 _ _ s5 _ _ s6
  have h3 : s3 = t := by
    change forAll [0, 1, 2, 3] _ s2 = t
    rw [show s2 = t from ht]
    refine forAll_fixed (fun i => ?_) _
    exact if_neg (by rw [hdis i]; decide)
  have h4 : s4 = t := by
    change s3.flushRange = t
    rw [h3, flushRange_idle hdue]
  clear_value s4
  subst h4
  have hat : AtBoundary s4 s6 := by
    refine ⟨rfl, rfl, rfl, rfl, ⟨rfl, rfl, rfl⟩, ⟨rfl, rfl⟩, rfl, fun u c hr hq => ?_⟩
    have htile : s6.tile u = (s4.tile u).atBoundary := mget_mmap TileSt.reset TileSt.atBoundary rfl s4.tiles u
    unfold State.ctx
    rw [htile]
    exact ctx_atBoundary hr hq
  have hdev : s6.dev = s4.dev := rfl
  clear_value s6
  have hkv : (s6.devTo .planLoad).kv = s6.kv := congrArg (·.kv) (reacts_devTo .planLoad s6)
  have hto : AtBoundary s4 { s6.devTo .planLoad with dev.blackout := true } :=
    hat.steady (.trans (steady_devTo (by decide) s6) ⟨rfl, id⟩) hkv
  constructor
  · split
    · exact hto
    · exact hto
    · exact hat
  · rw [← hdev]
    rintro (hst | hst) <;> rw [hst] <;> exact ⟨devTo_state .planLoad s6, rfl⟩

end Sys2Proof.Machine
end

section
/-! O32: the end of a switch, placed or failed (R314, R316), and the statement's settlement. -/

namespace Sys2Proof.Machine
open Sys2Proof

variable {s t e : State} {r : Running} {i : PlanImage} {p : PStream} {f : Frame} {at_ : Nat}

/-! ## A switch that fails (R316) -/

/-- The plan that runs and the device. -/
def State.footing (s : State) := (s.ao, s.run, s.dev)

theorem footing_of_onCourse (h : OnCourse s e) (hd : e.dev = s.dev) : e.footing = s.footing := by
  unfold State.footing
  rw [h.ao, h.run, hd]

theorem footing_evalChans (s : State) : s.evalChans.footing = s.footing :=
  footing_of_onCourse (onCourse_evalChans s) (dev_evalChans s)

theorem footing_planEvt (s : State) : s.planEvt.footing = s.footing :=
  footing_of_onCourse (onCourse_planEvt s) (forAll_const State.dev _ (fun f u => dev_fnEvt f 3 u) _ s)

theorem footing_ownDom (d : Nat) (want : Bool) (s : State) : (s.ownDom d want).footing = s.footing := by
  unfold State.ownDom State.wakeDom
  split
  · dsimp only
    split
    · rfl
    · rfl
    · split <;> rfl
  · split <;> rfl

theorem footing_firstLoad (s : State) : s.firstLoad.footing = s.footing := by
  unfold State.firstLoad State.domsOn
  rw [forAll_cons, forAll_nil]
  rfl

theorem sameSrc_firstLoad (s : State) : SameSrc s s.firstLoad := by
  unfold State.firstLoad State.domsOn
  rw [forAll_cons, forAll_nil]
  rfl

theorem footing_planDomsOff (s : State) : s.planDomsOff.footing = s.footing := by
  unfold State.planDomsOff State.ownDoms
  extract_lets s1 s2 _ s3
  have h1 : s1.footing = s.footing := by
    refine forAll_const State.footing _ (fun q u => ?_) _ s
    split <;> rfl
  have h2 : s2.footing = s1.footing := by
    refine forAll_const State.footing _ (fun d u => ?_) _ s1
    rfl
  rw [forAll_const State.footing _ (fun _ u => footing_ownDom _ _ u), footing_ownDom]
  clear_value s2
  exact h2.trans h1

/-- The end of a failed switch: its plan is cleared away and a first load starts (R316). -/
def State.switchEnded (s : State) : State := (s.loaderIdle.stopPlan.planDomsOff.planEvt.evalChans).firstLoad

theorem switchEnded_footing (s : State) : s.switchEnded.ao = s.ao ∧ s.switchEnded.run = none ∧ s.switchEnded.dev = s.dev := by
  have h : s.switchEnded.footing = s.loaderIdle.stopPlan.footing := by
    unfold State.switchEnded
    rw [footing_firstLoad, footing_evalChans, footing_planEvt, footing_planDomsOff]
  simp only [State.footing, Prod.mk.injEq] at h
  exact h

theorem sameSrc_switchEnded (s : State) : SameSrc s s.switchEnded := by
  have hoff : SameSrc s s.loaderIdle.stopPlan.planDomsOff := sameSrc_planDomsOff s.loaderIdle.stopPlan
  exact ((hoff.trans (sameSrc_planEvt _)).trans (sameSrc_evalChans _)).trans (sameSrc_firstLoad _)

/-- A switch failed at AO count `n`: no plan runs, its blackout is over, PLAN_SWITCH and PLAN_REFUSED were raised. -/
def SwitchFailed (s : State) (n : Nat) (e : State) : Prop :=
  e.run = none ∧ e.dev.blackout = false ∧ e.ao = n ∧ RaisedIn 224 s e ∧ RaisedIn 225 s e

theorem planSwitch_listed : (romCfg 224).reserved = false := by decide +kernel

theorem switchFail_fails (hc : s.dev.state ≠ .cold) : SwitchFailed s s.ao s.switchFail := by
  obtain ⟨u, hu⟩ : ∃ u, u = (({ s.loadTag 13 0x14 with
    ldr := { (s.loadTag 13 0x14).ldr with refuse := 0x14, secDetail := 0x7FF }, dev.blackout := false } : State).revt
      0xB0008 1).revt 0xB0008 3 := ⟨_, rfl⟩
  have hfail : s.switchFail = ((u.raise 225).raise 224).switchEnded := by rw [hu]; rfl
  rw [loadTag_eq] at hu
  have hdev : u.dev = { s.dev with blackout := false } := by rw [hu]; rfl
  have hao : u.ao = s.ao := by rw [hu]; rfl
  have hsrc (n : Nat) : u.src n = s.src n := by rw [hu]; rfl
  have hcold : u.dev.state ≠ .cold := by rw [hdev]; exact hc
  have h225 : StaysOrHeld u (u.raise 225) := staysOrHeld_raiseWith (by decide) ..
  have h224 : StaysOrHeld (u.raise 225) ((u.raise 225).raise 224) := staysOrHeld_raiseWith (by decide) ..
  obtain ⟨haoEnd, hrunEnd, hdevEnd⟩ := switchEnded_footing ((u.raise 225).raise 224)
  have hend (n : Nat) : s.switchFail.src n = ((u.raise 225).raise 224).src n := by
    rw [hfail]
    exact src_congr (sameSrc_switchEnded _) n
  have hraised225 : RaisedIn 225 u (u.raise 225) := raisedIn_raise planRefused_listed hcold
  have hraised224 : RaisedIn 224 (u.raise 225) ((u.raise 225).raise 224) :=
    raisedIn_raise planSwitch_listed (h225.notCold hcold)
  refine ⟨?_, ?_, ?_, ?_, ?_⟩
  · rw [hfail, hrunEnd]
  · rw [hfail, hdevEnd]
    exact (h225.trans h224).blackout (by rw [hdev])
  · rw [hfail, haoEnd]
    exact ((reacts_raise ..).trans (reacts_raise ..)).ao.trans hao
  · exact (hraised224.of_src ((src_raiseWith_ne (by decide) _ _ u).trans (hsrc 224))).then_src (hend 224)
  · exact (hraised225.of_src (hsrc 225)).then_src ((hend 225).trans (src_raiseWith_ne (by decide) _ _ _))

theorem switchFail_fails_after (n : Nat) (hc : s.dev.state ≠ .cold) :
    SwitchFailed s (Max.max s.ao n) (s.advance n).switchFail :=
  ao_advance n s ▸ switchFail_fails (s := s.advance n) hc

/-- The longest blackout, in AO cycles (R314 step 8). -/
theorem blackoutLimit_eq : 2 * Config.aoPerMs = 100000 := rfl

theorem completes_planSwitchTimeout (hc : s.dev.state ≠ .cold) (hph : s.ldr.phase = .blackout) :
    Completes .planSwitchTimeout s (SwitchFailed s (Max.max s.ao (s.ldr.b + 100000))) := by
  have hexec : exec .planSwitchTimeout s = execPlanSwitchTimeout s := rfl
  unfold execPlanSwitchTimeout at hexec
  rw [blackoutLimit_eq] at hexec
  exact completes_act_eq hexec hc _ (if_pos hph) (switchFail_fails_after _ hc)

theorem completes_planSwitchPlaced_failed (hc : s.dev.state ≠ .cold) (hph : s.ldr.phase = .blackout)
    (himg : s.ldr.img = some i) (hrun : s.run = some r) (hfrom : s.ao ≤ at_) (hin : at_ < s.ldr.b + 100000) :
    Completes (.planSwitchPlaced at_ false) s (SwitchFailed s at_) := by
  have hexec : exec (.planSwitchPlaced at_ false) s = execPlanSwitchPlaced at_ false s := rfl
  unfold execPlanSwitchPlaced at hexec
  have hfails := switchFail_fails_after at_ hc
  rw [Nat.max_eq_right hfrom] at hfails
  refine completes_act_eq hexec hc (s.advance at_).switchFail ?_ hfails
  rw [hph, himg, hrun]
  exact (if_neg (by unfold Config.aoPerMs; omega)).trans (if_pos rfl)

/-! ## A switch placed (R314 steps 6 and 7) -/

theorem onCourse_blackoutDone (n : Nat) (s : State) : OnCourse s (s.blackoutDone n) :=
  (onCourse_rset ..).trans (.ite (onCourse_rset ..) (.refl _))

theorem blackout_enterRun (s : State) : s.enterRun.dev.blackout = s.dev.blackout := by
  have hcount (u : State) : u.startCount.dev.blackout = u.dev.blackout := by
    unfold State.startCount
    split <;> rfl
  unfold State.enterRun
  split
  · rw [hcount, dev_devTo]
  · change (s.devTo .run).dev.blackout = _
    rw [dev_devTo]

/-- The new plan starts one cycle after its placement, the blackout over. -/
theorem completes_planSwitchPlaced (hc : s.dev.state ≠ .cold) (hph : s.ldr.phase = .blackout) (himg : s.ldr.img = some i)
    (hrun : s.run = some r) (hfrom : s.ao ≤ at_) (hin : at_ < s.ldr.b + 100000) (hst : s.dev.state = .planLoad)
    (hsix : ∀ n, (s.srcCfg n).has 6 = false) : Completes (.planSwitchPlaced at_ true) s (fun e =>
      e.ao = at_ + 1 ∧ e.ldr.phase = .idle ∧ e.dev.blackout = false ∧
      (e.dev.state = if { s.dev.degr with banks := 0, tileNoSpare := false }.any then .degraded else .run) ∧
      ∃ q, e.run = some q ∧ q.startedAt i s.ldr.place (at_ + 1)) := by
  have hexec : exec (.planSwitchPlaced at_ true) s = execPlanSwitchPlaced at_ true s := rfl
  unfold execPlanSwitchPlaced at hexec
  obtain ⟨hao, hldr, hdev, hcfg⟩ := loadEnded_keeps ((s.advance at_).ao + 1) (s.advance at_)
  obtain ⟨u, hu⟩ : ∃ u, u = (s.advance at_).loadEnded ((s.advance at_).ao + 1) := ⟨_, rfl⟩
  rw [← hu] at hao hldr hdev hcfg
  have hnow : u.ao = at_ + 1 := by
    rw [hao, ao_advance]
    omega
  have hsixu : ∀ n, (u.srcCfg n).has 6 = false := fun n => (hcfg n).symm ▸ hsix n
  obtain ⟨t, ht⟩ : ∃ t, t = ((u.startPlan i u.ldr.place (((s.advance at_).advance ((s.advance at_).ao + 1)).loadRoutes i)
    (some r.img)).blackoutDone (((s.advance at_).advance ((s.advance at_).ao + 1)).ao - s.ldr.b)).revt 0xB0008 2 := ⟨_, rfl⟩
  have hstarted : PlanStarted u t i u.ldr.place := ht ▸ (planStarted_startPlan (.inr hsixu) ..).after
    ((onCourse_blackoutDone ..).trans (onCourse_revt ..))
  have hload : t.dev.state = .planLoad := (hstarted.state hsixu).trans (hdev ▸ hst)
  refine completes_act_eq hexec hc { t with dev.blackout := false }.enterRun.evalChans ?_ ?_
  · rw [hph, himg, hrun, ht, hu]
    exact (if_neg (by unfold Config.aoPerMs; omega)).trans ((if_neg (by decide)).trans (if_pos (by
      rw [ht, hu] at hload
      exact hload)))
  · have hopen : PlanStarted u { t with dev.blackout := false } i u.ldr.place := hstarted.after (.of rfl rfl)
    obtain ⟨hruns, hstate⟩ := hopen.entered (onCourse_evalChans _)
    have hstate := hstate hsixu
    rw [hdev] at hstate
    refine ⟨hruns.ao.trans hnow, hruns.idle, ?_, hstate, ?_⟩
    · rw [dev_evalChans, blackout_enterRun]
    · obtain ⟨q, hq, hat⟩ := hruns.running
      rw [hldr, hnow] at hat
      exact ⟨q, hq, hat⟩

/-! ## Boundary B (R313, R314 steps 1 to 4, R72) -/

theorem completes_planSwitchBoundary {P : State → Prop} (hc : s.dev.state ≠ .cold) (hph : s.ldr.phase = .armed)
    (hfirst : s.ldr.first = false) (hrun : s.run = some r) (hst : s.dev.state = .run ∨ s.dev.state = .degraded)
    (h : P (s.advance (nextBoundary r s.ldr.armedAt s.ldr.target)).boundaryB) : Completes .planSwitchBoundary s P := by
  have hexec : exec .planSwitchBoundary s = execPlanSwitchBoundary s := rfl
  unfold execPlanSwitchBoundary at hexec
  refine completes_act_eq hexec hc _ ?_ h
  rw [hph, hfirst, hrun]
  exact if_pos (hst.imp_right .inl)

/-- Boundary B of a device without frames. -/
theorem boundaryB_noFrames (hframes : s.vd.frames = []) (hdis : ∀ i, (s.dis i).busy = false) (hdue : s.vd.rangeDue = []) :
    AtBoundary s s.boundaryB ∧ (s.dev.state = .run ∨ s.dev.state = .degraded →
      s.boundaryB.dev.state = .planLoad ∧ s.boundaryB.dev.blackout = true) := by
  have hsame : ({ s with vd.frames := s.vd.frames.filter (fun f => !f.golden) } : State) = s := by
    rw [hframes, List.filter_nil, ← hframes]
  exact boundaryB_quiet (by rw [hsame, doubtAll_none hframes]) hdis hdue

/-- The DOUBT of the only frame is written (R72); no procedure starts or ends and no correction falls due. -/
theorem doubted_written (hph : s.ldr.phase ≠ .blackout) : verdictWritten s (s.doubted p f) f.stream f.num 2 0xD ∧
    (∀ i, (s.doubted p f).dis i = s.dis i) ∧ (s.doubted p f).vd.rangeDue = s.vd.rangeDue := by
  unfold State.doubted
  obtain ⟨u, hu⟩ : ∃ u, u = s.setFrame { f with isOpen := false } := ⟨_, rfl⟩
  obtain ⟨g, hg⟩ : ∃ g : Frame, g = { f with isOpen := false } := ⟨_, rfl⟩
  rw [← hu, ← hg]
  obtain ⟨hdis, hdue, -⟩ := formWith_leaves (s := u) (p := p) (f := g) (code := 2) (reason := 0xD) (by decide)
    (by rw [hu]; exact hph)
  obtain ⟨hwritten, -⟩ := formWith_verdict (code := 2) (reason := 0xD) (by decide) p g u
  have hsrc : verdictWritten s = verdictWritten u := by rw [hu]; rfl
  refine ⟨?_, fun i => ?_, ?_⟩
  · rw [hsrc]
    rw [hg] at hwritten ⊢
    exact hwritten
  · unfold State.dis
    rw [hdis, hu]
    rfl
  · rw [hdue, hu]
    rfl

/-- Boundary B of a device whose only frame has no verdict: its DOUBT stands. -/
theorem boundaryB_oneFrame (hframes : s.vd.frames = [f]) (hgold : f.golden = false) (hformed : f.formed = none)
    (hn : f.stream < 64) (hp : s.pstream f.stream = some p) (hph : s.ldr.phase ≠ .blackout)
    (hdis : ∀ i, (s.dis i).busy = false) (hdue : s.vd.rangeDue = []) : verdictWritten s s.boundaryB f.stream f.num 2 0xD := by
  have hsame : ({ s with vd.frames := s.vd.frames.filter (fun f => !f.golden) } : State) = s := by
    rw [hframes, List.filter_eq_self.2 (fun g hg => by rw [List.mem_singleton.1 hg, hgold]; rfl), ← hframes]
  obtain ⟨hwritten, hleftDis, hleftDue⟩ := doubted_written (s := s) (p := p) (f := f) hph
  have hdoubt := doubtAll_single hframes hgold hformed hn hp hph
  generalize s.doubted p f = t at hwritten hleftDis hleftDue hdoubt
  obtain ⟨hat, -⟩ := boundaryB_quiet (hsame.symm ▸ hdoubt) (fun i => (hleftDis i).symm ▸ hdis i) (hleftDue.trans hdue)
  obtain ⟨hjournal, hjseq⟩ := hat.journal
  unfold verdictWritten
  rw [hjournal, hjseq]
  exact hwritten

/-! ## The statement -/

/-- Settles O32: boundary B through the states that its steps pass, the placement through the new plan's start, both failures
through the end of a failed switch. -/
theorem planSwitches : Obligations.PlanSwitches := by
  intro s r hc hrun
  refine ⟨fun hh ha => ⟨⟨_, rfl⟩, nextBoundary_bounds hh ha⟩, fun hph hfirst hst hdue hdis => ⟨fun hframes => ?_,
    fun f p hframes hgold hformed hn hp => ?_⟩, fun i at_ hph himg hfrom hin => ⟨fun hst hsix => ?_, ?_⟩, fun hph => ?_⟩
  · refine completes_planSwitchBoundary hc hph hfirst hrun hst ?_
    obtain ⟨hat, henter⟩ := boundaryB_noFrames (s := s.advance (nextBoundary r s.ldr.armedAt s.ldr.target)) hframes hdis hdue
    obtain ⟨hstate, hblackout⟩ := henter hst
    obtain ⟨hcommits, hreveals, hresults⟩ := hat.evidence
    exact ⟨hat.b.trans (ao_advance ..), hat.ao.trans hat.b.symm, hat.phase, hstate, hblackout, hat.flits, hcommits, hreveals,
      hresults, hat.journal.1, hat.session, hat.idle⟩
  · exact completes_planSwitchBoundary hc hph hfirst hrun hst
      (boundaryB_oneFrame (s := s.advance _) hframes hgold hformed hn hp (by change s.ldr.phase ≠ _; rw [hph]; decide) hdis hdue)
  · obtain ⟨e, hexec, hao, hidle, hblackout, hstate, q, hq, hplace, hanchor, hslot, hstruck, hid, hstreams, -⟩ :=
      completes_planSwitchPlaced hc hph himg hrun hfrom hin hst hsix
    exact ⟨e, hexec, hao, hidle, hblackout, hstate, q, hq, hplace, hanchor, hslot, hstruck, hid, hstreams⟩
  · exact completes_planSwitchPlaced_failed hc hph himg hrun hfrom hin
  · exact completes_planSwitchTimeout hc hph

end Sys2Proof.Machine
end

section
/-! O14: golden copies and known-answer intervals (R138, R343, R344, R351, R352, R708). -/

namespace Sys2Proof.Machine
open Sys2Proof

variable {n : Stream} {s : State} {p : PStream} {P : State → Prop}

/-- BUFFER_EXH is in the fault table. -/
theorem bufferExh_listed : (romCfg 172).reserved = false := by decide +kernel

/-- A refused request for buffers raises BUFFER_EXH, and changes what a raise may change (R351, R352). -/
theorem raisedIn_nobuf (hc : s.dev.state ≠ .cold) (a u : Nat) : RaisedIn 172 s (s.nobuf a u) :=
  (raisedIn_raiseU u bufferExh_listed (s := (s.rincSat a 31 0 1).revt 0x90008 2) hc).of_sameSrc (.of rfl)

theorem reacts_nobuf (a u : Nat) (s : State) : Reacts s (s.nobuf a u) :=
  (reacts_rincSat a 31 0 1 s).trans ((reacts_revt ..).trans (reacts_raiseU ..))

/-! ## The commands (R343, R344, R708) -/

/-- The stream's next golden frame copied into the buffers `r`. -/
def State.goldenCopied (n : Nat) (r : List Nat × List Nat × Nat × FMap Bool) (s : State) : State :=
  { s.setGs n { s.gs n with goldCopies := (s.gs n).goldCopies ++ [r.1 ++ r.2.1], nextBank := r.2.2.1 } with ldg.used := r.2.2.2 }

/-- A stream at the end of an interval (R708). -/
def StreamV.kaEnded (v : StreamV) : StreamV := { v with kaLapse := !v.kaPassed || v.kaLapse, kaPassed := false }

/-- The end of stream `p`'s interval, with no golden frame waiting (R343, R708). -/
def State.kaEnd (p : PStream) (s : State) : State :=
  ((s.advance ((s.gs p.num).kaStart + p.kaInterval)).setStream p.num (s.stream p.num).kaEnded).kaBegin p
    ((s.gs p.num).kaNum + 1) ((s.gs p.num).kaStart + p.kaInterval)

/-- With no golden frame waiting none is forwarded. -/
theorem goldens_unready (h : s.goldenReady p = false) (t : GateS → Bool) (k : Nat) (ds : Descs) :
    s.goldens p t k ds = (ds, s) := by
  cases k with
  | zero => rfl
  | succ k =>
    unfold State.goldens
    rw [h]
    rfl

section
variable (hc : s.dev.state ≠ .cold) (hp : s.pstream n = some p) (hgold : hasGolden p = true) (hph : s.ldr.phase ≠ .blackout)
include hc hp hgold hph

/-- Golden frames are left to copy: the request for buffers is answered or refused. -/
theorem completes_goldenCopy (hleft : (s.gs n).kaNext + (s.gs n).goldCopies.length < p.golden.length)
    (hP : P ((s.frameAlloc p (s.gs n).nextBank).elim (s.nobuf 0x90014 p.src) fun r => s.goldenCopied n r)) :
    Completes (.goldenCopy n) s P := by
  have hexec : exec (.goldenCopy n) s = execGoldenCopy n s := rfl
  unfold execGoldenCopy at hexec
  refine completes_act hexec hc ?_
  have hgo : (!hasGolden p || decide (s.ldr.phase = .blackout) ||
      decide ((s.gs n).kaNext + (s.gs n).goldCopies.length ≥ p.golden.length)) = false := by
    rw [hgold, decide_eq_false hph, decide_eq_false (by omega)]
    rfl
  dsimp only
  rw [hp]
  dsimp only
  rw [hgo, if_neg Bool.false_ne_true]
  cases halloc : s.frameAlloc p (s.gs n).nextBank with
  | none => rwa [halloc] at hP
  | some r => rwa [halloc] at hP

theorem completes_knownAnswerIntervalEnd {ds : Descs} (hnum : p.num = n) (hready : s.goldenReady p = false)
    (hP : P (s.kaEnd p)) : Completes (.knownAnswerIntervalEnd n ds) s P := by
  have hexec : exec (.knownAnswerIntervalEnd n ds) s = execKnownAnswerIntervalEnd n ds s := rfl
  unfold execKnownAnswerIntervalEnd at hexec
  refine completes_act hexec hc ?_
  have hgo : (!hasGolden p || decide (s.ldr.phase = .blackout)) = false := by
    rw [hgold, decide_eq_false hph]
    rfl
  have hready' : (s.advance ((s.gs n).kaStart + p.kaInterval)).goldenReady p = false := hready
  dsimp only
  rw [hp]
  dsimp only
  rw [hgo, if_neg Bool.false_ne_true, goldens_unready hready', ← hnum]
  exact hP

end

theorem stream_kaEnd (p : PStream) (s : State) : (s.kaEnd p).stream p.num = (s.stream p.num).kaEnded :=
  (State.stream_setStream p.num p.num _ _).trans (if_pos rfl)

/-- The next interval starts at the end of this one, with positions of its own (R124, R343). -/
theorem gs_kaEnd (hgold : hasGolden p = true) : (s.kaEnd p).gs p.num = { s.gs p.num with
    kaNum := (s.gs p.num).kaNum + 1, kaStart := (s.gs p.num).kaStart + p.kaInterval, kaPos := 0, kaNext := 0,
    kaGolden := drawIndices (s.ksw 2 p.num 1 ((s.gs p.num).kaNum + 1)) (ceilDiv p.kaInterval p.period + p.golden.length)
      p.golden.length } := by
  refine (State.gs_setGs p.num p.num _ _).trans ((if_pos rfl).trans ?_)
  rw [hgold]
  rfl

/-- Settles O14: a copy is made or refused as its buffers are found, and the interval's end starts the next from its own end. -/
theorem knownAnswerInterval : Obligations.KnownAnswerInterval := by
  intro n s p hc hp hnum hgold hph
  refine ⟨fun bs mirror next used hleft halloc => ?_, fun hleft halloc => ?_, fun ds hready => ?_⟩
  · refine completes_goldenCopy hc hp hgold hph hleft ?_
    rw [halloc]
    rfl
  · refine completes_goldenCopy hc hp hgold hph hleft ?_
    rw [halloc]
    exact ⟨raisedIn_nobuf hc .., reacts_nobuf ..⟩
  · refine completes_knownAnswerIntervalEnd hc hp hgold hph hnum hready ?_
    dsimp only
    rw [← hnum, stream_kaEnd, gs_kaEnd hgold]
    exact ⟨le_advance_ao _ s, rfl, rfl, rfl, rfl, rfl, rfl, rfl, rfl, rfl, rfl, rfl, rfl, rfl⟩

end Sys2Proof.Machine
end

section
/-! O18: what a raise of a source outside the ingress engines leaves of the stream gate (R505, R626). -/

namespace Sys2Proof.Machine
open Sys2Proof

variable {s e t : State}

/-- From `s` to `e` the array and the stream gate are as they were. -/
structure GateSteady (s e : State) : Prop extends Steady s e where
  gate : e.gate = s.gate

theorem GateSteady.refl (s : State) : GateSteady s s := ⟨.refl s, rfl⟩
theorem GateSteady.trans (h : GateSteady s t) (h' : GateSteady t e) : GateSteady s e :=
  ⟨h.toSteady.trans h'.toSteady, h'.gate.trans h.gate⟩
theorem GateSteady.ite {c : Prop} [Decidable c] {x y : State} (hx : GateSteady s x) (hy : GateSteady s y) :
    GateSteady s (if c then x else y) := by
  split <;> assumption
theorem GateSteady.forAll {α : Type} {l : List α} {f : α → State → State} (hf : ∀ a t, GateSteady t (f a t)) :
    GateSteady s (forAll l f s) :=
  forAll_keeps (GateSteady s) f (fun a t ht => ht.trans (hf a t)) l s (.refl s)
theorem GateSteady.gs (h : GateSteady s e) (n : Nat) : e.gs n = s.gs n := congrArg (mget GateS.reset · n) h.gate

theorem gateSteady_rset (a : Nat) (v : W32) (s : State) : GateSteady s (s.rset a v) := ⟨steady_rset .., rfl⟩
theorem gateSteady_revt (a b : Nat) (s : State) : GateSteady s (s.revt a b) := gateSteady_rset ..
theorem gateSteady_rincSat (a hi lo k : Nat) (s : State) : GateSteady s (s.rincSat a hi lo k) := gateSteady_rset ..

theorem gateSteady_msix (f v : Nat) (s : State) : GateSteady s (s.msix f v) := .ite ⟨.of rfl rfl, rfl⟩ ⟨.of rfl rfl, rfl⟩
theorem gateSteady_fnEvtAll (b : Nat) (s : State) : GateSteady s (s.fnEvtAll b) :=
  .forAll fun _ _ => (gateSteady_revt ..).trans (gateSteady_msix ..)
theorem gateSteady_drive (k : Nat) (on : Bool) (s : State) : GateSteady s (s.drive k on) := ⟨steady_drive .., rfl⟩

theorem gateSteady_evalChan (k : Nat) (s : State) : GateSteady s (s.evalChan k) := by
  unfold State.evalChan
  extract_lets c ch s1
  have hoff : GateSteady s s1 := .ite (gateSteady_drive ..) (.refl s)
  exact .ite (.ite (gateSteady_drive ..) (.refl s))
    (.ite (.ite (gateSteady_drive ..) (.refl s)) (.ite (hoff.trans ⟨steady_btStop .., rfl⟩) hoff))

theorem gateSteady_evalChans (s : State) : GateSteady s s.evalChans := .forAll gateSteady_evalChan

theorem gateSteady_devTo {d : DevState} (hd : d ≠ .cold) (s : State) : GateSteady s (s.devTo d) := by
  refine ⟨steady_devTo hd s, ?_⟩
  unfold State.devTo
  split
  · rfl
  · exact (gateSteady_fnEvtAll 0 { s with dev.state := d }).gate

/-- What follows the device's own part of the entry into a held state. -/
theorem gateSteady_held {d : DevState} (hd : d ≠ .cold) (f : StreamV → StreamV) (h : GateSteady s t) :
    GateSteady s (((t.devTo d).holdAll f).endPriv).evalChans := by
  have hto : GateSteady s (t.devTo d) := h.trans (gateSteady_devTo hd t)
  have hall : GateSteady s ((t.devTo d).holdAll f) := hto.trans (.forAll fun _ _ => ⟨.of rfl rfl, rfl⟩)
  have hpriv : GateSteady s ((t.devTo d).holdAll f).endPriv := by
    unfold State.endPriv
    exact .ite (hall.trans ⟨.of rfl rfl, rfl⟩) hall
  exact hpriv.trans (gateSteady_evalChans _)

theorem gateSteady_enterSafeHold (hp : s.ldr.phase ≠ .blackout) (c : Option Nat) : GateSteady s (s.enterSafeHold c) := by
  unfold State.enterSafeHold State.abandonSwitch
  rw [if_neg hp]
  exact .ite (gateSteady_held (by decide) _ ⟨⟨rfl, id⟩, rfl⟩) (.refl s)

theorem gateSteady_enterAlarm (hp : s.ldr.phase ≠ .blackout) : GateSteady s s.enterAlarm := by
  unfold State.enterAlarm State.abandonSwitch
  rw [if_neg hp]
  split
  · exact .refl s
  · exact .refl s
  · exact gateSteady_held (by decide) _ ⟨⟨rfl, id⟩, rfl⟩

theorem gateSteady_errPRaise (s : State) : GateSteady s s.errPRaise :=
  .ite ⟨.of rfl rfl, rfl⟩ (.ite ⟨.of rfl rfl, rfl⟩ ⟨.of rfl rfl, rfl⟩)

theorem gateSteady_capture (n : Nat) (c : Cap) (s : State) : GateSteady s (s.capture n c) := by
  unfold State.capture
  extract_lets a s1 s2 s3
  have h3 : GateSteady s s3 := (gateSteady_rset ..).trans ((gateSteady_rset ..).trans (gateSteady_rset ..))
  exact .ite (gateSteady_rincSat ..) (h3.trans ⟨steady_rset64 .., rfl⟩)

theorem gateSteady_trip (n m : Nat) (s : State) : GateSteady s (s.trip n m) := by
  unfold State.trip
  extract_lets s1
  have h1 : GateSteady s s1 := (gateSteady_rset ..).trans (gateSteady_rset ..)
  exact h1.trans ((gateSteady_revt ..).trans (.trans ⟨steady_rmaxFree .., rfl⟩ (gateSteady_evalChans _)))

theorem gateSteady_dropMask (m : Nat) (s : State) : GateSteady s (s.dropMask m) :=
  .forAll fun _ _ => .ite (gateSteady_drive ..) (.refl _)

/-- The block resets of the ingress engines (FS160 to FS163) and of the loader apart, none touches the gate (R505). -/
theorem gateSteady_blockReset {n : Nat} (hn : n ≠ 225) (hin : ¬ (160 ≤ n ∧ n < 164)) (s : State) :
    GateSteady s (s.blockReset n) := by
  refine ⟨steady_blockReset hn s, ?_⟩
  unfold State.blockReset
  rw [if_neg hin, if_neg hn]
  split
  · rfl
  · split
    · rfl
    · split <;> rfl

theorem gateSteady_react {n : Nat} (hn : n ≠ 225) (hin : ¬ (160 ≤ n ∧ n < 164)) (hp : s.ldr.phase ≠ .blackout) :
    GateSteady s (s.react n) := by
  unfold State.react
  extract_lets cfg s1 tam pol r s2 rv s3 s4 s5 s6 s7 s8
  have h1 : GateSteady s s1 := ⟨steady_rinc64 .., rfl⟩
  have h2 : GateSteady s s2 := h1.trans (.ite ((gateSteady_revt ..).trans (gateSteady_msix ..)) (.refl _))
  have h3 : GateSteady s s3 := h2.trans (.ite ⟨.of rfl rfl, rfl⟩ (.refl _))
  have h4 : GateSteady s s4 := h3.trans (.ite (gateSteady_errPRaise _) (.refl _))
  have h5 : GateSteady s s5 := h4.trans (.ite ((gateSteady_dropMask ..).trans (gateSteady_trip ..)) (.refl _))
  have h6 : GateSteady s s6 :=
    h5.trans (.ite ((gateSteady_enterSafeHold (h5.noBlackout hp) _).trans (gateSteady_trip ..)) (.refl _))
  have h7 : GateSteady s s7 := h6.trans (.ite ((gateSteady_enterAlarm (h6.noBlackout hp)).trans (gateSteady_trip ..)) (.refl _))
  have h8 : GateSteady s s8 := h7.trans (.ite (gateSteady_blockReset hn hin _) (.refl _))
  exact h8.trans (.ite ⟨⟨rfl, id⟩, rfl⟩ (.refl _))

/-- A raise outside a blackout leaves the gate alone, where its source is not an ingress engine's. -/
theorem gateSteady_raiseU {n : Nat} (hn : n ≠ 225) (hin : ¬ (160 ≤ n ∧ n < 164)) (hp : s.ldr.phase ≠ .blackout) (u : Nat) :
    GateSteady s (s.raiseU n u) := by
  unfold State.raiseU State.raiseWith
  split
  · exact .refl s
  · extract_lets o us v s1
    have h1 : GateSteady s s1 := gateSteady_capture ..
    have hset (w : SrcState) : GateSteady s (s1.setSrc n w) := h1.trans ⟨steady_setSrc .., rfl⟩
    split
    · have hact := hset { v with st := .active, depAo := s1.ao }
      exact hact.trans ((gateSteady_react hn hin (hact.noBlackout hp)).trans (gateSteady_evalChans _))
    all_goals exact hset _

/-- A refused request for buffers outside a blackout (R351, R352). -/
theorem gateSteady_nobuf (hp : s.ldr.phase ≠ .blackout) (a u : Nat) : GateSteady s (s.nobuf a u) := by
  have hcount : GateSteady s ((s.rincSat a 31 0 1).revt 0x90008 2) := (gateSteady_rincSat ..).trans (gateSteady_revt ..)
  exact hcount.trans (gateSteady_raiseU (by decide) (by decide) (hcount.noBlackout hp) u)

end Sys2Proof.Machine
end

section
/-! O18: a frame's first packet is admitted or dropped (R329 to R331, R333). -/

namespace Sys2Proof.Machine
open Sys2Proof

variable {s t e : State} {p : PStream} {f : Frame} {n c : Nat} {num : Nat} {ts : Option Nat} {ds : Descs} {b : List Byte}
  {P : State → Prop}

/-! ## Reservations (R351) -/

/-- A request for a reservation leaves the array alone, and the credits and frame numbers of the streams. -/
theorem reserve_rest (hp : s.ldr.phase ≠ .blackout) (n m : Nat) : Steady s (s.reserve n) ∧
    ((s.reserve n).gs m).credits = (s.gs m).credits ∧ ((s.reserve n).gs m).nextNum = (s.gs m).nextNum := by
  have hset {g : GateS} (h : g.credits = (s.gs n).credits ∧ g.nextNum = (s.gs n).nextNum) :
      ((s.setGs n g).gs m).credits = (s.gs m).credits ∧ ((s.setGs n g).gs m).nextNum = (s.gs m).nextNum := by
    rw [State.gs_setGs]
    split
    · next hm => exact hm ▸ h
    · exact ⟨rfl, rfl⟩
  unfold State.reserve
  split
  · exact ⟨.refl s, rfl, rfl⟩
  · extract_lets g
    split
    · exact ⟨.refl s, rfl, rfl⟩
    · split
      · exact ⟨.of rfl rfl, hset ⟨rfl, rfl⟩⟩
      · next q _ _ _ _ =>
        have hrefused := gateSteady_nobuf (s := s.setGs n { g with wantResv := true }) hp 0x90010 q.src
        rw [hrefused.gs]
        exact ⟨⟨hrefused.array, hrefused.notCold⟩, hset ⟨rfl, rfl⟩⟩

/-! ## The causes of a drop (R329, R331) -/

theorem dropCause_blackout (hph : s.ldr.phase = .blackout) (n : Nat) : s.dropCause n = some 2 := if_pos hph

section
variable (hph : s.ldr.phase ≠ .blackout) (hrun : s.run.isSome = true)
include hph hrun

theorem dropCause_noBuffers (hresv : (s.gs n).resv = none) : s.dropCause n = some 3 := by
  simp [State.dropCause, hph, Option.isSome_iff_ne_none.1 hrun, hresv]

theorem dropCause_early (hresv : (s.gs n).resv.isSome = true) (hcred : (s.gs n).credits = 0) : s.dropCause n = some 4 := by
  simp [State.dropCause, hph, Option.isSome_iff_ne_none.1 hrun, Option.isSome_iff_ne_none.1 hresv, hcred]

theorem dropCause_none (hresv : (s.gs n).resv.isSome = true) (hcred : (s.gs n).credits ≠ 0) : s.dropCause n = none := by
  simp [State.dropCause, hph, Option.isSome_iff_ne_none.1 hrun, Option.isSome_iff_ne_none.1 hresv, hcred]

end

/-- A dropped frame leaves its cause in the stream's gate, and no frame (R331). -/
theorem dropFrame_eq (n c : Nat) (s : State) : ∃ r, s.dropFrame n c =
    { s.setGs n { s.gs n with ldrop := c, discarding := true } with regs := r } := by
  unfold State.dropFrame
  dsimp only
  split <;> exact ⟨_, rfl⟩

theorem openAt_dropped (hopen : s.openFrame p.num = none) (hcause : s.dropCause p.num = some c) :
    s.openAt p num ts ds = s.dropFrame p.num c := by
  unfold State.openAt State.closeOpen
  rw [hopen]
  dsimp only
  rw [hcause]

/-! ## A frame admitted (R329, R330, R333) -/

/-- From `s` to `e` the frame `f` of stream `n` was opened with the stream's reservation, a credit and the next number. -/
structure Opened (s e : State) (n : Nat) (f : Frame) : Prop where
  mem : f ∈ e.vd.frames
  stream : f.stream = n
  number : f.num = (s.gs n).nextNum
  golden : f.golden = false
  isOpen : f.isOpen = true
  stamp : f.ingressAo = s.ao
  unformed : f.formed = none
  unforwarded : f.fwd = none
  buffers : some (f.buffers, f.mirror) = (s.gs n).resv
  ao : e.ao = s.ao
  journal : e.vd.journal = s.vd.journal
  credits : (e.gs n).credits = (s.gs n).credits - 1
  nextNum : (e.gs n).nextNum = ((s.gs n).nextNum + 1) % 2 ^ 32

/-- What follows an opening that leaves the array, the stream's credits and its next number alone. -/
theorem Opened.after (h : Opened s t n f) (ht : Steady t e) (hcred : (e.gs n).credits = (t.gs n).credits)
    (hnext : (e.gs n).nextNum = (t.gs n).nextNum) : Opened s e n f :=
  { h with
    mem := by rw [ht.vd]; exact h.mem
    ao := ht.ao.trans h.ao
    journal := by rw [ht.vd]; exact h.journal
    credits := hcred.trans h.credits
    nextNum := hnext.trans h.nextNum }

theorem Opened.after_gateSteady (h : Opened s t n f) (ht : GateSteady t e) : Opened s e n f :=
  h.after ht.toSteady (by rw [ht.gs]) (by rw [ht.gs])

theorem gateSteady_taskRef (chk m a b t : Nat) (s : State) : GateSteady s (s.taskRef chk m a b t) := by
  obtain ⟨v, hv⟩ := taskRef_monitors chk m a b t s
  rw [hv]
  exact ⟨.of rfl rfl, rfl⟩

/-- The frame that a first packet opens for stream `p`, with the causes of TAINTED that arise at once (R333, R337, R338). -/
def State.firstFrame (p : PStream) (taints : List Nat) (s : State) : Frame :=
  let bs := match (s.gs p.num).resv with | some r => r | none => ([], [])
  { Frame.blank p.num (s.gs p.num).nextNum false s.ao with
    devSec := (secNs s.devNow).1, devNs := (secNs s.devNow).2, isOpen := true, buffers := bs.1, mirror := bs.2, owner := 1,
    taints := taints }

/-- A frame put last, for which stream `p` gave its reservation, a credit and its next number (R329, R330). -/
def State.withOpened (p : PStream) (prev : Option Nat) (f : Frame) (s : State) : State :=
  { s.setGs p.num { s.gs p.num with
      credits := (s.gs p.num).credits - 1, resv := none, discarding := false, prev := prev,
      nextNum := ((s.gs p.num).nextNum + 1) % 2 ^ 32 } with
    vd.frames := s.vd.frames ++ [f] }

theorem opened_withOpened (hresv : (s.gs p.num).resv.isSome = true) (prev : Option Nat) (taints : List Nat) :
    Opened s (s.withOpened p prev (s.firstFrame p taints)) p.num (s.firstFrame p taints) := by
  have hgate : (s.withOpened p prev (s.firstFrame p taints)).gs p.num = _ := (State.gs_setGs ..).trans (if_pos rfl)
  exact
    { mem := List.mem_append_right _ (List.mem_singleton_self _)
      stream := rfl
      number := rfl
      golden := rfl
      isOpen := rfl
      stamp := rfl
      unformed := rfl
      unforwarded := rfl
      buffers := by
        obtain ⟨r, hr⟩ := Option.isSome_iff_exists.1 hresv
        simp only [State.firstFrame, hr]
      ao := rfl
      journal := rfl
      credits := congrArg GateS.credits hgate
      nextNum := congrArg GateS.nextNum hgate }

/-- An admission is the opening, what it leaves in the streams, registers and monitors, and the request for the next reservation. -/
theorem openAt_admitted (hopen : s.openFrame p.num = none) (hcause : s.dropCause p.num = none) :
    ∃ prev taints u, GateSteady (s.withOpened p prev (s.firstFrame p taints)) u ∧ s.openAt p num ts ds = u.reserve p.num := by
  generalize hafter : s.openAt p num ts ds = t
  unfold State.openAt State.closeOpen at hafter
  rw [hopen] at hafter
  extract_lets n s0 g dev q stale bs blank f s1 vd1 s2 v s3 s4 s5 s6 at hafter
  have hs0 : s0.dropCause n = none := hcause
  rw [hs0] at hafter
  have h3 : GateSteady s2 s3 := ⟨.of rfl rfl, rfl⟩
  have h4 : GateSteady s2 s4 := h3.trans ((gateSteady_rset ..).trans ⟨steady_rinc64 .., rfl⟩)
  have h5 : GateSteady s2 s5 := .ite h4 (h4.trans ((gateSteady_rincSat ..).trans (gateSteady_revt ..)))
  exact ⟨q.2.2, f.taints, s6, h5.trans ((gateSteady_taskRef ..).trans (gateSteady_taskRef ..)), hafter.symm⟩

/-- The first packet of a frame that is admitted opens it, as the last of the frames (R329, R330, R333, R351). -/
theorem openAt_opened (hopen : s.openFrame p.num = none) (hcause : s.dropCause p.num = none) (hph : s.ldr.phase ≠ .blackout)
    (hresv : (s.gs p.num).resv.isSome = true) : ∃ f, Opened s (s.openAt p num ts ds) p.num f ∧
      (s.openAt p num ts ds).vd.frames = s.vd.frames ++ [f] := by
  obtain ⟨prev, taints, u, hu, hopened⟩ := openAt_admitted (num := num) (ts := ts) (ds := ds) hopen hcause
  obtain ⟨hrest, hcred, hnext⟩ := reserve_rest (hu.noBlackout hph) p.num p.num
  rw [hopened]
  refine ⟨_, ((opened_withOpened hresv prev taints).after_gateSteady hu).after hrest hcred hnext, ?_⟩
  rw [hrest.vd, hu.vd]
  rfl

/-- A frame opened last of all is the stream's open frame, where it had none. -/
theorem openFrame_opened (hopen : s.openFrame p.num = none) (h : Opened s e p.num f) (hlast : e.vd.frames = s.vd.frames ++ [f]) :
    e.openFrame p.num = some f := by
  have hnone : s.vd.frames.find? (fun f => f.stream = p.num && f.isOpen) = none := hopen
  unfold State.openFrame
  rw [hlast, List.find?_append, hnone, Option.none_or, List.find?_singleton, h.stream, h.isOpen]
  simp

/-! ## BSF packets (R325, R329, R331) -/

/-- A BSF packet that starts a frame and does not end it, and that stream `p` does not discard. -/
structure BsfFirst (p : PStream) (b : List Byte) : Prop where
  sound : bsfOk p b = true
  blank : bsfBlankBad p b = false
  length : b.length = 40 + (if (leField b 3 1).testBit 2 then 0 else beNat (slice 18 2 b) * p.lbytes)
  crc : crc32c (b.drop 40) = beNat (slice 32 4 b)
  first : (leField b 3 1).testBit 0 = true
  notLast : (leField b 3 1).testBit 1 = false

/-- The first packet of a frame, its payload apart. -/
def State.bsfFirst (p : PStream) (b : List Byte) (ds : Descs) (s : State) : State :=
  s.openAt p (beNat (slice 12 4 b)) (some (beNat (slice 24 8 b))) ds

theorem bsfIn_first (hb : BsfFirst p b) (ds : Descs) (s : State) : s.bsfIn p b ds =
    ((s.bsfFirst p b ds).openFrame p.num).elim (s.bsfFirst p b ds)
      fun f => ((s.bsfFirst p b ds).setFrame (bsfWrite p b f)).pktCount p.src := by
  obtain ⟨hsound, hblank, hlength, hcrc, hfirst, hnot⟩ := hb
  simp only [State.bsfIn, State.bsfFirst, hsound, hblank, hcrc, hfirst, hnot, Bool.not_true, Bool.false_eq_true, if_false, if_true,
    ne_eq, not_true_eq_false, ← hlength]
  cases State.openFrame _ p.num <;> rfl

/-- The payload written keeps all that an opening sets. -/
theorem Opened.written (h : Opened s e n f) (b : List Byte) : Opened s (e.setFrame (bsfWrite p b f)) n (bsfWrite p b f) :=
  { h with
    mem := List.mem_map.2 ⟨f, h.mem, if_pos (Frame.same_iff.2 ⟨rfl, rfl, rfl⟩)⟩ }

theorem completes_bsfPacket {c : Fin 2} {dport : W16} {at_ : Nat} (hc : s.dev.state ≠ .cold)
    (hbound : s.boundTo (2 + c.val) (dport.toNat, beNat (slice 8 4 b), leField b 4 1) = some p)
    (hP : P ((s.advance at_).bsfIn p b ds)) : Completes (.bsfPacket c dport b true true ds at_) s P := by
  have hexec : exec (.bsfPacket c dport b true true ds at_) s = execBsfPacket c dport b true true ds at_ s := rfl
  unfold execBsfPacket at hexec
  refine completes_act hexec hc ?_
  have hbound' : (s.advance at_).boundTo (2 + c.val) (dport.toNat, beNat (slice 8 4 b), leField b 4 1) = some p := hbound
  dsimp only
  rw [if_neg (by decide), hbound']
  exact hP

theorem isSome_run_of_boundTo {k : Nat} {key : Nat × Nat × Nat} (h : s.boundTo k key = some p) : s.run.isSome = true := by
  obtain ⟨r, hr, -⟩ := Option.bind_eq_some_iff.1 h
  rw [hr]
  rfl

/-! ## CSI-2 Frame Starts (R329, R331) -/

theorem completes_csiFrameStart {port : Fin 2} {vc : Fin 16} {num : W16} {at_ : Nat} (hc : s.dev.state ≠ .cold)
    (hstreams : s.csiStreams port vc = [p]) (hP : P ((s.advance at_).openAt p num.toNat none ds)) :
    Completes (.csiFrameStart port vc num ds at_) s P := by
  have hexec : exec (.csiFrameStart port vc num ds at_) s = execCsiFrameStart port vc num ds at_ s := rfl
  unfold execCsiFrameStart at hexec
  refine completes_act hexec hc ?_
  have hstreams' : (s.advance at_).csiStreams port vc = [p] := hstreams
  dsimp only
  rw [hstreams', forAll_cons, forAll_nil]
  exact hP

theorem isSome_run_of_csiStreams {port vc : Nat} (h : s.csiStreams port vc = [p]) : s.run.isSome = true := by
  unfold State.csiStreams at h
  split at h
  · next hr => rw [hr]; rfl
  · cases h

/-! ## The statement -/

/-- The frame that stream `n`'s first packet brings was dropped with cause `c`. -/
structure Dropped (s e : State) (n c : Nat) : Prop where
  frames : e.vd.frames = s.vd.frames
  cause : (e.gs n).ldrop = c
  discarding : (e.gs n).discarding = true
  resv : (e.gs n).resv = (s.gs n).resv
  credits : (e.gs n).credits = (s.gs n).credits
  journal : e.vd.journal = s.vd.journal

theorem openAt_drops (hopen : s.openFrame p.num = none) (hcause : s.dropCause p.num = some c) :
    Dropped s (s.openAt p num ts ds) p.num c ∧ (s.openAt p num ts ds).openFrame p.num = none := by
  rw [openAt_dropped hopen hcause]
  obtain ⟨r, hr⟩ := dropFrame_eq p.num c s
  have hgate : (s.dropFrame p.num c).gs p.num = { s.gs p.num with ldrop := c, discarding := true } := by
    rw [hr]
    exact (State.gs_setGs ..).trans (if_pos rfl)
  refine ⟨⟨?_, ?_, ?_, ?_, ?_, ?_⟩, ?_⟩
  · rw [hr]; rfl
  · rw [hgate]
  · rw [hgate]
  · rw [hgate]
  · rw [hgate]
  · rw [hr]; rfl
  · rw [hr]; exact hopen

/-- Settles O18: the cause, or its absence, decides between the opening and the drop, for either kind of first packet. -/
theorem admission : Obligations.Admission := by
  intro s p at_ hc hopen admitted dropped
  have hopen' : (s.advance at_).openFrame p.num = none := hopen
  have hadmit {e : State} {f : Frame} (h : Opened (s.advance at_) e p.num f) : admitted e :=
    ⟨f, h.mem, h.stream, h.number, h.golden, h.isOpen, h.stamp ▸ le_advance_ao at_ s, h.stamp.trans h.ao.symm, h.unformed,
      h.unforwarded, h.buffers, h.credits, h.nextNum, h.journal⟩
  have hdrop {e : State} {c : Nat} (h : Dropped (s.advance at_) e p.num c) : dropped c e :=
    ⟨h.frames, h.cause, h.discarding, h.resv, h.credits, h.journal⟩
  refine ⟨fun c dport b ds hbound hsrc hsound hblank hlength hcrc hfirst hnot hph => ?_, fun port vc num ds hstreams => ?_⟩
  · have hrun : s.run.isSome = true := isSome_run_of_boundTo hbound
    have hb : BsfFirst p b := ⟨hsound, hblank, hlength, hcrc, hfirst, hnot⟩
    have hdropped {c' : Nat} (hcause : s.dropCause p.num = some c') :
        Completes (.bsfPacket c dport b true true ds at_) s (dropped c') := by
      obtain ⟨hd, hnone⟩ := openAt_drops (s := s.advance at_) (num := beNat (slice 12 4 b)) (ts := some (beNat (slice 24 8 b)))
        (ds := ds) hopen' hcause
      refine completes_bsfPacket hc hbound ?_
      rw [bsfIn_first hb, State.bsfFirst, hnone]
      exact hdrop hd
    refine ⟨fun hresv hcred => ?_, fun hresv => hdropped (dropCause_noBuffers hph hrun hresv),
      fun hresv hcred => hdropped (dropCause_early hph hrun hresv hcred)⟩
    obtain ⟨f, hf, hlast⟩ := openAt_opened (s := s.advance at_) (num := beNat (slice 12 4 b))
      (ts := some (beNat (slice 24 8 b))) (ds := ds) hopen' (dropCause_none hph hrun hresv hcred) hph hresv
    refine completes_bsfPacket hc hbound ?_
    rw [bsfIn_first hb, State.bsfFirst, openFrame_opened hopen' hf hlast]
    exact hadmit ((hf.written b).after_gateSteady ⟨steady_rinc64 .., rfl⟩)
  · have hrun : s.run.isSome = true := isSome_run_of_csiStreams hstreams
    refine ⟨fun hph hresv hcred => ?_, fun hph => ?_⟩
    · obtain ⟨f, hf, -⟩ := openAt_opened (s := s.advance at_) (num := num.toNat) (ts := none) (ds := ds) hopen'
        (dropCause_none hph hrun hresv hcred) hph hresv
      exact completes_csiFrameStart hc hstreams (hadmit hf)
    · exact completes_csiFrameStart hc hstreams (hdrop (openAt_drops hopen' (dropCause_blackout hph p.num)).1)

end Sys2Proof.Machine
end

section
/-! O20 is refuted: a golden frame takes the place of an open frame that is its equal (R335, R336, R344). -/

namespace Sys2Proof.Machine
open Sys2Proof

variable {e : State}

/-! ## What ends a command (R36, R39, R312) -/

/-- Where the loader is not idle after the check of an armed switch, nothing was refused. -/
theorem rearm_vd (hph : e.rearm.ldr.phase ≠ .idle) : e.rearm.vd = e.vd := by
  revert hph
  unfold State.rearm
  split
  · split
    · exact fun _ => by split <;> rfl
    · exact fun hph => absurd rfl hph
  · exact fun _ => rfl

/-- A command that ends with the loader at work and an output still energised where R29 forbids it ended in no chip reset, and
nothing touched the frames after its effect. -/
theorem finish_vd (hph : e.finish.ldr.phase ≠ .idle) (hsafe : ¬ safeOutputs e.finish) : e.finish.vd = e.vd := by
  revert hph hsafe
  unfold State.finish
  dsimp only
  split
  · exact fun hph _ => rearm_vd hph
  · next c _ =>
    have hboot : safeOutputs (e.rearm.chipReset c) :=
      (Keeps.bootFrom3 (T := fun _ => True) (.start trivial) fun _ _ => rfl).safe fun _ _ _ _ _ _ => rfl
    split
    · exact fun hph _ => rearm_vd hph
    · exact fun hph _ => rearm_vd hph
    · exact fun _ hsafe => absurd hboot hsafe

/-! ## A golden frame in place of an open one -/

namespace GoldenOpen

/-- A BSF stream of one byte, number 0, of F00, whose first forward of an interval is its golden frame. -/
def stream : PStream :=
  { num := 0, fn := 0, src := 2, key := (50000, 0, 0), lines := 1, active := 1, lbytes := 1, blank := [], slots := [],
    mirror := false, banks := 1, window := 5000, stale := 0, seq := false, period := 100000, a := 50000, d := 90000, f := 500000,
    k := 2, residency := 0, ftti := 0, p0 := false, c := 0, dual := false, fbDigest := 0, wReject := 0, wDoubt := 0,
    wAbsent := 0, wAccept := 0, tWatch := 0, tDemote := 0, requal := 0, initTrusted := true, reReveal := false,
    revealDeadline := 0, regions := [], patterns := [], canaryFmt := 12, rfmts := [], runs := 0x10, required := 0, layers := [],
    env := [], rels := [], golden := [{ bytes := [0], expect := [] }], kaInterval := 1000000, digestInterval := 0, tiles := [],
    repeatTime := 0 }

/-- A plan of that stream. -/
def plan : PlanImage :=
  { magic := 0, format := 1, hlen := 4096, planId := 7, ifvMajor := 1, ifvMinor := 0, ntiles := 0, nstreams := 1, nslots := 1,
    hper := 100000, flagP0 := false, imglen := 8192, resbytes := 0, hdrZeros := true, keyHash := 0, sigOk := true,
    sigZeros := true, hash := 0, secs := [], tiles := [], routes := [], holes := [], phi := [], ledgerPhases := [],
    streams := [stream], regions := [], slots := [{ start := 0, quads := [], digest := false }], retention := 4, evRate := 0,
    hostIn := 0, hostOut := 0, gateCycle := 0, bsfPort := 50000, droopMv := 0 }

/-- An open frame marked golden, of the number that the stream's first golden frame takes. -/
def frame : Frame := { Frame.blank 0 0 true 0 with isOpen := true }

/-- The frame is open, the golden frame's copy waits for the interval's first position, and a descriptor is present. FS162 is
LATCHED, so that its raise has no reactions, and channel 0 is energised in PLAN_LOAD, by which the command's effect is told from a
chip reset. -/
def state : State :=
  { State.reset with
    dev.state := .planLoad, ldr.phase := .header, sio.chans := [(0, { Chan.reset with energised := true })],
    flt.src := [(162, { SrcState.reset with st := .latched })],
    run := some { img := plan, place := [], anchor := 0, slot := 0, hyper := 0, strobeAt := 0, struck := true, fromBank := none,
                  forceOn := [], spares := 0, pwovr := 0 },
    regs := [(fnAddr 0 4, 16)],
    q.rings := [(3, RingSt.sealed { RingSt.reset with base := 0x5000, size := 4, pi := 1, type := 3 })],
    gate := [(0, { GateS.reset with goldCopies := [[7]], kaGolden := [0] })], vd.frames := [frame] }

/-- The window's end on that frame. -/
def closed : State := (state.advance (frame.ingressAo + stream.window)).closeFrame stream frame false [some 0]

theorem exec_window : exec (.ingressWindowEnd 0 [some 0]) state = .next closed.finish := by
  have hexec : exec (.ingressWindowEnd 0 [some 0]) state = execIngressWindowEnd 0 [some 0] state := rfl
  have hopen : state.openFrame (0 : Stream) = some frame := by decide +kernel
  have hp : state.pstream (0 : Stream) = some stream := by decide +kernel
  rw [hexec, execIngressWindowEnd, State.act, if_neg (by decide), hopen, hp]
  rfl

theorem closed_untainted : ∀ g ∈ closed.finish.vd.frames, g.tainted = false := by decide +kernel

theorem closed_loading : closed.finish.ldr.phase = .header := by decide +kernel

theorem not_safeOutputs_closed : ¬ safeOutputs closed.finish := by
  have hst : closed.finish.dev.state = .planLoad := by decide +kernel
  have hbl : closed.finish.dev.blackout = false := by decide +kernel
  have hon : (closed.finish.chan 0).energised = true := by decide +kernel
  intro h
  have hoff := h (by rw [hst]; decide) (by rw [hst]; decide) (by rw [hst]; decide) (by rw [hbl]; simp) 0 (by decide)
  exact absurd (hoff.symm.trans hon) (by decide)

end GoldenOpen

/-- Refutes O20: its statement on the ingress window does not ask that the open frame be an admitted one. For an open frame marked
golden the golden frame that goes first may be its equal in stream, number and kind, and takes its place, so no frame is TAINTED. -/
theorem not_closingCreditsAndForwards : ¬ Obligations.ClosingCreditsAndForwards := by
  rintro ⟨hclosing, -⟩
  have hwindow := (hclosing GoldenOpen.state GoldenOpen.stream GoldenOpen.frame [some 0] (by decide) (by decide +kernel)
    (by decide +kernel) (by decide)).2 0 rfl (by decide +kernel) (by decide)
  obtain ⟨e, hexec, -, -, -, g, hg, -, -, htainted, -⟩ := hwindow
  have hfinish : e.finish = GoldenOpen.closed.finish := Host.Outcome.next.inj (hexec.symm.trans GoldenOpen.exec_window)
  have hvd : e.finish.vd = e.vd :=
    finish_vd (by rw [hfinish, GoldenOpen.closed_loading]; decide) (by rw [hfinish]; exact GoldenOpen.not_safeOutputs_closed)
  have huntainted := GoldenOpen.closed_untainted g (by rw [← hfinish, hvd]; exact hg)
  exact absurd (huntainted.symm.trans htainted) (by decide)

end Sys2Proof.Machine
end
